-- ==== Sys2Proof/Word.lean ====
section
/-! DEFINITION. The word types of the GS-6408 and their plainest arithmetic. -/

namespace Sys2Proof

/-- One byte of host memory, of a rope frame or of an SMBus transfer. -/
abbrev Byte := BitVec 8

/-- One BAR0 register (R339: BAR0 is accessed 32 bits at a time). -/
abbrev Reg := BitVec 32

/-- Powers of two used as moduli by the counters of R8, R417 and R421. -/
abbrev two16 : Nat := 65536
abbrev two32 : Nat := 4294967296
abbrev two64 : Nat := 18446744073709551616

end Sys2Proof
end

