-- ==== Sys2Proof/Syntax.lean ====
section
/-! DEFINITION. The commands of the GS-6408 block: one constructor of `Instr` per row of
spec/opcode_table.json, with the data the outside world brings with it (a measured count, a frame that
arrived, the answer of a DMA read, a register value). -/

namespace Sys2Proof

/-- The answer of a DMA read of host memory: the bytes, or `none` for a read that ended with
Unsupported Request, Completer Abort or a completion timeout (R371). -/
abbrev DmaRead := Option (List Byte)

/-- The measurement update of a cell has ended; the lanes whose results of real-time work failed their residue check since
the last such end, and were discarded and replayed (R499, R500). -/
structure UpdateDone where
  g        : Nat
  residues : List Nat
  deriving DecidableEq, Repr, Inhabited

/-- A firmware image as it was read, and whether its own framing holds (R379): the specification gives no layout of one
but its signature block. -/
structure FwRead where
  data   : DmaRead
  framed : Bool
  deriving DecidableEq, Repr, Inhabited

/-- Which of a traverse job's writes reached host memory: every one of its trajectory, and its results (R310). -/
structure JobWrites where
  traj    : Bool
  results : Bool
  deriving DecidableEq, Repr

/-- A write to the MSI-X structures of R338: a vector's entry of the table in BAR2 (message address, data, mask bit), or
Message Control with its enable and function mask bits. -/
inductive MsixWrite where
  | entry (vec : Nat) (addr : BitVec 64) (data : Reg) (masked : Bool)
  | control (enable maskAll : Bool)
  deriving DecidableEq, Repr, Inhabited

/-- A submission entry without its opcode, which the command's constructor gives (R352). -/
structure Submission where
  /-- The submission queue it came from, 0 to 3. -/
  sq      : Nat
  /-- SFLAGS, bit 0 BARRIER. -/
  sflags  : Byte
  tag     : Nat
  reqId   : Nat
  bufAddr : Nat
  bufLen  : Nat
  /-- The reserved word at offset 20 (R9). -/
  rsvd    : Nat
  /-- PARAM, 40 bytes. -/
  param   : List Byte
  deriving DecidableEq, Repr, Inhabited

/-- A unit of R384: TARGET and INDEX, with TARGET 0xFF for the RREF port (R499). -/
structure UnitId where
  target : Nat
  index  : Nat
  deriving DecidableEq, Repr, Inhabited

/-- What the boot of R481 finds: the units that failed step 4, the supply at step 5, and whether the random
number generator passed its start-up test. -/
structure BootReport where
  failed : List UnitId
  vauxMv : Nat
  rngOk  : Bool
  /-- Firmware banks whose signature does not verify at this start (R494): 0 A, 1 B. -/
  badBanks : List Nat
  /-- What step 4 finds when the ROM boots the other bank after a trial bank has failed it (R494). -/
  failedAgain : List UnitId := []
  /-- Stores whose newer copy fails its CRC (R485): 0 tuning, 1 image directory, 2 configuration, 3 saved registers. -/
  badCopies : List Nat := []
  /-- Journal sectors whose header fails its CRC (R491). -/
  badSecs : List Nat := []
  /-- A read of the flash in step 5 met an uncorrectable ECC error (R499). -/
  flashEcc : Bool := false
  deriving DecidableEq, Repr, Inhabited

/-- A sector of the flash: its region in the order of R485, and its number in it. -/
structure SectorId where
  region : Nat
  sector : Nat
  deriving DecidableEq, Repr, Inhabited

/-- How far a converter's uncorrected result lies (R141). -/
inductive Rail where
  | within | upper | lower
  deriving DecidableEq, Repr, Inhabited

/-- A rope end, N or F (R154). -/
inductive RopeEnd where
  | N | F
  deriving DecidableEq, Repr, Inhabited

/-- What a rope port receives between the delimiters of a frame (R158, R159): the whole bytes, and the bits left over
behind the last of them. -/
structure LineFrame where
  bytes     : List Byte
  extraBits : Nat
  deriving DecidableEq, Repr, Inhabited

/-- A frame at a rope port, and the interval from the end of the request's end delimiter to its reference edge in ns
(R167, R176). -/
structure RespFrame where
  str     : Nat
  fromEnd : RopeEnd
  frame   : LineFrame
  deltaNs : Rat
  deriving DecidableEq, Repr, Inhabited

/-- A BELAY or FAULT that came back in time, and the port at which it arrived (R181, R182, R208). -/
structure BelayTone where
  str     : Nat
  port    : RopeEnd
  frame   : LineFrame
  deriving DecidableEq, Repr, Inhabited

/-- What the device itself holds when a row's moment has come: such an operand brings nothing from outside. -/
structure Held where
  deriving DecidableEq, Repr, Inhabited

/-- Three detector samples in a row of a string's overcurrent comparator, in V at the shunt (R148). -/
structure OcSamples where
  str : Nat
  v0  : Rat
  v1  : Rat
  v2  : Rat
  deriving DecidableEq, Repr, Inhabited

/-- A Delay_Req or Pdelay_Req that leaves for a domain, and its egress stamp as the interface took it (R433). -/
structure PtpRequest where
  dom  : Nat
  txNs : Int
  deriving DecidableEq, Repr, Inhabited

/-- The header of a received PTP message: the port and the transport it came by, its domainNumber, sequenceId and sender
(R432 to R434). -/
structure PtpHead where
  port   : Nat
  udp    : Bool
  number : Nat
  seqId  : Nat
  sender : BitVec 64
  deriving DecidableEq, Repr, Inhabited

/-- The receive stamp of a Pdelay_Req and the egress stamp of the answer to it, as the interface took them (R433). -/
structure PdelayStamps where
  rxNs : Int
  txNs : Int
  deriving DecidableEq, Repr, Inhabited

/-- The end of a clause-22 access of a port, with the data it read (R447). -/
structure MdioAnswer where
  port : Nat
  data : Nat
  deriving DecidableEq, Repr, Inhabited

/-- A Sync (R432, R434): its receive stamp as the interface took it, its origin timestamp with the correction field. -/
structure PtpSync where
  head     : PtpHead
  twoStep  : Bool
  rxNs     : Int
  originNs : Int
  logSync  : Int
  deriving DecidableEq, Repr, Inhabited

/-- What an Announce brings to the dataset comparison of R432. -/
structure PtpAnnounce where
  head      : PtpHead
  gmId      : BitVec 64
  gmClass   : Nat
  accuracy  : Nat
  variance  : Nat
  priority1 : Nat
  priority2 : Nat
  steps     : Nat
  deriving DecidableEq, Repr, Inhabited

/-- A received Ethernet frame for PRX (R445): its bytes without FCS, port, UDP transport and receive time. -/
structure RxFrame where
  port   : Nat
  bytes  : List Byte
  udp    : Bool
  rxNs   : Int
  deriving DecidableEq, Repr, Inhabited

/-- An SMBus write of R534 and R535: command code, data, the PEC byte if the master sent one. -/
structure SmbusWrite where
  code : Nat
  data : Nat
  pec  : Option Byte
  deriving DecidableEq, Repr, Inhabited

/-- Which SRAM structure an uncorrectable ECC error hit (R500). -/
inductive EccPlace where
  | cellState (g : Nat)
  | staging (buf : Nat)
  | workspace (jobId : Nat)
  | other
  deriving DecidableEq, Repr, Inhabited

/-- What a targeted self-test of R502 found, by the kind of its unit. -/
inductive TestData where
  /-- A Q converter: the mean uncorrected result in V at each calibration point, and how soon the internal open-wire test
  reached the rail, in ns. -/
  | points (raw : List Rat) (railNs : Option Nat)
  /-- A fast converter: the uncorrected result in V at each test-DAC code of each channel, channel by channel. -/
  | codes (volts : List Rat)
  /-- A rope port: the frame that came back through the loopback, and how far its reference edge lay from its expected
  time, in ns. -/
  | loopback (frame : Option LineFrame) (edgeNs : Int)
  /-- A model lane: the first vector with a wrong result or residue, and whether the replayed chunk checked. -/
  | vectors (wrong : Option Nat) (replayOk : Bool)
  /-- An SRAM bank: the first address at which the March test failed. -/
  | march (failed : Option Nat)
  /-- The flash: the first page of the sector that failed its read-back. -/
  | pages (failed : Option Nat)
  /-- The RREF port: the open-wire test and the ratio of R82 of each repetition. -/
  | port (reps : List (Bool × Rat))
  deriving DecidableEq, Repr, Inhabited

/-- The end of a targeted self-test of R502. -/
structure TestReport where
  unit : UnitId
  data : TestData
  deriving DecidableEq, Repr, Inhabited

/-- The commands. The order is that of spec/opcode_table.json. -/
inductive Instr where
  | powerGood (r : BootReport)
  | bootResume
  | bootXtalTimeout
  | porstNAssert
  | brownOut (vauxMv : Nat)
  | watchdogReset
  | hardCut
  | xtalLost
  | vauxWarning (mv : Nat)
  | holdEntry (mv : Nat)
  | holdCommitDone
  | holdReturn (mv : Nat)
  | fwTrialConfirm
  | pwrModeWrite (v : Reg)
  | windowBoundary (edge : Held)
  | windowChargeEntry (str : Nat) (count : BitVec 44) (ovr : Bool)
  | tuningSlotEnd (unit : Nat) (volts : Rat)
  | tuningFitDone (unit : Nat)
  | openWireSlot (port : Nat) (failed : Bool)
  | rrefRatioCheck (ratio : Rat)
  | sarRoundStart
  | sarConversionEnd (conv : Nat) (volts : Rat) (rail : Rail)
  | housekeepingPeriodEnd (sums : Held)
  | tdacDiagnosis (f0 f1 : Held)
  | tdacCheck (seen : Held)
  | ocTrip (x : OcSamples)
  | ocRelease (x : OcSamples)
  | ocTripNMinEnd
  | lineZeroCrossing
  | lineCrossingTimeout
  | startSync
  | endSync
  | sampleInstant
  | sweepStart
  | ropeRespReceived (f : RespFrame)
  | ropeAttemptTimeout (str : Nat) (fromEnd : RopeEnd) (addr : Nat) (seq : Nat)
  | belaySend (str : Nat)
  | reachProbe (str : Nat)
  | throughProbe (str : Nat)
  | belayReturned (t : BelayTone)
  | belayNotReturned (str : Nat) (fromEnd : RopeEnd)
  | faultNMinEnd
  | tieFrameArrived (str : Nat) (bytes : List Byte) (extraBits : Nat) (delayNs : Rat)
  | tieFrameTimeout (str : Nat)
  | timeUpdateDone
  | measurementUpdateDone (d : UpdateDone)
  | cairnBegin
  | cairnComplete
  | cairnDeadline (writesHeld : Bool)
  | aliveToggle
  | statusBlockTimer
  | doorbellPoll
  | doorbellReadDone (d : DmaRead)
  | submissionFetch
  | submissionFetchDone (d : DmaRead)
  | commandStart (sq : Nat)
  | eventEntryWrite
  | msixModerationTimeout (vec : Nat)
  | msixVectorUnmask (w : MsixWrite)
  | smrEntryWrite
  | ptxFetch (d : DmaRead)
  | ptpFrameTransmitted (port : Nat) (tag : Held) (stampNs : Int)
  | perst
  | functionLevelReset
  | linkDown
  | bar0MisalignedAccess (isWrite : Bool)
  | registerWrite (off : Nat) (v : Reg)
  | ringEnable (v : Reg)
  | ringDisable (v : Reg)
  | metLoRead (off : Nat)
  | timNowLoRead
  | timLatLoRead
  | timPpsinLoRead
  | ptpDomGmLoRead
  | sysEpochLoRead
  | diagFramesLoRead
  | sarQLoRead
  | ptpTxtsTagRead
  | timLatchCapture
  | thmDiePeakClr
  | sysCtrlSave
  | ptpCtrlSave (v : Reg)
  | legCtrlSave (v : Reg)
  | ptpDomainReconfigure (off : Nat) (v : Reg)
  | ptpMdioGo (v : Reg)
  | mdioAccessDone (x : MdioAnswer)
  | time64Second
  | ppsOutPulseEnd
  | cmpFire (unit : Nat)
  | trigOutPulseEnd (unit : Nat)
  | ppsInEdge
  | ppsLoss
  | xoCorrectionUpdate
  | ptpSyncReceived (m : PtpSync)
  | ptpFollowUpReceived (h : PtpHead) (originNs : Int) (corrNs : Int)
  | ptpDelayRespReceived (h : PtpHead) (recvNs : Int)
  | ptpPdelayReqReceived (h : PtpHead) (x : PdelayStamps)
  | ptpPdelayRespReceived (h : PtpHead) (twoStep : Bool) (rxNs : Int) (recvNs : Int) (corrNs : Int)
  | ptpPdelayRespFollowUpReceived (h : PtpHead) (originNs : Int) (corrNs : Int)
  | ptpAnnounceReceived (m : PtpAnnounce)
  | arpRequestReceived (port : Nat) (target : Nat)
  | ethernetFrameDiscarded (port : Nat)
  | prxFrameReceived (f : RxFrame)
  | ptpDelayReqSend (r : PtpRequest)
  | ptpSyncTimeout (dom : Nat)
  | ptpAnnounceTimeout (dom : Nat)
  | ptpFreezeEnd (dom : Nat) (offset path : Held)
  | ptpPathDelayStable (dom : Nat) (path offset : Held)
  | hostServoTimeout
  | urgentRecordTimer
  | fullSetTimer
  | nvmPageProgrammed (ok : Bool)
  | nvmSectorErased (e : SectorId) (ok : Bool)
  | selfTestStart (unit : UnitId)
  | selfTestDone (r : TestReport)
  | sramEccError (bank : Nat) (correctable : Bool) (place : EccPlace)
  | sramBankCopyDone (bank : Nat)
  | laneChunkTimeout (lane : Nat)
  | traverseAdmission (profile : DmaRead) (ambient : DmaRead)
  | traverseChunkEnd (jobId : Nat) (lane : Nat) (residueOk : Bool) (last : Bool)
  | traverseResultsDone (jobId : Nat) (writes : JobWrites)
  | traverseWallTimeout (jobId : Nat)
  | traverseShareHalving
  | authFetchTimer (str : Nat) (mon : Nat)
  | authVerifyDone (str : Nat) (mon : Nat)
  | authRenewTimer (str : Nat) (mon : Nat)
  | authRetryTimer (str : Nat) (mon : Nat)
  | balOverrideExpiry (str : Nat)
  | smbusReadWord (code : Nat)
  | smbusWriteWord (w : SmbusWrite)
  | smbusReadByte (code : Nat)
  | smbusWriteByte (w : SmbusWrite)
  | smbusUnsupportedProtocol (code : Nat)
  | smbusBusTimeout
  | gaugeKeyExpiry
  | gaugeReset
  | gaugeNop
  | nop (sub : Submission)
  | identify (sub : Submission)
  | configLoad (sub : Submission) (buf : DmaRead)
  | configRead (sub : Submission)
  | paramLoad (sub : Submission) (buf : DmaRead)
  | paramCommit (sub : Submission)
  | paramRead (sub : Submission)
  | ropeTieIn (sub : Submission)
  | ropeRaw (sub : Submission) (buf : DmaRead)
  | ropeMapRead (sub : Submission)
  | balPolicy (sub : Submission)
  | balOverride (sub : Submission) (buf : DmaRead)
  | traverseStart (sub : Submission) (buf : DmaRead)
  | traverseAbort (sub : Submission)
  | traverseStatus (sub : Submission)
  | cairnSetup (sub : Submission)
  | stateRead (sub : Submission)
  | stateWrite (sub : Submission) (buf : DmaRead)
  | tuneNow (sub : Submission)
  | tuneRead (sub : Submission)
  | selftest (sub : Submission)
  | authChallenge (sub : Submission)
  | keyInstall (sub : Submission) (buf : DmaRead)
  | sealDevice (sub : Submission)
  | attest (sub : Submission)
  | nvmCheckpoint (sub : Submission)
  | logRead (sub : Submission)
  | timeSet (sub : Submission)
  | timeStatus (sub : Submission)
  | sarSeqSet (sub : Submission) (buf : DmaRead)
  | sarInject (sub : Submission)
  | limitSet (sub : Submission) (buf : DmaRead)
  | retire (sub : Submission)
  | restore (sub : Submission)
  | fwUpdate (sub : Submission) (buf : FwRead)
  | shutdown (sub : Submission)
  | sweepDeadline
  | tuneNowTimeout
  | setAtPpsTimeout
  | authSignatureTimeout (str : Nat) (mon : Nat)
  | slewEnd
  | vauxWarningRearm (mv : Nat)
  | perstRelease
  | bleedOpenWaitEnd
  | transientHistoryExpiry (unit : UnitId)
  deriving DecidableEq, Repr

end Sys2Proof
end

