-- ==== Sys2Proof/WellFormed.lean ====
section
/-! DEFINITION. Which commands can arrive at all: the ranges of their operands. A string is 0 to 7, a tuning unit 0 to
33, a register offset an aligned one inside BAR0, a submission the fields of R352. -/

namespace Sys2Proof

/-- The fields of R352 fit their widths. -/
def Submission.wf (s : Submission) : Bool :=
  s.sq < 4 && s.tag < two16 && s.reqId < two32 && s.bufAddr < two64 && s.bufLen < two32 && s.rsvd < two32 &&
    s.param.length == 40

/-- TARGET and INDEX are bytes (R384). -/
def UnitId.wf (u : UnitId) : Bool := u.target < 256 && u.index < 256

def BootReport.wf (r : BootReport) : Bool := r.failed.all UnitId.wf && r.vauxMv < two16 && r.badBanks.all (· < 2) &&
  r.failedAgain.all UnitId.wf && r.badCopies.all (· < 4) && r.badSecs.all (· < 128)
/-- The sectors of a region of R485. -/
def SectorId.wf (e : SectorId) : Bool := e.sector < [96, 96, 16, 128, 16, 128, 32].getD e.region 0

/-- Fewer than 8 bits are left over behind the last whole byte (R159). -/
def LineFrame.wf (f : LineFrame) : Bool := f.extraBits < 8
def RespFrame.wf (f : RespFrame) : Bool := f.str < 8 && f.frame.wf
def BelayTone.wf (t : BelayTone) : Bool := t.str < 8 && t.frame.wf

def PtpHead.wf (h : PtpHead) : Bool := h.port < 2 && h.number < 256 && h.seqId < two16
def PtpSync.wf (m : PtpSync) : Bool := m.head.wf
def PtpAnnounce.wf (m : PtpAnnounce) : Bool := m.head.wf && m.gmClass < 256
def RxFrame.wf (f : RxFrame) : Bool := f.port < 2
def SmbusWrite.wf (w : SmbusWrite) : Bool := w.code < 256 && w.data < two16
/-- The data of a self-test are those of its unit's kind: five points, three codes on 40 channels, ten repetitions (R502). -/
def TestReport.wf (r : TestReport) : Bool :=
  r.unit.wf &&
  match r.data with
  | .points raw _ => r.unit.target == 0 && raw.length == 5
  | .codes volts => r.unit.target == 1 && volts.length == 120
  | .loopback f _ => r.unit.target == 2 && f.all LineFrame.wf
  | .vectors w _ => r.unit.target == 3 && w.all (· < 4096)
  | .march _ => r.unit.target == 4
  | .pages _ => r.unit.target == 5
  | .port reps => r.unit.target == 0xFF && reps.length == 10

def EccPlace.wf : EccPlace → Bool
  | .cellState g => g < 4096
  | .staging b => b < 3
  | .workspace _ => true
  | .other => true

/-- BAR0 is 64 KiB, reached 32 bits at a time (R338, R339). -/
def offWf (off : Nat) : Bool := off < two16 && off % 4 == 0

namespace Instr

/-- The operands of a command lie in the ranges the spec gives them. -/
def wf : Instr → Bool
  | .powerGood r => r.wf
  | .brownOut mv => mv < two16
  | .vauxWarning mv => mv < two16
  | .holdEntry mv => mv < two16
  | .holdReturn mv => mv < two16
  | .vauxWarningRearm mv => mv < two16
  | .windowChargeEntry str _ _ => str < 8
  | .tuningSlotEnd u _ => u < 16
  | .tuningFitDone u => u < 34
  | .openWireSlot p _ => p < 9
  | .sarConversionEnd c _ _ => c < 2
  | .ocTrip x => x.str < 8
  | .ocRelease x => x.str < 8
  | .ropeRespReceived f => f.wf
  | .ropeAttemptTimeout n _ a q => n < 8 && a < 64 && q < 64
  | .belaySend n => n < 8
  | .reachProbe n => n < 8
  | .throughProbe n => n < 8
  | .belayReturned t => t.wf
  | .belayNotReturned n _ => n < 8
  | .tieFrameArrived n _ e _ => n < 8 && e < 8
  | .tieFrameTimeout n => n < 8
  | .measurementUpdateDone d => d.g < 4096 && d.residues.all (· < 64)
  | .commandStart q => q < 4
  | .msixModerationTimeout v => v < 16
  | .msixVectorUnmask (.entry v _ _ _) => v < 16
  | .msixVectorUnmask (.control _ _) => true
  | .ptpFrameTransmitted p _ _ => p < 2
  | .registerWrite off _ => offWf off
  | .metLoRead off => offWf off
  | .ptpDomainReconfigure off _ => offWf off
  | .mdioAccessDone x => x.port < 2 && x.data < two16
  | .cmpFire u => u < 4
  | .trigOutPulseEnd u => u < 4
  | .ptpSyncReceived m => m.wf
  | .ptpFollowUpReceived h _ _ => h.wf
  | .ptpDelayRespReceived h _ => h.wf
  | .ptpPdelayReqReceived h _ => h.wf
  | .ptpPdelayRespReceived h _ _ _ _ => h.wf
  | .ptpPdelayRespFollowUpReceived h _ _ => h.wf
  | .ptpAnnounceReceived m => m.wf
  | .arpRequestReceived p t => p < 2 && t < two32
  | .ethernetFrameDiscarded p => p < 2
  | .prxFrameReceived f => f.wf
  | .ptpDelayReqSend r => r.dom < 2
  | .ptpSyncTimeout d => d < 2
  | .ptpAnnounceTimeout d => d < 2
  | .ptpFreezeEnd d _ _ => d < 2
  | .ptpPathDelayStable d _ _ => d < 2
  | .nvmSectorErased e _ => e.wf
  | .selfTestStart u => u.wf
  | .selfTestDone r => r.wf
  | .sramEccError b _ p => b < 16 && p.wf
  | .sramBankCopyDone b => b < 16
  | .laneChunkTimeout l => l < 64
  | .traverseChunkEnd _ l _ _ => l < 64
  | .authFetchTimer n m => n < 8 && 1 ≤ m && m ≤ 32
  | .authVerifyDone n m => n < 8 && 1 ≤ m && m ≤ 32
  | .authRenewTimer n m => n < 8 && 1 ≤ m && m ≤ 32
  | .authRetryTimer n m => n < 8 && 1 ≤ m && m ≤ 32
  | .authSignatureTimeout n m => n < 8 && 1 ≤ m && m ≤ 32
  | .balOverrideExpiry n => n < 8
  | .smbusReadWord c => c < 256
  | .smbusWriteWord w => w.wf
  | .smbusReadByte c => c < 256
  | .smbusWriteByte w => w.wf
  | .smbusUnsupportedProtocol c => c < 256
  | .transientHistoryExpiry u => u.wf
  | .nop s => s.wf
  | .identify s => s.wf
  | .configLoad s _ => s.wf
  | .configRead s => s.wf
  | .paramLoad s _ => s.wf
  | .paramCommit s => s.wf
  | .paramRead s => s.wf
  | .ropeTieIn s => s.wf
  | .ropeRaw s _ => s.wf
  | .ropeMapRead s => s.wf
  | .balPolicy s => s.wf
  | .balOverride s _ => s.wf
  | .traverseStart s _ => s.wf
  | .traverseAbort s => s.wf
  | .traverseStatus s => s.wf
  | .cairnSetup s => s.wf
  | .stateRead s => s.wf
  | .stateWrite s _ => s.wf
  | .tuneNow s => s.wf
  | .tuneRead s => s.wf
  | .selftest s => s.wf
  | .authChallenge s => s.wf
  | .keyInstall s _ => s.wf
  | .sealDevice s => s.wf
  | .attest s => s.wf
  | .nvmCheckpoint s => s.wf
  | .logRead s => s.wf
  | .timeSet s => s.wf
  | .timeStatus s => s.wf
  | .sarSeqSet s _ => s.wf
  | .sarInject s => s.wf
  | .limitSet s _ => s.wf
  | .retire s => s.wf
  | .restore s => s.wf
  | .fwUpdate s _ => s.wf
  | .shutdown s => s.wf
  -- Commands without an operand that has a range.
  | .bootResume | .bootXtalTimeout | .porstNAssert | .watchdogReset | .hardCut | .xtalLost | .holdCommitDone
  | .fwTrialConfirm | .pwrModeWrite _ | .windowBoundary _ | .rrefRatioCheck _ | .sarRoundStart | .housekeepingPeriodEnd _ | .tdacDiagnosis _ _ | .tdacCheck _
  | .ocTripNMinEnd | .lineZeroCrossing | .lineCrossingTimeout | .startSync | .endSync | .sampleInstant | .sweepStart
  | .faultNMinEnd | .timeUpdateDone | .cairnBegin | .cairnComplete | .cairnDeadline _ | .aliveToggle
  | .statusBlockTimer | .doorbellPoll | .doorbellReadDone _ | .submissionFetch | .submissionFetchDone _
  | .eventEntryWrite | .smrEntryWrite | .ptxFetch _ | .perst | .functionLevelReset | .linkDown
  | .bar0MisalignedAccess _ | .ringEnable _ | .ringDisable _ | .timNowLoRead | .timLatLoRead | .timPpsinLoRead
  | .ptpDomGmLoRead | .sysEpochLoRead | .diagFramesLoRead | .sarQLoRead | .ptpTxtsTagRead | .timLatchCapture
  | .thmDiePeakClr | .sysCtrlSave | .ptpCtrlSave _ | .legCtrlSave _ | .ptpMdioGo _ | .time64Second | .ppsOutPulseEnd
  | .ppsInEdge | .ppsLoss | .xoCorrectionUpdate | .hostServoTimeout | .urgentRecordTimer | .fullSetTimer
  | .nvmPageProgrammed _ | .traverseAdmission _ _ | .traverseResultsDone _ _ | .traverseWallTimeout _
  | .traverseShareHalving | .smbusBusTimeout | .gaugeKeyExpiry | .gaugeReset | .gaugeNop | .sweepDeadline
  | .tuneNowTimeout | .setAtPpsTimeout | .slewEnd | .perstRelease | .bleedOpenWaitEnd => true

end Instr
end Sys2Proof
end

