-- ==== Sys2Proof/Decode.lean ====
section
/-! DEFINITION. The command that a word of the opcode table spells. The table of this block gives no row any bits, so
no word spells a command. -/

namespace Sys2Proof

/-- The command a word of `nbits` bits spells: none, since spec/opcode_table.json gives its rows no bits. [Log: 8 DEDUCED] -/
def decodeTableWord (_nbits _w : Nat) : Option Instr := none

end Sys2Proof
end

