-- ==== Sys2Proof/Machine/Numeric.lean ====
section
/-! DEFINITION. Elementary functions over the rationals: square root, exponential, logarithm, asinh. Each is the
mathematical function to far more places than any published field has; what the device's own number format makes of a
result is `laneRound`. -/

namespace Sys2Proof.Machine

/-- Binary digits kept after the point. [Log: 7 DESIGN CHOICE] -/
abbrev guardBits : Nat := 192

/-- A value cut to `guardBits` places. [Log: 7 DESIGN CHOICE] -/
def cutR (q : Rat) : Rat := ((q * (2 ^ guardBits : Nat)).floor : Rat) / (2 ^ guardBits : Nat)

/-- ⌊√n⌋, digit by digit. -/
def isqrtFrom (n : Nat) : Nat → Nat → Nat
  | 0, r => r
  | k + 1, r => isqrtFrom n k (if (r + 2 ^ k) * (r + 2 ^ k) ≤ n then r + 2 ^ k else r)

def isqrt (n : Nat) : Nat := isqrtFrom n (n.log2 / 2 + 1) 0

/-- √q from below, 0 for q ≤ 0. [Log: 7 DESIGN CHOICE] -/
def sqrtR (q : Rat) : Rat :=
  if q ≤ 0 then 0 else (isqrt (q * (2 ^ (2 * guardBits) : Nat)).floor.toNat : Rat) / (2 ^ guardBits : Nat)

/-- ⌈a + √b⌉ for b ≥ 0, exactly: the least integer m with m ≥ a and (m − a)² ≥ b. -/
def ceilAddSqrt (a b : Rat) : Int :=
  let m := (a + sqrtR b).floor
  let ok (k : Int) : Bool := a ≤ (k : Rat) && b ≤ ((k : Rat) - a) * ((k : Rat) - a)
  if ok (m - 1) then m - 1 else if ok m then m else if ok (m + 1) then m + 1 else m + 2

/-- Σ xᵏ/k! by Horner's rule from the last of `n` terms. -/
def expTerms (x : Rat) : Nat → Nat → Rat
  | 0, _ => 1
  | n + 1, k => 1 + cutR (x * expTerms x n (k + 1) / (k : Nat))

def squareTimes : Nat → Rat → Rat
  | 0, q => q
  | n + 1, q => squareTimes n (cutR (q * q))

/-- Halvings that bring a magnitude to at most 1/2. -/
def halvings (q : Rat) : Nat := (if q < 0 then -q else q).ceil.toNat.log2 + 2

/-- eˣ. [Log: 7 DESIGN CHOICE] -/
def expR (x : Rat) : Rat :=
  let n := halvings x
  squareTimes n (expTerms (x / (2 ^ n : Nat)) 40 1)

/-- 2·atanh(z) = 2·(z + z³/3 + z⁵/5 + …) for |z| ≤ 1/3. -/
def atanhTerms (z w : Rat) : Nat → Nat → Rat
  | 0, _ => 0
  | n + 1, k => z / (k : Nat) + atanhTerms (cutR (z * w)) w n (k + 2)

def twoAtanh (z : Rat) : Rat := 2 * atanhTerms z (cutR (z * z)) 64 1

/-- ln q for q > 0. [Log: 7 DESIGN CHOICE] -/
def lnR (q : Rat) : Rat :=
  let k : Int := (q.num.natAbs.log2 : Int) - (q.den.log2 : Int)
  let m : Rat := if 0 ≤ k then q / (2 ^ k.toNat : Nat) else q * (2 ^ (-k).toNat : Nat)
  (k : Rat) * twoAtanh (1 / 3) + twoAtanh ((m - 1) / (m + 1))

/-- asinh x. [Log: 7 DESIGN CHOICE] -/
def asinhR (x : Rat) : Rat :=
  let a := if x < 0 then -x else x
  let y := lnR (a + sqrtR (a * a + 1))
  if x < 0 then -y else y

end Sys2Proof.Machine
end

