-- ==== Sys2Proof/Config.lean ====
section
/-! DEFINITION. What the spec leaves open or fixes per device: opaque constants and functions. Nothing in Lean can
evaluate them, so a claim about the machine holds whatever they are. The assumption log names each of them. -/

namespace Sys2Proof.Config

/-! ### Arithmetic of the estimation array and the tuning engine (number formats are not stated). -/

/-- FREE VALUE. What a lane adds to an exact value, bounded by its user (R32 fixes only that it depends on its inputs). [Log: 7 DESIGN CHOICE] -/
opaque laneError : Rat → Rat

/-! ### Parameter images: the encoding of their sections is not given (R242). -/

/-- FREE VALUE. The k-th value, in SI units, of a section whose format is not given: bytes of the image, section id, k. [Log: 17 DESIGN CHOICE] -/
opaque imageEntry : List (BitVec 8) → Nat → Nat → Rat
/-- FREE VALUE. What the NOISE section of an image states for a value that has a default: 8 REST_SLOPE_MIN, 10 INFLATE;
none where it states nothing (R251, R254). [Log: 17 DESIGN CHOICE] -/
opaque imageStates : List (BitVec 8) → Nat → Option Rat

/-! ### Cryptography: named, not defined, by the spec (R516 to R531). -/

/-- Log: 16 DESIGN CHOICE. -/
opaque sha256 : List (BitVec 8) → List (BitVec 8)
/-- Public key, digest, signature. [Log: 16 DESIGN CHOICE] -/
opaque ecdsaVerify : List (BitVec 8) → List (BitVec 8) → List (BitVec 8) → Bool
/-- The identity key's signature of a digest. [Log: 16 DESIGN CHOICE] -/
opaque ecdsaSign : List (BitVec 8) → List (BitVec 8)
/-- Whether 64 bytes are a point on P-256. [Log: 16 DESIGN CHOICE] -/
opaque onCurve : List (BitVec 8) → Bool
/-- FREE VALUE. The n-th nonce of the random number generator (R525). [Log: 16 DESIGN CHOICE] -/
opaque nonce : Nat → List (BitVec 8)

/-- FREE VALUE. The temperature in °C of a cell whose module input has never been in range and has no substitute. [Log: 20 DESIGN CHOICE] -/
opaque noTemp : Nat → Rat

/-- FREE VALUE. T_ckpt of a cell in °C (R246): no record holds a temperature (R488, R489). [Log: 20 DESIGN CHOICE] -/
opaque ckptTemp : Nat → Rat

/-- FREE VALUE. Whether the programming of an OTP slot fails (R406): occasion counter. [Log: 20 DESIGN CHOICE] -/
opaque otpFails : Nat → Bool

/-! ### Servos (laws not given). -/

/-- FREE VALUE. A domain's frequency estimate after a Sync: old estimate and offset (R434). [Log: 19 DESIGN CHOICE] -/
opaque ptpFreq : Int → Int → Int
/-- FREE VALUE. The offset residual after the frequency estimate is removed: old offset, new offset, estimate (R434). [Log: 19 DESIGN CHOICE] -/
opaque ptpResidual : Int → Int → Int → Int
/-- FREE VALUE. The filtered path delay: old value and measurement (R437). [Log: 19 DESIGN CHOICE] -/
opaque ptpPath : Int → Int → Int
/-- FREE VALUE. The slew term of the lead's servo, limited to ±50 ppm by its user (R435). [Log: 19 DESIGN CHOICE] -/
opaque ptpSlew : Int → Int
/-- FREE VALUE. The PPS servo's frequency correction: old correction and phase error in ns (R441). [Log: 19 DESIGN CHOICE] -/
opaque ppsFreq : Rat → Int → Rat

/-! ### Production values. -/

/-- Ratio k_i of test level i of a path class to its nominal value, in V (R83, R107): 0 Q and WSn, 1 direct. [Log: 18 DESIGN CHOICE] -/
opaque calLevel : Nat → Nat → Rat
/-- Factory table: coefficient (0 O, 1 G, 2 K) of a unit at a table point (R87). [Log: 18 DESIGN CHOICE] -/
opaque factory : Nat → Nat → Nat → Rat
/-- Ratio of the RREF voltage to VREF_A at production (R82). [Log: 18 DESIGN CHOICE] -/
opaque rrefRatio : Rat
/-- V_TH of R449. [Log: 18 DESIGN CHOICE] -/
opaque vTh : Rat
/-- Log: 18 DESIGN CHOICE. -/
opaque serial : BitVec 64
/-- Yotan's firmware key and the identity public key (R518). [Log: 16 DESIGN CHOICE] -/
opaque firmwareKey : List (BitVec 8)
/-- Log: 16 DESIGN CHOICE. -/
opaque identityKey : List (BitVec 8)
/-- The factory MAC address of a port, 48 bits (R447). [Log: 18 DESIGN CHOICE] -/
opaque factoryMac : Nat → BitVec 48
/-- VERSION of a firmware image, whose layout is not given (R411). [Log: 18 DESIGN CHOICE] -/
opaque fwVersion : List (BitVec 8) → Nat
/-- Version of the firmware that production left in bank A. [Log: 18 DESIGN CHOICE] -/
opaque factoryVersion : Nat

/-- FREE VALUE. A die sensor's temperature in 0.01 °C for its mean corrected voltage (R453, R460): sensor, volts. [Log: 18 DESIGN CHOICE] -/
opaque dieTemp : Nat → Rat → Int

/-- FREE VALUE. The error of an overcurrent threshold as a fraction of its tolerance, −1 to 1 (R147): string. [Log: 20 DESIGN CHOICE] -/
opaque ocError : Nat → Rat

/-- FREE VALUE. The string that the codes WST and STT stand for in a run that no trip started (R124 names none). [Log: 20 DESIGN CHOICE] -/
opaque wstString : Nat

/-- FREE VALUE. Whether a read of the flash meets an uncorrectable ECC error (R499): occasion counter, place among those
read. [Log: 20 DESIGN CHOICE] -/
opaque flashEcc : Nat → Nat → Bool

/-- FREE VALUE. How many bytes of a cairn's body have been written when it has begun (R330, R331): occasion counter. [Log: 20 DESIGN CHOICE] -/
opaque bodyPosted : Nat → Nat

/-- FREE VALUE. INFO of a log record whose code is given no INFO (R512, R577): by code. [Log: 20 DESIGN CHOICE] -/
opaque logInfo : Nat → BitVec 32
/-- FREE VALUE. INDEX of a log record that names no unit (R513): by code. [Log: 20 DESIGN CHOICE] -/
opaque logIndex : Nat → BitVec 8

/-- FREE VALUE. Whether an RMII port's link is up (R447): port, tick. [Log: 20 DESIGN CHOICE] -/
opaque rmiiLink : Nat → Nat → Bool

/-- FREE VALUE. Whether the buck has started while the always-on domain holds the pins (R568, R581): occasion counter. [Log: 20 DESIGN CHOICE] -/
opaque buckOn : Nat → Bool

/-- FREE VALUE. By how many mV VAUX lies above 9.0 V when a paused start resumes, or above 4.5 V when the crystal does
not start (R483, R496, R577): occasion counter. [Log: 20 DESIGN CHOICE] -/
opaque vauxReading : Nat → Nat

/-- FREE VALUE. VCORE in mV in a situation the spec leaves a range for (R36, R472): occasion counter. [Log: 56 DEDUCED] -/
opaque vcoreChoice : Nat → Nat

end Sys2Proof.Config
end

