-- ==== Sys2Proof/Machine/Parts/Cfg.lean ====
section
/-! DEFINITION. State parts: configuration blocks and parameter images (spec 12, 07, 14). -/

namespace Sys2Proof.Machine

/-- A TH_PIN record (R389, R451). -/
structure ThPin where
  kind  : Nat
  group : Nat
  coefA : Int
  coefB : Int
  coefC : Int
  deriving DecidableEq, Repr, Inhabited

/-- The global section (R389). -/
structure GlobalCfg where
  frameRate    : Nat
  windowMode   : Nat
  windowCycles : Nat
  lineFreq     : Nat
  windowMs     : Nat
  timeSrc      : Nat
  thrEn        : Nat
  framePhase   : Nat
  rrefCorr     : Int
  thrT0        : Int
  thrDt        : Nat
  thrHyst      : Nat
  thrDown      : Nat
  thrUp        : Nat
  suspectDt    : Nat
  suspectTime  : Nat
  xo           : List Int
  pins         : List ThPin
  deriving DecidableEq, Repr, Inhabited

/-- A string section (R390). -/
structure StrCfg where
  enable    : Nat
  cellType  : Nat
  monExpect : Nat
  shuntPol  : Nat
  shuntTh   : Nat
  authPolicy : Nat
  ambPin    : Nat
  enclPin   : Nat
  shuntR    : Nat
  shuntAlpha : Int
  shuntBeta : Int
  shuntLegR : Nat
  extGainUnc : Nat
  stvRatio  : Nat
  shuntPins : BitVec 16
  busbarPins : BitVec 16
  cellVMax  : Nat
  cellVMin  : Nat
  cellTMax  : Int
  cellTMin  : Int
  iChgMax   : Int
  iDisMax   : Int
  eRefRate  : Nat
  initSoh   : Nat
  restI     : Nat
  monOv     : Nat
  monUv     : Nat
  balMode   : Nat
  balGateLead : Nat
  balAdjK   : Nat
  balMidSoc : Nat
  balStart  : Nat
  balStop   : Nat
  balDwell  : Nat
  balHorizon : Nat
  balRBleed : Nat
  balRSw    : Nat
  balTMax   : Int
  staleLimit : Nat
  cellsUsed : List (BitVec 16)
  deriving DecidableEq, Repr, Inhabited

/-- A configuration block (R388): its header, its two kinds of section and, for CONFIG_READ, its own bytes. -/
structure ConfigBlock where
  signed    : Bool
  configId  : Nat
  devSerial : Nat
  glob      : GlobalCfg
  strs      : List StrCfg
  /-- The signature block, empty when unsigned (R520). -/
  sig       : List Byte
  deriving DecidableEq, Repr, Inhabited

/-- A parameter image (R241): its bytes, signature block included. -/
structure Image where
  bytes : List Byte
  deriving DecidableEq, Repr, Inhabited

/-- A change that waits for the sample instant of the first frame whose START SYNC is sent later (R394, R244, R287). -/
inductive TakeForce where
  | config (b : ConfigBlock)
  | images (l : List (Nat × Image))
  | balPolicy (str : Nat) (f : StrCfg)
  | states (recs : List (List Byte))
  | caps (c : List (List Nat))
  | override (str : Nat) (cells : List Byte) (flags : Byte) (on : Bool)
  deriving DecidableEq, Repr, Inhabited

/-- A waiting take-force: the change, whether its START SYNC has been sent, and the number given out last in TAKE_GEN's
order: for a change that counts, the value promised to its command (R321, R386). -/
structure Waiting where
  what   : TakeForce
  synced : Bool
  gen    : Nat
  deriving DecidableEq, Repr, Inhabited

/-- Configuration state (R388, R394, R397, R398). -/
structure Cfg where
  /-- Fields in force (each group at its own take-force, R394). -/
  live     : ConfigBlock
  /-- The block in force as CONFIG_READ reports it; none while the template is in force (R387, R396). -/
  block    : Option ConfigBlock
  /-- The configuration region's newer copy and its older one (R394, R485). -/
  stored   : Option ConfigBlock
  storedOld : Option ConfigBlock
  images   : List (Option Image)
  pending  : List (Option Image)
  /-- Images in the parameter region of the flash; each takes force at its sample instant (R244). The
  directory names them; its older copy names those before the last PARAM_COMMIT (R493). -/
  committed : List (Option Image)
  dirOld   : List (Option Image)
  waiting  : List Waiting
  /-- TAKE_GEN (R321) and the value promised to the last completed command (R386). -/
  takeGen  : Nat
  takeNext : Nat
  deriving DecidableEq, Repr, Inhabited

end Sys2Proof.Machine
end

