-- ==== Sys2Proof/Machine/Parts/Frame.lean ====
section
/-! DEFINITION. State parts: clock, windows, line lock, frames and re-anchoring (spec 01, 13). -/

namespace Sys2Proof.Machine

/-- The bits of a W1C register that were set on one tick, at their places in the register: a write on the same tick leaves
them set (R553, R566). -/
structure Hot where
  tick : Nat
  bits : Nat
  deriving DecidableEq, Repr, Inhabited

/-- The timebase (R41, R417, R418): ticks never step; `time` is TIME64 above its 32-bit fraction. -/
structure Clock where
  /-- 240 MHz ticks since the first tick of the timebase PLL (R41, R427). -/
  ticks   : Nat
  /-- The timebase PLL runs (R481 step 2). -/
  running : Bool
  /-- TIME64 and its fraction, 96 bits (R417). -/
  time    : BitVec 96
  /-- TIM_INC in 2^-32 ns (R418). -/
  inc     : BitVec 40
  deriving DecidableEq, Repr, Inhabited

/-- The part of the configuration that defines windows and frames, as in force (R394). -/
structure Scheme where
  /-- WINDOW_MODE = FIXED. -/
  fixed    : Bool
  cycles   : Nat
  windowMs : Nat
  lineFreq : Nat
  rate     : Nat
  /-- FRAME_PHASE in µs. -/
  phaseUs  : Nat
  /-- LEAN runs frames at 1 Hz (R38). -/
  lean     : Bool
  /-- d of R34. -/
  shift    : Nat
  deriving DecidableEq, Repr, Inhabited

/-- A re-anchoring that has not taken force (R586): its earliest eligible tick and what it changes. -/
structure Reanchor where
  earliest : Nat
  timeStep : Bool
  scheme   : Option Scheme
  lean     : Option Bool
  shift    : Option Nat
  lineBack : Bool
  /-- It was due at a boundary before that boundary froze, and still takes force there (R586). -/
  early    : Bool
  deriving DecidableEq, Repr, Inhabited

/-- The tracking of LINE_IN (R14, R16). -/
structure LineTrack where
  /-- Line lock is lost (R16). -/
  lost      : Bool
  lastCross : Option Nat
  /-- A mains period has been measured: crossings are predicted from `lastCross` by whole periods (R14). -/
  tracked   : Bool
  /-- Length of the mains period tracked last, in ticks; before one is measured, that of LINE_FREQ (R585). -/
  period    : Nat
  /-- Consecutive periods outside 44.5 to 65.5 Hz. -/
  outRun    : Nat
  /-- Ticks spent with every period inside 45.5 to 64.5 Hz since lock was lost. -/
  goodTicks : Nat
  deriving DecidableEq, Repr, Inhabited

/-- A frame from START SYNC to the end of its cairn (R20, R26, R321, R322). -/
structure FrameRec where
  epoch      : Nat
  tSample    : Nat
  startTick  : Nat
  win        : Nat
  wTicks     : Nat
  spanTicks  : Nat
  /-- The balancing gate closes on this frame's START SYNC: no END SYNC announced its start (R220). -/
  gateSync   : Bool
  winHold    : Bool
  timeStep   : Bool
  unsync     : Bool
  suspect    : Bool
  transition : Bool
  lean       : Bool
  doubled    : Bool
  sampled    : Bool
  /-- Its END SYNC has been sent (R194). -/
  endSynced  : Bool
  closed     : Bool
  /-- TIME64 was locked at the sample instant (R246). -/
  locked     : Bool
  timeDone   : Bool
  updated    : Bool
  /-- Its sweep has started (R201). -/
  swept      : Bool
  /-- Its cairn is complete or abandoned, or there are no slots (R28). -/
  ended      : Bool
  takeGen    : Nat
  closeTick  : Nat
  /-- STVn as this frame's FRAME runs converted them, in mV (R22, R132). -/
  stv        : List Nat
  /-- Rope modes at the end of this frame's sweep, by string (R210). -/
  modes      : List Nat
  /-- Ropes on which a fault tone was returned in this frame's span (R324). -/
  tones      : BitVec 8
  deriving DecidableEq, Repr, Inhabited

/-- Windows and frames (R12 to R41, R585, R586). -/
structure FrameState where
  /-- Measurement has started (R585). -/
  measuring   : Bool
  measStart   : Nat
  win         : Nat
  winStart    : Nat
  /-- TIME64 at the start of the window in progress. -/
  winTime     : Nat
  /-- The tick at which the window in progress ends: as predicted in LINE mode (R14), as held without lock (R16), or
  frozen by a SYNC (R20, R194). -/
  winEnd      : Nat
  /-- The TIME64 instant at which the window in progress ends in FIXED mode (R15); a step moves it with the scale. -/
  winEndNs    : Nat
  /-- The window in progress runs for a held length and follows no crossing (R16). -/
  held        : Bool
  /-- A SYNC has frozen `winEnd`. -/
  frozen      : Bool
  transition  : Bool
  scheme      : Scheme
  line        : LineTrack
  reanchors   : List Reanchor
  /-- Epoch of the newest frame, LAST_EPOCH (R24, R350). -/
  epoch       : Nat
  /-- The frame whose boundary is frozen but whose window has not closed, and earlier frames not yet ended. -/
  frames      : List FrameRec
  /-- The next nominal instant, ns of TIME64 (R18). -/
  nextNominal : Nat
  /-- The last END SYNC announced no next frame window (R195, R220). -/
  endUnknown  : Bool
  /-- Close of the last frame window, or measurement start (R23, R321). -/
  spanStart   : Nat
  spanTrans   : Bool
  /-- The next first frame carries TIME_STEP (R40). -/
  stepMark    : Bool
  /-- Frames since reset (DIAG_FRAMES, R514). -/
  frameCount  : Nat
  deriving DecidableEq, Repr, Inhabited

end Sys2Proof.Machine
end

