-- ==== Sys2Proof/Machine/Parts/Rope.lean ====
section
/-! DEFINITION. State parts: ropes, monitors, tie-in, sweep, authentication (spec 05, 06, 17). -/

namespace Sys2Proof.Machine

/-- Rope modes with the codes of R180. -/
inductive RopeMode where
  | ring | split | line | down
  deriving DecidableEq, Repr, Inhabited

/-- Results of a tie-in (R175). -/
inductive TieResult where
  | ok | short | excess | countMismatch | broken | noMonitors
  deriving DecidableEq, Repr, Inhabited

/-- Results of module authentication (R526). -/
inductive AuthResult where
  | none | ok | fail
  deriving DecidableEq, Repr, Inhabited

/-- A frame the device sends (R158, the table after R162). -/
structure TxFrame where
  typ     : Nat
  addr    : Nat
  seq     : Nat
  payload : List Byte
  deriving DecidableEq, Repr, Inhabited

/-- What a module authentication sends (R523, R524). -/
inductive AuthSend where
  | identity
  | certificate (part : Nat)
  | challenge
  | fetch (part : Nat)
  deriving DecidableEq, Repr, Inhabited

/-- What an addressed transaction is for. -/
inductive TxnUse where
  | sweep (epoch : Nat)
  | bal
  | echoTie
  | identity
  | config
  | locate
  | reach
  | auth (a : AuthSend)
  | raw (sub : Submission)
  deriving DecidableEq, Repr, Inhabited

/-- A transaction in flight (R164 to R169). -/
structure Txn where
  fromEnd  : RopeEnd
  addr     : Nat
  seq      : Nat
  use      : TxnUse
  frame    : TxFrame
  attempts : Nat
  deriving DecidableEq, Repr, Inhabited

/-- Where a module authentication stands (R525). -/
inductive AuthStep where
  | idle
  | reading
  | certVerify
  | challenged
  | sigVerify
  deriving DecidableEq, Repr, Inhabited

/-- SUSPECT tracking of a temperature input (R456, R458). Spans are in ticks. -/
structure SuspectTrack where
  suspect  : Bool
  /-- SUSPECT before the last judgement (R32). -/
  was      : Bool
  outRun   : Nat
  devTicks : Nat
  predTicks : Nat
  okTicks  : Nat
  lastGood : Option Int
  published : Option Int
  measured : Option Int
  deriving DecidableEq, Repr, Inhabited

/-- A monitor as the device knows it (R180, R219, R458, R526). -/
structure Mon where
  tied     : Bool
  reachN   : Bool
  reachF   : Bool
  model    : Nat
  serial   : BitVec 64
  fwVer    : Nat
  delayN   : Nat
  delayF   : Nat
  retries  : Nat
  crcErr   : Nat
  fails    : Nat
  /-- Duties and phases last acknowledged, and the duty of a BAL that failed (R222). -/
  ack      : List Byte
  sent     : List Byte
  ackFailed : Bool
  auth     : AuthResult
  authNext : Option AuthResult
  /-- A result has been reached since tie-in last found the position (R529). -/
  authHad  : Bool
  authStep : AuthStep
  /-- An attempt ended without a result and repeats (R526, R533). -/
  authDue  : Bool
  cert     : List Byte
  nonce    : List Byte
  sigR     : Option (List Byte)
  sigS     : Option (List Byte)
  inputs   : List SuspectTrack
  /-- Epoch whose page the inputs have been judged on (R458). -/
  judged   : Nat
  /-- The result pages that have entered frames still being estimated, by epoch (R200, R202, R30). -/
  pages    : List (Nat × List Byte)
  deriving DecidableEq, Repr, Inhabited

/-- What a position held before a tie-in: the monitor's serial, its result in force, and one that waits for a sample instant
(R527). -/
structure OldAuth where
  serial : BitVec 64
  auth   : AuthResult
  next   : Option AuthResult
  deriving DecidableEq, Repr, Inhabited

/-- Where a tie-in stands (R173, R174). -/
inductive TieStep where
  | idle
  | releaseN | releaseF | assign | count
  | assignBroken
  | echoN (k : Nat) | echoF (k : Nat)
  | findN (k : Nat) | findF (k : Nat)
  | echoBroken (k : Nat)
  | identity (k : Nat) | config (k : Nat)
  deriving DecidableEq, Repr, Inhabited

/-- A tie-in in progress: step, second attempt or broken rope, counts, addresses found from each end, and the
ROPE_TIE_IN that waits for it. -/
structure TieIn where
  step     : TieStep
  attempt  : Nat
  broken   : Bool
  n        : Nat
  /-- The counts disagreed on this attempt, or OVERFLOW was set. -/
  mismatch : Bool
  excess   : Bool
  a        : Nat
  b        : Nat
  rechecked : Bool
  again    : Bool
  deriving DecidableEq, Repr, Inhabited

/-- A TIE SAFE on a rope that is not tied in (R165, R189): it waits, or is on its way from an end. -/
inductive SafeStep where
  | due | fromN | fromF
  deriving DecidableEq, Repr, Inhabited

/-- Location of a break (R205 to R207): outward from both ports of a rope in RING, or of single ends from their anchors
toward their ports; the ECHOs that wait for a gap (R201). -/
structure Locate where
  ring  : Bool
  nEnd  : Bool
  fEnd  : Bool
  a     : Nat
  b     : Nat
  nDone : Bool
  fDone : Bool
  todo  : List (RopeEnd × Nat)
  deriving DecidableEq, Repr, Inhabited

/-- The sweep of a frame on one rope (R201, R206). -/
structure Sweep where
  epoch  : Nat
  todoN  : List Nat
  todoF  : List Nat
  /-- A transaction failed from this end; nothing beyond is read from it. -/
  failN  : Option Nat
  failF  : Option Nat
  lastN  : Nat
  lastF  : Nat
  /-- A break was suspected while the sweep ran: the location is taken from it (R205 step 1). -/
  suspect : Bool
  done   : Bool
  deriving DecidableEq, Repr, Inhabited

/-- One rope (R180, R192). -/
structure RopeStr where
  mode      : RopeMode
  /-- Monitors tied in (R180). -/
  count     : Nat
  /-- The last address of the rope: n of a ring, E of a broken rope (R174, R175, R205). -/
  top       : Nat
  tieResult : TieResult
  tied      : Bool
  dlyWarn   : Bool
  unaddr    : Bool
  /-- Belay tones in a row from each end that carried UNADDR (R185). -/
  unaddrN   : Nat
  unaddrF   : Nat
  fault     : Bool
  belayRun  : Nat
  missN     : Nat
  missF     : Nat
  brkA      : Option Nat
  brkB      : Option Nat
  faultMask : BitVec 32
  faultMaskN : BitVec 32
  faultMaskF : BitVec 32
  sticky    : BitVec 32
  /-- The last returned tone of each end was FAULT (R187). -/
  faultN    : Bool
  faultF    : Bool
  /-- Each end's last BELAY came back as FAULT: the rope is returning FAULT (R187, R215, R276). -/
  toneN     : Bool
  toneF     : Bool
  faultTick : Option Nat
  tRing     : Nat
  tRingNs   : Rat
  crcCnt    : Nat
  retryCnt  : Nat
  failCnt   : Nat
  belayMiss : Nat
  belayCnt  : Nat
  /-- SEQ counters by end and address: key 64·e + addr; address 0 holds the counter of broadcast frames (R169). -/
  seqs      : List (Nat × Nat)
  inflight  : List Txn
  /-- Transactions that wait because 8 are in flight (R166): end, address, use, TYPE, payload. -/
  txnWait   : List (RopeEnd × Nat × TxnUse × Nat × List Byte)
  tie       : Option TieIn
  /-- MON_EXPECT changed while tying in: the tie-in repeats (R416). -/
  tieAgain  : Bool
  tieEpoch  : Nat
  locate    : Option Locate
  sweep     : Option Sweep
  anchorN   : Nat
  anchorF   : Nat
  throughRun : Nat
  /-- A through-probe is out and has not come back. -/
  probeOut  : Bool
  /-- Ends whose reach probe waits for a gap (R201), and how far the probes of each end have been answered (R208). -/
  probeTodo : List RopeEnd
  probedN   : Option Nat
  probedF   : Option Nat
  /-- A TIE SAFE that the rope still owes (R165, R189). -/
  safe      : Option SafeStep
  /-- RING is reached at the next sweep start (R208). -/
  ringNext  : Bool
  mons      : List (Nat × Mon)
  /-- Monitors whose configuration page is to be rewritten (R395). -/
  rewrite   : List Nat
  /-- Monitors whose BAL of the last frame is still to be sent (R219), and its FLAGS byte. -/
  balTodo   : List (Nat × List Byte)
  rawQueue  : List (Submission × List Byte)
  /-- Authentication frames that wait for a gap (R201). -/
  authTodo  : List (Nat × AuthSend)
  /-- The results that the positions held when a tie-in began (R527, R529). -/
  oldAuth   : List (Nat × OldAuth)
  /-- The frame last sent from each port. -/
  txN       : Option TxFrame
  txF       : Option TxFrame
  silent    : Bool
  /-- Set on the tick (R553). -/
  hot : Hot
  deriving DecidableEq, Repr, Inhabited

/-- An AUTH_CHALLENGE that waits (R408): monitors still open and the masks reached. -/
structure AuthWait where
  sub   : Submission
  str   : Nat
  open_ : BitVec 32
  ok    : BitVec 32
  fail  : BitVec 32
  none_ : BitVec 32
  deriving DecidableEq, Repr, Inhabited

/-- The ROPE block (R192) and the eight ropes. -/
structure RopeState where
  sel       : Nat
  strs      : List RopeStr
  /-- ROPE_TIE_IN commands that wait: submission, ropes still running, results. -/
  tieCmds   : List (Submission × BitVec 8)
  authWaits : List AuthWait
  /-- FAULT_TONE held for its 10 ms (R187, R559). -/
  toneHeld  : Bool
  toneMin   : Bool
  deriving DecidableEq, Repr, Inhabited

end Sys2Proof.Machine
end

