-- ==== Sys2Proof/Machine/Parts/Est.lean ====
section
/-! DEFINITION. State parts: the per-cell model and filter, limits, traverse (spec 07, 08, 09). -/

namespace Sys2Proof.Machine

/-- Model kinds (R224). -/
inductive Kind where
  | physics | ecm
  deriving DecidableEq, Repr, Inhabited

/-- A cell's filter: mean and square root of the covariance, rows of a lower-triangular matrix (R226, R237, R239). -/
structure Filter where
  kind : Kind
  x    : List Rat
  root : List (List Rat)
  deriving DecidableEq, Repr, Inhabited

/-- A cell record as published (R326). -/
structure CellRec where
  volt  : Nat
  temp  : Int
  soc   : Nat
  qcap  : Nat
  res   : Nat
  sigma : Nat
  soh   : Nat
  bal   : Byte
  flags : BitVec 32
  iChg  : Nat
  iDis  : Nat
  lli   : Nat
  lamPe : Nat
  lamNe : Nat
  deriving DecidableEq, Repr, Inhabited

/-- A flag with its set and clear timers in ticks (R257). -/
structure DwellFlag where
  on    : Bool
  above : Nat
  below : Nat
  deriving DecidableEq, Repr, Inhabited

/-- The divergence test of a cell (R253, R254): ε with the span of each counted frame, newest first, and the
update-time counters. -/
structure Diverge where
  on       : Bool
  hist     : List (Nat × Rat)
  lowTicks : Nat
  sinceInf : Nat
  inflated : Nat
  deriving DecidableEq, Repr, Inhabited

/-- A STATE_WRITE record that waits for a valid measurement (R286). -/
structure DeferredWrite where
  bytes : List Byte
  /-- The frame in which R244 re-initialised the cell and the record took force (R288). -/
  reinit : Option Nat
  deriving DecidableEq, Repr, Inhabited

/-- One cell inside a mask (R225 to R263). -/
structure Cell where
  filter    : Option Filter
  /-- The sigma points that the frame's time update carried through the span (R237). -/
  chi       : List (List Rat)
  /-- The previous frame's root (R238). -/
  prevRoot  : List (List Rat)
  /-- Published capacity and learned values, and the end points computed from them (R230, R262), capacity in C. -/
  qPub      : Rat
  lliPub    : Rat
  lamPePub  : Rat
  lamNePub  : Rat
  q0        : Rat
  q100      : Rat
  pubCount  : Nat
  readyTicks : Nat
  stale     : Bool
  staleTicks : Nat
  lost      : Bool
  goodTicks : Nat
  cold      : Bool
  warmTicks : Nat
  rest      : Bool
  restTicks : Nat
  moveTicks : Nat
  /-- Ticks since the last rest correction; a correction is due. -/
  corrTicks : Nat
  corrDue   : Bool
  balAdj    : Bool
  tSubst    : Bool
  wide      : Bool
  div       : Diverge
  ov        : DwellFlag
  uv        : DwellFlag
  ot        : DwellFlag
  ut        : DwellFlag
  bleeding  : Bool
  balTicks  : Nat
  duty      : Nat
  phaseB    : Bool
  deferred  : Option DeferredWrite
  /-- Restored from a record whose elapsed time is still unknown: time stamp, whether known (R245, R246). -/
  restored  : Option (Nat × Bool)
  /-- Learned parameters and their covariance, kept for R247 at the next valid measurement (R246). -/
  keptLearned : Option (List Rat × List (List Rat))
  /-- Learned states kept while DEFAULT_PARAMS holds (R530). -/
  kept      : Option (List Rat)
  /-- The frame's measurement has been used. -/
  doneEpoch : Nat
  /-- T_c has not yet taken a measured or substituted temperature since the cell was restored (R492). -/
  tPending  : Bool
  record    : CellRec
  deriving DecidableEq, Repr, Inhabited

/-- A string's figures of the last frame (R264 to R283, R323). -/
structure StrBlk where
  ropeMode : Nat
  thrStep  : Nat
  sflags   : BitVec 32
  iWin     : Int
  stv      : Nat
  vSum     : Nat
  qStr     : Nat
  net      : Int
  qIn      : Nat
  qOut     : Nat
  unc      : Nat
  socMin   : Nat
  socMean  : Nat
  socMax   : Nat
  tte      : Nat
  eRem     : Nat
  ttf      : Nat
  nStale   : Nat
  nLost    : Nat
  pChg     : List Int
  pDis     : List Int
  limitCell : Nat
  tHot     : Int
  deriving DecidableEq, Repr, Inhabited

/-- A string's limits state (R276 to R283). -/
structure StrLim where
  step      : Nat
  sinceStep : Nat
  hotTicks  : Nat
  coolTicks : Nat
  /-- Caps of R279: charge W, discharge W, charge 0.1 A, discharge 0.1 A; 0xFFFF_FFFF for none. -/
  caps      : List Nat
  forced    : Bool
  causes    : BitVec 5
  /-- Caps in force before the last LIMIT_SET, until a frame has judged the change (R283). -/
  capsOld   : Option (List Nat)
  override  : Option (List Byte)
  ovFlags   : Byte
  blk       : StrBlk
  deriving DecidableEq, Repr, Inhabited

/-- One staging buffer (R27): what cairn k is written from, and what a traverse job is seeded with (R295). -/
structure Staging where
  epoch : Nat
  tSample : Nat
  unsync : Bool
  wTicks : Nat
  blks  : List StrBlk
  /-- Whether a cause of R276 held on each string. -/
  forced : List Bool
  recs  : List (Nat × CellRec)
  cells : List (Nat × Cell)
  /-- U_lin and S_n of each string at the close of the frame's window (R489). -/
  bounds : List (Rat × Rat)
  /-- The image of each type slot, and of each enabled string, that governed the frame (R489). -/
  images : List (Option Image)
  strImgs : List (Option Image)
  /-- T_amb of each string in K (R252), and the acknowledged duties by cell. -/
  ambs  : List (Option Rat)
  acks  : List (Nat × Nat)
  deriving DecidableEq, Repr, Inhabited

/-- What a sample instant puts in force for the frame that it starts (R244, R280, R287, R394, R527): the configuration,
the images, the results of the modules by 64·string + monitor, STATE_WRITE records and caps. -/
structure EstTake where
  epoch  : Nat
  live   : ConfigBlock
  images : List (Option Image)
  auth   : List (Nat × AuthResult)
  writes : List (List Byte)
  caps   : Option (List (List Nat))
  deriving DecidableEq, Repr, Inhabited

/-- The estimation array's state. -/
structure Est where
  /-- The configuration, the images and the results that govern the frame being estimated, or the last one. -/
  live    : ConfigBlock
  images  : List (Option Image)
  auth    : List (Nat × AuthResult)
  /-- Sample instants that no time update has reached, oldest first. -/
  takes   : List EstTake
  cells   : List (Nat × Cell)
  strs    : List StrLim
  staging : List Staging
  /-- Cells still to be updated in the frame in progress. -/
  todo    : List Nat
  /-- Cells lost after their update in the frame in progress, as restored: they take their place when the frame, which holds
  their figures already, is complete (R315, R500). -/
  lost    : List (Nat × Cell)
  /-- The state of the last published frame (R295, R334). -/
  seed    : Staging
  /-- Tick of the first sample instant since start (R246) and of the last frame estimated (R212). -/
  firstTick : Option Nat
  lastStart : Nat
  /-- The device has been in HOLD since the last frame estimated (R476). -/
  heldSince : Bool
  deriving DecidableEq, Repr, Inhabited

/-- A simulated cell of a traverse job (R295). -/
structure SimCell where
  g     : Nat
  kind  : Kind
  x     : List Rat
  q0    : Rat
  q100  : Rat
  /-- Temperature in K that an ECM cell keeps. -/
  tk    : Rat
  bleeding : Bool
  balTicks : Nat
  duty  : Nat
  /-- The cell carried none of COLD, MODEL_DIVERGE and AUTH_FAIL in the seed (R215). -/
  ok    : Bool
  deriving DecidableEq, Repr, Inhabited

/-- A simulated string of a traverse job (R296, R302, R303, R308). Energy in J as delivered, charge in C, current in A. -/
structure SimStr where
  included : Bool
  held     : Bool
  startForced : Bool
  staleStart : Bool
  reason   : Nat
  limitCell : Nat
  tLimit   : Nat
  energy   : Rat
  charge   : Rat
  current  : Rat
  qStr     : Nat
  amb      : Option Rat
  gate     : Rat
  cfg      : StrCfg
  img      : Option Image
  cells    : List SimCell
  deriving DecidableEq, Repr, Inhabited

/-- A job descriptor (R289). -/
structure JobDesc where
  jobId  : Nat
  stop   : Nat
  flags  : Byte
  nSteps : Nat
  nAmb   : Nat
  strMask : BitVec 8
  dtMax  : Nat
  maxWall : Nat
  eTarget : Nat
  profAddr : Nat
  ambAddr : Nat
  resAddr : Nat
  trajAddr : Nat
  trajLen : Nat
  deriving DecidableEq, Repr, Inhabited

/-- A profile record (R290). -/
structure ProfRec where
  dur   : Nat
  isCur : Bool
  perStr : Bool
  alloc : Nat
  sets  : List Int
  deriving DecidableEq, Repr, Inhabited

/-- A job, queued or running (R293 to R312). Times are in 0.1 s of simulated time. -/
structure Job where
  sub     : Submission
  desc    : JobDesc
  running : Bool
  profile : List ProfRec
  ambient : List (Nat × Int)
  startEpoch : Nat
  startTime : Nat
  strs    : List SimStr
  simTime : Nat
  lastDt  : Nat
  steps   : Nat
  cellSteps : Nat
  admitTick : Nat
  /-- END_REASON, once the job has ended and its results are being written. -/
  endReason : Option Nat
  endTime : Nat
  trajDone : Nat
  /-- TRAVERSE_ABORT commands that wait for the job (R311). -/
  aborts  : List Submission
  deriving DecidableEq, Repr, Inhabited

/-- What a lane works on (R35): nothing, the frame, or a chunk of a traverse job. -/
inductive LaneUse where
  | idle
  | frame
  | chunk (jobId : Nat)
  deriving DecidableEq, Repr, Inhabited

/-- The traverse engine (R289 to R314, R461). -/
structure Trv where
  jobs     : List Job
  /-- What each of the 64 lanes works on. -/
  lanes    : List LaneUse
  /-- The running job that was dealt a chunk last, or the one before it in the order of admission where that one has ended (R305). -/
  turn     : Option Nat
  halvings : Nat
  deriving DecidableEq, Repr, Inhabited

end Sys2Proof.Machine
end

