-- ==== Sys2Proof/Machine/Parts/Host.lean ====
section
/-! DEFINITION. State parts: host interface, events, cairns (spec 10, 11). -/

namespace Sys2Proof.Machine

/-- A ring of R341: its registers and both indexes. `mine` is the device's index, `theirs` the host's as last read. -/
structure Ring where
  baseLo : Nat
  baseHi : Nat
  size   : Nat
  vec    : Nat
  en     : Bool
  /-- The ring is in error: it is neither fetched nor written until EN is cleared and set again (R349). -/
  err    : Bool
  /-- HIF_RING_CTRL.ERR (R374). -/
  errBit : Bool
  mine   : Nat
  theirs : Nat
  /-- Phase of the present pass (R344). -/
  phase  : Bool
  /-- Set on the tick (R553). -/
  hot : Hot
  deriving DecidableEq, Repr, Inhabited

/-- A command in the command table (R359). -/
structure TableEntry where
  opcode  : Nat
  sub     : Submission
  started : Bool
  merged  : Bool
  /-- Its completion is discarded (R340, R346). -/
  orphan  : Bool
  deriving DecidableEq, Repr, Inhabited

/-- A completion whose entry the root complex does not accept yet: opcode, submission, status and RESULT (R373). -/
structure HeldDone where
  opcode : Nat
  sub    : Submission
  status : Nat
  result : List Byte
  deriving DecidableEq, Repr, Inhabited

/-- A remembered completion (R362). -/
structure DupMem where
  sq     : Nat
  reqId  : Nat
  opcode : Nat
  status : Nat
  result : List Byte
  deriving DecidableEq, Repr, Inhabited

/-- The HIF block (R374) and the rings. -/
structure Hif where
  dbLo    : Reg
  dbHi    : Reg
  stLo    : Reg
  stHi    : Reg
  poll    : Nat
  arb     : Reg
  ringSel : Nat
  rings   : List Ring
  hostWd  : Nat
  hostLate : Bool
  dbErrRead : Bool
  dbErrIdx : Bool
  errCfg  : Bool
  errDbIdx : Bool
  errFetch : Bool
  errAlign : Bool
  dupCnt  : Nat
  table   : List TableEntry
  dups    : List DupMem
  /-- CQ slots reserved (R358), per CQ, and stalls under way. -/
  reserved : List Nat
  stalled : List Bool
  /-- A doorbell read is outstanding. -/
  dbBusy  : Bool
  /-- SQ whose head entry is being read. -/
  fetching : Option Nat
  /-- Round-robin turn among SQ1 to SQ3, fetches made in it, and passed-over counts (R357). -/
  turn    : Nat
  turnUsed : Nat
  passed  : List Nat
  /-- These three before the fetch under way, and the SQs whose head has been read and is a TRAVERSE_START (R359). -/
  arbBack : Nat × Nat × List Nat
  startHead : List Bool
  beat    : Nat
  beatTick : Nat
  linkUp  : Bool
  /-- PERST# is asserted (R340, R484). -/
  perst   : Bool
  heartbeat : Nat
  /-- What the last BAR0 read returned to the host (model's own field). -/
  readData : Reg
  /-- The root complex does not accept posted writes; completions and a status write that wait, oldest first (R373). -/
  writesHeld : Bool
  held    : List HeldDone
  stWait  : Bool
  /-- Value of the fields the status block last reported (R351). -/
  stLast  : List Byte
  /-- MSI-X: enabled, function mask, per-vector mask, address and data of each vector's message, pending bits, unsignalled
  entries, messages sent (R338, R367 to R369). -/
  msixEn  : Bool
  fnMask  : Bool
  msgAddr : List (BitVec 64)
  msgData : List Reg
  vecMask : BitVec 16
  pba     : BitVec 16
  unsig   : List Nat
  msgs    : List Nat
  /-- Set on the tick (R553). -/
  hot : Hot
  deriving DecidableEq, Repr, Inhabited

/-- A queued event entry (R355, R365). -/
structure EvEntry where
  event : Nat
  count : Nat
  info  : Nat
  time  : Nat
  epoch : Nat
  last  : Nat
  deriving DecidableEq, Repr, Inhabited

/-- The EVT block (R375). -/
structure Evt where
  en    : BitVec 64
  pend  : BitVec 64
  mask  : BitVec 64
  map   : List Reg
  mod   : List Reg
  queue : List EvEntry
  /-- Set on the tick (R553). -/
  hot : Hot
  deriving DecidableEq, Repr, Inhabited

/-- A kept digest (R335). -/
structure KeptDigest where
  epoch   : Nat
  tSample : Nat
  digest  : List Byte
  deriving DecidableEq, Repr, Inhabited

/-- The cairn publisher (R315 to R337). -/
structure Cairn where
  slots   : List Nat
  newSlots : Option (List Nat)
  /-- Slot begun last and slot completed last (R318). -/
  lb      : Option Nat
  lc      : Option Nat
  /-- Epoch of the cairn in progress, the number and the address of its slot, and its header as written last. -/
  writing : Option Nat
  writeSlot : Nat
  writeAddr : Nat
  header  : List Byte
  /-- The link was lost during the write: the cairn in progress cannot complete (R337, R340). -/
  cut     : Bool
  /-- Epochs of the cairns abandoned last, newest first: frames in flight reach back three (R322). -/
  abandoned : List Nat
  latestEpoch : Nat
  latestSlot : Option Nat
  skipped : Nat
  alive   : Bool
  /-- Tick at which a cairn was completed last (R336). -/
  lastDone : Option Nat
  digests : List KeptDigest
  deriving DecidableEq, Repr, Inhabited

end Sys2Proof.Machine
end

