-- ==== Sys2Proof/Machine/Parts/Met.lean ====
section
/-! DEFINITION. State parts: charge metrology and tuning (spec 02, 03). -/

namespace Sys2Proof.Machine

/-- Tuning coefficients: O in V, G, K in 1/V (R51, R86). -/
structure Coef where
  o : Rat
  g : Rat
  k : Rat
  deriving DecidableEq, Repr, Inhabited

/-- The shunt values that convert a window, as in force at its start (R51). -/
structure ShuntSnap where
  enabled : Bool
  rNano   : Nat
  alpha   : Int
  beta    : Int
  pol     : Bool
  legMilli : Nat
  gainUnc : Nat
  /-- The configured maximum current magnitude in A (R72, R501). -/
  iMax    : Rat
  deriving DecidableEq, Repr, Inhabited

/-- A wide-path sample (R62): nominal tick, the converter and its uncorrected result in V. -/
structure WideSample where
  tick  : Nat
  conv  : Nat
  raw   : Rat
  /-- The value in V at the shunt that it counts at whatever the coefficients: ±400 mV where it saturates (R63). -/
  fixed : Option Rat
  sat   : Bool
  /-- It repeats the previous sample, because its own carried NBR (R143). -/
  nbr   : Bool
  deriving DecidableEq, Repr, Inhabited

/-- A closed window that still waits for its charge (R56). -/
structure OpenWin where
  num    : Nat
  start  : Nat
  len    : Nat
  coef   : Coef
  snap   : ShuntSnap
  /-- Coefficients of the string's WSn path on F0 and F1 through the window (R106). -/
  wideCoef : List Coef
  /-- The shunt temperature in °C of the housekeeping period complete at the close, and whether it is substituted (R53). -/
  temp   : Rat
  tSub   : Bool
  /-- The balancing reference comes from VREF_A (R73). -/
  backup : Bool
  /-- Test current of an open-wire slot in this window, in µA (0: no slot). -/
  owMicro : Nat
  /-- The window is treated as open (R72). -/
  asOpen : Bool
  /-- The port was declared open in this window (R71, R77). -/
  owDecl : Bool
  /-- The converter of this window is out of service (R74). -/
  convOut : Bool
  trans  : Bool
  deriving DecidableEq, Repr, Inhabited

/-- One window of a frame's span as the model sees it (R23, R231). -/
structure SpanWin where
  ticks  : Nat
  /-- Charge in µC. -/
  charge : Rat
  asOpen : Bool
  /-- What the window added to U_lin under R58, in µC; 0 for a window treated as open, whose term is R72's (R233). -/
  uLin   : Rat
  deriving DecidableEq, Repr, Inhabited

/-- What a frame takes from metrology at the close of its window: its span, ΔU_lin and ΔS_n with their end values, and
the counters of the string block (R22, R23, R233, R323). -/
structure FrmMet where
  epoch  : Nat
  span   : List SpanWin
  dU     : Rat
  dS     : Rat
  uEnd   : Rat
  sEnd   : Rat
  iWin   : Int
  net    : Int
  qIn    : Nat
  qOut   : Nat
  unc    : Nat
  sflags : BitVec 32
  deriving DecidableEq, Repr, Inhabited

/-- One string's counters and flags (R55 to R78). -/
structure MetStr where
  /-- IN and OUT in 2^-16 µC (R55). -/
  qIn       : Nat
  qOut      : Nat
  /-- U_lin in µC and S_n in µC² (R58). -/
  uLin      : Rat
  sN        : Rat
  cntSrc    : Nat
  /-- MET_CURRENT, 10 µA (R54). -/
  current   : Int
  winNum    : Nat
  /-- EN, OW, REF_BACKUP and Q_SINGLE as the last update left them (R77). -/
  en        : Bool
  ow        : Bool
  ref       : Bool
  single    : Bool
  ovrLast   : Bool
  wideLast  : Bool
  wideOvr   : Bool
  ovrSticky : Bool
  owSticky  : Bool
  ovrCount  : Nat
  tSubst    : Bool
  /-- Consecutive cross-check mismatches of QA and QB (R67). -/
  mismatch  : List Nat
  wide      : List WideSample
  waiting   : List OpenWin
  /-- Coefficients and shunt values in force on the window in progress. -/
  coef      : Coef
  snap      : ShuntSnap
  wideCoef  : List Coef
  /-- The converter of the window in progress was out of service when it began (R74). -/
  outStart  : Bool
  owMicro   : Nat
  /-- An open-wire test is scheduled for the rest in progress, and whether it has run (R69). -/
  owTest    : Bool
  owRun     : Bool
  /-- The port was declared open in the window in progress: OW_STICKY follows with its update (R77). -/
  owDecl    : Bool
  /-- The converter whose tuning measurements of this rest are discarded, since it saturated in the window before (R64). -/
  discard   : Option Nat
  /-- Windows, wide, wideOvr and ovr flags of the span in progress (R66, R324). -/
  span      : List SpanWin
  spanWide  : Bool
  spanWideOvr : Bool
  spanOvr   : Bool
  /-- S_n at the close of the last frame window (R233). -/
  sNMark    : Rat
  /-- Closed frame windows that no time update has taken, oldest first. -/
  frmQueue  : List FrmMet
  /-- What the frame being estimated spans: its windows, ΔU_lin, ΔS_n, and U_lin and S_n at its end (R23, R233). -/
  frmSpan   : List SpanWin
  frmDU     : Rat
  frmDS     : Rat
  frmUEnd   : Rat
  frmSEnd   : Rat
  /-- Set on the tick (R553). -/
  hot : Hot
  deriving DecidableEq, Repr, Inhabited

/-- One of the nine open-wire ports (R69, R71): eight strings and RREF. -/
structure OwPort where
  isOpen   : Bool
  lastFail : Bool
  fails    : Nat
  passes   : Nat
  /-- Declared closed, but still treated as open until the start of the next window (R72). -/
  closing  : Bool
  deriving DecidableEq, Repr, Inhabited

/-- The MET block (R75) and the metrology it reports. -/
structure Met where
  sel      : Nat
  strs     : List MetStr
  ports    : List OwPort
  /-- Test period in 0.1 s and the 100 µA selection (R75). -/
  owPeriod : Nat
  i100     : BitVec 9
  /-- The rotation of R69: the tick at which its period began, the port whose turn comes next, and the ports whose turn
  has come and whose test has not been scheduled. -/
  owBase   : Nat
  owTurn   : Nat
  owDue    : List Nat
  /-- The tick of the last RREF test (R93). -/
  rrefTest : Option Nat
  /-- MET_WIN_LEN: length of the last window in ticks. -/
  winLen   : Nat
  netHi    : Reg
  inHi     : Reg
  outHi    : Reg
  uncHi    : Reg
  /-- Balancing reference from VREF_A (R73), and the LASTING condition of R82 that asks for it beside an open port. -/
  refBackup : Bool
  refRatio : Bool
  deriving DecidableEq, Repr, Inhabited

/-- One calibration point's accumulation: number of slots and sum of v_raw (R92, R95). -/
structure PointAcc where
  n   : Nat
  sum : Rat
  deriving DecidableEq, Repr, Inhabited

/-- A finished fit: coefficients, residual in 0.01 ppm, mean die temperature in 0.01 °C (R95, R109). -/
structure FitResult where
  coef     : Coef
  residual : Nat
  dieT     : Rat
  /-- Mode at acceptance: the point in REFINE, or LIVE (R100, R114). -/
  refine   : Option Nat
  tick     : Nat
  deriving DecidableEq, Repr, Inhabited

/-- A complete accumulation that waits for its fit (R92, R95). -/
structure Accumulation where
  acc   : List PointAcc
  slots : Nat
  sumT  : Int
  deriving DecidableEq, Repr, Inhabited

/-- An accumulation in progress as it stood when the unit's rest began (R93). -/
structure RestMark where
  acc   : List PointAcc
  point : Nat
  slots : Nat
  minT  : Int
  maxT  : Int
  sumT  : Int
  deriving DecidableEq, Repr, Inhabited

/-- One of the 34 tuning units (R86, R109). -/
structure TunUnit where
  refined   : List Coef
  live      : Coef
  /-- Coefficients in force (R90). -/
  inForce   : Coef
  acc       : List PointAcc
  /-- Rotation index of the next slot (R92). -/
  point     : Nat
  slots     : Nat
  minT      : Int
  maxT      : Int
  sumT      : Int
  /-- The accumulation at the start of the rest in progress (R93). -/
  mark      : RestMark
  /-- The tick at which the unit's last counted slot ended. -/
  slotTick  : Option Nat
  done      : Option Accumulation
  rejConsec : Nat
  rejTotal  : Nat
  lastRej   : BitVec 4
  residual  : Nat
  accTick   : Option Nat
  dieT      : Int
  /-- REFINE point (R100). -/
  refine    : Option Nat
  /-- Since which tick die A has stayed inside a point's band, and outside the band of the mode. -/
  inBand    : Option (Nat × Nat)
  outBand   : Option Nat
  /-- Accepted result that waits for its take-force (R105, R106). -/
  accepted  : Option FitResult
  deriving DecidableEq, Repr, Inhabited

/-- A TUNE_NOW that waits for results (R111). -/
structure TuneWait where
  sub      : Submission
  mask     : BitVec 64
  accepted : BitVec 64
  rejected : BitVec 64
  /-- The tick at which it times out (R111). -/
  deadline : Nat
  deriving DecidableEq, Repr, Inhabited

/-- The tuning engine (R79 to R114). -/
structure Tun where
  units    : List TunUnit
  waits    : List TuneWait
  /-- RREF_CORR in force, 0.01 ppm (R83, R104). -/
  rrefCorr : Int
  corrNext : Option Int
  /-- Seconds of ratio departure above 2,000 ppm, and below 1,500 ppm (R82). -/
  ratioBad  : Nat
  ratioGood : Nat
  ratioFiled : Bool
  /-- I1 is used in place of I0, and since when they agree (R89). -/
  useB     : Bool
  agree    : Option Nat
  /-- Die temperature A of the last housekeeping result, 0.01 °C (R89). -/
  dieT     : Int
  /-- The refined table has changed since the last checkpoint (R103). -/
  dirty    : Bool
  deriving DecidableEq, Repr, Inhabited

end Sys2Proof.Machine
end

