-- ==== Sys2Proof/Machine/Parts/Power.lean ====
section
/-! DEFINITION. State parts: power, NVM, diagnosis, security, legacy window, SYS (spec 15 to 19). -/

namespace Sys2Proof.Machine

/-- Power states with the codes of R472; OFF is the unpowered device. -/
inductive PowerState where
  | boot | run | lean | hold | stopping | halt | off
  deriving DecidableEq, Repr, Inhabited

/-- Firmware bank states with the codes of R496. -/
inductive BankState where
  | empty | valid | pending | confirmed
  deriving DecidableEq, Repr, Inhabited

/-- A firmware bank (R494): its state, and the version and KEY_ID of the image it holds. -/
structure Bank where
  state   : BankState
  version : Nat
  keyId   : Nat
  deriving DecidableEq, Repr, Inhabited

/-- Causes of a whole-device start, bits of PWR_RST_CAUSE (R480). -/
inductive ResetCause where
  | powerOn | porst | brownout | wdog | fwRestart | holdReset
  deriving DecidableEq, Repr, Inhabited

/-- The steps of an orderly stop (R464) still to come. -/
inductive StopStep where
  | none | pageProgram | urgent | ropes | bleed
  deriving DecidableEq, Repr, Inhabited

/-- The PWR block (R496) and start-up. -/
structure Pwr where
  state     : PowerState
  /-- Power-good has come and step 1 of R481 has run. -/
  started   : Bool
  /-- Step 5 of R481 has completed (R562). -/
  loaded    : Bool
  mode      : Bool
  vauxMv    : Nat
  vcoreMv   : Nat
  floorMv   : Nat
  warnThr   : Nat
  warnArmed : Bool
  resume    : Bool
  holdCnt   : Nat
  holdDone  : Bool
  holdFrom  : PowerState
  rstCause  : BitVec 7
  nextCause : ResetCause
  /-- A HARD cut came before the next start (R466, R480). -/
  nextHard  : Bool
  /-- PORST_N is low; the HARD latch is set (R466, R481). -/
  porstLow  : Bool
  hardLatch : Bool
  paused    : Bool
  bootFail  : Bool
  /-- Step 4 of R481 has been reached: VREFTH is driven from there on (R581). -/
  vrefth    : Bool
  xtalLost  : Bool
  bankA     : Bank
  bankB     : Bank
  runB      : Bool
  trial     : Bool
  fallback  : Bool
  /-- ACTIVATE_RESTART has committed its record: the device resets (R411). -/
  restart   : Bool
  stopStep  : StopStep
  stopSub   : Option Submission
  deriving DecidableEq, Repr, Inhabited

/-- An urgent record (R488), counters as integers in the record's own units. -/
structure UrgentRec where
  /-- Windows below this number are in its counters (the model's own, R78). -/
  win     : Nat
  seq     : Nat
  epoch   : Nat
  tWrite  : Nat
  kind    : Nat
  unsync  : Bool
  lifeExt : Bool
  bootCount : Nat
  qIn     : List Nat
  qOut    : List Nat
  uLin    : List Nat
  sN      : List (BitVec 32)
  socs    : List Nat
  deriving DecidableEq, Repr, Inhabited

/-- A checkpoint set (R489). -/
structure CkptSet where
  seq     : Nat
  epoch   : Nat
  /-- SEQ of the newest urgent record when the set began: which of the two is newer (R492). -/
  urgAt   : Nat
  time    : Nat
  unsync  : Bool
  net     : List Int
  uLin    : List Nat
  sN      : List (BitVec 32)
  digests : List (List Byte)
  chems   : List Nat
  kinds   : List Nat
  entries : List (Nat × List Byte)
  /-- The refined table, where a point has changed since the last write (R103). -/
  refined : Option (List (List Coef))
  /-- The CRC-32C that its commit page holds. -/
  crc     : Reg
  deriving DecidableEq, Repr, Inhabited

/-- What a flash job writes (R486, R394, R398, R411). A record and a set have their content from the moment their write
begins (R488, R489). -/
inductive NvmWrite where
  | urgent (kind : Nat) (r : Option UrgentRec)
  | set (c : Option CkptSet)
  | config (b : ConfigBlock)
  | images (slots : List (Nat × Image)) (inPlace : Bool)
  | firmware (image : List Byte)
  deriving DecidableEq, Repr, Inhabited

/-- A flash job: pages still to program, the command that waits for it, whether its write has begun, the sectors that take
it (of the journal, R487, or of the image region, R493), and the failed attempts at its page in progress (R486). -/
structure NvmJob where
  what  : NvmWrite
  left  : Nat
  sub   : Option Submission
  begun : Bool
  secs  : List Nat
  tries : Nat
  deriving DecidableEq, Repr, Inhabited

/-- A sector of the journal (R486): erased, or with a header that holds its sequence number; marked bad or not. Its erase
count stands in the wear of region 5. -/
structure Sector where
  erased : Bool
  bad    : Bool
  seq    : Nat
  deriving DecidableEq, Repr, Inhabited

/-- Journal sectors marked bad (R497), and erased ones ahead of the write position (R487). -/
def badSectors (l : List Sector) : Nat := (l.filter (·.bad)).length
def erasedSectors (l : List Sector) : Nat := (l.filter (fun x => x.erased && !x.bad)).length

/-- Sectors of the regions of R485, in table order. -/
def regionSectors : List Nat := [96, 96, 16, 128, 16, 128, 32]

/-- A log record (R513). -/
structure LogRec where
  seq    : Nat
  code   : Nat
  target : Nat
  index  : Nat
  time   : Nat
  epoch  : Nat
  info   : Nat
  boot   : Nat
  /-- Its page was torn: its CRC fails. -/
  torn   : Bool
  deriving DecidableEq, Repr, Inhabited

/-- Register values kept in the two-copy store (R447, R506, R541, R548, R560). -/
structure SavedRegs where
  sys     : Option (List Nat)
  ptp     : Option (List Nat)
  leg     : Option Nat
  retired : List UnitId
  frozen  : List (Option Nat)
  deriving DecidableEq, Repr, Inhabited

/-- A store of registers that waits (R560, R566); that of LEG_CTRL has its value from the write of SAVE on (R548). -/
inductive SaveReq where
  | sys
  | ptp
  | leg (v : Nat)
  deriving DecidableEq, Repr, Inhabited

/-- The NVM block (R497) and the contents of the flash (R485). -/
structure Nvm where
  life     : Nat
  setTorn  : Bool
  urgTorn  : Bool
  wearSel  : Nat
  /-- Erase cycles of every sector, region by region in the order of R485. -/
  wear     : List (List Nat)
  /-- Wear percentages already announced (R490). -/
  announced : Nat
  /-- The newest urgent record that counts, the journal sectors that hold it, and the older ones not yet erased (R487, R491). -/
  urgent   : Option UrgentRec
  urgSecs  : List Nat
  urgOld   : List (UrgentRec × List Nat)
  urgSeq   : Nat
  urgTick  : Nat
  /-- The newest set that counts, its sectors, and the older ones not yet erased. -/
  set      : Option CkptSet
  setSecs  : List Nat
  setOld   : List (CkptSet × List Nat)
  /-- Sequence number of the newest complete set, and the number given out last. -/
  setSeq   : Nat
  setNext  : Nat
  /-- The tuning store's refined table (R87, R103), none before its first write; and the older of its two copies (R485). -/
  tune     : Option (List (List Coef))
  tuneOld  : Option (List (List Coef))
  errCnt   : Nat
  /-- The sectors of the journal, the one that is being written, and the pages used in it, its header among them (R486). -/
  secs     : List Sector
  jCur     : Option Nat
  jPos     : Nat
  /-- Jobs; the write of the first is in progress. -/
  jobs     : List NvmJob
  /-- A page of a job that was cut off is still being programmed, or one of the event log (R475). -/
  tail     : Bool
  tailLog  : Bool
  /-- Region and sector of the page or erase that failed last, where that is known: the sector that the flash's self-test
  reads (R502), until the report is classified. -/
  suspect  : Option (Nat × Nat)
  /-- The journal holds a torn set or a torn urgent record. -/
  tornSet  : Bool
  tornUrg  : Bool
  logBuf   : List LogRec
  logLost  : Nat
  logRing  : List LogRec
  logSeq   : Nat
  /-- The sector of the event log that holds its oldest records (R485). -/
  logSec   : Nat
  /-- The sectors of each slot's image, under the directory and under its older copy (R485, R493). -/
  imgSecs  : List (List Nat)
  imgSecsOld : List (List Nat)
  /-- Register stores that wait, in order of arrival (R566). -/
  saves    : List SaveReq
  /-- The two-copy store: the newer copy and the older. -/
  saved    : SavedRegs
  savedOld : SavedRegs
  deriving DecidableEq, Repr, Inhabited

/-- A unit's self-test history (R504, R514). -/
structure UnitDiag where
  unit     : UnitId
  testing  : Bool
  running  : Bool
  last     : Nat
  lastFault : Bool
  transTotal : Nat
  trans1h  : Nat
  detail   : Reg
  /-- The test was asked for by SELFTEST or RESTORE and not by a report (R403, R405). -/
  report   : Bool
  cmds     : List (Submission × Bool)
  deriving DecidableEq, Repr, Inhabited

/-- The DIAG block (R514). -/
structure Diag where
  lanes    : BitVec 64
  retQ     : BitVec 16
  retF     : BitVec 2
  retRope  : BitVec 16
  retBanks : BitVec 16
  spare    : Option Nat
  work     : List Nat
  /-- The bank whose contents are moving, or have moved, to the spare for its test (R508). -/
  copying  : Option Nat
  sel      : Nat
  units    : List UnitDiag
  framesHi : Reg
  outDev   : Nat
  outHost  : Nat
  outSupply : Nat
  eccCnt   : Nat
  /-- Bank and tick of each corrected error of the last second (R499). -/
  eccLast  : List (Nat × Nat)
  journalStopped : Bool
  supplyOut : Bool
  deriving DecidableEq, Repr, Inhabited

/-- The security block (R518, R532). -/
structure Sec where
  sealed  : Bool
  rngOk   : Bool
  slots   : List (Option (List Byte))
  keySel  : Nat
  word    : Nat
  authCnt : Nat
  failCnt : Nat
  deriving DecidableEq, Repr, Inhabited

/-- One legacy page's gauge (R541, R542); its frozen capacity is in the two-copy store. -/
structure Gauge where
  qual     : Nat
  active   : Bool
  netStart : Int
  socStart : Nat
  chgTicks : Nat
  idleTicks : Nat
  deriving DecidableEq, Repr, Inhabited

/-- What a page's words and STATUS are made from: a string at the frame that completed last (R538 to R540). -/
structure LegPage where
  on     : Bool
  blk    : StrBlk
  cap    : Nat
  design : Nat
  qual   : Nat
  act    : Bool
  deriving DecidableEq, Repr, Inhabited

/-- The legacy window (R534 to R549). -/
structure Leg where
  /-- S0 to S3 at the frame whose update completed last; empty before the first one (R538). -/
  frame   : List LegPage
  save    : Bool
  page0   : Nat
  pecReq  : Bool
  en      : Bool
  addr    : Nat
  lastCmd : Nat
  pecErr  : Bool
  badPage : Bool
  wrBlock : Bool
  page    : Nat
  frozenSel : Nat
  gauges  : List Gauge
  xfers   : Nat
  armed   : Bool
  gaugeCmd : Nat
  /-- High-byte latches, keyed by 128·page + word (R545). -/
  latches : List (Nat × Nat)
  lastTick : Option Nat
  /-- What the last transaction returned to the master, and whether it was acknowledged (model's own fields). -/
  data    : Nat
  pec     : Byte
  acked   : Bool
  /-- Set on the tick (R553). -/
  hot : Hot
  deriving DecidableEq, Repr, Inhabited

/-- The SYS block (R558). -/
structure Sys where
  epochHi   : Reg
  bootCount : Nat
  scratch   : Reg
  save      : Bool
  deriving DecidableEq, Repr, Inhabited

end Sys2Proof.Machine
end

