-- ==== Sys2Proof/Machine/Parts/Sar.lean ====
section
/-! DEFINITION. State parts: fast converters, sequences, overcurrent comparators (spec 04). -/

namespace Sys2Proof.Machine

/-- Trigger sources in run order (R127, R130). -/
inductive Trig where
  | frame
  | oc (n : Nat)
  | cmp (n : Nat)
  | host
  deriving DecidableEq, Repr, Inhabited

/-- A sequence entry (R124). -/
structure SeqEntry where
  chan : Nat
  tdac : Bool
  mask : BitVec 4
  deriving DecidableEq, Repr, Inhabited

/-- What a housekeeping slot converts (R121): a temperature input (0 to 15 a pin, or the amplified difference of a DIODE
pin; 16 to 31 a DIODE pin's 10 µA voltage; 32 and 33 the die sensors), a tuning level on a unit, a channel with a code of
the test-DAC diagnosis, or a level of the test DAC through I7. -/
inductive HkTask where
  | temp (i : Nat)
  | tune (unit : Nat)
  | diag (chan : Nat) (k : Nat)
  | tdac (k : Nat)
  deriving DecidableEq, Repr, Inhabited

/-- Why a conversion is made; a regular one with the generation of its list (R125). -/
inductive ConvUse where
  | wide (str : Nat) (nominal : Nat)
  | hk (task : HkTask)
  | regular (entry : Nat) (seqOf : Nat) (gen : Nat)
  | injected (entry : Nat) (trig : Trig) (seqOf : Nat)
  | pair (sample : Nat)
  deriving DecidableEq, Repr, Inhabited

/-- A conversion in progress. -/
structure Conversion where
  use   : ConvUse
  chan  : Nat
  start : Nat
  ts32  : Nat
  /-- The test-DAC code applied in place of the channel's source (R124, R144). -/
  tdac  : Option Nat
  /-- In LEAN mode it takes 4 µs (R117). -/
  lean  : Bool
  deriving DecidableEq, Repr, Inhabited

/-- A queue entry (R138). -/
structure SarEntry where
  ts32  : Nat
  entry : Nat
  trig  : Nat
  nbr   : Bool
  unr   : Bool
  ovr   : Bool
  inj   : Bool
  conv  : Nat
  chan  : Nat
  code  : Nat
  deriving DecidableEq, Repr, Inhabited

/-- The memory of R142: the channel that railed, the tick of its end, how many neighbours remain. -/
structure NbrMark where
  chan    : Nat
  endTick : Nat
  left    : Nat
  deriving DecidableEq, Repr, Inhabited

/-- A run that remains to be converted (R128): the trigger, whose list, the entries left. -/
structure InjRun where
  trig    : Trig
  seqOf   : Nat
  entries : List (Nat × SeqEntry)
  /-- The run has converted a host entry (R133). -/
  hostRun : Bool
  /-- The run has converted something: one with no matching entry takes no time (R128). -/
  ran     : Bool
  deriving DecidableEq, Repr, Inhabited

/-- A fast converter (R119 to R130). -/
structure SarConv where
  regular  : List SeqEntry
  regPos   : Nat
  /-- How many regular lists have taken force (the model's own, R125). -/
  regGen   : Nat
  newReg   : Option (List SeqEntry)
  /-- Host entries 4 to 7 (R126). -/
  inj      : List SeqEntry
  newInj   : Option (List SeqEntry)
  /-- Pending triggers of the converter's own list, one bit per source (R127). -/
  pend     : List Trig
  run      : Option InjRun
  /-- The tick at which the last run that converted something ended: a wide-path slot of no later instant fell due in it (R130). -/
  runEnd   : Nat
  busy     : Option Conversion
  /-- Wide-path slots not yet performed: string and nominal tick. -/
  wideDue  : List (Nat × Nat)
  /-- Nominal ticks of the housekeeping slots not yet performed, and what waits for them (R119, R121). -/
  hkDue    : List Nat
  hkTasks  : List HkTask
  nbr      : List NbrMark
  deriving DecidableEq, Repr, Inhabited

/-- SAR_OC_CFG of one string (R147, R152). -/
structure OcCfg where
  injEn  : Bool
  pairEn : Bool
  latch  : Bool
  dir    : Nat
  thr    : Nat
  deriving DecidableEq, Repr, Inhabited

/-- A paired capture (R134, R135). -/
structure Capture where
  str     : Nat
  len     : Nat
  started : Bool
  /-- The next sample of F0, an even one, and of F1, an odd one. -/
  next0   : Nat
  next1   : Nat
  /-- The tick at which the last sample began. -/
  last    : Nat
  /-- Samples whose conversion has ended. -/
  done    : Nat
  deriving DecidableEq, Repr, Inhabited

/-- Where a SAR_INJECT stands with the run of one list: none asked, or ended; pending; running (R133). -/
inductive InjPhase where
  | ended | pending | running
  deriving DecidableEq, Repr, Inhabited

/-- A SAR_INJECT that waits for its runs (R133). -/
structure InjWait where
  sub   : Submission
  f0    : InjPhase
  f1    : InjPhase
  pair  : Bool
  count : Nat
  deriving DecidableEq, Repr, Inhabited

/-- Conversions of one temperature input in the housekeeping period in progress: how many, their sum in 1/16 LSB, whether
one carried OVR or UNR (R453, R454). -/
structure HkAcc where
  n      : Nat
  sum    : Nat
  ranged : Bool
  deriving DecidableEq, Repr, Inhabited

/-- The SAR block (R152) and both converters. -/
structure Sar where
  mirror   : Bool
  wm       : Nat
  drop     : Nat
  qHi      : Reg
  queue    : List SarEntry
  /-- The level has been below 256 since the last drop (R140). -/
  dropArmed : Bool
  ocSel    : Nat
  oc       : List OcCfg
  trip     : BitVec 8
  active   : BitVec 8
  pairMiss : Bool
  /-- OC_TRIP_N asserted, and its minimum assertion not yet over (R149). -/
  pin      : Bool
  pinMin   : Bool
  pairLen  : Nat
  pairStr  : Nat
  capture  : Option Capture
  tdac     : Nat
  diagFail : BitVec 40
  /-- Channels that failed on both converters in the last diagnosis (R146). -/
  diagPrev : BitVec 40
  tdacOut  : Bool
  /-- The test DAC as measured through I7 in the check in progress: level and V (R145). -/
  tdacSeen : List (Nat × Rat)
  /-- Channels that failed a point on F0 and F1 in the diagnosis in progress (R144). -/
  diagAcc  : List (BitVec 40)
  /-- The 34 temperature inputs in the period in progress, and in the period that has ended and waits for judgement. -/
  hkAcc    : List HkAcc
  hkLatch  : Option (List HkAcc)
  convs    : List SarConv
  round    : Nat
  roundStart : Nat
  /-- A round has begun since measurement start. -/
  roundOn  : Bool
  waits    : List InjWait
  /-- STV of each string at the last sample instant, in mV (R132). -/
  stv      : List Nat
  /-- Commands SAR_SEQ_SET whose lists take force at the next round start (R415). -/
  seqWaits : List Submission
  /-- Set on the tick (R553). -/
  hot : Hot
  deriving DecidableEq, Repr, Inhabited

end Sys2Proof.Machine
end

