-- ==== Sys2Proof/Machine/Parts/Time.lean ====
section
/-! DEFINITION. State parts: TIM and PTP blocks, temperature (spec 13, 14). -/

namespace Sys2Proof.Machine

/-- A compare unit (R422 to R424). -/
structure CmpUnit where
  target : BitVec 32
  period : BitVec 32
  pulse  : Nat
  fired  : Bool
  pol    : Bool
  outEn  : Bool
  inj    : Bool
  en     : Bool
  /-- TRIG_OUTn is at its active level. -/
  active : Bool
  /-- A step of TIME64 has left TARGET in the past (R423). -/
  stepped : Bool
  /-- Set on the tick (R553). -/
  hot : Hot
  deriving DecidableEq, Repr, Inhabited

/-- Time states of R427. -/
inductive TimeState where
  | free | locked | hold
  deriving DecidableEq, Repr, Inhabited

/-- The TIM block (R447) and the discipline of TIME64. -/
structure Tim where
  nowHi    : Reg
  nowFrac  : Reg
  lat      : BitVec 96
  latHi    : Reg
  latFrac  : Reg
  ppsStamp : BitVec 64
  ppsHi    : Reg
  cmpSel   : Nat
  cmps     : List CmpUnit
  inDelay  : Int
  inPol    : Bool
  outWidth : Nat
  ppsOut   : Bool
  state    : TimeState
  lead     : Option Nat
  /-- A source has locked since reset (R427, R533). -/
  lockedOnce : Bool
  /-- A domain took the lead with no lead before it: the tick, and by how much TIME64 stepped (R435). -/
  tookLead : Option (Nat × Int)
  suspect  : Bool
  /-- Frequency correction without its slew part, and the slew part, in 10^-12 (R418, R435, R443). -/
  freq     : Rat
  slewRate : Int
  /-- What the slew of TIME_SET under way adds in all, in ns (R443). -/
  slew     : Int
  holdFreq : Rat
  holdT    : Int
  holdTick : Nat
  /-- PPS servo (R441). -/
  ppsLock  : Bool
  ppsGood  : Nat
  ppsBad   : Nat
  ppsSet   : Bool
  /-- PTP_HOST has locked since it became the source (R442). -/
  hostSet  : Bool
  /-- Pending SET_AT_PPS commands: submission and value, oldest first (R413, R443). -/
  setAtPps : List (Submission × Nat)
  /-- Tick of the last step of TIME64, and TIME64 before it (R448). -/
  beforeStep : Option (Nat × Nat)
  deriving DecidableEq, Repr, Inhabited

/-- Domain states with the codes of R447. -/
inductive DomState where
  | disabled | listening | acquiring | locked | frozen | asym
  deriving DecidableEq, Repr, Inhabited

/-- An Announce sender of a domain (R432). -/
structure Master where
  id      : BitVec 64
  gmId    : BitVec 64
  gmClass : Nat
  quality : List Nat
  deriving DecidableEq, Repr, Inhabited

/-- A run of path-delay measurements that have stayed within ±200 ns of their mean: since when, how many, their sum. -/
structure Stab where
  tick : Nat
  n    : Nat
  sum  : Int
  deriving DecidableEq, Repr, Inhabited

/-- A PTP domain (R434 to R439, R447). -/
structure PtpDom where
  num      : Nat
  transport : Nat
  delayP2p : Bool
  profile  : Nat
  state    : DomState
  logSync  : Int
  /-- Tick of the last Sync. -/
  syncTick : Nat
  gmClass  : Nat
  gmId     : BitVec 64
  offset   : Int
  freq     : Int
  /-- The filtered mean path delay, once one has been measured (R437). -/
  path     : Option Int
  syncCnt  : Nat
  goodSyncs : Nat
  /-- A two-step Sync waits for its Follow_Up: sequence, receive stamp. -/
  waitSync : Option (Nat × Int)
  /-- The last Sync: receive stamp and origin timestamp. -/
  sync     : Option (Int × Int)
  /-- The last Delay_Req or Pdelay_Req: sequence and egress stamp; and a two-step Pdelay_Resp that waits for its
  Follow_Up: sequence, and t4 − t1 + t2. -/
  reqTx    : Option (Nat × Int)
  waitPd   : Option (Nat × Int)
  /-- The path delay after a suspected step (R438), and its measurements within ±200 ns of their mean (R438, R439). -/
  newPath  : Option Int
  stab     : Option Stab
  master   : Option Master
  masters  : List Master
  outliers : Nat
  /-- Offset difference to the other domain at the last path-delay measurement taken: before a step (R438). -/
  d0       : Int
  seqTx    : Nat
  deriving DecidableEq, Repr, Inhabited

/-- A transmit timestamp (R446). -/
structure TxStamp where
  tag  : Nat
  time : Nat
  port : Nat
  /-- The tick at which it was queued (R448). -/
  tick : Nat
  deriving DecidableEq, Repr, Inhabited

/-- Where a frame goes (R432): as its bytes say, Layer 2 with ethertype 0x88F7 to a MAC address, UDP to an address and port. -/
inductive NetDest where
  | inFrame
  | layer2 (mac : Nat)
  | udp (ip port : Nat)
  deriving DecidableEq, Repr, Inhabited

/-- A frame the device sends on an RMII port: kind, destination, and body as far as the spec gives it. -/
structure NetTx where
  kind : Nat
  dest : NetDest
  body : List Byte
  deriving DecidableEq, Repr, Inhabited

/-- An RMII port (R433, R447). -/
structure PtpPort where
  macLo : Reg
  macHi : Nat
  ipv4  : Reg
  latRx : Nat
  latTx : Nat
  /-- PTP_MDIO of the port, without GO, and GO (R447). -/
  mdio   : Reg
  mdioGo : Bool
  /-- The access that runs is a write. -/
  mdioWr : Bool
  /-- TAGs of frames sent with TS_REQ whose stamp has not come yet (R444, R446). -/
  stampFor : List Nat
  queue : List TxStamp
  /-- A stamp that found the queue full on this tick: a TAG read of the same tick still makes room for it (R448). -/
  late  : Option TxStamp
  ovf   : Nat
  ovfArmed : Bool
  /-- The frames that left at the last occasion. -/
  lastTx : List NetTx
  deriving DecidableEq, Repr, Inhabited

/-- The PTP block (R447). -/
structure Ptp where
  save    : Bool
  enA     : Bool
  enB     : Bool
  portMap : Nat
  pdStep  : Nat
  domSel  : Nat
  doms    : List PtpDom
  gmHi    : Reg
  portSel : Nat
  ports   : List PtpPort
  txSel   : Nat
  txLo    : Reg
  txHi    : Reg
  txInfo  : Reg
  prxLo   : Reg
  prxHi   : Reg
  deriving DecidableEq, Repr, Inhabited

/-- A temperature pin (R453 to R457, R467). -/
structure PinState where
  raw      : Nat
  measured : Option Int
  published : Option Int
  valid    : Bool
  openRes  : Bool
  shortRes : Bool
  dev      : Bool
  suspect  : Bool
  nosub    : Bool
  outRun   : Nat
  devRun   : Nat
  okRun    : Nat
  lastGood : Option Int
  deriving DecidableEq, Repr, Inhabited

/-- The THM block (R467) and the die thresholds (R460 to R463). -/
structure Thm where
  sel      : Nat
  pins     : List PinState
  sticky   : BitVec 16
  dieA     : Option Int
  dieB     : Option Int
  /-- DIE_A and DIE_B as they read (the last result in range or not). -/
  regA     : Int
  regB     : Int
  bothOut  : Nat
  warn     : Bool
  warnRun  : Nat
  coolRun  : Nat
  orderRun : Nat
  orderly  : Bool
  hardSeen : Bool
  peak     : Option Int
  warnThr  : Int
  orderThr : Int
  /-- Die temperature at the start of the WARN interval (R461). -/
  warnStart : Option Int
  /-- WARN holds because both sensors have been out of range (R460). -/
  warnOut  : Bool
  /-- Set on the tick (R553). -/
  hot : Hot
  deriving DecidableEq, Repr, Inhabited

end Sys2Proof.Machine
end

