-- ==== Sys2Proof/Machine/State.lean ====
section
/-! DEFINITION. The state of the GS-6408, its faults and refusals, and the state after reset. -/

namespace Sys2Proof.Machine

/-- No command of this block stops the machine with a fault; the type has one unused reason so that it is inhabited. -/
inductive Fault where
  /-- Raised by no command (safe: nothing stops). -/
  | none
  deriving DecidableEq, Repr

/-- Why a command has no meaning. -/
inductive Refusal where
  /-- Raised by an arm of `exec` whose command has not been modelled (safe: the model stops). -/
  | notModelled (mnemonic : String)
  deriving DecidableEq, Repr

/-- The whole state. -/
structure State where
  clk   : Clock
  frm   : FrameState
  met   : Met
  tun   : Tun
  sar   : Sar
  rope  : RopeState
  cfg   : Cfg
  est   : Est
  trv   : Trv
  hif   : Hif
  evt   : Evt
  cairn : Cairn
  tim   : Tim
  ptp   : Ptp
  thm   : Thm
  pwr   : Pwr
  nvm   : Nvm
  diag  : Diag
  sec   : Sec
  leg   : Leg
  sys   : Sys
  /-- Host memory as the device's posted writes leave it (R330, R338): a canonical list of cells. -/
  hostMem : List Host.Cell
  /-- The model's own counter of free values (nonces, choices); it stands for nothing in the spec. -/
  free  : Nat
  /-- Commands that wait, first in, first out (the model's own field). -/
  pending : List Instr
  deriving DecidableEq, Repr

/-! ### Reset values of the parts -/

/-- No bit was set on a tick. -/
def Hot.none : Hot := { tick := 0, bits := 0 }

/-- TIME64 counts from 0 from the first tick (R427); INC_NOM of R418. -/
def Clock.reset : Clock :=
  { ticks := 0, running := false, time := 0, inc := 0x42AAAAAAB#40 }

/-- The template's scheme (R391): line-locked, two cycles of 50 Hz, 10 Hz frames. -/
def Scheme.reset : Scheme :=
  { fixed := false, cycles := 2, windowMs := 20, lineFreq := 50, rate := 10, phaseUs := 0, lean := false, shift := 0 }

/-- Log: 9 DESIGN CHOICE. -/
def LineTrack.reset : LineTrack :=
  { lost := false, lastCross := none, tracked := false, period := 4800000, outRun := 0, goodTicks := 0 }

/-- Log: 9 DESIGN CHOICE. -/
def FrameState.reset : FrameState :=
  { measuring := false, measStart := 0, win := 0, winStart := 0, winTime := 0, winEnd := 0, winEndNs := 0, held := false, frozen := false, transition := false,
    scheme := Scheme.reset, line := LineTrack.reset, reanchors := [], epoch := 0, frames := [],
    nextNominal := 0, endUnknown := true, spanStart := 0, spanTrans := false, stepMark := false, frameCount := 0 }

/-- Ideal coefficients: no offset, unit gain (used where no table value is in force). -/
def Coef.ideal : Coef := { o := 0, g := 1, k := 0 }

def ShuntSnap.reset : ShuntSnap :=
  { enabled := false, rNano := 25000, alpha := 0, beta := 0, pol := false, legMilli := 20000, gainUnc := 300, iMax := 1000 }

/-- Log: 9 DESIGN CHOICE. -/
def MetStr.reset : MetStr :=
  { qIn := 0, qOut := 0, uLin := 0, sN := 0, cntSrc := 0, current := 0, winNum := 0, en := false, ow := false, ref := false, single := false, ovrLast := false,
    wideLast := false, wideOvr := false, ovrSticky := false, owSticky := false, ovrCount := 0, tSubst := false,
    mismatch := [0, 0], wide := [], waiting := [], coef := Coef.ideal, snap := ShuntSnap.reset, wideCoef := [],
    outStart := false, owMicro := 0, owTest := false, owRun := false, owDecl := false,
    discard := none, span := [], spanWide := false, spanWideOvr := false, spanOvr := false, sNMark := 0,
    frmQueue := [], frmSpan := [], frmDU := 0, frmDS := 0, frmUEnd := 0, frmSEnd := 0, hot := Hot.none }

def OwPort.reset : OwPort :=
  { isOpen := false, lastFail := false, fails := 0, passes := 0, closing := false }

/-- R75. [Log: 9 DESIGN CHOICE] -/
def Met.reset : Met :=
  { sel := 0, strs := List.replicate 8 MetStr.reset, ports := List.replicate 9 OwPort.reset, owPeriod := 0xA, i100 := 0,
    owBase := 0, owTurn := 0, owDue := [], rrefTest := none, winLen := 0,
    netHi := 0, inHi := 0, outHi := 0, uncHi := 0, refBackup := false, refRatio := false }

def PointAcc.zero : PointAcc := { n := 0, sum := 0 }

def RestMark.zero : RestMark := { acc := List.replicate 5 PointAcc.zero, point := 0, slots := 0, minT := 0, maxT := 0, sumT := 0 }

/-- The factory coefficients of a unit at a table point (R87). [Log: 10 DESIGN CHOICE] -/
def Coef.factory (u p : Nat) : Coef :=
  { o := Config.factory u p 0, g := Config.factory u p 1, k := Config.factory u p 2 }

/-- A unit at first power-up: the refined table is the factory table (R87), no live correction (R103). -/
def TunUnit.reset (u : Nat) : TunUnit :=
  { refined := (List.range 5).map (Coef.factory u), live := { o := 0, g := 0, k := 0 }, inForce := Coef.factory u 2,
    acc := List.replicate 5 PointAcc.zero, point := 0, slots := 0, minT := 0, maxT := 0, sumT := 0, mark := RestMark.zero, slotTick := none, done := none, rejConsec := 0,
    rejTotal := 0, lastRej := 0, residual := 0, accTick := none, dieT := 0, refine := none, inBand := none,
    outBand := none, accepted := none }

/-- Log: 9 DESIGN CHOICE. -/
def Tun.reset : Tun :=
  { units := (List.range 34).map TunUnit.reset, waits := [], rrefCorr := 0, corrNext := none, ratioBad := 0, ratioGood := 0,
    ratioFiled := false, useB := false, agree := none, dieT := 2500, dirty := false }

/-- Log: 9 DESIGN CHOICE. -/
def SarConv.reset : SarConv :=
  { regular := [], regPos := 0, regGen := 0, newReg := none, inj := List.replicate 4 { chan := 0, tdac := false, mask := 0 },
    newInj := none, pend := [], run := none, runEnd := 0, busy := none, wideDue := [], hkDue := [],
    hkTasks := [], nbr := [] }

def HkAcc.zero : HkAcc := { n := 0, sum := 0, ranged := false }

def OcCfg.reset : OcCfg := { injEn := false, pairEn := false, latch := false, dir := 0, thr := 0xFF }

/-- R152. [Log: 9 DESIGN CHOICE] -/
def Sar.reset : Sar :=
  { mirror := false, wm := 0xC0, drop := 0, qHi := 0, queue := [], dropArmed := true, ocSel := 0,
    oc := List.replicate 8 OcCfg.reset, trip := 0, active := 0, pairMiss := false, pin := false, pinMin := false,
    pairLen := 0x100, pairStr := 0, capture := none, tdac := 0x200, diagFail := 0, diagPrev := 0, tdacOut := false,
    tdacSeen := [], diagAcc := [0, 0], hkAcc := List.replicate 34 HkAcc.zero, hkLatch := none,
    convs := List.replicate 2 SarConv.reset, round := 0, roundStart := 0, roundOn := false, waits := [], stv := List.replicate 8 0,
    seqWaits := [], hot := Hot.none }

/-- R192: the mode after reset is DOWN. [Log: 9 DESIGN CHOICE] -/
def RopeStr.reset : RopeStr :=
  { mode := .down, count := 0, top := 0, tieResult := .ok, tied := false, dlyWarn := false, unaddr := false, unaddrN := 0, unaddrF := 0,
    fault := false, belayRun := 0, missN := 0, missF := 0, brkA := none, brkB := none, faultMask := 0, faultMaskN := 0,
    faultMaskF := 0, sticky := 0, faultN := false, faultF := false, toneN := false, toneF := false, faultTick := none, tRing := 0, tRingNs := 0,
    crcCnt := 0, retryCnt := 0, failCnt := 0, belayMiss := 0, belayCnt := 0, seqs := [], inflight := [], txnWait := [], tie := none,
    tieAgain := false, tieEpoch := 0, locate := none, sweep := none, anchorN := 0, anchorF := 0, throughRun := 0, probeOut := false, probeTodo := [], probedN := none, probedF := none, safe := none, balTodo := [],
    ringNext := false, mons := [], rewrite := [], rawQueue := [], authTodo := [], oldAuth := [], txN := none, txF := none, silent := true, hot := Hot.none }

/-- Log: 9 DESIGN CHOICE. -/
def RopeState.reset : RopeState :=
  { sel := 0, strs := List.replicate 8 RopeStr.reset, tieCmds := [], authWaits := [], toneHeld := false, toneMin := false }

/-- The template's pins, global section and string section (R388, R391, R44, R214, R269, R270). -/
def ThPin.template : ThPin := { kind := 0, group := 0, coefA := 0, coefB := 0, coefC := 0 }

def GlobalCfg.template : GlobalCfg :=
  { frameRate := 10, windowMode := 0, windowCycles := 2, lineFreq := 50, windowMs := 20, timeSrc := 0, thrEn := 1,
    framePhase := 0, rrefCorr := 0, thrT0 := 4500, thrDt := 200, thrHyst := 300, thrDown := 10, thrUp := 100,
    suspectDt := 800, suspectTime := 100, xo := [0, 0, 0, 0], pins := List.replicate 16 ThPin.template }

def StrCfg.template : StrCfg :=
  { enable := 0, cellType := 0, monExpect := 32, shuntPol := 0, shuntTh := 0xFF, authPolicy := 0x03, ambPin := 0xFF,
    enclPin := 0xFF, shuntR := 25000, shuntAlpha := 0, shuntBeta := 0, shuntLegR := 20000, extGainUnc := 300,
    stvRatio := 800000, shuntPins := 0, busbarPins := 0, cellVMax := 36500, cellVMin := 25000, cellTMax := 5500,
    cellTMin := -2000, iChgMax := 100000000, iDisMax := 100000000, eRefRate := 250, initSoh := 10000, restI := 0,
    monOv := 38000, monUv := 20000, balMode := 0, balGateLead := 20, balAdjK := 25, balMidSoc := 500000, balStart := 200,
    balStop := 100, balDwell := 60, balHorizon := 3600, balRBleed := 330, balRSw := 200, balTMax := 5500, staleLimit := 50,
    cellsUsed := List.replicate 32 0xFFFF#16 }

def ConfigBlock.template : ConfigBlock :=
  { signed := false, configId := 0, devSerial := 0, glob := GlobalCfg.template, strs := List.replicate 8 StrCfg.template,
    sig := [] }

/-- Log: 9 DESIGN CHOICE. -/
def Cfg.reset : Cfg :=
  { live := ConfigBlock.template, block := none, stored := none, storedOld := none, images := List.replicate 8 none,
    pending := List.replicate 8 none, committed := List.replicate 8 none, dirOld := List.replicate 8 none, waiting := [], takeGen := 0, takeNext := 0 }

/-- A string block with nothing in it: a disabled string (R323). [Log: 9 DESIGN CHOICE] -/
def StrBlk.empty : StrBlk :=
  { ropeMode := 3, thrStep := 0, sflags := 0, iWin := 0, stv := 0, vSum := 0, qStr := 0, net := 0, qIn := 0, qOut := 0,
    unc := 0, socMin := 0, socMean := 0, socMax := 0, tte := 0xFFFFFFFF, eRem := 0, ttf := 0xFFFFFFFF, nStale := 0,
    nLost := 0, pChg := [0, 0, 0], pDis := [0, 0, 0], limitCell := 0xFFFF, tHot := 0 }

/-- No caps at reset, throttle step 0 (R278, R280). -/
def StrLim.reset : StrLim :=
  { step := 0, sinceStep := 0, hotTicks := 0, coolTicks := 0, caps := List.replicate 4 0xFFFFFFFF, forced := false,
    causes := 0, capsOld := none, override := none, ovFlags := 0, blk := StrBlk.empty }

def Staging.empty : Staging :=
  { epoch := 0, tSample := 0, unsync := true, bounds := [], wTicks := 0, blks := List.replicate 8 StrBlk.empty, forced := List.replicate 8 false, recs := [], cells := [], images := [], strImgs := [],
    ambs := List.replicate 8 none, acks := [] }

/-- Log: 9 DESIGN CHOICE. -/
def Est.reset : Est :=
  { live := ConfigBlock.template, images := List.replicate 8 none, auth := [], takes := [],
    cells := [], strs := List.replicate 8 StrLim.reset, staging := List.replicate 3 Staging.empty, todo := [], lost := [],
    seed := Staging.empty, firstTick := none, lastStart := 0, heldSince := false }

/-- Log: 9 DESIGN CHOICE. -/
def Trv.reset : Trv := { jobs := [], lanes := List.replicate 64 .idle, turn := none, halvings := 0 }

/-- R374: a disabled ring. -/
def Ring.reset : Ring :=
  { baseLo := 0, baseHi := 0, size := 4, vec := 0, en := false, err := false, errBit := false, mine := 0, theirs := 0, phase := true, hot := Hot.none }

/-- Log: 9 DESIGN CHOICE, 12 DEDUCED. -/
def Hif.reset : Hif :=
  { dbLo := 0, dbHi := 0, stLo := 0, stHi := 0, poll := 0x32, arb := 0x20010204#32, ringSel := 0,
    rings := List.replicate 12 Ring.reset, hostWd := 0, hostLate := false, dbErrRead := false, dbErrIdx := false,
    errCfg := false, errDbIdx := false, errFetch := false, errAlign := false, dupCnt := 0, table := [], dups := [],
    reserved := [0, 0, 0, 0], stalled := [false, false, false, false], dbBusy := false, fetching := none, turn := 1,
    turnUsed := 0, passed := [0, 0, 0, 0], arbBack := (1, 0, [0, 0, 0, 0]), startHead := [false, false, false, false], beat := 0, beatTick := 0, linkUp := false, perst := true, heartbeat := 0, readData := 0,
    writesHeld := false, held := [], stWait := false, stLast := [], msixEn := false, fnMask := false, msgAddr := List.replicate 16 0, msgData := List.replicate 16 0, vecMask := 0xFFFF#16, pba := 0, unsig := List.replicate 16 0,
    msgs := List.replicate 16 0, hot := Hot.none }

/-- R375: every event enabled and masked, mapped to vector 0, one entry a message. [Log: 9 DESIGN CHOICE, 14 DESIGN CHOICE] -/
def Evt.reset : Evt :=
  { en := 0xFFFFFFFFFFFFFFFF#64, pend := 0, mask := 0xFFFFFFFFFFFFFFFF#64, map := List.replicate 8 0,
    mod := List.replicate 16 0x10000#32, queue := [], hot := Hot.none }

/-- Log: 9 DESIGN CHOICE. -/
def Cairn.reset : Cairn :=
  { slots := [0, 0, 0], newSlots := none, lb := none, lc := none, writing := none, writeSlot := 0, writeAddr := 0,
    header := [], cut := false, abandoned := [], latestEpoch := 0, latestSlot := none, skipped := 0, alive := false, lastDone := none,
    digests := [] }

def CmpUnit.reset : CmpUnit :=
  { target := 0, period := 0, pulse := 1, fired := false, pol := false, outEn := false, inj := false, en := false,
    active := false, stepped := false, hot := Hot.none }

/-- Log: 9 DESIGN CHOICE. -/
def Tim.reset : Tim :=
  { nowHi := 0, nowFrac := 0, lat := 0, latHi := 0, latFrac := 0, ppsStamp := 0, ppsHi := 0, cmpSel := 0,
    cmps := List.replicate 4 CmpUnit.reset, inDelay := 0, inPol := false, outWidth := 0x64, ppsOut := false,
    state := .free, lead := none, lockedOnce := false, tookLead := none, suspect := false, freq := 0, slewRate := 0, slew := 0, holdFreq := 0,
    holdT := 0, holdTick := 0, ppsLock := false, ppsGood := 0, ppsBad := 0, ppsSet := false, hostSet := false, setAtPps := [], beforeStep := none }

/-- R447: domainNumber 0 for A and 1 for B, GM_CLASS 0xFF. [Log: 9 DESIGN CHOICE] -/
def PtpDom.reset (n : Nat) : PtpDom :=
  { num := n, transport := 0, delayP2p := false, profile := 0, state := .disabled, logSync := 0, syncTick := 0, gmClass := 0xFF,
    gmId := 0, offset := 0, freq := 0, path := none, syncCnt := 0, goodSyncs := 0, waitSync := none, sync := none, reqTx := none, waitPd := none,
    newPath := none, stab := none,
    master := none, masters := [], outliers := 0, d0 := 0, seqTx := 0 }

/-- Log: 9 DESIGN CHOICE. -/
def PtpPort.reset : PtpPort :=
  { macLo := 0, macHi := 0, ipv4 := 0, latRx := 0, latTx := 0, mdio := 0, mdioGo := false, mdioWr := false, stampFor := [], queue := [], late := none, ovf := 0, ovfArmed := true,
    lastTx := [] }

def Ptp.reset : Ptp :=
  { save := false, enA := true, enB := false, portMap := 0, pdStep := 0x7D0, domSel := 0,
    doms := [PtpDom.reset 0, PtpDom.reset 1], gmHi := 0, portSel := 0, ports := List.replicate 2 PtpPort.reset,
    txSel := 0, txLo := 0, txHi := 0, txInfo := 0, prxLo := 0, prxHi := 0 }

def PinState.reset : PinState :=
  { raw := 0, measured := none, published := none, valid := false, openRes := false, shortRes := false, dev := false,
    suspect := false, nosub := false, outRun := 0, devRun := 0, okRun := 0, lastGood := none }

/-- R467: WARN at 115.00 °C, ORDERLY at 130.00 °C. [Log: 9 DESIGN CHOICE, 11 PRESUMED] -/
def Thm.reset : Thm :=
  { sel := 0, pins := List.replicate 16 PinState.reset, sticky := 0, dieA := some 0, dieB := some 0, regA := 0, regB := 0,
    bothOut := 0, warn := false, warnRun := 0, coolRun := 0, orderRun := 0, orderly := false, hardSeen := false,
    peak := none, warnThr := 0x2CEC, orderThr := 0x32C8, warnStart := none, warnOut := false, hot := Hot.none }

/-- R496. Bank A holds the firmware of production, CONFIRMED; bank B is EMPTY. [Log: 8 DEDUCED, 10 DESIGN CHOICE] -/
def Pwr.reset : Pwr :=
  { state := .boot, started := false, loaded := false, mode := false, vauxMv := 0, vcoreMv := 0,
    floorMv := 0, warnThr := 0x2260, warnArmed := true, resume := true, holdCnt := 0,
    holdDone := false, holdFrom := .boot, rstCause := 0, nextCause := .powerOn, nextHard := false, porstLow := false, hardLatch := false,
    paused := false, bootFail := false, vrefth := false, xtalLost := false,
    bankA := { state := .confirmed, version := Config.factoryVersion, keyId := 0x10 },
    bankB := { state := .empty, version := 0, keyId := 0xFF }, runB := false, trial := false, fallback := false,
    restart := false, stopStep := .none, stopSub := none }

def SavedRegs.reset : SavedRegs :=
  { sys := none, ptp := none, leg := none, retired := [], frozen := [none, none, none, none] }

/-- R497; an empty flash journal and event log (first use, R491). [Log: 9 DESIGN CHOICE, 10 DESIGN CHOICE] -/
def Nvm.reset : Nvm :=
  { life := 0, setTorn := false, urgTorn := false, wearSel := 0, wear := regionSectors.map (List.replicate · 0), announced := 0,
    urgent := none, urgSecs := [], urgOld := [], urgSeq := 0, urgTick := 0, set := none, setSecs := [], setOld := [], setSeq := 0, setNext := 0,
    tune := none, tuneOld := none, errCnt := 0, secs := List.replicate 128 { erased := true, bad := false, seq := 0 }, jCur := none, jPos := 0,
    jobs := [], tail := false, tailLog := false, suspect := none, tornSet := false, tornUrg := false, logBuf := [], logLost := 0,
    logRing := [], logSeq := 0, logSec := 0, imgSecs := List.replicate 8 [], imgSecsOld := List.replicate 8 [], saves := [],
    saved := SavedRegs.reset, savedOld := SavedRegs.reset }

/-- R514: every lane in service, bank 15 the spare. [Log: 9 DESIGN CHOICE, 13 DEDUCED] -/
def Diag.reset : Diag :=
  { lanes := 0xFFFFFFFFFFFFFFFF#64, retQ := 0, retF := 0, retRope := 0, retBanks := 0, spare := some 15,
    work := [11, 12, 13, 14], copying := none, sel := 0, units := [], framesHi := 0, outDev := 0, outHost := 0,
    outSupply := 0, eccCnt := 0, eccLast := [], journalStopped := false, supplyOut := false }

/-- Log: 9 DESIGN CHOICE, 10 DESIGN CHOICE. -/
def Sec.reset : Sec :=
  { sealed := false, rngOk := false, slots := List.replicate 4 none, keySel := 0, word := 0, authCnt := 0,
    failCnt := 0 }

def Gauge.reset : Gauge :=
  { qual := 0, active := false, netStart := 0, socStart := 0, chgTicks := 0, idleTicks := 0 }

/-- R548. [Log: 9 DESIGN CHOICE] -/
def Leg.reset : Leg :=
  { frame := [], save := false, page0 := 0, pecReq := false, en := true, addr := 0x3A, lastCmd := 0, pecErr := false, badPage := false,
    wrBlock := false, page := 0, frozenSel := 0, gauges := List.replicate 4 Gauge.reset, xfers := 0, armed := false,
    gaugeCmd := 0, latches := [], lastTick := none, data := 0, pec := 0, acked := false, hot := Hot.none }

def Sys.reset : Sys := { epochHi := 0, bootCount := 0, scratch := 0, save := false }

/-- The machine right after reset, before power-good (R481): every register at its reset value, an empty flash, an
unsealed part, no host attached. [Log: 8 DEDUCED, 9 DESIGN CHOICE, 10 DESIGN CHOICE, 15 DESIGN CHOICE] -/
def State.reset : State :=
  { clk := Clock.reset, frm := FrameState.reset, met := Met.reset, tun := Tun.reset, sar := Sar.reset,
    rope := RopeState.reset, cfg := Cfg.reset, est := Est.reset, trv := Trv.reset, hif := Hif.reset, evt := Evt.reset,
    cairn := Cairn.reset, tim := Tim.reset, ptp := Ptp.reset, thm := Thm.reset, pwr := Pwr.reset, nvm := Nvm.reset,
    diag := Diag.reset, sec := Sec.reset, leg := Leg.reset, sys := Sys.reset, hostMem := [], free := 0, pending := [] }

end Sys2Proof.Machine
end

