-- ==== Sys2Proof/Machine/Ops.lean ====
section
/-! DEFINITION. The named operations every family shares: lists and sparse maps, bytes and CRCs, rounding, host memory,
the clock, events and the event log, rings, completions. -/

namespace Sys2Proof.Machine

/-- What a meaning answers. -/
abbrev Out := Host.Outcome State Fault Refusal

/-! ### Sparse maps: lists of pairs with rising keys -/

section
variable {α : Type}

def mapGet (l : List (Nat × α)) (k : Nat) : Option α := (l.find? (fun e => e.1 == k)).map Prod.snd

def mapSet (l : List (Nat × α)) (k : Nat) (v : α) : List (Nat × α) :=
  l.filter (fun e => e.1 < k) ++ (k, v) :: l.filter (fun e => k < e.1)

def mapErase (l : List (Nat × α)) (k : Nat) : List (Nat × α) := l.filter (fun e => e.1 != k)

end

/-! ### Numbers -/

/-- R7: nearest unit, ties away from zero. [Log: 7 DESIGN CHOICE] -/
def roundAway (q : Rat) : Int := if 0 ≤ q then (q + 1 / 2).floor else -((-q + 1 / 2).floor)

/-- R8: saturation at the nearest extreme. -/
def clampI (lo hi x : Int) : Int := if x < lo then lo else if hi < x then hi else x

/-- A published unsigned field of `bits` bits (R7, R8). -/
def pubU (bits : Nat) (q : Rat) : Nat := (clampI 0 (2 ^ bits - 1) (roundAway q)).toNat

/-- A published signed field of `bits` bits (R7, R8). -/
def pubS (bits : Nat) (q : Rat) : Int := clampI (-(2 ^ (bits - 1))) (2 ^ (bits - 1) - 1) (roundAway q)

/-- An integer in a signed field of `bits` bits (R8). -/
def clampS (bits : Nat) (x : Int) : Int := clampI (-(2 ^ (bits - 1))) (2 ^ (bits - 1) - 1) x

/-- 2^e. -/
def pow2 (e : Int) : Rat := if 0 ≤ e then ((2 ^ e.toNat : Nat) : Rat) else 1 / ((2 ^ (-e).toNat : Nat) : Rat)

/-- ⌊log₂ q⌋ for q > 0. -/
def floorLog2 (q : Rat) : Int :=
  let k : Int := (q.num.natAbs.log2 : Int) - (q.den.log2 : Int)
  if pow2 k ≤ q then k else k - 1

/-- The binary32 code of a value (R402, R488): nearest, ties away from zero (R7), saturating (R8). [Log: 7 DESIGN CHOICE] -/
def f32Code (q : Rat) : BitVec 32 :=
  let m : Rat := if q < 0 then -q else q
  if m = 0 then 0
  else
    let e := max (-126) (floorLog2 m)
    let man := (m / pow2 (e - 23) + 1 / 2).floor.toNat
    BitVec.ofNat 32 ((if q < 0 then 2 ^ 31 else 0) + min 0x7F7FFFFF ((e + 126).toNat * 2 ^ 23 + man))

/-- Two's complement code of an integer in `bits` bits (R5). -/
def toU (bits : Nat) (i : Int) : Nat := (i % (2 ^ bits : Int)).toNat

/-- The integer a two's complement code of `bits` bits stands for (R5). -/
def toS (bits : Nat) (n : Nat) : Int :=
  if n % 2 ^ bits < 2 ^ (bits - 1) then (n % 2 ^ bits : Nat) else (n % 2 ^ bits : Nat) - (2 ^ bits : Int)

def absR (q : Rat) : Rat := if q < 0 then -q else q
def maxR (a b : Rat) : Rat := if a < b then b else a
def minR (a b : Rat) : Rat := if b < a then b else a
def clampR (lo hi x : Rat) : Rat := if x < lo then lo else if hi < x then hi else x
def sumR (l : List Rat) : Rat := l.foldl (· + ·) 0

/-- A 32-bit counter without a stated wrap counts on and saturates (R8). -/
def sat32 (n : Nat) : Nat := min n 0xFFFFFFFF

/-- Counters of 32 and 64 bits that wrap. -/
def wrap32 (n : Nat) : Nat := n % two32
def wrap64 (n : Nat) : Nat := n % two64

/-! ### Bytes (R5: little-endian) -/

def leBytes : Nat → Nat → List Byte
  | 0, _ => []
  | n + 1, v => BitVec.ofNat 8 v :: leBytes n (v / 256)

def leNat (l : List Byte) : Nat := l.foldr (fun b acc => b.toNat + 256 * acc) 0

/-- The unsigned field of `n` bytes at an offset. -/
def fieldU (l : List Byte) (off n : Nat) : Nat := leNat ((l.drop off).take n)

/-- The signed field of `n` bytes at an offset. -/
def fieldS (l : List Byte) (off n : Nat) : Int := toS (8 * n) (fieldU l off n)

def zeros (n : Nat) : List Byte := List.replicate n 0

def sBytes (n : Nat) (i : Int) : List Byte := leBytes n (toU (8 * n) i)

/-- A list padded with zeros, or cut, to `n` bytes. -/
def fit (n : Nat) (l : List Byte) : List Byte := (l ++ zeros n).take n

def bit (b : Bool) (i : Nat) : Nat := if b then 2 ^ i else 0

/-! ### CRCs -/

def crc32Bit (c : BitVec 32) : BitVec 32 := if c.getLsbD 0 then (c >>> 1) ^^^ 0x82F63B78#32 else c >>> 1

def crc32Byte (c : BitVec 32) (b : Byte) : BitVec 32 :=
  (List.range 8).foldl (fun c _ => crc32Bit c) (c ^^^ b.setWidth 32)

/-- CRC-32C of R329. -/
def crc32c (l : List Byte) : BitVec 32 := l.foldl crc32Byte 0xFFFFFFFF#32 ^^^ 0xFFFFFFFF#32

def crc16Bit (c : BitVec 16) : BitVec 16 := if c.getLsbD 15 then (c <<< 1) ^^^ 0x1021#16 else c <<< 1

def crc16Byte (c : BitVec 16) (b : Byte) : BitVec 16 :=
  (List.range 8).foldl (fun c _ => crc16Bit c) (c ^^^ (b.setWidth 16 <<< 8))

/-- CRC-16 of R160. -/
def crc16 (l : List Byte) : BitVec 16 := l.foldl crc16Byte 0xFFFF#16

def crc8Bit (c : BitVec 8) : BitVec 8 := if c.getLsbD 7 then (c <<< 1) ^^^ 0x07#8 else c <<< 1

/-- The SMBus packet error code of R534. -/
def pec (l : List Byte) : Byte := l.foldl (fun c b => (List.range 8).foldl (fun c _ => crc8Bit c) (c ^^^ b)) 0#8

/-! ### Host memory: the device's posted writes (R330, R338) -/

/-- A byte of host memory; an unlisted byte reads 0 (the log's DESIGN CHOICE). [Log: 4 DESIGN CHOICE] -/
def Memory.read (m : List Host.Cell) (a : Nat) : Byte := (mapGet m a).getD 0

/-- The cells that a run of bytes leaves listed: those that are not 0. [Log: 4 DESIGN CHOICE] -/
def Memory.cells : Nat → List Byte → List Host.Cell
  | _, [] => []
  | a, b :: r => if b = 0 then Memory.cells (a + 1) r else (a, b) :: Memory.cells (a + 1) r

/-- One posted write. [Log: 4 DESIGN CHOICE] -/
def Memory.write (m : List Host.Cell) (a : Nat) (l : List Byte) : List Host.Cell :=
  m.filter (fun c => c.1 < a) ++ Memory.cells a l ++ m.filter (fun c => a + l.length ≤ c.1)

/-- The canonical form: addresses strictly rising, no entry that an unlisted address reads as. [Log: 4 DESIGN CHOICE] -/
def Memory.wf (m : List Host.Cell) : Bool :=
  decide (m.Pairwise (fun a b => a.1 < b.1)) && m.all (fun c => c.2 != 0)

/-- Log: 4 DESIGN CHOICE. -/
def State.dma (s : State) (a : Nat) (l : List Byte) : State := { s with hostMem := Memory.write s.hostMem a l }

/-! ### The clock (R41, R417, R421) -/

/-- 240 MHz ticks in a second. -/
abbrev tickHz : Nat := 240000000

def secTicks (n : Nat) : Nat := n * tickHz
def msTicks (n : Nat) : Nat := n * 240000
def usTicks (n : Nat) : Nat := n * 240

/-- TIME64 in ns. -/
def State.now (s : State) : Nat := s.clk.time.toNat / two32

/-- TS32 of R421. -/
def State.ts32 (s : State) : Nat := (s.now / 256) % two32

/-- R421: a is at or after b. -/
def tsReached (a b : Nat) : Bool := toU 32 ((a : Int) - (b : Int)) < 2147483648

/-- One tick of the timebase (R41, R417). -/
def tick (s : State) : State :=
  if s.clk.running then
    { s with clk := { s.clk with ticks := s.clk.ticks + 1, time := s.clk.time + s.clk.inc.setWidth 96 } }
  else s

/-- A step of TIME64 (R419); the fraction becomes 0 where `frac` says so. -/
def State.setTime (s : State) (ns : Int) (keepFrac : Bool) : State :=
  let f := if keepFrac then s.clk.time.toNat % two32 else 0
  { s with clk := { s.clk with time := BitVec.ofNat 96 (toU 64 ns * two32 + f) } }

/-! ### Power state predicates -/

def PowerState.code : PowerState → Nat
  | .boot => 0 | .run => 1 | .lean => 2 | .hold => 3 | .stopping => 4 | .halt => 5 | .off => 0

/-- The estimation array, tuning and the sweep run (R476, R464). -/
def State.live (s : State) : Bool := s.pwr.state == .run || s.pwr.state == .lean

/-- Windows count: from measurement start, in HOLD too, until step 4 of an orderly stop begins (R464, R476)
or the crystal is lost (R577). [Log: 29 DEDUCED] -/
def State.metering (s : State) : Bool :=
  s.frm.measuring && !s.pwr.xtalLost && (s.live || s.pwr.state == .hold || (s.pwr.state == .stopping && s.pwr.stopStep == .pageProgram))

/-- A string's section in force. -/
def State.strCfg (s : State) (n : Nat) : StrCfg := s.cfg.live.strs.getD n StrCfg.template

def State.enabled (s : State) (n : Nat) : Bool := (s.strCfg n).enable == 1 && n < 8

/-! ### Updates of one element -/

def State.modMet (s : State) (n : Nat) (f : MetStr → MetStr) : State := { s with met := { s.met with strs := s.met.strs.modify n f } }
def State.modRope (s : State) (n : Nat) (f : RopeStr → RopeStr) : State :=
  { s with rope := { s.rope with strs := s.rope.strs.modify n f } }
def State.modTun (s : State) (u : Nat) (f : TunUnit → TunUnit) : State := { s with tun := { s.tun with units := s.tun.units.modify u f } }
def State.modConv (s : State) (c : Nat) (f : SarConv → SarConv) : State := { s with sar := { s.sar with convs := s.sar.convs.modify c f } }
def State.modLim (s : State) (n : Nat) (f : StrLim → StrLim) : State := { s with est := { s.est with strs := s.est.strs.modify n f } }
def State.modDom (s : State) (d : Nat) (f : PtpDom → PtpDom) : State := { s with ptp := { s.ptp with doms := s.ptp.doms.modify d f } }
def State.modPort (s : State) (p : Nat) (f : PtpPort → PtpPort) : State := { s with ptp := { s.ptp with ports := s.ptp.ports.modify p f } }
def State.modRing (s : State) (n : Nat) (f : Ring → Ring) : State := { s with hif := { s.hif with rings := s.hif.rings.modify n f } }

def State.metStr (s : State) (n : Nat) : MetStr := s.met.strs.getD n MetStr.reset
def State.ropeStr (s : State) (n : Nat) : RopeStr := s.rope.strs.getD n RopeStr.reset
def State.tunUnit (s : State) (u : Nat) : TunUnit := s.tun.units.getD u (TunUnit.reset u)
def State.conv (s : State) (c : Nat) : SarConv := s.sar.convs.getD c SarConv.reset
def State.lim (s : State) (n : Nat) : StrLim := s.est.strs.getD n StrLim.reset
def State.dom (s : State) (d : Nat) : PtpDom := s.ptp.doms.getD d (PtpDom.reset d)
def State.port (s : State) (p : Nat) : PtpPort := s.ptp.ports.getD p PtpPort.reset
def State.ring (s : State) (n : Nat) : Ring := s.hif.rings.getD n Ring.reset
def State.cell (s : State) (g : Nat) : Option Cell := mapGet s.est.cells g
def State.setCell (s : State) (g : Nat) (c : Cell) : State := { s with est := { s.est with cells := mapSet s.est.cells g c } }
def State.modCell (s : State) (g : Nat) (f : Cell → Cell) : State :=
  match s.cell g with
  | some c => s.setCell g (f c)
  | none => s

/-- The frame that the array works on: the oldest whose window has closed (R30). -/
def State.estFrame (s : State) : Option FrameRec := s.frm.frames.find? (fun f => f.closed && !f.updated)

def State.modFrame (epoch : Nat) (f : FrameRec → FrameRec) (s : State) : State :=
  { s with frm := { s.frm with frames := s.frm.frames.map (fun x => if x.epoch == epoch then f x else x) } }

/-- Global index of a cell (R10). -/
def cellIndex (str mon c : Nat) : Nat := 512 * str + 16 * (mon - 1) + c
def cellStr (g : Nat) : Nat := g / 512
def cellMon (g : Nat) : Nat := g % 512 / 16 + 1
def cellPos (g : Nat) : Nat := g % 16

/-- The position lies inside the cells-used mask of an enabled string (R11, R249). [Log: 79 DEDUCED] -/
def State.used (s : State) (g : Nat) : Bool :=
  s.enabled (cellStr g) && ((s.strCfg (cellStr g)).cellsUsed.getD (cellMon g - 1) 0).getLsbD (cellPos g)

/-! ### The event log (R512, R513) -/

/-- Events that the log records whatever EVT_EN holds. -/
def loggedEvents : List Nat := [38, 39, 42, 47, 48, 49, 52, 60, 61, 62]

/-- INFO of a code for which R512 states none. -/
def openInfo (code : Nat) : Nat := (Config.logInfo code).toNat

def mkLog (s : State) (code target index info : Nat) : LogRec :=
  { seq := wrap32 (s.nvm.logSeq + 1), code, target,
    index := if target = 0xFF then (Config.logIndex code).toNat else index, time := s.now, epoch := s.frm.epoch, info,
    boot := s.sys.bootCount % two16, torn := false }

/-- Log: 34 DESIGN CHOICE. -/
def pushLog (code target index info : Nat) (s : State) : State :=
  { s with nvm := { s.nvm with logBuf := s.nvm.logBuf ++ [mkLog s code target index info], logSeq := wrap32 (s.nvm.logSeq + 1) } }

/-- A record waits among at most 64; a dropped one is counted, and code 0x48 reports the count before the next (R512). [Log: 20 DESIGN CHOICE] -/
def logAdd (code target index info : Nat) (s : State) : State :=
  if s.nvm.logBuf.length < 64 then
    if s.nvm.logLost = 0 then pushLog code target index info s
    else
      let s' := pushLog 0x48 0xFF 0 s.nvm.logLost s
      let s' := { s' with nvm := { s'.nvm with logLost := 0 } }
      if s'.nvm.logBuf.length < 64 then pushLog code target index info s'
      else { s' with nvm := { s'.nvm with logLost := 1 } }
  else { s with nvm := { s.nvm with logLost := s.nvm.logLost + 1 } }

/-! ### W1C bits (R553) -/

/-- Bits of a W1C register are set now. [Log: 2 DESIGN CHOICE] -/
def Hot.mark (now bits : Nat) (h : Hot) : Hot := { tick := now, bits := (if h.tick = now then h.bits else 0) ||| bits }

/-- What a write to a W1C register clears: no bit that was set on this tick (R553). [Log: 2 DESIGN CHOICE] -/
def Hot.clears (now : Nat) (h : Hot) (v : Reg) : Reg := if h.tick = now then v &&& ~~~(BitVec.ofNat 32 h.bits) else v

/-! ### Events (R365, R366) -/

/-- An occurrence joins the queued entry of its source, or queues one (R365). [Log: 64 DEDUCED] -/
def queueEvent (e info : Nat) (s : State) : List EvEntry :=
  if s.evt.queue.any (fun q => q.event == e) then
    s.evt.queue.map (fun q => if q.event == e then { q with count := min 0xFFFF (q.count + 1), last := info } else q)
  else s.evt.queue ++ [{ event := e, count := 1, info, time := s.now, epoch := s.frm.epoch, last := info }]

/-- The event is recorded: EVT_PEND, and an entry while the EQ is enabled (R365). -/
def recordEvent (e info : Nat) (s : State) : State :=
  if s.evt.en.getLsbD e then
    { s with evt := { s.evt with pend := s.evt.pend ||| (1#64 <<< e), hot := s.evt.hot.mark s.clk.ticks (2 ^ e), queue := if (s.ring 8).en then queueEvent e info s else s.evt.queue } }
  else s

/-- Event EVe occurs with its INFO. -/
def raise (e info : Nat) (s : State) : State :=
  recordEvent e info
    (if loggedEvents.contains e then
      (if e == 38 || e == 39 || e == 60 then logAdd e (info / 256 % 256) (info % 256) info s else logAdd e 0xFF 0 info s)
     else s)

/-- Bits of HIF_ERR are set: CFG, DB_IDX, FETCH, ALIGN from bit 0 on (R374). -/
def hifErr (bits : Nat) (s : State) : State :=
  { s with hif := { s.hif with errCfg := s.hif.errCfg || bits.testBit 0, errDbIdx := s.hif.errDbIdx || bits.testBit 1
                               errFetch := s.hif.errFetch || bits.testBit 2, errAlign := s.hif.errAlign || bits.testBit 3
                               hot := s.hif.hot.mark s.clk.ticks bits } }

/-! ### MSI-X (R367 to R369) -/

def modCount (r : Reg) : Nat := max 1 ((r.toNat / 65536) % 256)
def modTime (r : Reg) : Nat := r.toNat % 65536

/-- No message of the vector is sent (R369). [Log: 14 DESIGN CHOICE] -/
def State.vecMasked (s : State) (v : Nat) : Bool := s.hif.vecMask.getLsbD v || s.hif.fnMask || !s.hif.msixEn

/-- The message of a vector falls due: sent, or remembered in the PBA while the vector is masked (R369). [Log: 14 DESIGN CHOICE, 78 DESIGN CHOICE] -/
def sendMsg (v : Nat) (s : State) : State :=
  if s.vecMasked v then
    { s with hif := { s.hif with pba := s.hif.pba ||| (1#16 <<< v) } }
  else
    { s with hif := { s.hif with msgs := s.hif.msgs.modify v (fun n => wrap32 (n + 1)), unsig := s.hif.unsig.set v 0,
                                 pba := s.hif.pba &&& ~~~(1#16 <<< v) } }

/-- The message of a vector as soon as what is unsignalled on it reaches COUNT, or has no delay (R368). -/
def moderate (v : Nat) (s : State) : State :=
  let m := s.evt.mod.getD v 0
  if modTime m = 0 || modCount m ≤ s.hif.unsig.getD v 0 then sendMsg v s else s

/-- An entry written becomes unsignalled on its vector; the message follows under R368. -/
def signal (v : Nat) (s : State) : State :=
  moderate v { s with hif := { s.hif with unsig := s.hif.unsig.modify v (· + 1) } }

/-! ### Rings (R341 to R346) -/

def Ring.len (r : Ring) : Nat := 2 ^ r.size
def Ring.base (r : Ring) : Nat := r.baseHi * two32 + r.baseLo

/-- The ring goes into error (R349, R371). -/
def Ring.fail (now : Nat) (r : Ring) : Ring := { r with err := true, errBit := true, hot := r.hot.mark now 4 }

/-- R343. -/
def Ring.full (r : Ring) : Bool := (r.mine + 1) % r.len == r.theirs % r.len

/-- Entries produced by the device and not yet consumed. -/
def Ring.used (r : Ring) : Nat := (r.mine + r.len - r.theirs % r.len) % r.len

/-- The index advances and the phase inverts at each wrap (R342, R344). -/
def Ring.advance (r : Ring) : Ring :=
  { r with mine := (r.mine + 1) % r.len, phase := if (r.mine + 1) % r.len = 0 then !r.phase else r.phase }

/-- Entry sizes of R341. -/
def entrySize (n : Nat) : Nat := if n < 4 then 64 else if n = 9 then 8 else 32

/-- One entry of a device-produced ring, written as one posted write. -/
def postEntry (n : Nat) (bytes : List Byte) (s : State) : State :=
  let r := s.ring n
  (s.dma (r.base + entrySize n * r.mine) bytes).modRing n Ring.advance

/-! ### Completions (R353, R358, R362) -/

abbrev stOK := 0x0000
abbrev stDuplicate := 0x0001
abbrev stAborted := 0x0002
abbrev stBadOpcode := 0x0010
abbrev stBadField := 0x0011
abbrev stBadState := 0x0012
abbrev stBusy := 0x0013
abbrev stAuthFail := 0x0020
abbrev stSigFail := 0x0021
abbrev stRopeTimeout := 0x0030
abbrev stRopeCrc := 0x0031
abbrev stNvmError := 0x0040
abbrev stDmaError := 0x0050
abbrev stTimeout := 0x0060
abbrev stSealed := 0x0070

/-- A completion entry (R353). -/
def completionBytes (s : State) (sub : Submission) (op status orig : Nat) (result : List Byte) (merged : Bool) : List Byte :=
  leBytes 2 sub.tag ++ leBytes 2 status ++ leBytes 4 sub.reqId ++ leBytes 2 (s.ring sub.sq).mine ++
    [BitVec.ofNat 8 sub.sq, BitVec.ofNat 8 op] ++ fit 16 result ++ leBytes 2 orig ++
    [0, BitVec.ofNat 8 (bit (s.ring (4 + sub.sq)).phase 0 + bit merged 1)]

/-- The completion is posted while its CQ can be written; its vector is signalled and the doorbell is read (R348, R367). [Log: 78 DESIGN CHOICE] -/
def postCompletion (sub : Submission) (op status orig : Nat) (result : List Byte) (merged : Bool) (s : State) : State :=
  let cq := s.ring (4 + sub.sq)
  if cq.en && !cq.err then
    let s := postEntry (4 + sub.sq) (completionBytes s sub op status orig result merged) s
    let s := signal cq.vec s
    { s with hif := { s.hif with dbBusy := true } }
  else s

/-- The duplicate memory holds the last 512 completions of each SQ (R362). [Log: 65 DEDUCED] -/
def rememberDup (d : DupMem) (l : List DupMem) : List DupMem :=
  if (l.filter (fun e => e.sq == d.sq)).length < 512 then l ++ [d]
  else l.eraseP (fun e => e.sq == d.sq) ++ [d]

/-- The table entry that a started command holds (R359). -/
def tableEntry (op : Nat) (sub : Submission) (s : State) : Option TableEntry :=
  s.hif.table.find? (fun e => e.started && e.opcode == op && e.sub == sub)

/-- The command is in the table and has not started: it waits for its turn and for barriers (R360, R361). One that needs host
memory waits while the root complex does not accept posted writes (R373). -/
def State.cmdWaits (s : State) (op : Nat) (sub : Submission) : Bool :=
  ((tableEntry op sub s).isNone && s.hif.table.any (fun e => !e.started && e.opcode == op && e.sub == sub)) ||
    (s.hif.writesHeld && sub.bufLen != 0)

/-- A completion is posted: the command's entry and its reservation are freed, and the completion is remembered and written
unless the host interface has discarded it (R340, R346, R359, R362). -/
def finishCmd (op : Nat) (sub : Submission) (status : Nat) (result : List Byte) (s : State) : State :=
  let e := tableEntry op sub s
  let merged := e.any (·.merged)
  let orphan := e.any (·.orphan)
  let live := (s.ring sub.sq).en && (s.ring (4 + sub.sq)).en
  let s := match e with
    | some t => { s with hif := { s.hif with table := s.hif.table.erase t, reserved := if t.orphan then s.hif.reserved else s.hif.reserved.modify sub.sq (· - 1) } }
    | none => s
  if orphan then s
  else
    let s := if sub.reqId != 0 && live then
        { s with hif := { s.hif with dups := rememberDup { sq := sub.sq, reqId := sub.reqId, opcode := op, status, result := fit 16 result } s.hif.dups } }
      else s
    postCompletion sub op status 0 result merged s

/-- A command completes. While the root complex does not accept posted writes its completion waits, and with it the table entry
and the reservation (R359, R373). [Log: 5 DEDUCED] -/
def complete (op : Nat) (sub : Submission) (status : Nat) (result : List Byte) (s : State) : State :=
  if s.hif.writesHeld then { s with hif := { s.hif with held := s.hif.held ++ [{ opcode := op, sub, status, result }] } }
  else finishCmd op sub status result s

/-! ### Boolean vectors -/

def setBit {n : Nat} (v : BitVec n) (i : Nat) (b : Bool) : BitVec n :=
  if b then v ||| (1#n <<< i) else v &&& ~~~(1#n <<< i)

/-- The next free value's number (the model's own counter). [Log: 15 DESIGN CHOICE] -/
def State.draw (s : State) : Nat × State := (s.free, { s with free := s.free + 1 })

end Sys2Proof.Machine
end

