-- ==== Sys2Proof/Machine/Flags.lean ====
section
/-! DEFINITION. Flag and status words: fault causes, DFLAGS, HFLAGS, SFLAGS, cell flags, the status block. -/

namespace Sys2Proof.Machine

/-! ### Units in service (R384, R404, R506) -/

/-- The unit is retired. -/
def State.retired (s : State) (u : UnitId) : Bool :=
  match u.target with
  | 0 => s.diag.retQ.getLsbD u.index
  | 1 => s.diag.retF.getLsbD u.index
  | 2 => s.diag.retRope.getLsbD u.index
  | 3 => u.index < 64 && !s.diag.lanes.getLsbD u.index
  | 4 => s.diag.retBanks.getLsbD u.index
  | _ => false

/-- The unit's self-test history, if any report or test has named it. -/
def State.unitDiag (s : State) (u : UnitId) : UnitDiag :=
  (s.diag.units.find? (fun d => d.unit == u)).getD
    { unit := u, testing := false, running := false, last := 0, lastFault := false, transTotal := 0, trans1h := 0,
      detail := 0, report := false, cmds := [] }

def State.setUnitDiag (s : State) (d : UnitDiag) : State :=
  { s with diag := { s.diag with units :=
      (if s.diag.units.any (fun e => e.unit == d.unit) then s.diag.units.map (fun e => if e.unit == d.unit then d else e)
       else s.diag.units ++ [d]) } }

/-- Model lanes in service. -/
def State.lanesUp (s : State) : Nat := ((List.range 64).filter (fun i => s.diag.lanes.getLsbD i)).length

/-- Lanes that do work: in service and not withheld for a self-test (R502, R515). -/
def State.lanesFree (s : State) : Nat :=
  ((List.range 64).filter (fun i => s.diag.lanes.getLsbD i && !(s.unitDiag { target := 3, index := i }).testing)).length

/-! ### The lanes' work (R35, R305) -/

/-- Frame work is pending: a frame window has closed and its estimation is not complete (R26, R473). -/
def State.frameWork (s : State) : Bool := s.frm.frames.any (fun f => f.closed && !f.updated)

/-- A lane that may work: in service and not withheld for a self-test (R502). -/
def State.laneUp (s : State) (i : Nat) : Bool := s.diag.lanes.getLsbD i && !(s.unitDiag { target := 3, index := i }).testing

/-- Running jobs that take chunks, in order of admission: none outside RUN (R313, R476), none that has ended. -/
def State.chunkJobs (s : State) : List Nat :=
  if s.pwr.state == .run then
    (s.trv.jobs.filter (fun j => j.running && j.endReason.isNone)).map (·.desc.jobId)
  else []

/-- Lanes that chunks may hold at once: all that are up, halved under R461, none after the fourth halving. [Log: 40 DEDUCED] -/
def State.chunkShare (s : State) : Nat :=
  if 5 ≤ s.trv.halvings then 0 else ((List.range 64).filter s.laneUp).length / 2 ^ s.trv.halvings

/-- The job after `last` in turn, in order of admission; the first where there is none. -/
def nextInTurn (last : Option Nat) (ids : List Nat) : Option Nat :=
  match ids.dropWhile (fun i => some i != last) with
  | _ :: j :: _ => some j
  | _ => ids.head?

def LaneUse.isChunk : LaneUse → Bool
  | .chunk _ => true
  | _ => false

/-- One free lane takes the work that waits: frame work before every chunk, else a chunk of the next job in turn. -/
def dealLane (s : State) (i : Nat) : State :=
  if s.trv.lanes.getD i .idle != .idle || !s.laneUp i then s
  else if s.live && s.frameWork then { s with trv := { s.trv with lanes := s.trv.lanes.set i .frame } }
  else
    match nextInTurn s.trv.turn s.chunkJobs with
    | some j =>
      if (s.trv.lanes.filter LaneUse.isChunk).length < s.chunkShare then
        { s with trv := { s.trv with lanes := s.trv.lanes.set i (.chunk j), turn := some j } }
      else s
    | none => s

/-- What a lane keeps: its chunk to the chunk's end, its frame work while there is any; a lane out of service, or an
array that has stopped (R476), keeps nothing, and the chunk is replayed on another lane (R314). -/
def keepWork (s : State) (i : Nat) : LaneUse :=
  if !s.live || !s.laneUp i then .idle
  else match s.trv.lanes.getD i .idle with
    | .frame => if s.frameWork then .frame else .idle
    | u => u

/-- Every free lane takes work (R35, R305). -/
def dealLanes (s : State) : State :=
  (List.range 64).foldl dealLane { s with trv := { s.trv with lanes := (List.range 64).map (keepWork s) } }

/-! ### Power states and VCORE (R36, R472, R496) -/

/-- VCORE in force and the lowest that the schedule allows, in mV: in RUN 0.80 V, or a free value up to 0.95 V while
traverse work is queued and WARN does not hold (R36, R461); in LEAN 0.80 V while frame work is pending, else 0.70 V. [Log: 56 DEDUCED] -/
def vcoreOf (s : State) (choice : Nat) : Nat × Nat :=
  match s.pwr.state with
  | .run => (if s.trv.jobs.isEmpty || s.thm.warn then 800 else 800 + Config.vcoreChoice choice % 151, 800)
  | .lean => if s.frameWork then (800, 800) else (700, 700)
  | .hold | .halt => (650, 650)
  | .boot | .stopping => (800, 800)
  | .off => (0, 0)

/-- The power manager sets VCORE for the work there is. [Log: 56 DEDUCED] -/
def settleVcore (s : State) : State :=
  let (k, s) := s.draw
  { s with pwr := { s.pwr with vcoreMv := (vcoreOf s k).1, floorMv := (vcoreOf s k).2 } }

/-- Work has come or gone: lanes and VCORE follow. -/
def settleWork (s : State) : State := settleVcore (dealLanes s)

/-- A unit's test or service has changed: where it is a lane, the lanes follow. -/
def refreshLane (u : UnitId) (s : State) : State := if u.target == 3 then dealLanes s else s

/-- The device enters a power state. [Log: 56 DEDUCED] -/
def enterPower (p : PowerState) (s : State) : State := settleVcore { s with pwr := { s.pwr with state := p } }

/-! ### FAULT_N (R558, R559) -/

/-- Bits [5:0] of SYS_FAULT. -/
def sysFault (s : State) : Nat :=
  bit s.rope.toneHeld 1 + bit (s.diag.units.any (·.lastFault)) 2 + bit s.diag.journalStopped 3 + bit s.pwr.bootFail 4 +
    bit (s.pwr.state == .halt) 5

/-- FAULT_N is asserted (R559): a fault cause, PORST_N low, a HARD cut, or before step 1 of the boot. -/
def faultN (s : State) : Bool := sysFault s != 0 || s.pwr.porstLow || s.pwr.hardLatch || !s.pwr.started

/-! ### The two-copy store of saved registers (R447, R548, R560, R561) -/

/-- The registers of R560 as stored: OW PERIOD and I100, WARN, ORDERLY, VAUX_WARN, RESUME, LIFE. -/
def sysValues (s : State) : List Nat :=
  [s.met.owPeriod, s.met.i100.toNat, toU 16 s.thm.warnThr, toU 16 s.thm.orderThr, s.pwr.warnThr, bit s.pwr.resume 0, s.nvm.life]

/-- A new value of the two-copy store: what it held becomes the older copy (R447, R506). -/
def State.storeSaved (f : SavedRegs → SavedRegs) (s : State) : State :=
  { s with nvm := { s.nvm with saved := f s.nvm.saved, savedOld := s.nvm.saved } }

/-- LEG_CTRL without SAVE (R548). -/
def legCtrl (s : State) : Nat := s.leg.addr + bit s.leg.en 9 + bit s.leg.pecReq 10 + 2048 * s.leg.page0

def saveSys (s : State) : State := s.storeSaved (fun r => { r with sys := some (sysValues s) })
def saveLeg (s : State) : State := s.storeSaved (fun r => { r with leg := some (legCtrl s) })

/-- The saved registers of the PTP block (R447). -/
def ptpValues (s : State) : List Nat :=
  [bit s.ptp.enA 0, bit s.ptp.enB 0, s.ptp.portMap, s.ptp.pdStep] ++
    s.ptp.doms.flatMap (fun d => [d.num, d.transport, bit d.delayP2p 0, d.profile]) ++
    s.ptp.ports.flatMap (fun p => [p.macLo.toNat, p.macHi, p.ipv4.toNat, p.latRx, p.latTx])

def savePtp (s : State) : State := s.storeSaved (fun r => { r with ptp := some (ptpValues s) })

/-! ### BAR0 in BOOT and HALT (R562, R563) -/

/-- The block at an offset answers with live values; otherwise it reads its reset values and ignores writes (R562). [Log: 57 DEDUCED] -/
def State.blockLive (s : State) (off : Nat) : Bool :=
  s.pwr.loaded || off < 0xC00 || (0x2400 ≤ off && off < 0x2800) || (s.pwr.bootFail && s.clk.running && 0x3400 ≤ off && off < 0x3800)

/-- A write takes effect (R562, R563). -/
def State.takesWrite (s : State) (off : Nat) : Bool :=
  s.blockLive off && (s.pwr.state != .halt || (0x400 ≤ off && off < 0xC00) || off == 0x28)

/-! ### Time flags (R427) -/

/-- Log: 44 DEDUCED. -/
def State.unsync (s : State) : Bool := s.tim.state == .free
def State.holdover (s : State) : Bool := s.tim.state == .hold

/-! ### Host interface words -/

def cmdsInTable (s : State) : Nat := s.hif.table.length
def tableFull (s : State) : Bool := 128 ≤ s.hif.table.length
def jobsRunning (s : State) : Nat := (s.trv.jobs.filter (·.running)).length

/-- DB_ERR: the last doorbell read failed, or held a bad index (R349). -/
def dbErr (s : State) : Bool := s.hif.dbErrRead || s.hif.dbErrIdx

/-- DFLAGS of R350. -/
def dflags (s : State) : Nat :=
  bit s.sec.sealed 0 + bit s.unsync 1 + bit (dbErr s) 2 + bit (tableFull s) 3 + bit s.hif.hostLate 4

/-- The status block (R350) without HEARTBEAT, T_WRITE and LAST_EPOCH: what R351 compares. -/
def statusFields (s : State) : List Byte :=
  leBytes 8 s.cairn.latestEpoch ++ [BitVec.ofNat 8 (s.cairn.latestSlot.getD 0xFF), BitVec.ofNat 8 s.pwr.state.code] ++
    leBytes 2 (dflags s) ++ (List.range 4).flatMap (fun n => leBytes 2 (s.ring n).mine) ++ leBytes 2 (s.ring 9).mine ++
    leBytes 2 (s.ring 10).mine ++ [BitVec.ofNat 8 (cmdsInTable s), BitVec.ofNat 8 (jobsRunning s)]

/-- The 64 bytes of the status block with the heartbeat they carry. -/
def statusBytes (s : State) (beat : Nat) : List Byte :=
  (statusFields s).take 12 ++ leBytes 4 beat ++ (statusFields s).drop 12 ++ zeros 2 ++ leBytes 8 s.now ++
    leBytes 8 s.frm.epoch ++ zeros 16

def State.stAddr (s : State) : Nat := s.hif.stHi.toNat * two32 + s.hif.stLo.toNat
def State.dbAddr (s : State) : Nat := s.hif.dbHi.toNat * two32 + s.hif.dbLo.toNat

/-- The status block is written with one posted write while its address is set and the link is up (R350, R351); it waits while
the root complex does not accept posted writes (R373). -/
def writeStatus (s : State) : State :=
  if s.hif.writesHeld then { s with hif := { s.hif with stWait := true } }
  else if s.stAddr != 0 && s.hif.linkUp then
    let beat := wrap32 (s.hif.heartbeat + 1)
    let s' := s.dma s.stAddr (statusBytes s beat)
    { s' with hif := { s'.hif with heartbeat := beat, stLast := statusFields s } }
  else s

/-- What a device row brings from the host shows that the root complex accepts posted writes again: what waits is written, in
order (R373). [Log: 64 DEDUCED] -/
def drainWrites (s : State) : State :=
  if s.hif.writesHeld then
    let l := s.hif.held
    let w := s.hif.stWait
    let s := { s with hif := { s.hif with writesHeld := false, held := [], stWait := false } }
    let s := l.foldl (fun s d => finishCmd d.opcode d.sub d.status d.result s) s
    if w then writeStatus s else s
  else s

/-! ### Cairn words -/

/-- HFLAGS of R322. -/
def hflags (f : FrameRec) (prevSkipped : Bool) : Nat :=
  bit f.winHold 0 + bit f.timeStep 1 + bit f.unsync 2 + bit f.suspect 3 + bit f.transition 4 + bit f.lean 5 +
    bit f.doubled 6 + bit prevSkipped 7

/-- SFLAGS of R324, in bit order. -/
def sflagsWord (enabled wide wideOvr ovr ow ref tsub forced tone tie single : Bool) : Nat :=
  bit enabled 0 + bit wide 1 + bit wideOvr 2 + bit ovr 3 + bit ow 4 + bit ref 5 + bit tsub 6 + bit forced 7 + bit tone 8 +
    bit tie 9 + bit single 10

/-- The flags of a cell record (R327), in bit order. -/
structure CellFlags where
  valid : Bool
  stale : Bool
  lost : Bool
  cold : Bool
  rest : Bool
  balAdj : Bool
  tSubst : Bool
  diverge : Bool
  authFail : Bool
  wide : Bool
  ov : Bool
  uv : Bool
  ot : Bool
  ut : Bool
  ecm : Bool
  unused : Bool
  deriving DecidableEq, Repr

def CellFlags.word (f : CellFlags) : BitVec 32 :=
  BitVec.ofNat 32 (bit f.valid 0 + bit f.stale 1 + bit f.lost 2 + bit f.cold 3 + bit f.rest 4 + bit f.balAdj 5 + bit f.tSubst 6 +
    bit f.diverge 7 + bit f.authFail 8 + bit f.wide 9 + bit f.ov 10 + bit f.uv 11 + bit f.ot 12 + bit f.ut 13 + bit f.ecm 14 +
    bit f.unused 15)

end Sys2Proof.Machine
end

