-- ==== Sys2Proof/Machine/ImageTables.lean ====
section
/-! DEFINITION. Parameter images (R230, R241, R242): header, tables and their interpolation, the equilibrium curve, its
inversion and its slope, the end points, and the learned inventory that gives a capacity. -/

namespace Sys2Proof.Machine

/-! ### Image headers (R241) -/

def imgKind (i : Image) : Kind := if fieldU i.bytes 6 1 = 0 then .physics else .ecm
def imgLen (i : Image) : Nat := fieldU i.bytes 8 4
def imgChem (i : Image) : Nat := fieldU i.bytes 12 4
def imgRev (i : Image) : Nat := fieldU i.bytes 16 4
/-- Q_NOM in mAh. -/
def imgQNom (i : Image) : Nat := fieldU i.bytes 20 4
/-- V_OCV_0 and V_OCV_100 in V. -/
def imgV0 (i : Image) : Rat := (fieldU i.bytes 24 2 : Rat) / 10000
def imgV100 (i : Image) : Rat := (fieldU i.bytes 26 2 : Rat) / 10000
/-- Log: 17 DESIGN CHOICE. -/
def imgSects (i : Image) : Nat := fieldU i.bytes 32 2

/-- The directory: SECT_ID, reserved, OFFSET, LENGTH of each section. [Log: 17 DESIGN CHOICE] -/
def imgDir (i : Image) : List (Nat × Nat × Nat × Nat) :=
  (List.range (imgSects i)).map (fun k =>
    let o := 64 + 12 * k
    (fieldU i.bytes o 2, fieldU i.bytes (o + 2) 2, fieldU i.bytes (o + 4) 4, fieldU i.bytes (o + 8) 4))

/-- OFFSET of a section. -/
def sectOffset (i : Image) (sect : Nat) : Nat := (((imgDir i).find? (fun e => e.1 == sect)).map (·.2.2.1)).getD 0

/-- Q_NOM in C. -/
def qNom (i : Image) : Rat := (imgQNom i : Rat) * 36 / 10

/-- Log: 21 PRESUMED. -/
def celsius (k : Rat) : Rat := k - 27315 / 100
/-- Log: 21 PRESUMED. -/
def kelvin (c : Rat) : Rat := c + 27315 / 100

/-! ### Entries of the tables (R242) -/

/-- The k-th value of a section in SI units. The OCV and ENTROPY tables of a PHYSICS image are s32 in µV and nV/K, the
negative electrode's 257 points before the positive's; the format of every other section is not given. [Log: 17 DESIGN CHOICE] -/
def Image.entry (i : Image) (sect k : Nat) : Rat :=
  if imgKind i == .physics && sect == 1 then (fieldS i.bytes (sectOffset i 1 + 4 * k) 4 : Rat) / 1000000
  else if imgKind i == .physics && sect == 2 then (fieldS i.bytes (sectOffset i 2 + 4 * k) 4 : Rat) / 1000000000
  else Config.imageEntry i.bytes sect k

/-- Where a coordinate lies on a grid of `n` equally spaced points from 0 to 1: the point below and the share of the next
one; outside the grid the nearest point (R242). [Log: 17 DESIGN CHOICE] -/
def gridAt (n : Nat) (x : Rat) : Nat × Rat :=
  let p := clampR 0 1 x * ((n - 1 : Nat) : Rat)
  let k := min (n - 2) p.floor.toNat
  (k, p - (k : Rat))

/-- The temperature grid of R242 in °C. -/
def tempGrid : List Rat := [-20, 0, 15, 25, 45, 60]

/-- Where a temperature in °C lies on it, held outside. -/
def tempAt (t : Rat) : Nat × Rat :=
  let u := clampR (-20) 60 t
  let k := min 4 ((tempGrid.filter (fun g => g ≤ u)).length - 1)
  let a := tempGrid.getD k 0
  (k, (u - a) / (tempGrid.getD (k + 1) 0 - a))

/-- Linear interpolation. -/
def mixR (w a b : Rat) : Rat := a + w * (b - a)

/-- A table over `n` points from entry `base` on. -/
def Image.curve (i : Image) (sect base n : Nat) (x : Rat) : Rat :=
  let p := gridAt n x
  mixR p.2 (i.entry sect (base + p.1)) (i.entry sect (base + p.1 + 1))

/-- Slope of such a table at a coordinate, that of the segment above at a grid point; 0 outside the grid, where the table
holds. [Log: 17 DESIGN CHOICE] -/
def Image.curveSlope (i : Image) (sect base n : Nat) (x : Rat) : Rat :=
  if x < 0 || 1 < x then 0
  else
    let k := (gridAt n x).1
    (i.entry sect (base + k + 1) - i.entry sect (base + k)) * ((n - 1 : Nat) : Rat)

/-- A table over the six temperatures. -/
def Image.tempCurve (i : Image) (sect base : Nat) (t : Rat) : Rat :=
  let p := tempAt t
  mixR p.2 (i.entry sect (base + p.1)) (i.entry sect (base + p.1 + 1))

/-- A table over `n` points × six temperatures, the temperatures of a point together. -/
def Image.surface (i : Image) (sect base n : Nat) (x t : Rat) : Rat :=
  let p := gridAt n x
  mixR p.2 (i.tempCurve sect (base + 6 * p.1) t) (i.tempCurve sect (base + 6 * (p.1 + 1)) t)

/-- Its slope along the points. -/
def Image.surfaceSlope (i : Image) (sect base n : Nat) (x t : Rat) : Rat :=
  if x < 0 || 1 < x then 0
  else
    let k := (gridAt n x).1
    (i.tempCurve sect (base + 6 * (k + 1)) t - i.tempCurve sect (base + 6 * k) t) * ((n - 1 : Nat) : Rat)

/-! ### The sections (R242) -/

/-- U_e(θ) at 298.15 K and ∂U_e/∂T: 0 the negative, 1 the positive electrode. -/
def Image.ocv (i : Image) (e : Nat) (theta : Rat) : Rat := i.curve 1 (257 * e) 257 theta
def Image.entropy (i : Image) (e : Nat) (theta : Rat) : Rat := i.curve 2 (257 * e) 257 theta
/-- OCV(z, T) of an ECM image, T in °C. -/
def Image.ocvEcm (i : Image) (z t : Rat) : Rat := i.surface 1 0 101 z t
/-- τ_e,ref, E_e and element (r, c) of A of an electrode, and ν_j (R227). -/
def Image.tauRef (i : Image) (e : Nat) : Rat := i.entry 3 e
def Image.actEnergy (i : Image) (e : Nat) : Rat := i.entry 3 (2 + e)
def Image.diffusion (i : Image) (e r c : Nat) : Rat := i.entry 3 (4 + 9 * e + 3 * r + c)
def nuOf (i : Image) : List Rat := [i.entry 3 22, i.entry 3 23, i.entry 3 24]
/-- I_0,e over θ and T. -/
def Image.exchange (i : Image) (e : Nat) (theta t : Rat) : Rat := i.surface 4 (102 * e) 17 theta t
def Image.tauEl (i : Image) : Rat := i.entry 5 0
def Image.kEl (i : Image) : Rat := i.entry 5 1
def Image.kPhi (i : Image) : Rat := i.entry 5 2
/-- A parameter of the resistance section at a SoC and a temperature in °C: 0 r_0, 1 r_1, 2 τ_1, 3 r_2, 4 τ_2. -/
def res (i : Image) (k : Nat) (soc t : Rat) : Rat := i.surface 6 (126 * k) 21 soc t
/-- The hysteresis half-width M_h and γ. -/
def hystWidth (i : Image) (soc t : Rat) : Rat := i.surface 7 0 21 soc t
def gammaH (i : Image) : Rat := i.entry 7 126
def Image.cTh (i : Image) : Rat := i.entry 8 0
def Image.rAmb (i : Image) : Rat := i.entry 8 1
def Image.rNb (i : Image) : Rat := i.entry 8 2
/-- Q_n,0, Q_p,0 and L_0 in C. -/
def Image.qNeg0 (i : Image) : Rat := i.entry 9 0
def Image.qPos0 (i : Image) : Rat := i.entry 9 1
def Image.inv0 (i : Image) : Rat := i.entry 9 2
/-- Random-walk rate per day of a learned parameter: LLI, LAM_PE, LAM_NE, ρ, Q_full. -/
def walkRate (i : Image) (k : Nat) : Rat := i.entry 9 (3 + k)
/-- A process-noise rate or a noise value of section 0x0A. -/
def noise (i : Image) (k : Nat) : Rat := i.entry 10 k
def noiseV (i : Image) : Rat := noise i 5
def noiseT (i : Image) : Rat := noise i 6
def restSigmaV (i : Image) : Rat := noise i 7
/-- 0.20 mV per % unless the image states otherwise (R251). -/
def restSlopeMin (i : Image) : Rat := (Config.imageStates i.bytes 8).getD (1 / 5)
def nisLimit (i : Image) : Rat := noise i 9
/-- 4 unless the image states otherwise (R254). -/
def inflate (i : Image) : Rat := (Config.imageStates i.bytes 10).getD 4
/-- Self-discharge k_sd(T) per second. -/
def selfDischarge (i : Image) (t : Rat) : Rat := i.tempCurve 10 11 t
/-- k_sd,max: the largest rate in the image. -/
def selfDischargeMax (i : Image) : Rat := (List.range 6).foldl (fun m k => maxR m (i.entry 10 (11 + k))) 0
/-- Initial standard deviation of a state (section 0x0B). [Log: 35 DEDUCED] -/
def initDev (i : Image) (k : Nat) : Rat := i.entry 11 k

/-! ### The equilibrium curve (R228 to R230) -/

/-- Q_e and L for learned parameters LLI, LAM_PE, LAM_NE. -/
def qNeg (i : Image) (l : List Rat) : Rat := i.qNeg0 * (1 - l.getD 2 0)
def qPos (i : Image) (l : List Rat) : Rat := i.qPos0 * (1 - l.getD 1 0)
/-- L = L_0 − LLI·Q_nom (R228). -/
def inventory (i : Image) (l : List Rat) : Rat := i.inv0 - l.getD 0 0 * qNom i

/-- 298.15 K. -/
abbrev refKelvin : Rat := 29815 / 100

/-- U_e(θ, T) (R229). -/
def electrodeU (i : Image) (e : Nat) (theta tk : Rat) : Rat := i.ocv e theta + (tk - refKelvin) * i.entropy e theta

/-- ∂U_e/∂θ. -/
def electrodeSlope (i : Image) (e : Nat) (theta tk : Rat) : Rat :=
  i.curveSlope 1 (257 * e) 257 theta + (tk - refKelvin) * i.curveSlope 2 (257 * e) 257 theta

/-- U_eq at a stored charge (R230). -/
def ueqPhys (i : Image) (l : List Rat) (q tk : Rat) : Rat :=
  electrodeU i 1 ((inventory i l - q) / qPos i l) tk - electrodeU i 0 (q / qNeg i l) tk

def duDtPhys (i : Image) (l : List Rat) (q : Rat) : Rat :=
  i.entropy 1 ((inventory i l - q) / qPos i l) - i.entropy 0 (q / qNeg i l)

/-- dU_eq/dq. -/
def ueqSlope (i : Image) (l : List Rat) (q tk : Rat) : Rat :=
  -(electrodeSlope i 1 ((inventory i l - q) / qPos i l) tk) / qPos i l - electrodeSlope i 0 (q / qNeg i l) tk / qNeg i l

/-- Stored charges at which both particles lie inside their bounds (R226, R238). -/
def chargeBounds (i : Image) (l : List Rat) : Rat × Rat :=
  (maxR 0 (inventory i l - qPos i l), minR (qNeg i l) (inventory i l))

/-! ### Inversion of a piecewise linear curve -/

/-- Two ascending lists merged, by fuel. -/
def mergeAsc : Nat → List Rat → List Rat → List Rat
  | 0, _, b => b
  | _, [], b => b
  | _, a, [] => a
  | n + 1, x :: a, y :: b => if x ≤ y then x :: mergeAsc n a (y :: b) else y :: mergeAsc n (x :: a) b

/-- The first place, in order, where the line through successive points takes a value. -/
def passAt (v : Rat) : List (Rat × Rat) → Option Rat
  | a :: b :: r =>
    if (a.2 ≤ v && v ≤ b.2) || (b.2 ≤ v && v ≤ a.2) then
      some (if a.2 = b.2 then a.1 else a.1 + (v - a.2) / (b.2 - a.2) * (b.1 - a.1))
    else passAt v (b :: r)
  | _ => none

/-- Where a curve that is linear between the points `xs` takes a value: at the lowest such coordinate, or, for a value it
does not reach, at the end whose own value lies nearest. [Log: 17 DESIGN CHOICE] -/
def invert (xs : List Rat) (f : Rat → Rat) (v : Rat) : Rat :=
  let pts := xs.map (fun x => (x, f x))
  match passAt v pts with
  | some x => x
  | none =>
    let lo := xs.headD 0
    let hi := xs.getLastD 0
    if absR (f hi - v) < absR (f lo - v) then hi else lo

/-- Points of `xs` inside a range, with its ends. -/
def insideKnots (r : Rat × Rat) (xs : List Rat) : List Rat := r.1 :: (xs.filter (fun x => r.1 < x && x < r.2)) ++ [r.2]

/-- The stored charges between which U_eq is linear. -/
def physKnots (i : Image) (l : List Rat) : List Rat :=
  let n := (List.range 257).map (fun k => qNeg i l * (k : Rat) / 256)
  let p := (List.range 257).map (fun k => inventory i l - qPos i l * ((256 - k : Nat) : Rat) / 256)
  insideKnots (chargeBounds i l) (mergeAsc 514 n p)

/-- A grid of `n` points from 0 to 1. -/
def unitKnots (n : Nat) : List Rat := (List.range n).map (fun k => (k : Rat) / ((n - 1 : Nat) : Rat))

/-- The stored charge at which U_eq takes a voltage (R230). -/
def chargeAtUeq (i : Image) (l : List Rat) (v tk : Rat) : Rat := invert (physKnots i l) (fun q => ueqPhys i l q tk) v

/-- q_0 and q_100 of learned parameters, at 298.15 K (R230). -/
def physEnds (i : Image) (l : List Rat) : Rat × Rat := (chargeAtUeq i l (imgV0 i) refKelvin, chargeAtUeq i l (imgV100 i) refKelvin)

/-- Q_full of learned parameters. -/
def physFull (i : Image) (l : List Rat) : Rat := (physEnds i l).2 - (physEnds i l).1

/-- Halvings of the interval in which LLI is sought. [Log: 7 DESIGN CHOICE] -/
def bisectLli (i : Image) (full lamPe lamNe : Rat) : Nat → Rat → Rat → Rat
  | 0, lo, _ => lo
  | n + 1, lo, hi =>
    let m := (lo + hi) / 2
    if full ≤ physFull i [m, lamPe, lamNe] then bisectLli i full lamPe lamNe n m hi else bisectLli i full lamPe lamNe n lo m

/-- The LLI from 0 to its bound at which Q_full takes a value; 0 where even LLI = 0 gives less (R244, R247). [Log: 7 DESIGN CHOICE] -/
def solveLli (i : Image) (full lamPe lamNe : Rat) : Rat :=
  if physFull i [0, lamPe, lamNe] ≤ full then 0
  else if full ≤ physFull i [1 / 2, lamPe, lamNe] then 1 / 2
  else bisectLli i full lamPe lamNe 64 0 (1 / 2)

/-- Derivatives of an end point q with respect to LLI, LAM_PE and LAM_NE, where U_eq stays at the end point's voltage
(R230, R260). -/
def endGrad (i : Image) (l : List Rat) (q : Rat) : List Rat :=
  let tp := (inventory i l - q) / qPos i l
  let tn := q / qNeg i l
  let up := electrodeSlope i 1 tp refKelvin
  let un := electrodeSlope i 0 tn refKelvin
  let dq := ueqSlope i l q refKelvin
  [-(up * (-(qNom i) / qPos i l)) / dq, -(up * tp * i.qPos0 / qPos i l) / dq, un * tn * i.qNeg0 / qNeg i l / dq]

/-- The gradient of Q_full (R260). -/
def fullGrad (i : Image) (l : List Rat) : List Rat :=
  let e := physEnds i l
  List.zipWith (· - ·) (endGrad i l e.2) (endGrad i l e.1)

/-! ### What PARAM_LOAD asks of the OCV tables (R243) -/

/-- Strictly rising, or strictly falling. -/
def strictMono (l : List Rat) : Bool :=
  let step (p : Rat → Rat → Bool) : Bool := (l.zip (l.drop 1)).all (fun e => p e.1 e.2)
  step (fun a b => a < b) || step (fun a b => b < a)

/-- Some point lies at or below a value and some at or above it: a continuous curve takes it. -/
def reaches (l : List Rat) (v : Rat) : Bool := l.any (· ≤ v) && l.any (v ≤ ·)

/-- The tables are strictly monotonic, and the equilibrium voltage reaches V_OCV_0 and V_OCV_100: U_eq at 298.15 K without
ageing, or the 25 °C row of an ECM image. -/
def imgOcvOk (i : Image) : Bool :=
  match imgKind i with
  | .physics =>
    let u := (physKnots i [0, 0, 0]).map (fun q => ueqPhys i [0, 0, 0] q refKelvin)
    (List.range 2).all (fun e => strictMono ((List.range 257).map (fun k => i.entry 1 (257 * e + k)))) && reaches u (imgV0 i) && reaches u (imgV100 i)
  | .ecm =>
    let row := (unitKnots 101).map (fun z => i.ocvEcm z 25)
    (List.range 6).all (fun t => strictMono ((List.range 101).map (fun k => i.entry 1 (6 * k + t)))) && reaches row (imgV0 i) && reaches row (imgV100 i)

end Sys2Proof.Machine
end

