-- ==== Sys2Proof/Machine/Images.lean ====
section
/-! DEFINITION. The checks of a parameter image (R241 to R243), the real-time demand (R33, R34), requests for re-anchoring
(R586), and error reports (R499). -/

namespace Sys2Proof.Machine

/-! ### Checks of an image (R241 to R243) -/

/-- The digest of R243: SHA-256 of the image without its signature block. -/
def imgDigest (i : Image) : List Byte := Config.sha256 (i.bytes.take (i.bytes.length - 72))

/-- The framing of R241: MAGIC, FORMAT, and LEN equal to BUF_LEN. -/
def imgFraming (b : List Byte) (bufLen : Nat) : Bool :=
  fieldU b 0 4 == 0x47494D31 && fieldU b 4 2 == 1 && fieldU b 8 4 == bufLen && 136 ≤ bufLen && bufLen ≤ 65536

/-- Sections that a kind must hold (R242). -/
def imgRequired : Kind → List Nat
  | .physics => [1, 2, 3, 4, 5, 6, 7, 8, 9, 10, 11]
  | .ecm => [1, 2, 6, 7, 8, 9, 10, 11]

def disjointSects : List (Nat × Nat × Nat × Nat) → Bool
  | [] => true
  | a :: r => r.all (fun b => a.1 != b.1 && (a.2.2.1 + a.2.2.2 ≤ b.2.2.1 || b.2.2.1 + b.2.2.2 ≤ a.2.2.1)) && disjointSects r

/-- The checks of R243 that follow the signature. -/
def imgFieldsOk (i : Image) : Bool :=
  let n := imgSects i
  fieldU i.bytes 6 1 < 2 && fieldU i.bytes 7 1 == 0 && imgQNom i != 0 && 1 ≤ n && n ≤ 16 &&
    ((i.bytes.drop 34).take 30).all (· == 0) && 64 + 12 * n + 72 ≤ imgLen i &&
    (imgDir i).all (fun e => e.2.1 == 0 && 64 + 12 * n ≤ e.2.2.1 && e.2.2.1 + e.2.2.2 ≤ imgLen i - 72) &&
    (imgRequired (imgKind i)).all (fun k => (imgDir i).any (fun e => e.1 == k)) && disjointSects (imgDir i) &&
    imgOcvOk i

/-- KEY_ID of the signature block: 0 for an unsigned object (R520). It is byte 4 of the last 72 bytes. -/
def sigBlock (b : List Byte) : List Byte := b.drop (b.length - 72)

/-- The image in force for a string's cells. -/
def State.image (s : State) (slot : Nat) : Option Image := s.cfg.images.getD slot none
def State.strImage (s : State) (n : Nat) : Option Image := s.image (s.strCfg n).cellType

/-! ### Demand (R33, R34) -/

/-- Cells in the masks of a string section. -/
def usedCount (c : StrCfg) : Nat :=
  (c.cellsUsed.map (fun m => ((List.range 16).filter (fun i => m.getLsbD i)).length)).foldl (· + ·) 0

/-- D_f of R33 for a block and the images it names; a type without an image (R493) runs neither model and counts 0. [Log: 25 DEDUCED] -/
def demand (b : ConfigBlock) (images : List (Option Image)) : Nat :=
  (b.strs.map (fun c => if c.enable == 1 then
      match images.getD c.cellType none with
      | some i => usedCount c * (match imgKind i with | .physics => 40000 | .ecm => 3000)
      | none => 0
    else 0)).foldl (· + ·) 0

/-- d of R34: the smallest d for which N / 2^d × D_f ≤ 0.7 × C(L). Where no d satisfies the rule, with no lane free, the
spec gives no value: the model takes 31 (log 25). [Log: 25 DEDUCED] -/
def shiftFor (rate dmd lanes : Nat) : Nat :=
  ((List.range 32).find? (fun d => 10 * rate * dmd ≤ 7 * 150000000 * lanes * 2 ^ d)).getD 31

/-! ### Frame periods and re-anchoring -/

/-- The frame period in ns: P × 2^d (R17, R34), and one second in LEAN (R38). -/
def Scheme.periodNs (c : Scheme) : Nat :=
  if c.lean then 1000000000 else 1000000000 / max 1 c.rate * 2 ^ c.shift

/-- The first instant at or after a TIME64 value that lies a whole number of `p` from `ph`. -/
def latticeFrom (ph p t : Nat) : Nat :=
  let r := ph % max 1 p
  if t ≤ r then r else r + (t - r + p - 1) / max 1 p * p

/-- The first nominal instant at or after a TIME64 value (R18, R40). -/
def Scheme.nominalFrom (c : Scheme) (t : Nat) : Nat := latticeFrom (c.phaseUs * 1000) c.periodNs t

/-- A window of the scheme in FIXED mode, in ns (R15). -/
def Scheme.windowNs (c : Scheme) : Nat := c.windowMs * 1000000

/-- The first boundary φ + i·W of FIXED mode at or after a TIME64 value (R15). -/
def Scheme.gridFrom (c : Scheme) (t : Nat) : Nat := latticeFrom (c.phaseUs * 1000) c.windowNs t

/-- A re-anchoring waits for its boundary (R586). -/
def State.reanchor (s : State) (r : Reanchor) : State := { s with frm := { s.frm with reanchors := s.frm.reanchors ++ [r] } }

/-- A re-anchoring that changes nothing, whose earliest boundary lies at or after a tick. -/
def Reanchor.at_ (t : Nat) : Reanchor :=
  { earliest := t, timeStep := false, scheme := none, lean := none, shift := none, lineBack := false, early := false }

/-- What one re-anchoring makes of a scheme. [Log: 25 DEDUCED] -/
def applyScheme (c : Scheme) (r : Reanchor) : Scheme :=
  let c := match r.scheme with | some n => { n with lean := c.lean, shift := c.shift, lineFreq := c.lineFreq } | none => c
  let c := match r.lean with | some b => { c with lean := b } | none => c
  match r.shift with | some d => { c with shift := d } | none => c

/-- The scheme that every waiting re-anchoring leads to. -/
def State.nextScheme (s : State) : Scheme := s.frm.reanchors.foldl applyScheme s.frm.scheme

/-- A TIME64 step re-anchors at the first window boundary at or after it (R419, R586). -/
def State.stepReanchor (s : State) : State := s.reanchor { Reanchor.at_ s.clk.ticks with timeStep := true }

/-- A compare unit after a step of TIME64 to a TS32: one whose TARGET it leaves in the past is marked (R423). -/
def CmpUnit.afterStep (ts : Nat) (u : CmpUnit) : CmpUnit := { u with stepped := u.stepped || (u.en && tsReached ts u.target.toNat) }

/-- TIME64 steps to `ns` and the schedule re-anchors. Until it does, the boundary and the nominal instant that were
planned stay at their ticks: their labels move with the scale (R41). -/
def State.stepTime (s : State) (ns : Int) (keepFrac : Bool) : State :=
  let d := ns - s.now
  let old := s.now
  let s := s.setTime ns keepFrac
  let s := { s with
    frm := { s.frm with winEndNs := (s.frm.winEndNs + d).toNat, nextNominal := (s.frm.nextNominal + d).toNat }
    tim := { s.tim with cmps := s.tim.cmps.map (CmpUnit.afterStep s.ts32), beforeStep := some (s.clk.ticks, old) } }
  s.stepReanchor

/-- R34: d is judged afresh at the configured rate; a change re-anchors at the first boundary after the judgement. [Log: 25 DEDUCED] -/
def State.judgePeriod (s : State) : State :=
  let d := shiftFor s.nextScheme.rate (demand s.cfg.live s.cfg.images) s.lanesFree
  if d = s.nextScheme.shift then s
  else s.reanchor { Reanchor.at_ (s.clk.ticks + 1) with shift := some d }

/-! ### Error reports (R499, R502) -/

/-- A unit files an error report: its self-test becomes pending; a report during a test merges with it, and a
retired unit files none (R502). [Log: 68 DEDUCED] -/
def fileReport (u : UnitId) (s : State) : State :=
  let d := s.unitDiag u
  if s.retired u then s
  else refreshLane u (s.setUnitDiag { d with testing := true, report := true })

/-- The flash is read at run time in `n` places: an uncorrectable ECC error in one of them files a report. [Log: 20 DESIGN CHOICE] -/
def flashRead (n : Nat) (s : State) : State :=
  let t := { s with free := s.free + 1 }
  if (List.range n).any (Config.flashEcc s.free) then fileReport { target := 5, index := 0 } t else t

/-- The RREF port's identity in reports (R499). [Log: 68 DEDUCED] -/
def rrefUnit : UnitId := { target := 0xFF, index := 0 }

/-- R505 no longer applies to the RREF port: the condition of R82 has cleared, or the port is declared closed. [Log: 68 DEDUCED] -/
def clearRref (s : State) : State :=
  let d := s.unitDiag rrefUnit
  if d.lastFault then s.setUnitDiag { d with lastFault := false } else s

/-- The Q converter that integrates a window of a string, numbered under R86. -/
def qUnit (str win : Nat) : Nat := 2 * str + win % 2

/-- Both converters of a pair, or one, are out of service (R74). -/
def State.qSingle (s : State) (n : Nat) : Bool := s.diag.retQ.getLsbD (2 * n) || s.diag.retQ.getLsbD (2 * n + 1)
def State.qNone (s : State) (n : Nat) : Bool := s.diag.retQ.getLsbD (2 * n) && s.diag.retQ.getLsbD (2 * n + 1)

end Sys2Proof.Machine
end

