-- ==== Sys2Proof/Machine/Operands.lean ====
section
/-! DEFINITION. What a submission carries: PARAM fields (R383), buffers (R377, R382), and the order of checks (R379). -/

namespace Sys2Proof.Machine

/-- A check and the status that its failure gives. -/
abbrev Check := Bool × Nat

/-- R379: the first check that fails decides the status. -/
def firstFail : List Check → Option Nat
  | [] => none
  | (ok, st) :: r => if ok then firstFail r else some st

/-- Bytes of PARAM that the opcode does not name are 0 (R9, R377). -/
def reservedZero (named : List (Nat × Nat)) (p : List Byte) : Bool :=
  p.zipIdx.all (fun b => b.1 == 0 || named.any (fun f => f.1 ≤ b.2 && b.2 < f.1 + f.2))

end Sys2Proof.Machine

namespace Sys2Proof.Submission
open Sys2Proof.Machine

/-- The PARAM field of `n` bytes at an offset, unsigned or signed (R383). -/
def pU (sub : Submission) (off n : Nat) : Nat := fieldU sub.param off n
def pS (sub : Submission) (off n : Nat) : Int := fieldS sub.param off n

/-- Reserved fields of the entry: SFLAGS [7:1], the word at offset 20, unnamed PARAM bytes (R9, R352). -/
def formOk (sub : Submission) (named : List (Nat × Nat)) : Bool :=
  sub.rsvd == 0 && sub.sflags.toNat < 2 && reservedZero named sub.param

/-- A command without a buffer has BUF_ADDR = 0 and BUF_LEN = 0 (R377). -/
def noBuf (sub : Submission) : Bool := sub.bufAddr == 0 && sub.bufLen == 0

/-- A buffer is given, 8-byte aligned, with a length the summary allows (R377, R382). -/
def hasBuf (sub : Submission) (lenOk : Bool) : Bool := sub.bufAddr != 0 && sub.bufAddr % 8 == 0 && lenOk

/-- TARGET and INDEX of SELFTEST, RETIRE and RESTORE (R383). -/
def unit (sub : Submission) : UnitId := { target := sub.pU 0 1, index := sub.pU 1 1 }

end Sys2Proof.Submission

namespace Sys2Proof.Machine

/-- R380: BOOT executes NOP and IDENTIFY only; RUN and LEAN accept every command; the other states none. [Log: 51 DEDUCED] -/
def State.accepts (s : State) (op : Nat) : Bool :=
  match s.pwr.state with
  | .run | .lean => true
  | .boot => op == 0x00 || op == 0x01
  | _ => false

/-- A command's checks 2 to 9 in the order of R379, then its action. [Log: 3 DEDUCED, 5 DEDUCED, 51 DEDUCED] -/
def runCmd (op : Nat) (sub : Submission) (checks : List Check) (act : State → State) (s : State) : Out :=
  if s.cmdWaits op sub then .next s
  else match firstFail checks with
    | some st => .next (complete op sub st [] s)
    | none => .next (act s)

/-- Step 6 of R379: the input buffer was read. -/
def bufRead (d : DmaRead) : Check := (d.isSome, stDmaError)

/-- The bytes of an input buffer. -/
def bufBytes (sub : Submission) (d : DmaRead) : List Byte := fit sub.bufLen (d.getD [])

/-- A submission entry in memory (R352): its opcode and its fields. -/
def parseEntry (sq : Nat) (b : List Byte) : Nat × Submission :=
  (fieldU b 0 1,
    { sq, sflags := b.getD 1 0, tag := fieldU b 2 2, reqId := fieldU b 4 4, bufAddr := fieldU b 8 8, bufLen := fieldU b 16 4,
      rsvd := fieldU b 20 4, param := (fit 64 b).drop 24 })

/-- TARGET and INDEX name a unit of R384. -/
def unitNamed (u : UnitId) : Bool :=
  match u.target with
  | 0 => u.index < 16
  | 1 => u.index < 2
  | 2 => u.index < 16
  | 3 => u.index < 64
  | 4 => u.index < 16
  | 5 => u.index == 0
  | _ => false

end Sys2Proof.Machine
end

