-- ==== Sys2Proof/Machine/RopeLink.lean ====
section
/-! DEFINITION. The rope link (R154 to R170, R180, R181 to R189, R204 to R210): frames sent and received, transactions and
retries, modes and breaks, the belay tone, the fault tone, SYNC and SAFE. -/

namespace Sys2Proof.Machine

def endIdx : RopeEnd → Nat
  | .N => 0 | .F => 1

def otherEnd : RopeEnd → RopeEnd
  | .N => .F | .F => .N

/-- Mode codes of R180. -/
def RopeMode.code : RopeMode → Nat
  | .ring => 0 | .split => 1 | .line => 2 | .down => 3

def TieResult.code : TieResult → Nat
  | .ok => 0 | .short => 1 | .excess => 2 | .countMismatch => 3 | .broken => 4 | .noMonitors => 5

def AuthResult.code : AuthResult → Nat
  | .none => 0 | .ok => 1 | .fail => 2

/-- The port is in service (R209). -/
def State.portUp (s : State) (str : Nat) (e : RopeEnd) : Bool := !s.diag.retRope.getLsbD (2 * str + endIdx e)

/-! ### Monitors as the device knows them -/

def SuspectTrack.fresh : SuspectTrack :=
  { suspect := false, was := false, outRun := 0, devTicks := 0, predTicks := 0, okTicks := 0, lastGood := none, published := none,
    measured := none }

def Mon.fresh : Mon :=
  { tied := true, reachN := false, reachF := false, model := 0, serial := 0, fwVer := 0, delayN := 0xFFFF, delayF := 0xFFFF,
    retries := 0, crcErr := 0, fails := 0, ack := List.replicate 16 0, sent := List.replicate 16 0, ackFailed := false,
    auth := .none, authNext := none, authHad := false, authStep := .idle, authDue := false, cert := [], nonce := [], sigR := none, sigS := none,
    inputs := List.replicate 4 SuspectTrack.fresh, judged := 0, pages := [] }

def State.mon (s : State) (str m : Nat) : Option Mon := mapGet (s.ropeStr str).mons m

def State.modMon (s : State) (str m : Nat) (f : Mon → Mon) : State :=
  s.modRope str (fun r => match mapGet r.mons m with | some x => { r with mons := mapSet r.mons m (f x) } | none => r)

/-- A monitor that some end reaches. -/
def Mon.reachable (m : Mon) : Bool := m.tied && (m.reachN || m.reachF)

def State.reachable (s : State) (str m : Nat) : Bool := (s.mon str m).any Mon.reachable

/-- The end from which a monitor is served: N in RING; otherwise an end that reaches it (R204). -/
def State.servedFrom (s : State) (str m : Nat) : RopeEnd :=
  match s.mon str m with
  | some x => if x.reachN && s.portUp str .N then .N else .F
  | none => .N

/-! ### Frames and transactions (R158, R164 to R169) -/

abbrev tSync := 0x0
abbrev tRead := 0x1
abbrev tWrite := 0x2
abbrev tBal := 0x3
abbrev tAuth := 0x4
abbrev tTie := 0x5
abbrev tBelay := 0x6
abbrev tFault := 0x7
abbrev tResp := 0x8

/-- The bits of a frame that the CRC covers, and the CRC (R158, R160): header, payload, CRC, most significant byte first. -/
def frameBytes (f : TxFrame) : List Byte :=
  let h := f.typ % 16 * 4096 + f.addr % 64 * 64 + f.seq % 64
  let body := BitVec.ofNat 8 (h / 256) :: BitVec.ofNat 8 h :: f.payload
  let c := (crc16 body).toNat
  body ++ [BitVec.ofNat 8 (c / 256), BitVec.ofNat 8 c]

/-- A frame that a port has received whole: its header, its payload and whether its CRC holds. -/
structure RxRope where
  typ     : Nat
  addr    : Nat
  seq     : Nat
  payload : List Byte
  crcOk   : Bool
  deriving DecidableEq, Repr, Inhabited

/-- The last 16 bits before the end delimiter are the CRC; a frame of fewer than 4 or more than 68 bytes, or whose bits are
no whole number of bytes, is discarded (R158 to R160). -/
def rxFrame (f : LineFrame) : Option RxRope :=
  let n := f.bytes.length
  if n < 4 || 68 < n || f.extraBits != 0 then none
  else
    let h := (f.bytes.getD 0 0).toNat * 256 + (f.bytes.getD 1 0).toNat
    let c := (f.bytes.getD (n - 2) 0).toNat * 256 + (f.bytes.getD (n - 1) 0).toNat
    some { typ := h / 4096, addr := h / 64 % 64, seq := h % 64, payload := (f.bytes.take (n - 2)).drop 2,
           crcOk := (crc16 (f.bytes.take (n - 2))).toNat == c }

/-- ROPE_CRC_CNT counts every frame received with a failed CRC (R192). -/
def countCrc (str : Nat) (x : RxRope) (s : State) : State :=
  if x.crcOk then s else s.modRope str (fun r => { r with crcCnt := wrap32 (r.crcCnt + 1) })

/-- A frame leaves a port of a rope that is driven. [Log: 31 DESIGN CHOICE] -/
def ropeSend (str : Nat) (e : RopeEnd) (f : TxFrame) (s : State) : State :=
  if s.portUp str e && !(s.ropeStr str).silent then
    s.modRope str (fun r => match e with | .N => { r with txN := some f } | .F => { r with txF := some f })
  else s

/-- The next SEQ of an end and address (R169). -/
def RopeStr.nextSeq (r : RopeStr) (e : RopeEnd) (addr : Nat) : Nat := (mapGet r.seqs (64 * endIdx e + addr)).getD 0

/-- The counter of an end and address moves on, modulo 64. -/
def bumpSeq (str : Nat) (e : RopeEnd) (addr : Nat) (s : State) : State :=
  s.modRope str (fun r => { r with seqs := mapSet r.seqs (64 * endIdx e + addr) ((r.nextSeq e addr + 1) % 64) })

/-- A frame that no RESP answers leaves an end with the next value of that end's counter of broadcast frames (R169); so
do ASSIGN, which goes to the unaddressed monitors, and a BELAY to an anchor. [Log: 31 DESIGN CHOICE] -/
def ropeCast (str : Nat) (e : RopeEnd) (typ addr : Nat) (payload : List Byte) (s : State) : State :=
  if s.portUp str e && !(s.ropeStr str).silent then
    ropeSend str e { typ, addr, seq := (s.ropeStr str).nextSeq e 0, payload } (bumpSeq str e 0 s)
  else s

/-- The same from both ports. -/
def ropeCastBoth (str typ addr : Nat) (payload : List Byte) (s : State) : State :=
  ropeCast str .F typ addr payload (ropeCast str .N typ addr payload s)

/-- At most 8 transactions of a rope are in flight (R166). -/
abbrev maxInflight : Nat := 8

/-- The first attempt of a transaction leaves (R166, R169). -/
def beginTxn (str : Nat) (e : RopeEnd) (addr : Nat) (use : TxnUse) (typ : Nat) (payload : List Byte) (s : State) : State :=
  let seq := (s.ropeStr str).nextSeq e addr
  let f : TxFrame := { typ, addr, seq, payload }
  ropeSend str e f ((bumpSeq str e addr s).modRope str (fun r =>
    { r with inflight := r.inflight ++ [{ fromEnd := e, addr, seq, use, frame := f, attempts := 1 }] }))

/-- A transaction begins, or waits while 8 are in flight (R166); none begins in an orderly stop (R189). [Log: 29 DEDUCED, 31 DESIGN CHOICE] -/
def startTxn (str : Nat) (e : RopeEnd) (addr : Nat) (use : TxnUse) (typ : Nat) (payload : List Byte) (s : State) : State :=
  if s.pwr.state == .stopping || s.pwr.state == .halt then s
  else if (s.ropeStr str).inflight.length < maxInflight then beginTxn str e addr use typ payload s
  else s.modRope str (fun r => { r with txnWait := r.txnWait ++ [(e, addr, use, typ, payload)] })

/-- The first transaction that waits begins when one has ended. -/
def nextTxn (str : Nat) (s : State) : State :=
  match (s.ropeStr str).txnWait with
  | (e, addr, use, typ, payload) :: rest => startTxn str e addr use typ payload (s.modRope str (fun r => { r with txnWait := rest }))
  | [] => s

/-- The transaction that an end, an address and a SEQ name (R168). -/
def findTxn (s : State) (str : Nat) (e : RopeEnd) (addr seq : Nat) : Option Txn :=
  (s.ropeStr str).inflight.find? (fun t => t.fromEnd == e && t.addr == addr && t.seq == seq)

def dropTxn (str : Nat) (t : Txn) (s : State) : State :=
  nextTxn str (s.modRope str (fun r => { r with inflight := r.inflight.erase t }))

def satInc (n : Nat) : Nat := min 0xFFFF (n + 1)

/-- A failed attempt: the request is sent again with the same SEQ, at most twice; `true` when the third has failed and
the transaction with it (R167). -/
def failAttempt (str : Nat) (t : Txn) (crc : Bool) (s : State) : Bool × State :=
  let s := if crc then (s.modMon str t.addr (fun m => { m with crcErr := satInc m.crcErr })) else s
  if t.attempts < 3 then
    let s := s.modRope str (fun r => { r with inflight := r.inflight.map (fun x => if x == t then { x with attempts := x.attempts + 1 } else x),
                                              retryCnt := wrap32 (r.retryCnt + 1) })
    (false, ropeSend str t.fromEnd t.frame (s.modMon str t.addr (fun m => { m with retries := satInc m.retries })))
  else
    let s := (dropTxn str t s).modRope str (fun r => { r with failCnt := wrap32 (r.failCnt + 1) })
    (true, s.modMon str t.addr (fun m => { m with fails := satInc m.fails }))

/-! ### Requests that many rules send -/

/-- TIE ECHO (R173). -/
def sendEcho (str : Nat) (e : RopeEnd) (addr : Nat) (use : TxnUse) (s : State) : State := startTxn str e addr use tTie [4] s

/-- READ of a page (R158, R171). -/
def sendRead (str : Nat) (e : RopeEnd) (addr page off len : Nat) (use : TxnUse) (s : State) : State :=
  startTxn str e addr use tRead [BitVec.ofNat 8 page, BitVec.ofNat 8 off, BitVec.ofNat 8 len] s

/-- The configuration page of a monitor (R171). -/
def monConfigPage (s : State) (str m : Nat) : List Byte :=
  let c := s.strCfg str
  let x := (s.mon str m).getD Mon.fresh
  leBytes 2 c.monOv ++ leBytes 2 c.monUv ++ leBytes 2 x.delayN ++ leBytes 2 x.delayF ++ leBytes 2 c.balRBleed ++ leBytes 2 c.balRSw ++
    leBytes 2 (c.cellsUsed.getD (m - 1) 0).toNat ++ [BitVec.ofNat 8 str, 0] ++ leBytes 4 (s.cfg.block.map (·.configId) |>.getD 0) ++ [0, 0]

/-- WRITE of the configuration page (R173 step 6, R395). -/
def sendConfigPage (str : Nat) (e : RopeEnd) (m : Nat) (s : State) : State :=
  startTxn str e m .config tWrite ([1, 0] ++ monConfigPage s str m) s

/-- A frame of a module authentication leaves (R523, R524). -/
def authFrame (str : Nat) (e : RopeEnd) (m : Nat) (a : AuthSend) (s : State) : State :=
  match a with
  | .identity => sendRead str e m 0 0 15 (.auth a) s
  | .certificate p => sendRead str e m 0x20 (60 * p) (if p = 2 then 24 else 60) (.auth a) s
  | .challenge =>
    let n := fit 16 (Config.nonce s.free)
    startTxn str e m (.auth a) tAuth (1 :: n) ((s.draw.2).modMon str m (fun x => { x with nonce := n }))
  | .fetch p => startTxn str e m (.auth a) tAuth [2, BitVec.ofNat 8 p] s

/-! ### TIE SAFE (R165, R188, R189) -/

def castTie (str : Nat) (e : RopeEnd) (addr : Nat) (payload : List Byte) (s : State) : State := ropeCast str e tTie addr payload s

/-- TIE SAFE from an end. -/
def castSafe (str : Nat) (e : RopeEnd) (s : State) : State := castTie str e 0 [5] s

/-- The SAFE that a rope owes: at once from both ends of a rope that is tied in; otherwise from the N end, and from the F
end when that frame has arrived or run its 200 µs (R165). It waits for a transaction or a tie-in that is running. [Log: 31 DESIGN CHOICE] -/
def safeStep (str : Nat) (s : State) : State :=
  let r := s.ropeStr str
  if r.safe != some .due || !r.inflight.isEmpty || r.tie.isSome then s
  else if r.tied then castSafe str .F (castSafe str .N (s.modRope str (fun r => { r with safe := none })))
  else castSafe str .N (s.modRope str (fun r => { r with safe := some .fromN }))

/-- A SAFE has arrived at the other port, or its 200 µs have run. -/
def safeOver (str : Nat) (s : State) : State :=
  match (s.ropeStr str).safe with
  | some .fromN => castSafe str .F (s.modRope str (fun r => { r with safe := some .fromF }))
  | some .fromF => s.modRope str (fun r => { r with safe := none })
  | _ => s

/-- Every rope that is driven owes a SAFE (R189, R476). -/
def sendSafe (s : State) : State :=
  (List.range 8).foldl (fun s n => if (s.ropeStr n).silent then s else safeStep n (s.modRope n (fun r => { r with safe := some .due }))) s

/-! ### The gaps (R191, R201) -/

/-- The first unreachable address beyond an end's anchor (R208). -/
def RopeStr.beyond (r : RopeStr) (e : RopeEnd) : Option Nat :=
  match e with
  | .N => let k := r.probedN.getD r.anchorN + 1; if k < r.anchorF && k ≤ r.top then some k else none
  | .F => let k := r.probedF.getD r.anchorF - 1; if r.anchorN < k && 1 ≤ k then some k else none

/-- Only ECHOs of a location are in flight. -/
def RopeStr.gap (r : RopeStr) : Bool := r.inflight.all (fun t => t.use == .locate)

/-- The ECHOs that a location waits with leave, at most one from each end. -/
def sendLocate (str : Nat) (l : Locate) (s : State) : State :=
  l.todo.foldl (fun s e => sendEcho str e.1 e.2 .locate s) (s.modRope str (fun r => { r with locate := some { l with todo := [] } }))

/-- Work that runs in the gaps of a rope, in the order of R201: BAL, reach probes, then the ECHOs of a location,
configuration pages, authentication and host requests; one at a time, but for the two ends of a location. On a rope in DOWN
a frame of an authentication or of the host finds no monitor and fails under R167. [Log: 31 DESIGN CHOICE] -/
def ropeGap (str : Nat) (s : State) : State :=
  let s := safeStep str s
  let r := s.ropeStr str
  if !(s.live || s.pwr.state == .hold) || !r.gap || r.tie.isSome || r.silent || r.sweep.any (fun w => !w.done) then s
  else match r.balTodo with
    | (m, p) :: rest =>
      startTxn str (s.servedFrom str m) m .bal tBal p ((s.modMon str m (fun x => { x with sent := p.take 16 })).modRope str (fun r => { r with balTodo := rest }))
    | [] => match r.probeTodo.find? (fun e => (r.beyond e).isSome) with
      | some e => sendEcho str e ((r.beyond e).getD 0) .reach (s.modRope str (fun r => { r with probeTodo := r.probeTodo.filter (· != e) }))
      | none => match r.locate.filter (fun l => !l.todo.isEmpty) with
       | some l => sendLocate str l s
       | none => if !r.inflight.isEmpty then s else match r.rewrite with
        | m :: rest => sendConfigPage str (s.servedFrom str m) m (s.modRope str (fun r => { r with rewrite := rest }))
        | [] => match r.authTodo with
          | (m, a) :: rest =>
            authFrame str (s.servedFrom str m) m a (s.modRope str (fun r => { r with authTodo := rest }))
          | [] => match r.rawQueue with
            | (sub, p) :: rest =>
              startTxn str (s.servedFrom str (sub.pU 2 1)) (sub.pU 2 1) (.raw sub) (sub.pU 1 1) p (s.modRope str (fun r => { r with rawQueue := rest }))
            | [] => s

/-! ### Modes and breaks (R175, R204 to R210) -/

/-- A change of MODE or of ROPE_BREAK raises EV00 to EV07 with the mode in force after it (R210). [Log: 74 DEDUCED] -/
def modeEvent (str : Nat) (before : RopeStr) (s : State) : State :=
  let r := s.ropeStr str
  if r.mode ≠ before.mode || r.brkA ≠ before.brkA || r.brkB ≠ before.brkB then raise str r.mode.code s else s

/-- The mode that reach from N up to `a` and from F down to `b` of `n` monitors gives (R175). -/
def modeOf (n a b : Nat) : RopeMode :=
  if 1 ≤ a && b ≤ n then .split else if 1 ≤ a || b ≤ n then .line else .down

/-- Which end reaches which monitor. -/
def setReach (a b : Nat) (r : RopeStr) : RopeStr :=
  { r with anchorN := a, anchorF := b, mons := r.mons.map (fun e => (e.1, { e.2 with reachN := e.1 ≤ a, reachF := b ≤ e.1 })) }

/-- The ends that send a belay tone in a mode (R181, R182, R204). -/
def belayEnds (r : RopeStr) : List RopeEnd :=
  match r.mode with
  | .ring => [.N]
  | .split => [.N, .F]
  | .line => if 1 ≤ r.anchorN then [.N] else [.F]
  | .down => []

/-- The rope returns FAULT from some end. -/
def RopeStr.toned (r : RopeStr) : Bool := r.toneN || r.toneF

/-- FAULT_TONE is set while any rope returns FAULT, and for its 10 ms (R187, R559). [Log: 31 DESIGN CHOICE] -/
def toneLevel (s : State) : State :=
  { s with rope := { s.rope with toneHeld := s.rope.toneMin || s.rope.strs.any RopeStr.toned } }

/-- An end that sends no belay tone returns nothing: its tone, its mask and its runs are forgotten. -/
def quietEnds (r : RopeStr) : RopeStr :=
  let n := (belayEnds r).contains .N
  let f := (belayEnds r).contains .F
  { r with toneN := r.toneN && n, faultN := r.faultN && n, missN := if n then r.missN else 0, unaddrN := if n then r.unaddrN else 0
           faultMaskN := if n then r.faultMaskN else 0
           toneF := r.toneF && f, faultF := r.faultF && f, missF := if f then r.missF else 0, unaddrF := if f then r.unaddrF else 0
           faultMaskF := if f then r.faultMaskF else 0 }

/-- How far each end reaches has changed: the mode of R175 and the ends that sound. Leaving or reaching RING ends the run of
through-probes (R208). -/
def setMode (str a b : Nat) (mode : RopeMode) (brkA brkB : Option Nat) (s : State) : State :=
  let old := s.ropeStr str
  let turn := old.mode == .ring || mode == .ring
  toneLevel (modeEvent str old (s.modRope str (fun r =>
    { quietEnds { (setReach a b r) with mode := mode, brkA := brkA, brkB := brkB } with
      probedN := none, probedF := none, throughRun := if turn then 0 else r.throughRun, probeOut := !turn && r.probeOut
      ringNext := !turn && r.ringNext })))

/-- The location of a break: ROPE_BREAK, the mode, the anchors, and reports for an end that no longer reaches the
monitor beside it by a failed ECHO (R205 steps 4 and 5, R499). A retired port reaches nothing (R209). One that finds every end
reaching as far as before changes nothing. [Log: 74 DEDUCED] -/
def applyLocation (str a b : Nat) (nEnd fEnd byEcho : Bool) (s : State) : State :=
  let old := s.ropeStr str
  let n := old.top
  let a := if s.portUp str .N then a else 0
  let b := if s.portUp str .F then b else n + 1
  let s := s.modRope str (fun r => { r with locate := none, missN := if nEnd then 0 else r.missN, missF := if fEnd then 0 else r.missF })
  if a = old.anchorN && b = old.anchorF then s
  else
    let s := setMode str a b (modeOf n a b) (some a) (if a + 1 < b then some (b - 1) else none) s
    let s := if byEcho && a = 0 && old.mode == .ring && s.portUp str .N then fileReport { target := 2, index := 2 * str } s else s
    if byEcho && n < b && old.mode == .ring && s.portUp str .F then fileReport { target := 2, index := 2 * str + 1 } s else s

/-- Location by ECHO (R205 to R207): from both ends in RING; in SPLIT or LINE from one end, from its anchor toward the
port, beside one of the other end that runs. The ECHOs wait for a gap (R201). During a sweep it is taken from that sweep. [Log: 31 DESIGN CHOICE, 74 DEDUCED] -/
def startLocate (str : Nat) (e : RopeEnd) (s : State) : State :=
  let r := s.ropeStr str
  if r.tie.isSome then s
  else if r.sweep.any (fun w => !w.done) then
    s.modRope str (fun r => { r with sweep := r.sweep.map (fun w => { w with suspect := true }) })
  else match r.mode with
    | .ring =>
      if r.locate.isSome then s
      else
        let l : Locate := { ring := true, nEnd := true, fEnd := true, a := 0, b := r.top + 1, nDone := r.top = 0, fDone := r.top = 0
                            todo := if r.top = 0 then [] else [(.N, 1), (.F, r.top)] }
        ropeGap str (s.modRope str (fun r => { r with locate := some l }))
    | .down => s
    | _ =>
      let l := r.locate.getD { ring := false, nEnd := false, fEnd := false, a := r.anchorN, b := r.anchorF, nDone := true, fDone := true, todo := [] }
      let l := match e with
        | .N => if l.nEnd then l else { l with nEnd := true, nDone := false, todo := l.todo ++ [(.N, r.anchorN)] }
        | .F => if l.fEnd then l else { l with fEnd := true, fDone := false, todo := l.todo ++ [(.F, r.anchorF)] }
      ropeGap str (s.modRope str (fun r => { r with locate := some l }))

/-- The ends that were to be located have found how far they reach; the other keeps its anchor. [Log: 74 DEDUCED] -/
def finishLocate (str : Nat) (s : State) : State :=
  match (s.ropeStr str).locate with
  | some l =>
    let r := s.ropeStr str
    if l.nDone && l.fDone then applyLocation str (if l.nEnd then l.a else r.anchorN) (if l.fEnd then l.b else r.anchorF) l.nEnd l.fEnd true s else s
  | none => s

/-- An ECHO of a location has an outcome. [Log: 74 DEDUCED] -/
def locateResult (str : Nat) (t : Txn) (ok : Bool) (s : State) : State :=
  let r := s.ropeStr str
  match r.locate with
  | none => s
  | some l =>
    let put (l : Locate) (s : State) : State := s.modRope str (fun r => { r with locate := some l })
    let ask (e : RopeEnd) (k : Nat) (l : Locate) (s : State) : State := put { l with todo := l.todo ++ [(e, k)] } s
    if l.ring then
      -- R205: outward from each port until one fails.
      match t.fromEnd with
      | .N => if ok then
          let l := { l with a := t.addr, nDone := r.top ≤ t.addr }
          if l.nDone then finishLocate str (put l s) else ask .N (t.addr + 1) l s
        else finishLocate str (put { l with nDone := true } s)
      | .F => if ok then
          let l := { l with b := t.addr, fDone := t.addr ≤ 1 }
          if l.fDone then finishLocate str (put l s) else ask .F (t.addr - 1) l s
        else finishLocate str (put { l with fDone := true } s)
    else
      -- R207: from the anchor toward the port; the anchor becomes the last monitor that answers.
      match t.fromEnd with
      | .N => if ok then finishLocate str (put { l with a := t.addr, nDone := true } s)
        else if t.addr ≤ 1 then finishLocate str (put { l with a := 0, nDone := true } s)
        else ask .N (t.addr - 1) l s
      | .F => if ok then finishLocate str (put { l with b := t.addr, fDone := true } s)
        else if r.top ≤ t.addr then finishLocate str (put { l with b := r.top + 1, fDone := true } s)
        else ask .F (t.addr + 1) l s

/-- Three BELAYs missed from an end suspect a break (R184, R207). -/
def suspectBreak (str : Nat) (e : RopeEnd) (s : State) : State :=
  startLocate str e (s.modRope str (fun r => match e with | .N => { r with missN := 0 } | .F => { r with missF := 0 }))

/-! ### Belay tone (R181 to R187) -/

/-- One BELAY leaves an end; CNT counts it (R183). -/
def castBelay (str : Nat) (e : RopeEnd) (addr : Nat) (s : State) : State :=
  if s.portUp str e && !(s.ropeStr str).silent then
    (ropeCast str e tBelay addr (leBytes 2 (s.ropeStr str).belayCnt ++ zeros 5) s).modRope str
      (fun r => { r with belayCnt := (r.belayCnt + 1) % 65536 })
  else s

/-- The rope carries a belay tone: in every mode but DOWN, and throughout a tie-in (R173, R204). -/
def RopeStr.sounds (r : RopeStr) : Bool := !r.silent && (r.mode != .down || r.tie.isSome)

/-- The ends that sound, and N alone on a rope in DOWN that is tying in. -/
def soundEnds (r : RopeStr) : List RopeEnd := if r.mode == .down then [.N] else belayEnds r

/-- ADDR of an end's BELAY: 0 in RING, its anchor in SPLIT and LINE (R181, R182). -/
def belayAddr (r : RopeStr) (e : RopeEnd) : Nat :=
  if r.mode == .split || r.mode == .line then (if e == .N then r.anchorN else r.anchorF) else 0

/-- BELAY_SEND (R181, R182, R183). -/
def execBelaySend (str : Nat) (s : State) : Out :=
  let r := s.ropeStr str
  if !(s.enabled str && r.sounds) then .next s
  else .next ((soundEnds r).foldl (fun s e => castBelay str e (belayAddr r e) s) s)

/-- THROUGH_PROBE: in SPLIT and LINE, with both ports in service, the N end sends a BELAY with ADDR 0; one that has not
returned by the next breaks the run of 100 (R208, R209). -/
def execThroughProbe (str : Nat) (s : State) : Out :=
  let r := s.ropeStr str
  if (r.mode == .split || r.mode == .line) && s.portUp str .N && s.portUp str .F && !r.silent && s.enabled str then
    .next (castBelay str .N 0
      (s.modRope str (fun r => { r with throughRun := if r.probeOut then 0 else r.throughRun, probeOut := true })))
  else .next s

/-- REACH_PROBE: each end that sounds asks for an ECHO to the first unreachable address beyond its anchor; it goes out in a
gap (R201, R208). [Log: 31 DESIGN CHOICE] -/
def execReachProbe (str : Nat) (s : State) : Out :=
  let r := s.ropeStr str
  if !(r.mode == .split || r.mode == .line) || r.tie.isSome || r.silent then .next s
  else
    let probing (e : RopeEnd) : Bool := r.probeTodo.contains e || r.inflight.any (fun t => t.use == .reach && t.fromEnd == e)
    .next (ropeGap str (s.modRope str (fun r =>
      { r with probeTodo := r.probeTodo ++ (belayEnds r).filter (fun e => !probing e && (r.beyond e).isSome) })))

/-- The probes of an end have come to an end: an anchor that they moved takes its place, and ROPE_BREAK follows (R208). -/
def probeEnd (str : Nat) (e : RopeEnd) (s : State) : State :=
  let r := s.ropeStr str
  let a := if e == .N then r.probedN.getD r.anchorN else r.anchorN
  let b := if e == .F then r.probedF.getD r.anchorF else r.anchorF
  let s := s.modRope str (fun r => match e with | .N => { r with probedN := none } | .F => { r with probedF := none })
  if a = r.anchorN && b = r.anchorF then s
  else setMode str a b (modeOf r.top a b) (some a) (if a + 1 < b then some (b - 1) else none) s

/-- A reach probe has an outcome: after an answer the probe goes on to the next address; after an ECHO that fails, or with
no address left, the anchor moves once (R208). -/
def reachResult (str : Nat) (t : Txn) (ok : Bool) (s : State) : State :=
  let r := s.ropeStr str
  if !(r.mode == .split || r.mode == .line) || !(belayEnds r).contains t.fromEnd then s
  else if !ok then probeEnd str t.fromEnd s
  else
    let s := s.modRope str (fun r => match t.fromEnd with | .N => { r with probedN := some t.addr } | .F => { r with probedF := some t.addr })
    if ((s.ropeStr str).beyond t.fromEnd).isSome then s.modRope str (fun r => { r with probeTodo := r.probeTodo ++ [t.fromEnd] })
    else probeEnd str t.fromEnd s

/-- A returned belay tone of one end: mask, fault tone, event and UNADDR (R185, R187). FAULT_N has its 10 ms from each
occasion, and from each moment at which it is asserted anew. -/
def toneBack (str : Nat) (e : RopeEnd) (fault : Bool) (monmask : BitVec 32) (unaddr : Bool) (s : State) : State :=
  let r := s.ropeStr str
  let isN := e == .N
  let wasFault := if isN then r.faultN else r.faultF
  let lastMask := if isN then r.faultMaskN else r.faultMaskF
  let run := if unaddr then (if isN then r.unaddrN else r.unaddrF) + 1 else 0
  let mask : BitVec 32 := if fault then monmask else 0
  let fresh := fault && (!wasFault || mask &&& ~~~lastMask != 0)
  let s := s.modRope str (fun r => { r with
    belayRun := min 3 (r.belayRun + 1), fault := fault, faultMask := mask
    missN := if isN then 0 else r.missN, missF := if isN then r.missF else 0
    faultN := if isN then fault else r.faultN, faultF := if isN then r.faultF else fault
    toneN := if isN then fault else r.toneN, toneF := if isN then r.toneF else fault
    faultMaskN := if isN then mask else r.faultMaskN, faultMaskF := if isN then r.faultMaskF else mask
    faultTick := if fault then some s.clk.ticks else r.faultTick
    unaddrN := if isN then run else r.unaddrN, unaddrF := if isN then r.unaddrF else run
    unaddr := r.unaddr || 3 ≤ run, sticky := if fresh then r.sticky ||| mask else r.sticky
    hot := if fresh then r.hot.mark s.clk.ticks mask.toNat else r.hot })
  let asserts := fresh || (fault && !s.rope.toneHeld)
  let s := { s with rope := { s.rope with toneMin := s.rope.toneMin || asserts } }
  toneLevel (if fresh then raise (8 + str) mask.toNat s else s)

/-- A through-probe has come through to the F port (R208). -/
def probeBack (str : Nat) (s : State) : State :=
  if (s.ropeStr str).probeOut then
    s.modRope str (fun r => { r with probeOut := false, throughRun := r.throughRun + 1, ringNext := r.ringNext || 100 ≤ r.throughRun + 1 })
  else s

/-- BELAY_RETURNED: a valid BELAY or FAULT. ADDR 0 at the F port is N's tone in RING and a through-probe in SPLIT and LINE;
an anchor's ADDR at its own end's port is that end's tone (R181, R182, R208). Other frames are ignored. [Log: 31 DESIGN CHOICE] -/
def execBelayReturned (t : BelayTone) (s : State) : Out :=
  match rxFrame t.frame with
  | none => .next s
  | some x =>
    let s := countCrc t.str x s
    let r := s.ropeStr t.str
    if !x.crcOk || !(x.typ == tBelay || x.typ == tFault) || x.payload.length != 7 then .next s
    else
      let fault := x.typ == tFault
      let mask := BitVec.ofNat 32 (fieldU x.payload 2 4)
      let unaddr := (fieldU x.payload 6 1).testBit 0
      if r.mode == .ring || r.mode == .down then
        .next (if x.addr == 0 && t.port == .F && r.sounds then toneBack t.str .N fault mask unaddr s else s)
      else if x.addr == 0 then .next (if t.port == .F then probeBack t.str s else s)
      else .next (if (belayEnds r).contains t.port && x.addr == belayAddr r t.port then toneBack t.str t.port fault mask unaddr s else s)

/-- BELAY_NOT_RETURNED: counted in every mode; nothing is returned from that end any more, and the third in a row from an
end suspects a break (R184, R185, R207). [Log: 31 DESIGN CHOICE] -/
def execBelayNotReturned (str : Nat) (fromEnd : RopeEnd) (s : State) : Out :=
  let isN := fromEnd == .N
  let s := toneLevel (s.modRope str (fun r => { r with
    belayMiss := wrap32 (r.belayMiss + 1), belayRun := 0
    missN := if isN then r.missN + 1 else r.missN, missF := if isN then r.missF else r.missF + 1
    unaddrN := if isN then 0 else r.unaddrN, unaddrF := if isN then r.unaddrF else 0
    toneN := if isN then false else r.toneN, toneF := if isN then r.toneF else false }))
  let r := s.ropeStr str
  let miss := if isN then r.missN else r.missF
  if 3 ≤ miss && (belayEnds r).contains fromEnd then .next (suspectBreak str fromEnd s) else .next s

/-- FAULT_N_MIN_END: the 10 ms of R187 are over. -/
def execFaultNMinEnd (s : State) : Out := .next (toneLevel { s with rope := { s.rope with toneMin := false } })

/-! ### SYNC (R194, R195) -/

/-- The payload of a SYNC. -/
def syncPayload (kind : Nat) (gateOff : Bool) (epoch span : Nat) : List Byte :=
  [BitVec.ofNat 8 kind, BitVec.ofNat 8 (bit gateOff 0)] ++ leBytes 2 (epoch % 65536) ++ leBytes 2 50000 ++ leBytes 2 span

/-- The balancing gate of a string is disabled by its override (R195, R221). -/
def State.gateOff (s : State) (n : Nat) : Bool := (s.lim n).ovFlags.getLsbD 1 && (s.lim n).override.isSome

/-- SYNC leaves both ports of every enabled rope. -/
def sendSync (kind epoch span : Nat) (s : State) : State :=
  (List.range 8).foldl (fun s n => if s.enabled n then ropeCastBoth n tSync 0 (syncPayload kind (s.gateOff n) epoch span) s else s) s

/-! ### The orderly stop (R189) -/

/-- Host commands that wait for a rope which falls silent end with ABORTED. [Log: 30 DEDUCED] -/
def ropeGone (str : Nat) (s : State) : State :=
  let raws := (s.ropeStr str).rawQueue
  let auths := s.rope.authWaits.filter (fun w => w.str = str)
  let ties := s.rope.tieCmds.filter (fun c => c.2.getLsbD str)
  let s := s.modRope str (fun r => { r with rawQueue := [], authTodo := [], balTodo := [], rewrite := [], probeTodo := [], txnWait := [], tie := none
                                            sweep := r.sweep.map (fun w => { w with todoN := [], todoF := [], done := true })
                                            locate := none, toneN := false, toneF := false, silent := true })
  let s := { s with rope := { s.rope with authWaits := s.rope.authWaits.filter (fun w => w.str ≠ str), tieCmds := s.rope.tieCmds.filter (fun c => !c.2.getLsbD str) } }
  let s := raws.foldl (fun s e => complete 0x11 e.1 stAborted [] s) s
  let s := auths.foldl (fun s w => complete 0x38 w.sub stAborted [] s) s
  toneLevel (ties.foldl (fun s c => complete 0x10 c.1 stAborted [] s) s)

/-- The SUB of the frame that a step waits for, and the port at which it arrives. -/
def TieStep.awaits : TieStep → Option Nat
  | .releaseN | .releaseF => some 1
  | .assign | .assignBroken => some 2
  | .count => some 3
  | _ => none

/-- A tie-in whose TIE frame is on its way: the wait of R165 is not over. -/
def RopeStr.tieWaits (r : RopeStr) : Bool := r.tie.any (fun t => t.step.awaits.isSome)

/-- The rope is in the stop, where a frame on its way starts nothing more. -/
def State.stops (s : State) : Bool := s.pwr.state == .stopping || s.pwr.state == .halt

/-- In the stop a tie-in goes no further than the transaction it has in flight (R189). -/
def stopTie (str : Nat) (s : State) : State :=
  if s.stops then s.modRope str (fun r => { r with tie := r.tie.filter (fun t => t.step.awaits.isSome) }) else s

/-- One rope in the stop: once its transactions and the frame on its way have ended, SAFE leaves both ends, and the belay
tone stops when it has gone (R165, R189). -/
def stopOne (n : Nat) (s : State) : State :=
  let r := s.ropeStr n
  if r.silent || !r.inflight.isEmpty || r.tieWaits then s
  else match r.safe with
    | some .fromN | some .fromF => s
    | _ =>
      let s := safeStep n (s.modRope n (fun r => { r with tie := none, safe := some .due }))
      if (s.ropeStr n).safe.isNone then ropeGone n s else s

/-- Step 5 of R464 on every rope; the wait for the bleed switches follows the last one. [Log: 30 DEDUCED] -/
def stopRopes (s : State) : State :=
  if s.pwr.state == .stopping && s.pwr.stopStep == .ropes then
    let s := (List.range 8).foldl (fun s n => stopOne n s) s
    if s.rope.strs.all (·.silent) then { s with pwr := { s.pwr with stopStep := .bleed } } else s
  else s

/-- In the stop a frame that was on its way without a RESP has arrived or run its 200 µs: a tie-in goes no further, and
the rope whose SAFE has gone from both ends falls silent (R165, R189). -/
def stopFrame (str : Nat) (s : State) : State :=
  match (s.ropeStr str).safe with
  | some .fromN => safeOver str s
  | some .fromF => stopRopes (if s.pwr.stopStep == .ropes then ropeGone str (safeOver str s) else safeOver str s)
  | _ => stopRopes (s.modRope str (fun r => { r with tie := none }))

end Sys2Proof.Machine
end

