-- ==== Sys2Proof/Machine/TieIn.lean ====
section
/-! DEFINITION. Tie-in (R172 to R180): the steps of R173 and R174, delays, results, ROPE_TIE_IN, ROPE_MAP_READ and
ROPE_RAW. -/

namespace Sys2Proof.Machine

def TieIn.start (attempt : Nat) : TieIn :=
  { step := .releaseN, attempt, broken := false, n := 0, mismatch := false, excess := false, a := 0, b := 33, rechecked := false,
    again := false }

def setTie (str : Nat) (t : TieIn) (s : State) : State := s.modRope str (fun r => { r with tie := some t })

/-- The results that a rope's positions hold as a tie-in begins (R527, R529): those of its monitors; an attempt that follows
another keeps those of the first. -/
def heldAuth (r : RopeStr) : List (Nat × OldAuth) :=
  r.mons.map (fun e => (e.1, { serial := e.2.serial, auth := e.2.auth, next := e.2.authNext }))

/-- Step 1 of R173: the sweep is suspended and RELEASE leaves the N end. A transaction in flight is dropped with it. T_RING and
DLY_WARN are this tie-in's own: 0 until it measures or warns (R177, R180). The monitors' RETRIES, CRC_ERR and FAILS count from
here on, the tie-in's own transactions included. [Log: 32 DEDUCED, 74 DEDUCED] -/
def tieBegin (str attempt : Nat) (s : State) : State :=
  castTie str .N 0 [1]
    (s.modRope str (fun r => { r with tie := some (TieIn.start attempt), silent := false, inflight := r.inflight.filter (fun t => match t.use with | .raw _ => true | _ => false),
                                      txnWait := [], sweep := none, locate := none, balTodo := [], authTodo := [], probeTodo := [], probedN := none, probedF := none,
                                      tRing := 0, tRingNs := 0, dlyWarn := false,
                                      oldAuth := if attempt = 1 then heldAuth r else r.oldAuth
                                      mons := [], ringNext := false, throughRun := 0, probeOut := false }))

/-- E of R174: MON_EXPECT. -/
def State.expect (s : State) (str : Nat) : Nat := (s.strCfg str).monExpect

/-! ### ROPE_TIE_IN completions (R179, R385) -/

/-- Log: 51 DEDUCED. -/
def tieResults (mask : Nat) (s : State) : List Byte :=
  (List.range 8).map (fun n => if mask.testBit n then BitVec.ofNat 8 (s.ropeStr n).tieResult.code else 0xFF#8) ++
    (List.range 8).map (fun n => BitVec.ofNat 8 (s.ropeStr n).count)

/-- A rope's tie-in has ended: commands that wait for no other rope complete with OK. -/
def tieCmdDone (str : Nat) (s : State) : State :=
  let cmds := s.rope.tieCmds.map (fun c => (c.1, setBit c.2 str false))
  let ended := cmds.filter (fun c => c.2 == 0)
  let s := { s with rope := { s.rope with tieCmds := cmds.filter (fun c => c.2 != 0) } }
  ended.foldl (fun s c => complete 0x10 c.1 stOK (tieResults (c.1.pU 0 1) s) s) s

/-! ### The end of a tie-in (R175) -/

/-- Result and mode of a tie-in with the ring whole: n monitors, E expected. -/
def ringOutcome (n e : Nat) : TieResult × RopeMode :=
  if n = 0 then (.noMonitors, .down) else if e < n then (.excess, .down) else if n < e then (.short, .ring) else (.ok, .ring)

/-- Result and mode of a broken rope: 1 to a from N, b to E from F. -/
def brokenOutcome (a b e : Nat) : TieResult × RopeMode :=
  if a = 0 && e < b then (.noMonitors, .down) else (.broken, modeOf e a b)

/-- Reports of R499 for an end that reaches no monitor while the other reaches all E. -/
def tieReports (str a b e : Nat) (s : State) : State :=
  let s := if a = 0 && b ≤ 1 && s.portUp str .N then fileReport { target := 2, index := 2 * str } s else s
  if e < b && e ≤ a && 1 ≤ e && s.portUp str .F then fileReport { target := 2, index := 2 * str + 1 } s else s

/-- Host requests that waited for the tie-in and can no longer be served complete with BAD_STATE (R191). -/
def rawJudge (str : Nat) (s : State) : State :=
  let ok (e : Submission × List Byte) : Bool := (s.ropeStr str).mode != .down && s.reachable str (e.1.pU 2 1)
  let bad := (s.ropeStr str).rawQueue.filter (fun e => !ok e)
  let s := s.modRope str (fun r => { r with rawQueue := r.rawQueue.filter ok })
  bad.foldl (fun s e => complete 0x11 e.1 stBadState [] s) s

/-- The monitors that a tie-in has found, in address order. -/
def tieAddrs (t : TieIn) (e : Nat) : List Nat :=
  if t.broken then ((List.range e).map (· + 1)).filter (fun k => k ≤ t.a || t.b ≤ k) else (List.range t.n).map (· + 1)

/-- Monitors tied in: n of a ring, those that answered from either end of a broken rope (R175, R180). -/
def TieIn.tiedIn (t : TieIn) (e : Nat) : Nat := min 32 (tieAddrs t e).length

/-- The tie-in ends with a result: mode, ROPE_BREAK, the epoch, EV00 to EV07 on a change, and the commands that wait.
UNADDR clears, since the rope's monitors have their addresses afresh: R185 names no other moment. [Log: 74 DEDUCED] -/
def tieEnd (str : Nat) (t : TieIn) (res : TieResult) (mode : RopeMode) (s : State) : State :=
  let e := s.expect str
  let s := s.modRope str (fun r =>
    { r with tie := none, tied := true, tieResult := res, count := t.tiedIn e, top := if t.broken then e else t.n
             tieEpoch := s.frm.epoch, missN := 0, missF := 0, unaddrN := 0, unaddrF := 0, unaddr := false })
  let brk := t.broken && mode != .down
  let s := setMode str (if t.broken then t.a else t.n) (if t.broken then t.b else 1) mode (if brk then some t.a else none)
    (if brk && t.a + 1 < t.b then some (t.b - 1) else none) s
  let s := s.modRope str (fun r => { r with rewrite := r.rewrite.filter (fun m => (mapGet r.mons m).any Mon.reachable) })
  let s := if t.broken then tieReports str t.a t.b e s else s
  let s := rawJudge str (tieCmdDone str s)
  let s := if (s.ropeStr str).tieAgain then tieBegin str 1 (s.modRope str (fun r => { r with tieAgain := false })) else s
  ropeGap str s

/-! ### Steps (R173, R174) -/

/-- The end from which steps 4 to 7 reach a monitor. -/
def tieFrom (t : TieIn) (k : Nat) : RopeEnd := if t.broken && !(k ≤ t.a) then .F else .N

def nextAddr (l : List Nat) (k : Nat) : Option Nat := l.find? (fun x => k < x)

/-- ASSIGN with DESCENDING leaves the F end with NEXT = E (R174). -/
def castDescending (str : Nat) (t : TieIn) (s : State) : State :=
  castTie str .F 63 [2, BitVec.ofNat 8 (s.expect str), 2] (setTie str { t with step := .assignBroken } s)

/-- A rope that cannot be tied in as a ring is tied in as a broken one (R174). [Log: 74 DEDUCED] -/
def tieBroken (str : Nat) (t : TieIn) (s : State) : State :=
  let t := { t with broken := true, a := 0, b := s.expect str + 1, step := .findN 1 }
  let s := s.modRope str (fun r => { r with tRing := 0, tRingNs := 0 })
  if s.portUp str .N then sendEcho str .N 1 .echoTie (setTie str t s) else castDescending str t s

/-- ASSIGN or COUNT failed: the tie-in repeats once from step 1, then goes on as a broken rope (R174). [Log: 74 DEDUCED] -/
def tieRetry (str : Nat) (t : TieIn) (s : State) : State :=
  if t.attempt < 2 then tieBegin str 2 s else tieBroken str t s

/-- Step 6 for the next monitor, or the end of the tie-in. -/
def tieConfigFrom (str k : Nat) (t : TieIn) (s : State) : State :=
  match nextAddr (tieAddrs t (s.expect str)) k with
  | some m => sendConfigPage str (tieFrom t m) m (setTie str { t with step := .config m } s)
  | none =>
    let o := if t.broken then brokenOutcome t.a t.b (s.expect str) else ringOutcome t.n (s.expect str)
    tieEnd str t o.1 o.2 s

/-- Step 5 for the next monitor, or step 6. -/
def tieIdentityFrom (str k : Nat) (t : TieIn) (s : State) : State :=
  match nextAddr (tieAddrs t (s.expect str)) k with
  | some m => sendRead str (tieFrom t m) m 0 0 15 .identity (setTie str { t with step := .identity m } s)
  | none => tieConfigFrom str 0 t s

/-- R177 on a monitor's delays: |T_ring − (D_N + D_F + 1 µs)| ≤ 200 ns. -/
def delayOk (r : RopeStr) (m : Mon) : Bool :=
  let d : Int := 50 * (r.tRing : Int) - (50 * (m.delayN : Int) + 50 * (m.delayF : Int) + 1000)
  d ≤ 200 && -200 ≤ d

/-- Step 4 goes on to the next address, to the F end, or to step 5. -/
def tieEchoN (str k : Nat) (t : TieIn) (s : State) : State :=
  if k ≤ t.n then sendEcho str .N k .echoTie (setTie str { t with step := .echoN k } s)
  else sendEcho str .F 1 .echoTie (setTie str { t with step := .echoF 1 } s)

def tieEchoF (str k : Nat) (t : TieIn) (s : State) : State :=
  if k ≤ t.n then sendEcho str .F k .echoTie (setTie str { t with step := .echoF k, rechecked := false } s)
  else tieIdentityFrom str 0 t s

/-- After a monitor's F echo: the check of R177, one repetition of both echoes, then the replacement of D_F. -/
def tieCheck (str k : Nat) (t : TieIn) (s : State) : State :=
  let r := s.ropeStr str
  match mapGet r.mons k with
  | none => tieEchoF str (k + 1) t s
  | some m =>
    if m.delayN = 0xFFFF || delayOk r m then tieEchoF str (k + 1) { t with again := false } s
    else if !t.rechecked then sendEcho str .N k .echoTie (setTie str { t with step := .echoN k, rechecked := true, again := true } s)
    else
      let s := s.modMon str k (fun m => { m with delayF := r.tRing - m.delayN - 20 })
      tieEchoF str (k + 1) { t with again := false } (s.modRope str (fun r => { r with dlyWarn := true }))

/-- D of R176 in units of 50 ns. -/
def echoDelay (deltaNs : Rat) : Nat := pubU 16 ((deltaNs - 12500) / 2 / 50)

/-- A monitor is known from its first answer. -/
def seeMon (str m : Nat) (s : State) : State :=
  s.modRope str (fun r => if (mapGet r.mons m).isSome then r else { r with mons := mapSet r.mons m Mon.fresh })

/-- Step 4 again on a broken rope: an ECHO to the next monitor from the end that reaches it, then step 5 (R174). -/
def tieEchoBroken (str k : Nat) (t : TieIn) (s : State) : State :=
  match nextAddr (tieAddrs t (s.expect str)) k with
  | some m => sendEcho str (tieFrom t m) m .echoTie (setTie str { t with step := .echoBroken m } s)
  | none => tieIdentityFrom str 0 t s

/-- A tie-in ECHO was answered. -/
def tieEchoOk (str : Nat) (e : RopeEnd) (k : Nat) (deltaNs : Rat) (s : State) : State :=
  let d := echoDelay deltaNs
  let s := (seeMon str k s).modMon str k (fun m => match e with | .N => { m with delayN := d } | .F => { m with delayF := d })
  match (s.ropeStr str).tie with
  | none => s
  | some t => match t.step with
    | .echoN _ => if t.again then sendEcho str .F k .echoTie (setTie str { t with step := .echoF k } s) else tieEchoN str (k + 1) t s
    | .echoF _ => tieCheck str k t s
    | .findN _ =>
      let t := { t with a := k }
      if k < s.expect str then sendEcho str .N (k + 1) .echoTie (setTie str { t with step := .findN (k + 1) } s)
      else castDescending str t s
    | .findF _ =>
      let t := { t with b := k }
      if 1 < k then sendEcho str .F (k - 1) .echoTie (setTie str { t with step := .findF (k - 1) } s) else tieEchoBroken str 0 t s
    | .echoBroken _ => tieEchoBroken str k t s
    | _ => s

/-- A tie-in ECHO failed after its retries. In step 4 it is passed over: the delay stays unmeasured (0xFFFF) and the monitor
counts as tied in and reachable as ASSIGN and COUNT found it, or for a broken rope as the ECHOs of R174 did; where a repeated
ECHO of R177 fails, the delays of the first check are kept and DLY_WARN stays clear. [Log: 74 DEDUCED] -/
def tieEchoFailed (str : Nat) (k : Nat) (s : State) : State :=
  match (s.ropeStr str).tie with
  | none => s
  | some t => match t.step with
    | .echoN _ => if t.again then tieEchoF str (k + 1) { t with again := false } s else tieEchoN str (k + 1) t s
    | .echoF _ => tieEchoF str (k + 1) { t with again := false } s
    | .findN _ => castDescending str t s
    | .findF _ => tieEchoBroken str 0 t s
    | .echoBroken _ => tieEchoBroken str k t s
    | _ => s

/-- The broken rope's ASSIGN has run its 200 µs: ECHOs from the F end begin (R174). -/
def tieFindF (str : Nat) (t : TieIn) (s : State) : State :=
  if s.portUp str .F then sendEcho str .F (s.expect str) .echoTie (setTie str { t with step := .findF (s.expect str) } s)
  else tieEchoBroken str 0 t s

/-- The identity page of a monitor was read (R171, R173 step 5), or could not be. [Log: 74 DEDUCED] -/
def tieIdentity (str k : Nat) (data : Option (List Byte)) (s : State) : State :=
  let s := match data with
    | some d =>
      let n := BitVec.ofNat 64 (fieldU d 0 8)
      let old : Option OldAuth := (mapGet (s.ropeStr str).oldAuth k).filter (fun o => o.serial == n && o.next.getD o.auth == AuthResult.ok)
      s.modMon str k (fun m => { m with serial := n, model := fieldU d 8 1, fwVer := fieldU d 10 2,
                                        auth := (old.map (fun (o : OldAuth) => o.auth)).getD m.auth, authNext := (old.map (fun (o : OldAuth) => o.next)).getD m.authNext,
                                        authHad := old.isSome || m.authHad })
    | none => s
  match (s.ropeStr str).tie with
  | some t => (match t.step with | .identity _ => tieIdentityFrom str k t s | _ => s)
  | none => s

/-- The configuration page was written, or could not be: a monitor whose WRITE fails, like one whose identity READ does, still
counts as tied in. [Log: 74 DEDUCED] -/
def tieConfigDone (str k : Nat) (s : State) : State :=
  match (s.ropeStr str).tie with
  | some t => (match t.step with | .config _ => tieConfigFrom str k t s | _ => s)
  | none => s

/-- ASSIGN left the N end (R173 step 2). -/
def tieAssign (str : Nat) (t : TieIn) (s : State) : State :=
  castTie str .N 63 [2, 1, 0] (setTie str { t with step := .assign } s)

/-- ASSIGN has reached the F port with a valid CRC: NEXT and OVERFLOW (R173 steps 2 and 3, R175, R177). T_RING is kept where the
tie-in then ends in EXCESS or COUNT_MISMATCH. [Log: 74 DEDUCED] -/
def assignBack (str : Nat) (t : TieIn) (next : Nat) (overflow : Bool) (delayNs : Rat) (s : State) : State :=
  let n := next - 1
  let s := s.modRope str (fun r => { r with tRing := pubU 16 (delayNs / 50), tRingNs := delayNs })
  if overflow || s.expect str < n then tieEnd str { t with n := n } .excess .down s
  else castTie str .F 0 [3, BitVec.ofNat 8 n, 0, 0] (setTie str { t with step := .count, n := n } s)

/-- COUNT has reached the N port with a valid CRC: COUNT and MISMATCH. Counts of 0 that match fit two rows of R175; the model
takes NO_MONITORS and DOWN. Counts that disagree on a second attempt end the tie-in
with COUNT_MISMATCH, whatever made the first one fail: R175 names the case of two disagreements alone. [Log: 74 DEDUCED] -/
def countBack (str : Nat) (t : TieIn) (counted : Nat) (mismatch : Bool) (s : State) : State :=
  if counted = t.n && !mismatch then
    if t.n = 0 then tieEnd str t .noMonitors .down s
    else tieEchoN str 1 t ((List.range t.n).foldl (fun s k => seeMon str (k + 1) s) s)
  else if t.attempt < 2 then tieBegin str 2 s
  else tieEnd str t .countMismatch .down s

/-- A frame that R174 waits for is lost: ASSIGN and COUNT repeat the tie-in; the rest goes on. -/
def tieLost (str : Nat) (t : TieIn) (s : State) : State :=
  match t.step with
  | .releaseN => castTie str .F 0 [1] (setTie str { t with step := .releaseF } s)
  | .releaseF => tieAssign str t s
  | .assign | .count => tieRetry str t s
  | .assignBroken => tieFindF str t s
  | _ => s

/-- A TIE frame at the other port. One whose CRC fails has not arrived: ASSIGN and COUNT then repeat the tie-in at once
(R174, R193), the others run their 200 µs. [Log: 74 DEDUCED] -/
def tieArrived (str : Nat) (x : RxRope) (delayNs : Rat) (s : State) : State :=
  match (s.ropeStr str).tie with
  | none => s
  | some t =>
    if !x.crcOk then (match t.step with | .assign | .count => tieRetry str t s | _ => s)
    else if x.typ != tTie || t.step.awaits != some (fieldU x.payload 0 1) then s
    else match t.step with
      | .assign => assignBack str t (fieldU x.payload 1 1) ((fieldU x.payload 2 1).testBit 0) delayNs s
      | .count => countBack str t (fieldU x.payload 2 1) ((fieldU x.payload 3 1).testBit 0) s
      | _ => tieLost str t s

/-- 200 µs without the frame at the other port. -/
def tieTimeout (str : Nat) (s : State) : State :=
  match (s.ropeStr str).tie with
  | none => s
  | some t => tieLost str t s

/-! ### ROPE_TIE_IN, ROPE_MAP_READ, ROPE_RAW (R179, R180, R190, R191) -/

def maskStrs (m : Nat) : List Nat := (List.range 8).filter (fun n => m.testBit n)

/-- ROPE_TIE_IN. [Log: 51 DEDUCED] -/
def execRopeTieIn (sub : Submission) (s : State) : Out :=
  let mask := sub.pU 0 1
  runCmd 0x10 sub
    [(sub.formOk [(0, 1)] && sub.noBuf && mask != 0, stBadField), (s.accepts 0x10, stBusy),
     ((maskStrs mask).all (fun n => s.enabled n), stBadState), ((maskStrs mask).all (fun n => (s.ropeStr n).tie.isNone), stBusy)]
    (fun s =>
      let s := { s with rope := { s.rope with tieCmds := s.rope.tieCmds ++ [(sub, BitVec.ofNat 8 mask)] } }
      (maskStrs mask).foldl (fun s n => tieBegin n 1 s) s) s

/-- The result in force of a position: kept over a tie-in until the tie-in has read its serial (R527, R529). -/
def State.authOf (s : State) (str m : Nat) : AuthResult :=
  let old := if (s.ropeStr str).tie.isSome then mapGet (s.ropeStr str).oldAuth m else none
  match s.mon str m, old with
  | some x, some o => if x.serial = 0 then o.auth else x.auth
  | some x, none => x.auth
  | none, some o => o.auth
  | none, none => .none

/-- STATE of a monitor record (R180). -/
def monState (s : State) (str m : Nat) : Nat :=
  match s.mon str m with
  | none => if m ≤ s.expect str && (s.ropeStr str).tied then 4 else 0
  | some x => if x.reachN && x.reachF then 3 else if x.reachN then 1 else if x.reachF then 2 else 4

def monRecord (s : State) (str m : Nat) : List Byte :=
  let x := (s.mon str m).getD { Mon.fresh with tied := false }
  [BitVec.ofNat 8 m, BitVec.ofNat 8 (monState s str m), BitVec.ofNat 8 (s.authOf str m).code, BitVec.ofNat 8 x.model] ++
    leBytes 8 x.serial.toNat ++ leBytes 2 x.delayN ++ leBytes 2 x.delayF ++ leBytes 2 x.fwVer ++ leBytes 2 x.retries ++
    leBytes 2 x.crcErr ++ leBytes 2 x.fails ++ zeros 8

/-- The rope header and 32 monitor records of R180. -/
def ropeMap (s : State) (str : Nat) : List Byte :=
  let r := s.ropeStr str
  [BitVec.ofNat 8 str, BitVec.ofNat 8 r.mode.code, BitVec.ofNat 8 r.count, BitVec.ofNat 8 (s.expect str),
   BitVec.ofNat 8 r.tieResult.code, 0] ++ leBytes 2 r.tRing ++ leBytes 8 r.tieEpoch ++
    (List.range 32).flatMap (fun i => monRecord s str (i + 1))

/-- ROPE_MAP_READ. -/
def execRopeMapRead (sub : Submission) (s : State) : Out :=
  runCmd 0x12 sub [(sub.formOk [(0, 1)] && sub.hasBuf (1040 ≤ sub.bufLen) && sub.pU 0 1 < 8, stBadField), (s.accepts 0x12, stBusy)]
    (fun s => complete 0x12 sub stOK [] (s.dma sub.bufAddr (ropeMap s (sub.pU 0 1)))) s

/-- ROPE_RAW. [Log: 30 DEDUCED] -/
def execRopeRaw (sub : Submission) (buf : DmaRead) (s : State) : Out :=
  let str := sub.pU 0 1
  let typ := sub.pU 1 1
  let addr := sub.pU 2 1
  let resp := sub.pU 8 8
  let b := bufBytes sub buf
  runCmd 0x11 sub
    [(sub.formOk [(0, 1), (1, 1), (2, 1), (8, 8)] && sub.hasBuf (3 ≤ sub.bufLen && sub.bufLen ≤ 62 && (typ != tRead || sub.bufLen == 3)) &&
        str < 8 && (typ == tRead || typ == tWrite) && 1 ≤ addr && addr ≤ 32 && resp != 0 && resp % 8 == 0, stBadField),
     (s.accepts 0x11, stBusy), (!(s.sec.sealed && typ == tWrite), stSealed),
     ((s.ropeStr str).tie.isSome || ((s.ropeStr str).mode != .down && s.reachable str addr), stBadState), bufRead buf,
     (if typ = tRead then 1 ≤ fieldU b 2 1 && fieldU b 2 1 ≤ 60 else 0x80 ≤ fieldU b 0 1, stBadField)]
    (fun s => ropeGap str (s.modRope str (fun r => { r with rawQueue := r.rawQueue ++ [(sub, b)] }))) s

end Sys2Proof.Machine
end

