-- ==== Sys2Proof/Machine/Auth.lean ====
section
/-! DEFINITION. Module authentication, sealing and keys (R516 to R533), ATTEST (R335), KEY_INSTALL, SEAL. -/

namespace Sys2Proof.Machine

/-! ### Signatures (R516, R517, R520, R521) -/

/-- A 32-byte number, most significant byte first (R516). -/
def beNat (l : List Byte) : Nat := l.foldl (fun a b => 256 * a + b.toNat) 0

/-- The order n of the P-256 group. -/
def p256Order : Nat := 0xFFFFFFFF00000000FFFFFFFFFFFFFFFFBCE6FAADA7179E84F3B9CAC2FC632551

/-- R517: r and s in 1 to n − 1, and the verification equation. [Log: 16 DESIGN CHOICE] -/
def sigValid (key digest sig : List Byte) : Bool :=
  let r := beNat (sig.take 32)
  let t := beNat (sig.drop 32)
  1 ≤ r && r < p256Order && 1 ≤ t && t < p256Order && Config.ecdsaVerify key digest sig

/-- A root slot's key. -/
def State.root (s : State) (k : Nat) : Option (List Byte) := s.sec.slots.getD k none

/-- Kinds of signed object (R520, R521). -/
inductive SignedKind where
  | config | image | firmware
  deriving DecidableEq, Repr

/-- The key that a KEY_ID names for an object of a kind, if it may sign it (R518, R521). -/
def signKey (s : State) (k : SignedKind) (id : Nat) : Option (List Byte) :=
  match k with
  | .firmware => if id = 0x10 then some Config.firmwareKey else none
  | _ => if id < 4 then s.root id else none

/-- R521 on an object whose last 72 bytes are its signature block: `none` for SIG_FAIL, otherwise whether it is
signed. -/
def judgeSig (s : State) (k : SignedKind) (b : List Byte) : Option Bool :=
  let g := sigBlock b
  let id := fieldU g 4 1
  if fieldU g 0 4 != 0x53474E31 || fieldU g 5 1 != 1 || fieldU g 6 2 != 0 then none
  else if id = 0xFF then
    if k == .config || !((g.drop 8).all (· == 0)) then none else some false
  else match signKey s k id with
    | some key => if sigValid key (Config.sha256 (b.take (b.length - 72))) (g.drop 8) then some true else none
    | none => none

/-- Step 8 of R379 for an object with a block: SIG_FAIL, then SEALED for an unsigned one after SEAL. -/
def sigChecks (s : State) (k : SignedKind) (b : List Byte) : List Check :=
  [((judgeSig s k b).isSome, stSigFail), (judgeSig s k b != some false || !s.sec.sealed, stSealed)]

/-- An image is signed. -/
def imgSigned (i : Image) : Bool := fieldU (sigBlock i.bytes) 4 1 != 0xFF

/-! ### Results of positions (R527, R529) -/

/-- The modules of a string: positions up to MON_EXPECT with cells in use. -/
def State.modules (s : State) (str : Nat) : List Nat :=
  ((List.range (s.expect str)).map (· + 1)).filter (fun m => (s.strCfg str).cellsUsed.getD (m - 1) 0 != 0)


def State.anyFail (s : State) (str : Nat) : Bool := (s.modules str).any (fun m => s.authOf str m == .fail)
def State.anyNone (s : State) (str : Nat) : Bool := (s.modules str).any (fun m => s.authOf str m == .none)

/-! ### An authentication (R525, R526) -/

/-- The monitor's authentication is under way. -/
def Mon.authBusy (m : Mon) : Bool := m.authStep != .idle

/-- The frames of an earlier attempt that still wait for a gap are given up with it. -/
def dropAuth (str m : Nat) (s : State) : State := s.modRope str (fun r => { r with authTodo := r.authTodo.filter (fun e => e.1 != m) })

/-- An attempt begins with the identity page (R525 step 1). -/
def authStart (str m : Nat) (s : State) : State :=
  if s.enabled str && s.reachable str m && !(s.mon str m).any Mon.authBusy && s.live then
    (s.modMon str m (fun x => { x with authStep := .reading, authDue := false, cert := [], nonce := [], sigR := none, sigS := none })).modRope str
      (fun r => { r with authTodo := r.authTodo ++ [(m, .identity)] })
  else s.modMon str m (fun x => { x with authDue := x.authDue || !x.authBusy })

/-- Step 7 of R173: every monitor that the tie-in found. -/
def authAll (str : Nat) (s : State) : State := (s.ropeStr str).mons.foldl (fun s e => authStart str e.1 s) s

/-- Attempts that ended without a result begin again (R526, R533). -/
def authResume (str : Nat) (s : State) : State :=
  ropeGap str ((s.ropeStr str).mons.foldl (fun s e => if e.2.authDue then authStart str e.1 s else s) s)

/-- OK_MASK, FAIL_MASK, NONE_MASK (R385). -/
def authResultBytes (w : AuthWait) : List Byte := leBytes 4 w.ok.toNat ++ leBytes 4 w.fail.toNat ++ leBytes 4 w.none_.toNat

/-- AUTH_CHALLENGEs for which nothing is open complete: AUTH_FAIL if a named monitor failed (R408). -/
def authWaitsDone (s : State) : State :=
  let ended := s.rope.authWaits.filter (fun w => w.open_ == 0)
  let s := { s with rope := { s.rope with authWaits := s.rope.authWaits.filter (fun w => w.open_ != 0) } }
  ended.foldl (fun s w => complete 0x38 w.sub (if w.fail == 0 then stOK else stAuthFail) (authResultBytes w) s) s

def AuthWait.note (w : AuthWait) (str m : Nat) (r : AuthResult) : AuthWait :=
  if w.str = str && w.open_.getLsbD (m - 1) then
    let w := { w with open_ := setBit w.open_ (m - 1) false }
    match r with
    | .ok => { w with ok := setBit w.ok (m - 1) true }
    | .fail => { w with fail := setBit w.fail (m - 1) true }
    | .none => { w with none_ := setBit w.none_ (m - 1) true }
  else w

/-- A result is reached: it takes force at the next sample instant; EV52 on a change to AUTH_FAIL, EV53 on a change to
AUTH_OK (R526, R527, R528). [Log: 32 DEDUCED] -/
def authEnd (str m : Nat) (r : AuthResult) (s : State) : State :=
  let old := match s.mon str m with | some x => x.authNext.getD x.auth | none => .none
  let s := dropAuth str m (s.modMon str m (fun x => { x with authStep := .idle, authNext := some r, authHad := true }))
  let s := { s with sec := { s.sec with authCnt := wrap32 (s.sec.authCnt + 1)
                                        failCnt := if r == .fail then wrap32 (s.sec.failCnt + 1) else s.sec.failCnt } }
  let s := if r == .fail && old != .fail then raise 52 (256 * str + m) s
    else if r == .ok && old != .ok then raise 53 (256 * str + m) s else s
  authWaitsDone { s with rope := { s.rope with authWaits := s.rope.authWaits.map (fun w => w.note str m r) } }

/-- A rope transaction failed: the attempt ends without a result (R526), and an AUTH_CHALLENGE that waits for the
monitor completes with the transaction's status (R533). -/
def authAbort (str m : Nat) (status : Nat) (s : State) : State :=
  let s := dropAuth str m (s.modMon str m (fun x => { x with authStep := .idle, authDue := true }))
  let hit (w : AuthWait) : Bool := w.str = str && w.open_.getLsbD (m - 1)
  let ended := s.rope.authWaits.filter hit
  let s := { s with rope := { s.rope with authWaits := s.rope.authWaits.filter (fun w => !hit w) } }
  ended.foldl (fun s w => complete 0x38 w.sub status [] s) s

/-- AUTH_CHALLENGEs of a rope whose named monitors a tie-in no longer reaches complete with ROPE_TIMEOUT (R533). -/
def authUnreach (str : Nat) (s : State) : State :=
  let lost (w : AuthWait) : Bool := w.str = str && (List.range 32).any (fun i => w.open_.getLsbD i && !s.reachable str (i + 1))
  let ended := s.rope.authWaits.filter lost
  let s := { s with rope := { s.rope with authWaits := s.rope.authWaits.filter (fun w => !lost w) } }
  ended.foldl (fun s w => complete 0x38 w.sub stRopeTimeout [] s) s

/-- A tie-in has ended on a rope: its step 7 (R173). [Log: 32 DEDUCED] -/
def authTied (str : Nat) (s : State) : State := ropeGap str (authAll str (authUnreach str s))

/-- What HOLD does to authentications: attempts end without a result and repeat after the return (R533). -/
def authHold (s : State) : State :=
  { s with rope := { s.rope with strs := s.rope.strs.map (fun r => { r with
      authTodo := []
      inflight := r.inflight.filter (fun t => match t.use with | .auth _ => false | _ => true)
      txnWait := r.txnWait.filter (fun w => match w.2.2.1 with | .auth _ => false | _ => true)
      mons := r.mons.map (fun e => if e.2.authBusy then (e.1, { e.2 with authStep := .idle, authDue := true }) else e) }) } }

/-- Today as a day counted from the PTP epoch. [Log: 75 DEDUCED] -/
def State.today (s : State) : Nat := s.now / 86400000000000

/-- R525 step 2 up to the signature: `none` when the checks pass. [Log: 75 DEDUCED] -/
def certJudge (s : State) (x : Mon) : Option AuthResult :=
  let c := x.cert
  let f := fieldU c 0 1
  if f = 0 || f = 0xFF || s.sec.slots.all (·.isNone) then some .none
  else if f != 1 || (s.root (fieldU c 1 1)).isNone || fieldU c 2 1 != x.model || fieldU c 4 8 != x.serial.toNat ||
      (fieldU c 12 4 != 0 && !s.unsync && fieldU c 12 4 < s.today) then some .fail
  else none

/-- A response to a frame of an authentication: its data, or `none` for an error status. [Log: 32 DEDUCED] -/
def authAnswer (str m : Nat) (a : AuthSend) (data : Option (List Byte)) (s : State) : State :=
  let send (l : List AuthSend) (s : State) : State := s.modRope str (fun r => { r with authTodo := r.authTodo ++ l.map (fun a => (m, a)) })
  match s.mon str m, data with
  | none, _ => s
  | some x, none => if x.authBusy then authEnd str m (if s.sec.slots.all (·.isNone) then .none else .fail) s else s
  | some x, some d =>
    match x.authStep, a with
    | .reading, .identity =>
      send [.certificate 0, .certificate 1, .certificate 2]
        (s.modMon str m (fun x => { x with serial := BitVec.ofNat 64 (fieldU d 0 8), model := fieldU d 8 1, fwVer := fieldU d 10 2 }))
    | .reading, .certificate p =>
      let x := { x with cert := x.cert ++ d }
      let s := s.modMon str m (fun _ => x)
      if p < 2 then s
      else match certJudge s x with
        | some r => authEnd str m r s
        | none => s.modMon str m (fun x => { x with authStep := .certVerify })
    | .challenged, .challenge => s
    | .challenged, .fetch p =>
      let ready := fieldU d 0 1
      if ready = 2 then authEnd str m .fail s
      else if ready = 1 then
        let x := if p = 0 then { x with sigR := some ((d.drop 1).take 32) } else { x with sigS := some ((d.drop 1).take 32) }
        s.modMon str m (fun _ => if x.sigR.isSome && x.sigS.isSome then { x with authStep := .sigVerify } else x)
      else s
    | _, _ => s

/-- AUTH_FETCH_TIMER: FETCH for every part that has not arrived (R525 step 4). [Log: 32 DEDUCED] -/
def execAuthFetchTimer (str mon : Nat) (s : State) : Out :=
  match s.mon str mon with
  | some x =>
    if x.authStep == .challenged then
      let l := (if x.sigR.isNone then [AuthSend.fetch 0] else []) ++ (if x.sigS.isNone then [AuthSend.fetch 1] else [])
      .next (ropeGap str (s.modRope str (fun r => { r with authTodo := r.authTodo ++ l.map (fun a => (mon, a)) })))
    else .next s
  | none => .next s

/-- The message that a monitor signs: NONCE, its serial, the device's (R524). -/
def challengeMessage (x : Mon) : List Byte := x.nonce ++ leBytes 8 x.serial.toNat ++ leBytes 8 Config.serial.toNat

/-- AUTH_VERIFY_DONE: of the certificate, after which CHALLENGE follows with a fresh nonce; or of the module's
signature (R525 steps 2, 3 and 5). -/
def execAuthVerifyDone (str mon : Nat) (s : State) : Out :=
  match s.mon str mon with
  | some x =>
    if x.authStep == .certVerify then
      if sigValid ((s.root (fieldU x.cert 1 1)).getD []) (Config.sha256 (x.cert.take 80)) ((x.cert.drop 80).take 64) then
        .next (ropeGap str ((s.modMon str mon (fun x => { x with authStep := .challenged })).modRope str
          (fun r => { r with authTodo := r.authTodo ++ [(mon, .challenge)] })))
      else .next (authEnd str mon .fail s)
    else if x.authStep == .sigVerify then
      let sig := x.sigR.getD [] ++ x.sigS.getD []
      .next (authEnd str mon (if sigValid ((x.cert.drop 16).take 64) (Config.sha256 (challengeMessage x)) sig then .ok else .fail) s)
    else .next s
  | none => .next s

/-- AUTH_SIGNATURE_TIMEOUT: 500 ms after the CHALLENGE (R526). -/
def execAuthSignatureTimeout (str mon : Nat) (s : State) : Out :=
  match s.mon str mon with
  | some x => if x.authStep == .challenged then
      .next (authEnd str mon .fail s) else .next s
  | none => .next s

/-- AUTH_RENEW_TIMER: 24 h after the last result (R527). [Log: 75 DEDUCED] -/
def execAuthRenewTimer (str mon : Nat) (s : State) : Out :=
  if (s.mon str mon).any (·.authHad) then .next (ropeGap str (authStart str mon s)) else .next s

/-- AUTH_RETRY_TIMER: 10 s after an attempt that ended without a result (R526). [Log: 75 DEDUCED] -/
def execAuthRetryTimer (str mon : Nat) (s : State) : Out :=
  if (s.mon str mon).any (·.authDue) then .next (ropeGap str (authStart str mon s)) else .next s

/-! ### Commands -/

/-- Monitors that AUTH_CHALLENGE names: one, or every monitor tied in (R383, R408). -/
def authNamed (s : State) (str addr : Nat) : List Nat :=
  if addr = 0 then (s.ropeStr str).mons.map (·.1) else [addr]

def maskOf (l : List Nat) : BitVec 32 := l.foldl (fun v m => setBit v (m - 1) true) 0

/-- AUTH_CHALLENGE. [Log: 32 DEDUCED] -/
def execAuthChallenge (sub : Submission) (s : State) : Out :=
  let str := sub.pU 0 1
  let named := authNamed s str (sub.pU 1 1)
  runCmd 0x38 sub
    [(sub.formOk [(0, 1), (1, 1)] && sub.noBuf && str < 8 && sub.pU 1 1 ≤ 32, stBadField), (s.accepts 0x38, stBusy),
     (s.enabled str && named.all (fun m => s.reachable str m), stBadState)]
    (fun s =>
      let s := { s with rope := { s.rope with authWaits := s.rope.authWaits ++
        [{ sub, str, open_ := maskOf named, ok := 0, fail := 0, none_ := 0 }] } }
      authWaitsDone (ropeGap str (named.foldl (fun s m => authStart str m s) s))) s

/-- A monitor is authenticated again; one whose authentication is running, once that has ended (R519, R533). [Log: 75 DEDUCED] -/
def authAgain (str m : Nat) (s : State) : State :=
  if (s.mon str m).any Mon.authBusy then s.modMon str m (fun x => { x with authDue := true }) else authStart str m s

/-- Every monitor that a condition selects is authenticated again. -/
def authWhere (p : Mon → Bool) (s : State) : State :=
  (List.range 8).foldl (fun s n => ropeGap n ((s.ropeStr n).mons.foldl (fun s e => if p e.2 then authAgain n e.1 s else s) s)) s

/-- Every monitor that is not AUTH_OK is authenticated again (R519). -/
def authNotOk (s : State) : State := authWhere (fun x => x.authNext.getD x.auth != .ok) s

/-- Time has locked for the first time: AUTH_OK monitors whose certificate expires are authenticated again (R533). -/
def authLocked (s : State) : State := authWhere (fun x => x.authNext.getD x.auth == .ok && fieldU x.cert 12 4 != 0) s

/-- KEY_INSTALL (R406, R519). [Log: 20 DESIGN CHOICE, 75 DEDUCED] -/
def execKeyInstall (sub : Submission) (buf : DmaRead) (s : State) : Out :=
  let slot := sub.pU 0 1
  let key := bufBytes sub buf
  runCmd 0x39 sub
    [(sub.formOk [(0, 1)] && sub.hasBuf (sub.bufLen == 64) && slot < 4, stBadField), (s.accepts 0x39, stBusy),
     (!s.sec.sealed, stSealed), ((s.root slot).isNone, stBadState), bufRead buf, (Config.onCurve key, stBadField)]
    (fun s =>
      let d := s.draw
      if Config.otpFails d.1 then complete 0x39 sub stNvmError [] d.2
      else authNotOk (complete 0x39 sub stOK [] { d.2 with sec := { s.sec with slots := s.sec.slots.set slot (some key) } })) s

/-- Everything that SEAL needs signed: the active firmware, the stored block and every stored image (R407). [Log: 75 DEDUCED] -/
def sealReady (s : State) : Bool :=
  !(s.sec.slots.all (·.isNone)) && (if s.pwr.runB then s.pwr.bankB else s.pwr.bankA).keyId = 0x10 &&
    s.cfg.stored.all (·.signed) && s.cfg.committed.all (fun i => i.all imgSigned)

/-- SEAL; logged as code 0x44 (R512, R522). [Log: 73 DEDUCED, 75 DEDUCED] -/
def execSealDevice (sub : Submission) (s : State) : Out :=
  runCmd 0x3A sub
    [(sub.formOk [(0, 4)] && sub.noBuf && sub.pU 0 4 == 0x5345414C, stBadField), (s.accepts 0x3A, stBusy),
     (!s.sec.sealed, stSealed), (sealReady s, stBadState)]
    (fun s =>
      let s := { s with sec := { s.sec with sealed := true },
                        cfg := { s.cfg with pending := s.cfg.pending.map (fun i => if i.any (fun x => !imgSigned x) then none else i) } }
      complete 0x3A sub stOK [] (logAdd 0x44 0xFF 0 (openInfo 0x44) (saveLeg (saveSys s)))) s

/-- ATTEST (R335). -/
def execAttest (sub : Submission) (s : State) : Out :=
  let epoch := sub.pU 0 8
  let kept := s.cairn.digests.find? (fun d => d.epoch == epoch)
  runCmd 0x3B sub
    [(sub.formOk [(0, 8), (8, 16)] && sub.hasBuf (64 ≤ sub.bufLen), stBadField), (s.accepts 0x3B, stBusy), (kept.isSome, stBadState)]
    (fun s => match kept with
      | some d =>
        let msg := fit 32 d.digest ++ leBytes 8 epoch ++ leBytes 8 d.tSample ++ (fit 40 sub.param).drop 8 |>.take 64
        complete 0x3B sub stOK (leBytes 8 epoch ++ leBytes 8 d.tSample) (s.dma sub.bufAddr (fit 64 (Config.ecdsaSign (Config.sha256 msg))))
      | none => s) s

end Sys2Proof.Machine
end

