-- ==== Sys2Proof/Machine/Schedule.lean ====
section
/-! DEFINITION. Where windows end (R13 to R16, R20, R39, R585): TIME64 and ticks, the mains prediction, the boundary that
the window in progress runs to. -/

namespace Sys2Proof.Machine

/-! ### The scheme -/

/-- From a SYNC's reference edge to its boundary: 500 µs (R194). -/
abbrev syncLead : Nat := 120000

/-- TIME64 in 2^-32 ns, `d` ticks from now (R417). -/
def rawIn (d : Nat) (s : State) : Nat := s.clk.time.toNat + d * s.clk.inc.toNat

/-- Ticks that pass while TIME64 advances by `ns` at the present TIM_INC. -/
def ticksFor (ns : Nat) (s : State) : Nat := (ns * two32 + s.clk.inc.toNat / 2) / max 1 s.clk.inc.toNat

/-- The tick `d` ticks from now lies within one tick of a TIME64 instant (R13, R15). [Log: 25 DEDUCED] -/
def withinTick (d ns : Nat) (s : State) : Bool :=
  rawIn d s < ns * two32 + s.clk.inc.toNat && ns * two32 < rawIn d s + s.clk.inc.toNat

/-- The instant of the FIXED grid at this tick, if there is one. -/
def gridNow (c : Scheme) (s : State) : Option Nat :=
  let g := c.gridFrom (s.now - 5)
  if withinTick 0 g s then some g else none

/-- TIME64 lies on the grid of R15, within one tick. [Log: 25 DEDUCED] -/
def onGrid (c : Scheme) (s : State) : Bool := (gridNow c s).isSome

/-- The mains period of the prediction: the one tracked last, or that of LINE_FREQ before one is measured (R14, R585). -/
def linePeriod (s : State) : Nat :=
  max 1 (if s.frm.line.tracked then s.frm.line.period else tickHz / max 1 s.frm.scheme.lineFreq)

/-- Length of an ordinary window in ticks: fixed, or the mains period tracked last times the cycles (R14 to R16). -/
def windowTicks (s : State) : Nat :=
  let c := s.frm.scheme
  if c.fixed then c.windowMs * 240000 else c.cycles * linePeriod s

/-- LINE_IN is tracked and locked, so that crossings are predicted. -/
def LineTrack.predicts (l : LineTrack) : Bool := l.tracked && !l.lost && l.lastCross.isSome

/-- The predicted crossing nearest to a tick, and the first one at or after a tick (R14). -/
def crossNear (s : State) (t : Nat) : Nat :=
  let c := s.frm.line.lastCross.getD t
  c + (t - c + linePeriod s / 2) / linePeriod s * linePeriod s

def crossFrom (s : State) (t : Nat) : Nat :=
  let c := s.frm.line.lastCross.getD t
  c + (t - c + linePeriod s - 1) / linePeriod s * linePeriod s

/-- Two ticks lie within the prediction error of R14, 2 µs. -/
def near2us (a b : Nat) : Bool := a ≤ b + 480 && b ≤ a + 480

/-- The scheme that a configuration gives (R394), with the shift and the LEAN rate kept. [Log: 25 DEDUCED] -/
def schemeOf (g : GlobalCfg) (old : Scheme) : Scheme :=
  { old with fixed := g.windowMode == 1, cycles := g.windowCycles, windowMs := g.windowMs, lineFreq := g.lineFreq, rate := g.frameRate,
             phaseUs := g.framePhase }

/-! ### The end of the window in progress (R14 to R16, R20, R39) -/

/-- 5 ms in ticks: the least length of a transition window (R39). -/
abbrev leastTransition : Nat := 1200000

/-- Where the window that started at `winStart` ends, unless a SYNC freezes another tick: one window on, or, for a
transition window, the first boundary of the scheme at least 5 ms on. [Log: 25 DEDUCED] -/
def planEnd (s : State) : State :=
  let f := s.frm
  let c := f.scheme
  let len := windowTicks s
  let ns := if f.transition then c.gridFrom (f.winTime + 5000000) else c.gridFrom (f.winTime + c.windowNs - c.windowNs / 2)
  let tick :=
    if c.fixed then f.winStart + ticksFor (ns - f.winTime) s
    else if f.transition then
      if f.line.predicts then crossFrom s (f.winStart + leastTransition) else f.winStart + max len leastTransition
    else if f.line.predicts then crossNear s (f.winStart + len)
    else f.winStart + len
  { s with frm := { f with winEnd := tick, winEndNs := ns, held := !f.line.predicts } }

/-- The window in progress ends `d` ticks from now: at the frozen tick; within a tick of the grid in FIXED mode; within
2 µs of the predicted crossing in LINE mode; at the held length without lock. [Log: 2 DESIGN CHOICE, 25 DEDUCED] -/
def endsIn (d : Nat) (s : State) : Bool :=
  let f := s.frm
  if f.frozen then s.clk.ticks + d == f.winEnd
  else if f.scheme.fixed then withinTick d f.winEndNs s
  else if f.held then s.clk.ticks + d == f.winEnd
  else near2us (s.clk.ticks + d) f.winEnd

/-- Tracking moves the end of the window in progress while no SYNC has frozen it (R14, R20). A window of held length keeps
its end: a return of lock moves the windows at its boundary (R16, R586). -/
def replan (s : State) : State :=
  if s.frm.measuring && !s.frm.frozen && !s.frm.scheme.fixed && !s.frm.held then planEnd s else s

/-- The window in progress when lock is lost keeps the end that the last tracking gave it; the windows after it run for
the held length (R16). [Log: 25 DEDUCED] -/
def holdEnd (s : State) : State := { s with frm := { s.frm with held := true, winEnd := max s.frm.winEnd s.clk.ticks } }

/-- A SYNC freezes the boundary 500 µs ahead (R20, R194). -/
def freezeEnd (s : State) : State := { s with frm := { s.frm with frozen := true, winEnd := s.clk.ticks + syncLead } }

end Sys2Proof.Machine
end

