-- ==== Sys2Proof/Machine/Tuning.lean ====
section
/-! DEFINITION. The tuning engine (R79 to R114): interpolation, accumulation, fit, plausibility, take-force, and the
commands TUNE_NOW and TUNE_READ. -/

namespace Sys2Proof.Machine

/-! ### Tables (R86 to R90) -/

/-- Die temperatures of the five table points in 0.01 °C (R86). -/
def tablePoints : List Int := [-4000, -1000, 2500, 6000, 10500]

def pointT (p : Nat) : Int := tablePoints.getD p 0

/-- The segment whose ends are the neighbouring points, after the clamp of R88. -/
def segmentOf (t : Int) : Nat := if t < -1000 then 0 else if t < 2500 then 1 else if t < 6000 then 2 else 3

/-- R88: the temperature at which c(T) is read. -/
def clampDie (t : Rat) : Rat := clampR (-4500) 13000 t

def segmentAt (t : Rat) : Nat := segmentOf (clampDie t).floor

/-- The weight of the upper point of the segment (R88). -/
def upperWeight (t : Rat) : Rat :=
  let a := segmentAt t
  (clampDie t - pointT a) / (pointT (a + 1) - pointT a : Int)

def lerp (a b w : Rat) : Rat := a + (b - a) * w

/-- c(T) of a table (R88). -/
def coefAt (table : List Coef) (t : Rat) : Coef :=
  let a := table.getD (segmentAt t) Coef.ideal
  let b := table.getD (segmentAt t + 1) Coef.ideal
  let w := upperWeight t
  { o := lerp a.o b.o w, g := lerp a.g b.g w, k := lerp a.k b.k w }

def Coef.add (a b : Coef) : Coef := { o := a.o + b.o, g := a.g + b.g, k := a.k + b.k }
def Coef.sub (a b : Coef) : Coef := { o := a.o - b.o, g := a.g - b.g, k := a.k - b.k }
def Coef.zero : Coef := { o := 0, g := 0, k := 0 }

/-- Coefficients in force when evaluated at a die temperature: c(T) plus the live correction (R90). -/
def TunUnit.evaluate (u : TunUnit) (die : Int) : TunUnit := { u with inForce := (coefAt u.refined die).add u.live }

/-- The correction that a tuned path makes of a raw value: G·u + K·u² with u = raw − O (R52, R86). -/
def Coef.apply (c : Coef) (raw : Rat) : Rat := c.g * (raw - c.o) + c.k * ((raw - c.o) * (raw - c.o))

/-! ### Classes of unit (R86) -/

def isQ (u : Nat) : Bool := u < 16
def isDirect (u : Nat) : Bool := u == 16 || u == 25
/-- Index of the path class in `Config.calLevel`. -/
def levelClass (u : Nat) : Nat := if isDirect u then 1 else 0
/-- The fast converter of a unit. -/
def fastOf (u : Nat) : Nat := if u < 25 then 0 else 1
/-- The unit of R384 that a tuning unit belongs to. -/
def tunTarget (u : Nat) : UnitId := if isQ u then { target := 0, index := u } else { target := 1, index := fastOf u }
/-- Full scale of a path in V (R95). -/
def fullScale (u : Nat) : Rat := if isDirect u then 5 / 2 else 1 / 20
/-- Slots, or conversions, that complete an accumulation (R92, R107). -/
def accSize (u : Nat) : Nat := if isQ u then 1000 else 320

/-- The RREF port is declared open: tuning is suspended (R73). -/
def State.rrefOpen (s : State) : Bool := (s.met.ports.getD 8 OwPort.reset).isOpen

/-- The engine runs while windows do, but not in HOLD or HALT (R113). -/
def State.tuningRuns (s : State) : Bool := s.metering && s.pwr.state != .hold

/-- Tuning of a unit runs: neither suspended (R73) nor retired (R113). -/
def State.tuning (s : State) (u : Nat) : Bool :=
  s.tuningRuns && !s.met.refBackup && !s.rrefOpen && !s.retired (tunTarget u)

/-- The accumulation in progress is discarded. The rotation goes on at the point it had reached: R92 continues it and R93
names the slots that do not advance it, and the spec gives no restart. [Log: 23 DEDUCED] -/
def TunUnit.clearAcc (u : TunUnit) : TunUnit :=
  { u with acc := List.replicate 5 PointAcc.zero, slots := 0, minT := 0, maxT := 0, sumT := 0 }

/-- The accumulation in progress is lost for good, and what waits for its fit with it: no slot of it comes back (R104, R111,
R113). [Log: 23 DEDUCED] -/
def TunUnit.loseAcc (u : TunUnit) : TunUnit :=
  { u.clearAcc with done := none, mark := { u.mark with acc := List.replicate 5 PointAcc.zero, slots := 0, minT := 0, maxT := 0, sumT := 0 } }

/-- A rest begins: the accumulation as it stands. -/
def TunUnit.markRest (u : TunUnit) : TunUnit :=
  { u with mark := { acc := u.acc, point := u.point, slots := u.slots, minT := u.minT, maxT := u.maxT, sumT := u.sumT } }

/-- Unit `i` is suspended with the RREF port (R73): the slots of a Q unit's rest in progress do not count and the rotation
stands where that rest found it (R93), and a result that has not taken force is discarded (R114). -/
def TunUnit.suspend (i : Nat) (u : TunUnit) : TunUnit :=
  let u := if isQ i then
      { u with acc := u.mark.acc, point := u.mark.point, slots := u.mark.slots, minT := u.mark.minT, maxT := u.mark.maxT, sumT := u.mark.sumT }
    else u
  { u with done := none, accepted := none }

/-- Every unit is suspended. -/
def suspendTuning (s : State) : State :=
  { s with tun := { s.tun with units := s.tun.units.zipIdx.map (fun e => e.1.suspend e.2) } }

/-! ### Modes (R100) -/

/-- The temperature lies within `d` of a point, or in the extended range beyond an end point (R88, R100). -/
def inBandOf (p : Nat) (t d : Int) : Bool :=
  ((if p = 0 then min (-4500) (pointT p - d) else pointT p - d) ≤ t) && (t ≤ if p = 4 then max 13000 (pointT p + d) else pointT p + d)

/-- Since when a condition has held without a break. -/
def sinceWhen (holds : Bool) (old : Option Nat) (now : Nat) : Option Nat := if holds then some (old.getD now) else none

/-- The mode as the die temperature moves: 60 s inside ±5 °C of a point enters REFINE for it, 60 s outside ±6 °C leaves
REFINE. -/
def TunUnit.trackMode (u : TunUnit) (t : Int) (now : Nat) : TunUnit :=
  let near := (List.range 5).find? (fun p => inBandOf p t 500)
  let inBand := near.map (fun p => match u.inBand with
    | some (q, t0) => if q = p then (p, t0) else (p, now)
    | none => (p, now))
  let outBand := sinceWhen (u.refine.any (fun p => !inBandOf p t 600)) u.outBand now
  let long (o : Option Nat) : Bool := o.any (fun t0 => secTicks 60 ≤ now - t0)
  match inBand.filter (fun e => long (some e.2)) with
  | some e => { u with refine := some e.1, inBand := inBand, outBand := if u.refine = some e.1 then outBand else none }
  | none => if long outBand then { u with refine := none, inBand := inBand, outBand := none }
            else { u with inBand := inBand, outBand := outBand }

/-- Die temperature A as tuning takes it, and the modes of every unit, after a housekeeping result (R89, R100). [Log: 23 DEDUCED] -/
def tuneTemperature (a b : Option Int) (s : State) : State :=
  let apart : Bool := match a, b with
    | some x, some y => 1000 < x - y || 1000 < y - x
    | _, _ => false
  let near : Bool := match a, b with
    | some x, some y => x - y ≤ 500 && y - x ≤ 500
    | _, _ => false
  let bad := a.isNone || apart
  let agree := if near then (match s.tun.agree with | some t => some t | none => some s.clk.ticks) else none
  let back := match agree with | some t => secTicks 10 ≤ s.clk.ticks - t | none => false
  let useB := if bad then true else if s.tun.useB then !back else false
  let t := (if useB then b.getD s.tun.dieT else a.getD s.tun.dieT)
  { s with tun := { s.tun with useB := useB, agree := agree, dieT := t,
                               units := s.tun.units.map (fun u => u.trackMode t s.clk.ticks) } }

/-! ### TUNE_NOW completions (R111) -/

def tuneResult (w : TuneWait) : List Byte := leBytes 8 w.accepted.toNat ++ leBytes 8 w.rejected.toNat

/-- Every waiting TUNE_NOW whose named units all have a result completes. -/
def tuneComplete (s : State) : State :=
  let finished := s.tun.waits.filter (fun w => w.mask &&& ~~~(w.accepted ||| w.rejected) == 0)
  let s := { s with tun := { s.tun with waits := s.tun.waits.filter (fun w => w.mask &&& ~~~(w.accepted ||| w.rejected) != 0) } }
  finished.foldl (fun s w => complete 0x30 w.sub stOK (tuneResult w) s) s

def tuneNote (u : Nat) (ok : Bool) (s : State) : State :=
  tuneComplete { s with tun := { s.tun with waits := s.tun.waits.map (fun w =>
    if w.mask.getLsbD u && !(w.accepted.getLsbD u || w.rejected.getLsbD u) then
      (if ok then { w with accepted := setBit w.accepted u true } else { w with rejected := setBit w.rejected u true })
    else w) } }

/-! ### Accumulation (R91 to R94) -/

/-- A counted slot, or conversion, of a unit. The one that completes the accumulation hands it to the fit, unless the die
temperature has spread by more than 2.0 °C from its first slot to its last (R92, R94); the next begins a new one. [Log: 23 DEDUCED] -/
def TunUnit.addSlot (u : TunUnit) (full : Nat) (volts : Rat) (die : Int) : TunUnit :=
  let u := { u with
    acc := u.acc.modify u.point (fun a => { n := a.n + 1, sum := a.sum + volts }), point := (u.point + 1) % 5, slots := u.slots + 1,
    minT := if u.slots = 0 then die else min u.minT die, maxT := if u.slots = 0 then die else max u.maxT die, sumT := u.sumT + die }
  if u.slots < full then u
  else if 200 < u.maxT - u.minT then u.clearAcc
  else { u.clearAcc with done := some { acc := u.acc, slots := u.slots, sumT := u.sumT } }

/-- The converter of a Q unit rests: its partner integrates the window in progress, or the string is not enabled (R46, R49). -/
def State.resting (s : State) (unit : Nat) : Bool :=
  !((s.metStr (unit / 2)).snap.enabled && qUnit (unit / 2) s.frm.win == unit)

/-- Ticks from the end of the reset and auto-zero of the rest in progress (R47). -/
def restTicks (s : State) : Nat := s.clk.ticks - (s.frm.winStart + 120000)

/-- A tuning slot of 1 ms ends at this tick, at or before the guard, or before the open-wire slot of the rest (R91). -/
def slotEnds (s : State) (owSlot : Bool) : Bool :=
  decide (s.frm.winStart + 120000 < s.clk.ticks) && restTicks s % 240000 == 0 &&
    decide (s.clk.ticks + (if owSlot then 288000 else 240000) ≤ s.frm.winEnd)

/-- The RREF open-wire test fell into the slot that ends now, or the RREF port is open (R93). -/
def rrefSlot (s : State) : Bool := s.met.rrefTest.any (fun t => s.clk.ticks < t + 240000)

/-- TUNING_SLOT_END: a slot of a resting Q converter ends. It counts unless the rest is discarded (R64), the RREF test
takes the slot, or the unit does not tune (R93, R113). -/
def execTuningSlotEnd (unit : Nat) (volts : Rat) (s : State) : Out :=
  let m := s.metStr (unit / 2)
  let u := s.tunUnit unit
  if isQ unit && s.tuning unit && s.resting unit && slotEnds s m.owTest && u.slotTick != some s.clk.ticks && m.discard != some unit && !rrefSlot s then
    .next (s.modTun unit (fun u => { u.addSlot (accSize unit) volts s.tun.dieT with slotTick := some s.clk.ticks }))
  else .next s

/-! ### The fit (R95) -/

/-- Determinant of a 3 × 3 matrix given by rows. [Log: 23 DEDUCED] -/
def det3 (a b c d e f g h i : Rat) : Rat := a * (e * i - f * h) - b * (d * i - f * g) + c * (d * h - e * g)

/-- Least-squares quadratic a + b·m + c·m² through points (m, r). [Log: 23 DEDUCED] -/
def quadFit (pts : List (Rat × Rat)) : Rat × Rat × Rat :=
  let n : Rat := pts.length
  let s1 := sumR (pts.map (fun p => p.1))
  let s2 := sumR (pts.map (fun p => p.1 * p.1))
  let s3 := sumR (pts.map (fun p => p.1 * p.1 * p.1))
  let s4 := sumR (pts.map (fun p => p.1 * p.1 * p.1 * p.1))
  let t0 := sumR (pts.map (fun p => p.2))
  let t1 := sumR (pts.map (fun p => p.1 * p.2))
  let t2 := sumR (pts.map (fun p => p.1 * p.1 * p.2))
  let d := det3 n s1 s2 s1 s2 s3 s2 s3 s4
  (det3 t0 s1 s2 t1 s2 s3 t2 s3 s4 / d, det3 n t0 s2 s1 t1 s3 s2 t2 s4 / d, det3 n s1 t0 s1 s2 t1 s2 s3 t2 / d)

/-- O, G and K of a quadratic: O is its root near 0, G its slope there, K its curvature (R95). [Log: 23 DEDUCED] -/
def coefOfQuad (a b c : Rat) : Coef :=
  if c = 0 then { o := -a / b, g := b, k := 0 }
  else
    let g := sqrtR (b * b - 4 * a * c)
    { o := (g - b) / (2 * c), g, k := c }

/-- r_i of R83. -/
def trueLevel (s : State) (u i : Nat) : Rat := Config.calLevel (levelClass u) i / (1 + (s.tun.rrefCorr : Rat) / 100000000)

def accPoints (s : State) (uidx : Nat) (u : Accumulation) : List (Rat × Rat) :=
  u.acc.zipIdx.map (fun a => (a.1.sum / (max 1 a.1.n : Nat), trueLevel s uidx a.2))

/-- Mean square of e_i over the five points. -/
def fitError (c : Coef) (pts : List (Rat × Rat)) : Rat :=
  sumR (pts.map (fun p => (c.apply p.1 - p.2) * (c.apply p.1 - p.2))) / 5

/-! ### Plausibility (R96) -/

/-- Limits of a class: gain and offset against c(T̄), residual, and gain, offset and K against the factory point. -/
def limitsOf (u : Nat) : Rat × Rat × Rat × Rat × Rat × Rat :=
  if isQ u then (200 / 1000000, 2 / 1000000, 5 / 1000000, 500 / 1000000, 5 / 1000000, 5 / 10000)
  else if isDirect u then (2000 / 1000000, 1 / 1000, 200 / 1000000, 5000 / 1000000, 2 / 1000, 2 / 100000)
  else (2000 / 1000000, 100 / 1000000, 200 / 1000000, 5000 / 1000000, 250 / 1000000, 2 / 1000)

/-- The weight of a table point at a temperature (R88, R101). -/
def pointWeight (p : Nat) (t : Rat) : Rat :=
  if p = segmentAt t then 1 - upperWeight t else if p = segmentAt t + 1 then upperWeight t else 0

/-- A refined point after an accepted result (R101). [Log: 23 DEDUCED] -/
def refinePoint (table : List Coef) (p : Nat) (t : Rat) (r : Coef) : Coef :=
  let d := r.sub (coefAt table t)
  let w := pointWeight p t
  let w := if w = 0 then 1 else w
  (table.getD p Coef.ideal).add { o := d.o / w, g := d.g / w, k := d.k / w }

/-- The limits that fail: bit 0 gain, 1 offset, 2 residual, 3 factory bound (R96, R109). -/
def failedLimits (uidx : Nat) (u : TunUnit) (r : Coef) (err2 t : Rat) : Nat :=
  let l := limitsOf uidx
  let c := coefAt u.refined t
  let fact : Bool := match u.refine with
    | none => false
    | some p =>
      let n := refinePoint u.refined p t r
      let f := Coef.factory uidx p
      l.2.2.2.1 < absR (n.g / f.g - 1) || l.2.2.2.2.1 < absR (n.o - f.o) || l.2.2.2.2.2 < absR (n.k - f.k)
  bit (l.1 < absR (r.g / c.g - 1)) 0 + bit (l.2.1 < absR (r.o - c.o)) 1 +
    bit (l.2.2.1 * l.2.2.1 * fullScale uidx * fullScale uidx ≤ err2) 2 + bit fact 3

/-- TUNING_FIT_DONE: a complete accumulation is fitted and judged (R95 to R98, R105, R106). [Log: 23 DEDUCED] -/
def execTuningFitDone (unit : Nat) (s : State) : Out :=
  let u := s.tunUnit unit
  match u.done with
  | none => .next s
  | some d =>
    if !s.tuning unit then .next s
    else
      let pts := accPoints s unit d
      let q := quadFit pts
      let c := coefOfQuad q.1 q.2.1 q.2.2
      let err2 := fitError c pts
      let t : Rat := (d.sumT : Rat) / (d.slots : Nat)
      let rej := failedLimits unit u c err2 t
      if rej = 0 then
        let r : FitResult := { coef := c, residual := pubU 32 (sqrtR err2 / fullScale unit * 100000000), dieT := t,
                               refine := u.refine, tick := s.clk.ticks }
        .next (tuneNote unit true (s.modTun unit (fun u =>
          { u with done := none, accepted := some r, rejConsec := 0, residual := r.residual, accTick := some s.clk.ticks, dieT := roundAway t })))
      else
        let s := raise 37 unit (s.modTun unit (fun u =>
          { u with done := none, rejConsec := (u.rejConsec + 1) % 3, rejTotal := min 0xFFFF (u.rejTotal + 1), lastRej := BitVec.ofNat 4 rej }))
        .next (tuneNote unit false (if u.rejConsec = 2 then fileReport (tunTarget unit) s else s))

/-! ### Take-force (R101 to R106) -/

/-- An accepted result takes force: REFINE moves the point, LIVE sets the live correction. -/
def TunUnit.take (u : TunUnit) (r : FitResult) : TunUnit :=
  match r.refine with
  | some p => { u with refined := u.refined.set p (refinePoint u.refined p r.dieT r.coef), live := Coef.zero, accepted := none }
  | none => { u with live := r.coef.sub (coefAt u.refined r.dieT), accepted := none }

/-- The unit's coefficients at a boundary, with an accepted result that is due taking force and EV36 (R90, R105, R106).
While tuning is suspended no result takes force; c(T) and the live correction are evaluated all the same (R73, R113). -/
def takeUnit (unit : Nat) (s : State) : State :=
  let u := s.tunUnit unit
  let due (r : FitResult) : Bool := !s.rrefOpen && !s.met.refBackup && (isQ unit || 96000 ≤ s.clk.ticks - r.tick)
  match u.accepted.filter due with
  | some r =>
    let s := s.modTun unit (fun u => (u.take r).evaluate s.tun.dieT)
    raise 36 unit (if r.refine.isSome then { s with tun := { s.tun with dirty := true } } else s)
  | none => s.modTun unit (fun u => u.evaluate s.tun.dieT)

/-- A new RREF_CORR takes force: every G of the refined tables and every ΔG is scaled, accumulations restart (R104). -/
def takeRrefCorr (s : State) : State :=
  match s.tun.corrNext with
  | none => s
  | some c =>
    let k : Rat := (1 + (s.tun.rrefCorr : Rat) / 100000000) / (1 + (c : Rat) / 100000000)
    { s with tun := { s.tun with rrefCorr := c, corrNext := none, dirty := true, units := s.tun.units.map (fun u =>
        { u.loseAcc with done := u.done, refined := u.refined.map (fun x => { x with g := x.g * k }), live := { u.live with g := u.live.g * k },
                          accepted := u.accepted.map (fun r => { r with coef := { r.coef with g := r.coef.g * k } }) }) } }

/-- What the tuning engine does at a window boundary: the Q units of the converters whose window begins, and every
fast-converter unit (R90). -/
def tuneBoundary (win : Nat) (s : State) : State :=
  let s := takeRrefCorr s
  let s := (List.range 8).foldl (fun s n => takeUnit (qUnit n win) s) s
  let s := (List.range 18).foldl (fun s i => takeUnit (16 + i) s) s
  { s with tun := { s.tun with units := s.tun.units.map TunUnit.markRest } }

/-! ### The RREF ratio (R82) -/

/-- Departure of a measured ratio of the RREF voltage to VREF_A from the ratio of production, in ppm (R82). -/
def ratioDeparture (ratio : Rat) : Rat := absR (ratio / Config.rrefRatio - 1) * 1000000

/-- RREF_RATIO_CHECK: ten checks in a row, one a second, above 2,000 ppm file a report; ten below 1,500 ppm clear the
condition. [Log: 23 DEDUCED] -/
def execRrefRatioCheck (ratio : Rat) (s : State) : Out :=
  let d := ratioDeparture ratio
  if !s.tuningRuns then .next s
  else
    let bad := if 2000 < d then s.tun.ratioBad + 1 else 0
    let good := if d < 1500 then s.tun.ratioGood + 1 else 0
    let s := { s with tun := { s.tun with ratioBad := bad, ratioGood := good } }
    if 10 ≤ bad && !s.tun.ratioFiled then .next (fileReport rrefUnit { s with tun := { s.tun with ratioFiled := true } })
    else if 10 ≤ good && (s.tun.ratioFiled || s.met.refRatio) then
      -- The condition clears: the backup reference ends at the next window start unless the port is declared open (R73, R505).
      let s := { s with tun := { s.tun with ratioFiled := false }, met := { s.met with refRatio := false } }
      .next (if s.rrefOpen then s else clearRref s)
    else .next s

/-! ### TUNE_NOW, TUNE_READ (R109 to R112) -/

def maskUnits (m : BitVec 64) : List Nat := (List.range 34).filter (fun u => m.getLsbD u)

/-- Ticks of one accumulation at the current window length (R94, R107, R111): for a Q unit the rests it needs, one in two
windows, up to the last slot of the last one; 10 s for a fast unit. The text of R94 is followed; three figures of its
table round otherwise (5, 80 and 200 ms). [Log: 23 DEDUCED] -/
def accTicks (s : State) (u : Nat) : Nat :=
  if !isQ u then secTicks 10
  else
    let w := windowTicks s
    let n := max 1 ((w - 360000) / 240000)
    let rests := (1000 + n - 1) / n
    (rests - 1) * 2 * w + (1000 - (rests - 1) * n) * 240000

/-- R111: 10 s plus three accumulation times of the slowest named unit. -/
def tuneDeadline (s : State) (mask : BitVec 64) : Nat :=
  s.clk.ticks + secTicks 10 + 3 * ((maskUnits mask).map (accTicks s)).foldl max 0

/-- What TUNE_NOW does to a named unit: the accumulation in progress goes, with one that waits for its fit; a Q unit's
result of the rest in progress is not applied (R111, R112, R114). -/
def TunUnit.restart (reset : Bool) (i : Nat) (u : TunUnit) : TunUnit :=
  let u := { u.loseAcc with accepted := if reset || isQ i then none else u.accepted }
  if reset then { u with refined := (List.range 5).map (Coef.factory i), live := Coef.zero } else u

/-- TUNE_NOW. [Log: 23 DEDUCED] -/
def execTuneNow (sub : Submission) (s : State) : Out :=
  let mask := BitVec.ofNat 64 (sub.pU 0 8)
  let reset := sub.pU 8 1 = 1
  runCmd 0x30 sub
    [(sub.formOk [(0, 8), (8, 1)] && sub.noBuf && mask.toNat < 2 ^ 34 && sub.pU 8 1 < 2, stBadField), (s.accepts 0x30, stBusy),
     ((maskUnits mask).all (fun u => !s.retired (tunTarget u)) && !s.rrefOpen, stBadState)]
    (fun s =>
      let s := (maskUnits mask).foldl (fun s u => s.modTun u (TunUnit.restart reset u)) s
      let s := if reset && mask != 0 then { s with tun := { s.tun with dirty := true } } else s
      tuneComplete { s with tun := { s.tun with waits := s.tun.waits ++
        [{ sub, mask, accepted := 0, rejected := 0, deadline := tuneDeadline s mask }] } }) s

/-- TUNE_NOW_TIMEOUT: the oldest waiting TUNE_NOW whose time is over completes with TIMEOUT and the masks it has (R111). -/
def execTuneNowTimeout (s : State) : Out :=
  match s.tun.waits.find? (fun w => w.deadline ≤ s.clk.ticks) with
  | none => .next s
  | some w => .next (complete 0x30 w.sub stTimeout (tuneResult w) { s with tun := { s.tun with waits := s.tun.waits.erase w } })

/-- STATE of R109. The spec gives no precedence where two codes apply: the model takes retired before suspended before
self-test in progress (log 23). [Log: 23 DEDUCED] -/
def tuneState (s : State) (u : Nat) : Nat :=
  if s.retired (tunTarget u) then 2 else if s.rrefOpen || s.met.refBackup then 1
  else if (s.unitDiag (tunTarget u)).running then 3 else 0

/-- A TUNE_READ record (R109). -/
def tuneRecord (s : State) (i : Nat) : List Byte :=
  let u := s.tunUnit i
  let tp := match u.refine with | some p => p | none => 0x10 + segmentAt s.tun.dieT
  let age := match u.accTick with | some t => pubU 32 (((s.clk.ticks - t : Nat) : Rat) / tickHz) | none => 0xFFFFFFFF
  [BitVec.ofNat 8 i, BitVec.ofNat 8 (tuneState s i), BitVec.ofNat 8 tp, u.lastRej.setWidth 8] ++
    sBytes 4 (pubS 32 ((u.inForce.g - 1) * 100000000)) ++ sBytes 4 (pubS 32 (u.inForce.o * 1000000000000)) ++
    sBytes 4 (pubS 32 (u.inForce.k * 1000000000)) ++ leBytes 4 u.residual ++ leBytes 4 age ++ leBytes 2 u.rejConsec ++
    leBytes 2 u.rejTotal ++ sBytes 2 (clampI (-32768) 32767 u.dieT) ++ leBytes 2 u.slots

/-- TUNE_READ. -/
def execTuneRead (sub : Submission) (s : State) : Out :=
  runCmd 0x31 sub [(sub.formOk [] && sub.hasBuf (1088 ≤ sub.bufLen), stBadField), (s.accepts 0x31, stBusy)]
    (fun s => complete 0x31 sub stOK [] (s.dma sub.bufAddr ((List.range 34).flatMap (tuneRecord s)))) s

end Sys2Proof.Machine
end

