-- ==== Sys2Proof/Machine/Metrology.lean ====
section
/-! DEFINITION. Charge metrology (R42 to R78): from count to charge, the counters, overrange, open wires. -/

namespace Sys2Proof.Machine

/-! ### Conversion (R50 to R54) -/

/-- q_C of R50, in V·s. -/
def qC : Rat := 1 / 100000000000000

/-- Seconds of a number of ticks. -/
def secs (ticks : Nat) : Rat := (ticks : Rat) / 240000000

/-- The published temperature of a pin in 0.01 °C and whether it is SUSPECT. -/
def State.pinTemp (s : State) (p : Nat) : Option Int × Bool :=
  let x := s.thm.pins.getD p PinState.reset
  (x.published, x.suspect)

/-- The shunt temperature in °C (R45, R53), and T_SUBST: it is substituted, or a pin with role SHUNT of the string is SUSPECT
(R457). -/
def shuntTemp (s : State) (n : Nat) : Rat × Bool :=
  let th := (s.strCfg n).shuntTh
  let role := (List.range 16).any (fun p => (s.strCfg n).shuntPins.getLsbD p && (s.pinTemp p).2)
  if 15 < th then (25, role)
  else match s.pinTemp th with
    | (some t, susp) => ((t : Rat) / 100, susp || role)
    | (none, _) => (25, true)

/-- R_SH(T) in Ω (R52). -/
def shuntR (c : ShuntSnap) (t : Rat) : Rat :=
  let dt := t - 25
  (c.rNano : Rat) / 1000000000 * (1 + (c.alpha : Rat) / 1000000000 * dt + (c.beta : Rat) / 1000000000 * dt * dt)

/-- v_OW of R70 in V. -/
def openWireComp (w : OpenWin) : Rat :=
  (w.owMicro : Rat) / 1000000 * ((w.snap.legMilli : Rat) / 1000) * (1 / 5000) / secs w.len

/-- v_w of R52 from a count. -/
def windowVolts (w : OpenWin) (count : Int) : Rat :=
  w.coef.apply ((count : Rat) * qC / secs w.len - openWireComp w)

/-- The sign of SHUNT_POL (R42). -/
def ShuntSnap.sign (c : ShuntSnap) : Rat := if c.pol then -1 else 1

/-! ### The wide path (R61 to R63, R106, R143) -/

/-- Ticks between two wide-path samples of a string: two rounds with a fast converter retired (R62, R151). [Log: 24 DEDUCED] -/
def wideSpacing (s : State) : Nat := if s.diag.retF == 0 then 24000 else 48000

/-- Twice the overlap, in ticks, of a sample's interval with a window: from the midpoint to the previous sample to the
midpoint to the next (R62). The sample after the last listed one is a spacing away. [Log: 24 DEDUCED] -/
def wideOverlap2 (sp : Nat) (prev next : Option Nat) (t start stop : Nat) : Nat :=
  let a := match prev with | some p => p + t | none => 2 * t - sp
  let b := match next with | some q => t + q | none => 2 * t + sp
  min b (2 * stop) - max a (2 * start)

/-- A sample's value in V at the shunt under a set of coefficients, with four bits more than the code (R106, R137). -/
def WideSample.volts (set : List Coef) (x : WideSample) : Rat :=
  match x.fixed with
  | some v => v
  | none => ((roundAway ((set.getD x.conv Coef.ideal).apply x.raw * 81920) : Int) : Rat) / 81920

/-- The wide-path integral of a window: ∫ v dt in V·s, the seconds of saturated or replaced samples, and whether a
sample saturated (R62, R63, R143). [Log: 24 DEDUCED] -/
def wideIntegral (sp : Nat) (set : List Coef) (start stop : Nat) : Option Nat → List WideSample → Rat × Rat × Bool
  | _, [] => (0, 0, false)
  | prev, x :: r =>
    let rest := wideIntegral sp set start stop (some x.tick) r
    let d : Rat := secs (wideOverlap2 sp prev ((r.head?).map (·.tick)) x.tick start stop) / 2
    (rest.1 + x.volts set * d, rest.2.1 + (if x.sat || x.nbr then d else 0), rest.2.2 || (x.sat && decide (0 < d)))

/-- The string's WSn path is out of service (R501). -/
def State.noWide (s : State) (n : Nat) : Bool := s.sar.diagFail.getLsbD (8 + n)

/-- The configured maximum current magnitude in A (R72, R501). -/
def maxCurrent (c : StrCfg) : Rat := (max c.iChgMax.natAbs c.iDisMax.natAbs : Nat) / 100000

/-- A window's outcome: charge in C, the terms added to U_lin (µC) and S_n (µC²), and how it was formed. -/
structure Charged where
  q     : Rat
  uLin  : Rat
  sN    : Rat
  wide  : Bool
  wideOvr : Bool
  deriving DecidableEq, Repr

/-- Log: 22 DESIGN CHOICE. -/
def micro (c : Rat) : Rat := c * 1000000

/-- The window's wide-path integral (R62). -/
def windowWide (s : State) (n : Nat) (w : OpenWin) : Rat × Rat × Bool :=
  wideIntegral (wideSpacing s) w.wideCoef w.start (w.start + w.len) none (s.metStr n).wide

/-- The term of R73 for a charge in C. -/
def refTerm (w : OpenWin) (q : Rat) : Rat := if w.backup then absR q * (1 / 1000) else 0

/-- The full-scale count of R60. -/
def fullScaleCount (len : Nat) : Int := roundAway ((1 / 16 : Rat) * secs len / qC)

/-- The count of a window: a converter that saturates gives the full-scale count of its sign, with OVR (R60). -/
def windowCount (w : OpenWin) (count : BitVec 44) (ovr : Bool) : Int :=
  if ovr then (if count.toInt < 0 then -(fullScaleCount w.len) else fullScaleCount w.len) else count.toInt

/-- A window converted by its own converter: R52, R58, R70. -/
def chargeFromCount (w : OpenWin) (count : Int) (r : Rat) : Charged :=
  let v := windowVolts w count
  let sec := secs w.len
  let q := w.snap.sign * v / r * sec
  let inl := (500 : Rat) / 1000000000 * minR 1 (absR v / (1 / 20))
  let gain := (30 + (w.snap.gainUnc : Rat)) / 1000000
  let ow := (w.owMicro : Rat) / 1000000 * (1 / 100) * ((w.snap.legMilli : Rat) / 1000) * (1 / 5000) / r
  { q, uLin := micro (absR q * gain + ((50 : Rat) / 1000000000 + inl) * sec / r + ow + refTerm w q),
    sN := (15 : Rat) * 15 / 1000000000000000000 * (1 / 50) * sec / (r * r) * 1000000000000, wide := false, wideOvr := false }

/-- The share of saturated and replaced wide-path samples in a window, whichever way its charge is taken (R63, R143). [Log: 24 DEDUCED] -/
def Charged.saturated (i : Rat × Rat × Bool) (r : Rat) (c : Charged) : Charged :=
  { c with uLin := c.uLin + micro ((4 / 10) * i.2.1 / r), wideOvr := i.2.2 }

/-- A window whose charge the wide path supplies: R61, R63, R143. [Log: 24 DEDUCED] -/
def chargeFromWide (i : Rat × Rat × Bool) (w : OpenWin) (r : Rat) : Charged :=
  let q := w.snap.sign * i.1 / r
  ({ q, uLin := micro (absR q * (2500 / 1000000) + (1 / 10000) * secs w.len / r + refTerm w q), sN := 0, wide := true,
     wideOvr := false } : Charged).saturated i r

/-- An OVR window of a string without a wide path: the saturated count, with the bound of R501. -/
def chargeSaturated (w : OpenWin) (count : Int) (r : Rat) : Charged :=
  let c := chargeFromCount w count r
  { c with uLin := c.uLin + micro ((w.snap.iMax - (1 / 16) / r) * secs w.len) }

/-- A window treated as open: the counters hold (R72). -/
def chargeOpen (w : OpenWin) : Charged :=
  { q := 0, uLin := micro (w.snap.iMax * secs w.len), sN := 0, wide := false, wideOvr := false }

/-- R_SH(T) of a window. -/
def OpenWin.shunt (w : OpenWin) : Rat := shuntR w.snap w.temp

/-- What a window gives its string. Its share of saturated wide-path samples counts however its charge is taken (R63). A window
of a converter that is out of service, on a string without a wide path, has no charge source in R74 or R501: the count of its
row is taken with the bound that R501 gives an OVR window. [Log: 76 DEDUCED] -/
def chargeOf (s : State) (n : Nat) (w : OpenWin) (count : BitVec 44) (ovr : Bool) : Charged :=
  let r := w.shunt
  let c := windowCount w count ovr
  if w.asOpen then (if s.noWide n then chargeOpen w else (chargeOpen w).saturated (windowWide s n w) r)
  else if s.noWide n then (if ovr || w.convOut then chargeSaturated w c r else chargeFromCount w c r)
  else if ovr || w.convOut then chargeFromWide (windowWide s n w) w r
  else (chargeFromCount w c r).saturated (windowWide s n w) r

/-! ### Counters (R55, R59) -/

/-- The internal accumulators are modulo 2^64 µC at a resolution of 2^−16 µC. [Log: 22 DESIGN CHOICE] -/
def accModulus : Nat := two64 * 65536

/-- Log: 22 DESIGN CHOICE. -/
def addAcc (acc : Nat) (q : Rat) : Nat := (acc + (roundAway (micro q * 65536)).toNat) % accModulus

/-- IN or OUT as published: rounded to 1 µC (R7, R55). [Log: 22 DESIGN CHOICE] -/
def pubAcc (acc : Nat) : Nat := (acc + 32768) / 65536 % two64

/-- NET as published: IN − OUT, rounded, as a two's complement value (R8, R55). -/
def pubNet (qIn qOut : Nat) : Int :=
  toS 64 (toU 64 (roundAway (((qIn : Int) - (qOut : Int) : Int) / 65536 : Rat)))

/-- UNC in µC, rounded up (R58, R59). -/
def pubUnc (uLin sN : Rat) : Nat := (clampI 0 (two64 - 1) (ceilAddSqrt uLin (9 * sN))).toNat

/-! ### Entry of a window (R54 to R67) -/

/-- Counters and flags of the string after a window (R54, R55, R58, R65, R77). [Log: 76 DEDUCED] -/
def enterWindow (m : MetStr) (w : OpenWin) (c : Charged) (ovr single : Bool) (now : Nat) : MetStr :=
  { m with
    qIn := if 0 < c.q then addAcc m.qIn c.q else m.qIn
    qOut := if c.q < 0 then addAcc m.qOut (-c.q) else m.qOut
    uLin := m.uLin + c.uLin
    sN := m.sN + c.sN
    current := if w.asOpen then 0 else pubS 32 (c.q / secs w.len * 100000)
    winNum := w.num % two32
    en := true
    ow := w.asOpen
    ref := w.backup
    single := single
    ovrLast := ovr
    wideLast := c.wide
    wideOvr := c.wideOvr
    ovrSticky := m.ovrSticky || ovr
    owSticky := m.owSticky || w.owDecl
    hot := m.hot.mark now (bit ovr 8 + bit w.owDecl 9)
    ovrCount := if ovr then wrap32 (m.ovrCount + 1) else m.ovrCount
    tSubst := w.tSub
    waiting := m.waiting.drop 1
    wide := m.wide.filter (fun x => w.start + w.len ≤ x.tick + 48000)
    span := m.span ++ [{ ticks := w.len, charge := micro c.q, asOpen := w.asOpen, uLin := if w.asOpen then 0 else c.uLin }]
    spanWide := m.spanWide || c.wide
    spanWideOvr := m.spanWideOvr || c.wideOvr
    spanOvr := m.spanOvr || ovr }

/-- The bound of a window in µC: its U_lin term and three standard deviations of its noise. The spec names no sum for one
window; this is the form that R58 gives UNC. [Log: 76 DEDUCED] -/
def Charged.bound (c : Charged) : Rat := c.uLin + 3 * sqrtR c.sN

/-- The cross-check of R67: mismatches in three consecutive windows of one converter file a report for it. A window that
is not checked ends a run (R78). [Log: 76 DEDUCED] -/
def crossCheck (n : Nat) (w : OpenWin) (c : Charged) (ovr : Bool) (s : State) : State :=
  let k := w.num % 2
  let x := chargeFromWide (windowWide s n w) w w.shunt
  let mismatch := !(ovr || c.wide || w.asOpen || s.noWide n) && decide (c.bound + x.bound < micro (absR (c.q - x.q)))
  let run := if mismatch then (s.metStr n).mismatch.getD k 0 + 1 else 0
  let s := s.modMet n (fun m => { m with mismatch := m.mismatch.set k (run % 3) })
  if run = 3 then fileReport { target := 0, index := qUnit n w.num } s else s

/-- The figures of the frame that this window closes: the string block's counters and the span for the time update
(R22, R23, R323). -/
def MetStr.mark (m : MetStr) (epoch : Nat) : MetStr :=
  let x : FrmMet :=
    { epoch, span := m.span, dU := sumR (m.span.map (·.uLin)), dS := m.sN - m.sNMark, uEnd := m.uLin, sEnd := m.sN, iWin := m.current,
      net := pubNet m.qIn m.qOut, qIn := pubAcc m.qIn, qOut := pubAcc m.qOut, unc := pubUnc m.uLin m.sN
      sflags := BitVec.ofNat 32 (bit m.spanWide 1 + bit m.spanWideOvr 2 + bit m.spanOvr 3 + bit m.ow 4 + bit m.ref 5 + bit m.tSubst 6 +
        bit m.single 10) }
  { m with frmQueue := m.frmQueue ++ [x], sNMark := m.sN, span := [], spanWide := false, spanWideOvr := false,
           spanOvr := false }

/-- The frame whose window this is takes the string's figures. -/
def markFrame (n num : Nat) (s : State) : State :=
  match s.frm.frames.find? (fun f => f.win == num && f.sampled) with
  | some f => s.modMet n (fun m => m.mark f.epoch)
  | none => s

/-- The time update of a frame takes every window up to the close of its own (R23). -/
def MetStr.load (m : MetStr) (epoch : Nat) : MetStr :=
  let l := m.frmQueue.filter (fun x => x.epoch ≤ epoch)
  { m with frmQueue := m.frmQueue.filter (fun x => epoch < x.epoch), frmSpan := l.flatMap (·.span), frmDU := sumR (l.map (·.dU)),
           frmDS := sumR (l.map (·.dS)), frmUEnd := (l.getLast?.map (·.uEnd)).getD m.frmUEnd, frmSEnd := (l.getLast?.map (·.sEnd)).getD m.frmSEnd }

/-- SFLAGS that hold if any window of the span does: WIDE, WIDE_OVR, OVR (R66, R324). -/
def spanFlags : BitVec 32 := 0xE#32

/-- The counters of a string block, as they stood at the frame's window close (R323), with the flags of every window in
the span, those of frames that were not estimated included (R66). -/
def StrBlk.counters (b : StrBlk) (x : FrmMet) (l : List FrmMet) : StrBlk :=
  { b with iWin := x.iWin, net := x.net, qIn := x.qIn, qOut := x.qOut, unc := x.unc
           sflags := l.foldl (fun f y => f ||| (y.sflags &&& spanFlags)) x.sflags }

def loadFrame (epoch : Nat) (s : State) : State :=
  (List.range 8).foldl (fun s n =>
    let l := (s.metStr n).frmQueue.filter (fun x => x.epoch ≤ epoch)
    let s := match l.getLast? with
      | some x => s.modLim n (fun k => { k with blk := k.blk.counters x l })
      | none => s
    s.modMet n (fun m => m.load epoch)) s

/-- The oldest closed window of a string enters its counters. -/
def enterCharge (str : Nat) (w : OpenWin) (count : BitVec 44) (ovr : Bool) (s : State) : State :=
  let c := chargeOf s str w count ovr
  let first := ovr && !(s.metStr str).ovrLast
  let s' := crossCheck str w c ovr s
  let s' := s'.modMet str (fun m => enterWindow m w c ovr (s.qSingle str) s.clk.ticks)
  let s' := if ovr && w.num + 1 == s.frm.win then s'.modMet str (fun m => { m with discard := some (qUnit str w.num) }) else s'
  let s' := if first then raise (16 + str) 1 s' else s'
  markFrame str w.num s'

/-- The counters of one string in an urgent record (R488). -/
def UrgentRec.withCounters (r : UrgentRec) (n : Nat) (m : MetStr) : UrgentRec :=
  { r with qIn := r.qIn.set n (pubAcc m.qIn), qOut := r.qOut.set n (pubAcc m.qOut), uLin := r.uLin.set n (pubU 64 (m.uLin * 256)),
           sN := r.sN.set n (f32Code m.sN) }

/-- Records that are being written hold the counters as of the last close before they began: the charge of a window that
had closed by then still enters them (R57, R78). -/
def refreshUrgents (str num : Nat) (s : State) : State :=
  { s with nvm := { s.nvm with jobs := s.nvm.jobs.map (fun j =>
    match j.what with
    | .urgent k (some r) => if num < r.win then { j with what := .urgent k (some (r.withCounters str (s.metStr str))) } else j
    | _ => j) } }

/-- WINDOW_CHARGE_ENTRY: the oldest closed window of the string enters its counters. -/
def execWindowChargeEntry (str : Nat) (count : BitVec 44) (ovr : Bool) (s : State) : Out :=
  match (s.metStr str).waiting with
  | [] => .next s
  | w :: _ => .next (refreshUrgents str w.num (enterCharge str w count ovr s))

/-! ### Open-wire detection (R68 to R73) -/

/-- Test current of a port in µA (R68, R75). -/
def State.owCurrent (s : State) (p : Nat) : Nat := if s.met.i100.getLsbD p then 100 else 10

/-- The result of a test, and the declarations that two in a row make (R71). A shunt port declared closed is treated as
open until the next window starts (R72). [Log: 76 DEDUCED] -/
def OwPort.test (p : OwPort) (failed : Bool) : OwPort :=
  let fails := if failed then p.fails + 1 else 0
  let passes := if failed then 0 else p.passes + 1
  let shut := p.isOpen && decide (2 ≤ passes)
  { lastFail := failed, fails := fails, passes := passes, isOpen := (p.isOpen && !shut) || decide (2 ≤ fails), closing := p.closing || shut }

/-- Windows of the port's string are treated as open (R72). -/
def OwPort.treatedOpen (p : OwPort) : Bool := p.isOpen || p.closing

/-- Events of a declaration on a shunt port, or on the RREF port for every enabled string (R71). [Log: 76 DEDUCED] -/
def owEvents (port info : Nat) (s : State) : State :=
  if port < 8 then raise (16 + port) info s
  else (List.range 8).foldl (fun s n => if s.enabled n then raise (16 + n) (info + 8) s else s) s

/-- The RREF port is declared open: backup reference, tuning suspended, EV38, and a last fault that no retirement
answers (R73, R505). [Log: 76 DEDUCED] -/
def rrefDeclareOpen (s : State) : State :=
  let s := s.setUnitDiag { s.unitDiag rrefUnit with lastFault := true }
  raise 38 0xFF00 (suspendTuning { s with met := { s.met with refBackup := true } })

/-- The port is tested at all: an enabled string with a converter in service, or RREF while the tuning engine runs
(R49, R69, R74, R113). -/
def State.owTested (s : State) (port : Nat) : Bool :=
  if port < 8 then s.metering && s.enabled port && !s.qNone port else s.tuningRuns

/-- The tick of the next turn: one port in each ninth of the period (R69). -/
def turnTick (s : State) : Nat := s.met.owBase + s.met.owTurn * (s.met.owPeriod * 24000000) / 9

/-- Ports whose turn has come by now are due. -/
def advanceTurns : Nat → State → State
  | 0, s => s
  | fuel + 1, s =>
    if turnTick s ≤ s.clk.ticks then
      let last := decide (8 ≤ s.met.owTurn)
      advanceTurns fuel { s with met := { s.met with
        owDue := if s.met.owDue.contains s.met.owTurn then s.met.owDue else s.met.owDue ++ [s.met.owTurn]
        owBase := if last then s.met.owBase + s.met.owPeriod * 24000000 else s.met.owBase
        owTurn := if last then 0 else s.met.owTurn + 1 } }
    else s

/-- The converter of a string that rests in window `win` is in service. -/
def State.restsInService (s : State) (n win : Nat) : Bool := !s.diag.retQ.getLsbD (qUnit n (win + 1))

/-- Shunt tests that are due take the rests that begin now; the rotation passes over ports that are not tested (R69, R74). -/
def scheduleTests (s : State) : State :=
  let s := advanceTurns 256 s
  let win := s.frm.win
  let take (n : Nat) : Bool := s.met.owDue.contains n && s.owTested n && s.restsInService n win
  { s with met := { s.met with
      owDue := s.met.owDue.filter (fun p => if p < 8 then s.owTested p && !take p else true)
      strs := s.met.strs.zipIdx.map (fun e => { e.1 with owMicro := 0, owTest := take e.2, owRun := false }) } }

/-- The RREF test lies inside one tuning slot of the rests in progress (R69, R91, R93). [Log: 76 DEDUCED] -/
def rrefInSlot (s : State) : Bool :=
  decide (s.frm.winStart + 120000 + 48000 ≤ s.clk.ticks) && decide (48000 ≤ restTicks s % 240000) && decide (s.clk.ticks + 240000 ≤ s.frm.winEnd)

/-- The test of a port ends now: a shunt test in its slot of the rest it was scheduled for, 1.2 to 1.0 ms ahead of the
rest's end (R47), an RREF test when it is due. -/
def owSlotNow (s : State) (port : Nat) : Bool :=
  let m := s.metStr port
  s.owTested port &&
    (if port < 8 then m.owTest && !m.owRun && s.restsInService port s.frm.win && endsIn 240000 s
     else s.met.owDue.contains 8 && rrefInSlot s)

/-- A declaration's consequences. Only a shunt port's open declaration sets OW_STICKY: the RREF port belongs to no string,
and MET_STATUS.OW_STICKY is a string's (R71, R75). [Log: 76 DEDUCED] -/
def owDeclared (port : Nat) (old new : OwPort) (s : State) : State :=
  if !old.isOpen && new.isOpen then
    let s := owEvents port 2 s
    if port < 8 then
      let s := s.modMet port (fun m => { m with owDecl := true })
      fileReport { target := 0, index := 2 * port + 1 } (fileReport { target := 0, index := 2 * port } s)
    else rrefDeclareOpen s
  else if old.isOpen && !new.isOpen then owEvents port 4 (if port < 8 || s.met.refRatio then s else clearRref s)
  else s

/-- OPEN_WIRE_SLOT: the test in its slot passes or fails. [Log: 76 DEDUCED] -/
def execOpenWireSlot (port : Nat) (failed : Bool) (s : State) : Out :=
  let s := if port < 8 then s else advanceTurns 256 s
  if !owSlotNow s port then .next s
  else
    let old := s.met.ports.getD port OwPort.reset
    let new := old.test failed
    let s := { s with met := { s.met with ports := s.met.ports.set port new } }
    let s := if port < 8 then s.modMet port (fun m => { m with owMicro := s.owCurrent port, owRun := true })
      else { s with met := { s.met with owDue := s.met.owDue.erase 8, rrefTest := some s.clk.ticks } }
    .next (owDeclared port old new s)

/-- At a window start: closing declarations take force (R72), the RREF reference returns once neither the port's declaration
nor R82 asks for the backup (R73), and the tests of the rests that begin are scheduled. -/
def owBoundary (s : State) : State :=
  scheduleTests { s with met := { s.met with
    refBackup := s.met.refBackup && (s.rrefOpen || s.met.refRatio)
    ports := s.met.ports.map (fun p => { p with closing := false }) } }

/-! ### The window boundary of one string (R46, R51, R56, R74) -/

/-- The shunt values in force (R44). -/
def snapOf (s : State) (n : Nat) : ShuntSnap :=
  let c := s.strCfg n
  { enabled := s.enabled n, rNano := c.shuntR, alpha := c.shuntAlpha, beta := c.shuntBeta, pol := c.shuntPol == 1,
    legMilli := c.shuntLegR, gainUnc := c.extGainUnc, iMax := maxCurrent c }

/-- The values of a window's configuration that take force at its sample instant, not at its start (R394): whether the string
counts (R49), EXT_GAIN_UNC, SHUNT_LEG_R and the maximum current. -/
def resnap (s : State) (n : Nat) : State :=
  let c := snapOf s n
  s.modMet n (fun m => { m with snap := { m.snap with enabled := c.enabled, legMilli := c.legMilli, gainUnc := c.gainUnc, iMax := c.iMax } })

/-- A closed window waits for its charge, if its string counted it; otherwise its counters hold (R49, R53, R56). -/
def closeWindow (n num start len : Nat) (trans : Bool) (s : State) : State :=
  let m := s.metStr n
  let p := s.met.ports.getD n OwPort.reset
  let t := shuntTemp s n
  if m.snap.enabled then
    s.modMet n (fun m => { m with waiting := m.waiting ++
      [{ num, start, len, coef := m.coef, snap := m.snap, wideCoef := m.wideCoef, temp := t.1, tSub := t.2, backup := s.met.refBackup,
         owMicro := m.owMicro, asOpen := p.treatedOpen, owDecl := m.owDecl, convOut := m.outStart || s.diag.retQ.getLsbD (qUnit n num), trans }] })
  else
    markFrame n num (s.modMet n (fun m => { m with
      en := false, owSticky := m.owSticky || m.owDecl, hot := m.hot.mark s.clk.ticks (bit m.owDecl 9), ow := p.treatedOpen, ref := s.met.refBackup, single := s.qSingle n
      span := m.span ++ [{ ticks := len, charge := 0, asOpen := false, uLin := 0 }] }))

/-- The next window of a string begins with the coefficients and shunt values in force (R51, R106). -/
def openWindow (n num : Nat) (s : State) : State :=
  s.modMet n (fun m => { m with
    coef := (s.tunUnit (qUnit n num)).inForce, snap := snapOf s n, discard := none, owDecl := false
    wideCoef := [(s.tunUnit (17 + n)).inForce, (s.tunUnit (26 + n)).inForce], outStart := s.diag.retQ.getLsbD (qUnit n num) })

end Sys2Proof.Machine
end

