-- ==== Sys2Proof/Machine/Sweep.lean ====
section
/-! DEFINITION. The sweep (R200 to R206): reading every reachable monitor's result page, from either end. -/

namespace Sys2Proof.Machine

/-! ### The result page (R200, R202) -/

def pageEpoch (p : List Byte) : Nat := fieldU p 0 2
def pageFlag (p : List Byte) (i : Nat) : Bool := (fieldU p 2 1).testBit i
/-- Cell voltage in 100 µV. -/
def pageVolt (p : List Byte) (c : Nat) : Nat := fieldU p (4 + 2 * c) 2
def pageBleed (p : List Byte) (c : Nat) : Bool := (fieldU p 36 2).testBit c
/-- Module temperature input in 0.01 °C. -/
def pageTemp (p : List Byte) (i : Nat) : Int := fieldS p (38 + 2 * i) 2
def pageEndEst (p : List Byte) : Bool := pageFlag p 1

/-- R202: the result enters frame k. [Log: 33 DEDUCED] -/
def pageValid (epoch : Nat) (p : List Byte) : Bool := p.length == 48 && pageEpoch p == epoch % 65536 && !pageFlag p 2

/-! ### Order of reading (R201, R204, R206) -/

/-- Monitors to read from each end at the start of a sweep. -/
def sweepLists (r : RopeStr) (n f : Bool) : List Nat × List Nat :=
  let all := r.mons.map (·.1)
  match r.mode with
  | .ring => if n then (all, []) else ([], all.reverse)
  | .split => (if n then all.filter (· ≤ r.anchorN) else [], if f then (all.filter (r.anchorF ≤ ·)).reverse else [])
  | .line => if 1 ≤ r.anchorN then (all.filter (· ≤ r.anchorN), []) else ([], (all.filter (r.anchorF ≤ ·)).reverse)
  | .down => ([], [])

/-- The result page of an epoch (R197). -/
def resultPage (epoch : Nat) : Nat := if epoch % 2 = 0 then 0x10 else 0x11

def setSweep (str : Nat) (w : Sweep) (s : State) : State := s.modRope str (fun r => { r with sweep := some w })

/-- The mode at the end of frame k's sweep is that of its cairn (R210). -/
def markMode (epoch str : Nat) (s : State) : State :=
  s.modFrame epoch (fun f => { f with modes := f.modes.set str (s.ropeStr str).mode.code })

/-- The sweep has nothing left to read: the location it found after a failed READ or a suspected break, and the work of the
gaps (R205 step 1, R206). [Log: 74 DEDUCED] -/
def sweepEnd (str : Nat) (w : Sweep) (s : State) : State :=
  let s := setSweep str { w with done := true } s
  let s := if w.failN.isSome || w.failF.isSome || w.suspect then applyLocation str w.lastN w.lastF w.failN.isSome w.failF.isSome false s else s
  ropeGap str (markMode w.epoch str s)

/-- The next READ of each end that has none in flight (R201). -/
def sweepNext (str : Nat) (s : State) : State :=
  match (s.ropeStr str).sweep with
  | none => s
  | some w =>
    if w.done then s
    else
      let busy (e : RopeEnd) : Bool := (s.ropeStr str).inflight.any (fun t => t.fromEnd == e && (match t.use with | .sweep _ => true | _ => false))
      let read (e : RopeEnd) (m : Nat) (s : State) : State := sendRead str e m (resultPage w.epoch) 0 48 (.sweep w.epoch) s
      match w.todoN, busy .N, w.todoF, busy .F with
      | [], false, [], false => sweepEnd str w s
      | a :: as, false, b :: bs, false => read .F b (read .N a (setSweep str { w with todoN := as, todoF := bs } s))
      | a :: as, false, _, _ => read .N a (setSweep str { w with todoN := as } s)
      | _, _, b :: bs, false => read .F b (setSweep str { w with todoF := bs } s)
      | _, _, _, _ => s

/-- RING is reached at a sweep start after 100 through-probes (R208). -/
def ringReturn (str : Nat) (s : State) : State :=
  let r := s.ropeStr str
  if r.ringNext && (r.mode == .split || r.mode == .line) && s.portUp str .N && s.portUp str .F then setMode str r.top 1 .ring none none s else s

/-- Pages are kept for the frames that are still estimated, at most three (R27, R30). -/
def agePages (epoch : Nat) (r : RopeStr) : RopeStr :=
  { r with mons := r.mons.map (fun e => (e.1, { e.2 with pages := e.2.pages.filter (fun p => epoch < p.1 + 3) })) }

/-- The sweep of a frame begins on one rope. It starts from the reach of each end, so that an end whose READs are not
answered keeps none. [Log: 74 DEDUCED] -/
def sweepRope (epoch str : Nat) (s : State) : State :=
  let s := (ringReturn str s).modRope str (agePages epoch)
  let s := markMode epoch str s
  let r := s.ropeStr str
  if r.tie.isSome || r.mode == .down || !s.enabled str then s
  else
    let l := sweepLists r (s.portUp str .N) (s.portUp str .F)
    -- READs still unanswered from an earlier sweep are abandoned (R203).
    let s := s.modRope str (fun r => { r with locate := none, inflight := r.inflight.filter (fun t => match t.use with | .sweep _ => false | .locate => false | _ => true) })
    sweepNext str (setSweep str
      { epoch, todoN := l.1, todoF := l.2, failN := none, failF := none, lastN := 0, lastF := r.top + 1, suspect := r.locate.isSome, done := false } s)

/-- The frame whose window has closed and whose sweep has not begun. -/
def State.sweepFrame (s : State) : Option FrameRec := s.frm.frames.find? (fun f => f.closed && !f.swept)

/-- SWEEP_START: 20 µs after the close of the frame window (R201). [Log: 2 DESIGN CHOICE] -/
def execSweepStart (s : State) : Out :=
  match s.sweepFrame with
  | none => .next s
  | some f =>
    if !s.live || s.clk.ticks < f.closeTick + 4800 then .next s
    else
      let s := { s with frm := { s.frm with frames := s.frm.frames.map (fun g => if g.epoch == f.epoch then { g with swept := true } else g) } }
      .next ((List.range 8).foldl (fun s n => sweepRope f.epoch n s) s)

/-- A sweep READ was answered: a valid page enters the frame; the read continues (R202). [Log: 33 DEDUCED] -/
def sweepOk (str : Nat) (t : Txn) (epoch : Nat) (data : List Byte) (s : State) : State :=
  let s := if pageValid epoch data then s.modMon str t.addr (fun m => { m with pages := m.pages ++ [(epoch, data)] }) else s
  match (s.ropeStr str).sweep with
  | some w =>
    let w := match t.fromEnd with | .N => { w with lastN := max w.lastN t.addr } | .F => { w with lastF := min w.lastF t.addr }
    sweepNext str (setSweep str w s)
  | none => s

/-- A sweep READ failed: nothing beyond is read from that end, and the rest is read from the other end, nearest first
(R206). [Log: 33 DEDUCED] -/
def sweepFailed (str : Nat) (t : Txn) (s : State) : State :=
  match (s.ropeStr str).sweep with
  | none => s
  | some w =>
    let w := match t.fromEnd with
      | .N =>
        let rest := t.addr :: w.todoN
        let more := if w.failF.isSome || !s.portUp str .F then [] else rest.reverse.filter (fun m => !w.todoF.contains m)
        { w with todoN := [], failN := some t.addr, todoF := w.todoF ++ more }
      | .F =>
        let rest := t.addr :: w.todoF
        let more := if w.failN.isSome || !s.portUp str .N then [] else rest.reverse.filter (fun m => !w.todoN.contains m)
        { w with todoF := [], failF := some t.addr, todoN := w.todoN ++ more }
    sweepNext str (setSweep str w s)

/-- A port leaves service in mid-sweep: its READs in flight end and what it had to read is read from the other port, nearest
first. That is no break, and no location is taken from it (R206, R209). [Log: 67 DEDUCED] -/
def sweepPortOut (str : Nat) (e : RopeEnd) (s : State) : State :=
  match (s.ropeStr str).sweep with
  | none => s
  | some w =>
    if w.done then s
    else
      let mine (t : Txn) : Bool := t.fromEnd == e && (match t.use with | .sweep _ => true | _ => false)
      let out := ((s.ropeStr str).inflight.filter mine).map (·.addr)
      let w := match e with
        | .N => { w with todoN := [], suspect := false, todoF := if s.portUp str .F then w.todoF ++ (out ++ w.todoN).reverse.filter (fun m => !w.todoF.contains m) else [] }
        | .F => { w with todoF := [], suspect := false, todoN := if s.portUp str .N then w.todoN ++ (out ++ w.todoF).reverse.filter (fun m => !w.todoN.contains m) else [] }
      sweepNext str (setSweep str w (s.modRope str (fun r => { r with inflight := r.inflight.filter (fun t => !mine t) })))

/-- SWEEP_DEADLINE: 15 ms after the close, every READ still unanswered is abandoned (R203); in an orderly stop a rope that
waited for them alone goes on (R189). [Log: 2 DESIGN CHOICE] -/
def execSweepDeadline (s : State) : Out :=
  .next (stopRopes ((List.range 8).foldl (fun s n =>
    match (s.ropeStr n).sweep with
    | some w => if w.done || !s.frm.frames.any (fun f => f.epoch == w.epoch && decide (f.closeTick + 3600000 ≤ s.clk.ticks)) then s
      else sweepEnd n { w with todoN := [], todoF := [] } (s.modRope n (fun r => { r with inflight := r.inflight.filter (fun t => match t.use with | .sweep _ => false | _ => true) }))
    | none => s) s))

end Sys2Proof.Machine
end

