-- ==== Sys2Proof/Machine/RopeEvents.lean ====
section
/-! DEFINITION. What ends an attempt of an addressed transaction (R163 to R169): a RESP, or the timeout. -/

namespace Sys2Proof.Machine

/-- ROPE_RAW completes with the RESP (R190, R385, R400): payload without its status to RESP_ADDR, 64 bytes. -/
def rawDone (t : Txn) (sub : Submission) (status : Nat) (data : List Byte) (s : State) : State :=
  let s := s.dma (sub.pU 8 8) (fit 64 data)
  complete 0x11 sub (if status = 0 then stOK else stBadField)
    [BitVec.ofNat 8 data.length, BitVec.ofNat 8 status, BitVec.ofNat 8 (endIdx t.fromEnd), BitVec.ofNat 8 t.attempts] s

/-- The duties that a monitor has acknowledged (R219, R222). -/
def balDone (str m : Nat) (ok : Bool) (s : State) : State :=
  s.modMon str m (fun x => if ok then { x with ack := x.sent, ackFailed := false } else { x with ackFailed := true })

/-- A tie-in that was running on a rope has ended: step 7 of R173. -/
def afterTie (str : Nat) (wasTying : Bool) (s : State) : State :=
  if wasTying && (s.ropeStr str).tie.isNone then authTied str s else s

/-- A transaction succeeded: RESP with a status other than BUSY, and the data after it. -/
def txnAnswered (str : Nat) (t : Txn) (status : Nat) (data : List Byte) (deltaNs : Rat) (s : State) : State :=
  let ok := status = 0
  match t.use with
  | .sweep epoch => sweepOk str t epoch (if ok then data else []) s
  | .bal => balDone str t.addr ok s
  | .echoTie => if ok then tieEchoOk str t.fromEnd t.addr deltaNs s else tieEchoFailed str t.addr s
  | .identity => tieIdentity str t.addr (if ok then some data else none) s
  | .config => tieConfigDone str t.addr s
  | .locate => locateResult str t ok s
  | .reach => reachResult str t ok s
  | .auth a => authAnswer str t.addr a (if ok then some data else none) s
  | .raw sub => rawDone t sub status data s

/-- A transaction failed after its third attempt (R167). -/
def txnFailed (str : Nat) (t : Txn) (crc : Bool) (s : State) : State :=
  let status := if crc then stRopeCrc else stRopeTimeout
  match t.use with
  | .sweep _ => sweepFailed str t s
  | .bal => balDone str t.addr false s
  | .echoTie => tieEchoFailed str t.addr s
  | .identity => tieIdentity str t.addr none s
  | .config => tieConfigDone str t.addr s
  | .locate => locateResult str t false s
  | .reach => reachResult str t false s
  | .auth _ => authAbort str t.addr status s
  | .raw sub => complete 0x11 sub status [0, 0, BitVec.ofNat 8 (endIdx t.fromEnd), BitVec.ofNat 8 t.attempts] s

/-- An attempt failed: a retry, or the end of the transaction. -/
def attemptFailed (str : Nat) (t : Txn) (crc : Bool) (s : State) : State :=
  let tying := (s.ropeStr str).tie.isSome && !s.stops
  match failAttempt str t crc (stopTie str s) with
  | (true, s) => afterTie str tying (ropeGap str (txnFailed str t crc s))
  | (false, s) => s

/-- ROPE_RESP_RECEIVED: a frame that R159 keeps, matched by end, ADDR and SEQ (R168); a failed CRC or BUSY fails the attempt
(R163, R167). -/
def execRopeRespReceived (f : RespFrame) (s : State) : Out :=
  match rxFrame f.frame with
  | none => .next s
  | some x =>
    let s := countCrc f.str x s
    match findTxn s f.str f.fromEnd x.addr x.seq with
    | none => .next s
    | some t =>
      if !x.crcOk then .next (stopRopes (attemptFailed f.str t true s))
      else if x.typ != tResp || x.payload.isEmpty then .next s
      else if fieldU x.payload 0 1 = 4 then .next (stopRopes (attemptFailed f.str t false s))
      else
        let tying := (s.ropeStr f.str).tie.isSome && !s.stops
        .next (stopRopes (afterTie f.str tying (ropeGap f.str
          (txnAnswered f.str t (fieldU x.payload 0 1) (x.payload.drop 1) f.deltaNs (dropTxn f.str t (stopTie f.str s))))))

/-- ROPE_ATTEMPT_TIMEOUT: 200 µs without the matching RESP (R167). -/
def execRopeAttemptTimeout (str : Nat) (fromEnd : RopeEnd) (addr seq : Nat) (s : State) : Out :=
  match findTxn s str fromEnd addr seq with
  | none => .next s
  | some t => .next (stopRopes (attemptFailed str t false s))

/-- TIE_FRAME_ARRIVED: RELEASE, ASSIGN, COUNT or SAFE at the other port. -/
def execTieFrameArrived (str : Nat) (bytes : List Byte) (extraBits : Nat) (delayNs : Rat) (s : State) : Out :=
  match rxFrame { bytes, extraBits } with
  | none => .next s
  | some x =>
    let s := countCrc str x s
    if s.stops then .next (if x.crcOk then stopFrame str s else s)
    else if (s.ropeStr str).tie.isSome then .next (afterTie str true (tieArrived str x delayNs s))
    else .next (if x.crcOk && x.typ == tTie && fieldU x.payload 0 1 = 5 then safeOver str s else s)

/-- TIE_FRAME_TIMEOUT: 200 µs without the frame at the other port. [Log: 74 DEDUCED] -/
def execTieFrameTimeout (str : Nat) (s : State) : Out :=
  if s.stops then .next (stopFrame str s)
  else if (s.ropeStr str).tie.isSome then .next (afterTie str true (tieTimeout str s))
  else .next (safeOver str s)

end Sys2Proof.Machine
end

