-- ==== Sys2Proof/Machine/Model.lean ====
section
/-! DEFINITION. The cell models (R226 to R230, R239) and the square-root sigma-point filter (R237, R238), over the exact
rationals; a lane's result differs from the exact one by at most its number format (`laneRound`). -/

namespace Sys2Proof.Machine

/-! ### Vectors and matrices -/

abbrev Vec := List Rat
abbrev Mat := List Vec

def at_ (v : Vec) (i : Nat) : Rat := v.getD i 0
def vAdd (a b : Vec) : Vec := List.zipWith (· + ·) a b
def vSub (a b : Vec) : Vec := List.zipWith (· - ·) a b
def vScale (k : Rat) (v : Vec) : Vec := v.map (k * ·)
def vDot (a b : Vec) : Rat := sumR (List.zipWith (· * ·) a b)
def mVec (m : Mat) (v : Vec) : Vec := m.map (fun r => vDot r v)
def mRow (m : Mat) (i : Nat) : Vec := m.getD i []
def mAt (m : Mat) (i j : Nat) : Rat := at_ (mRow m i) j
def mCol (m : Mat) (j : Nat) : Vec := m.map (fun r => at_ r j)
def mAdd (a b : Mat) : Mat := List.zipWith vAdd a b
def mScale (k : Rat) (m : Mat) : Mat := m.map (vScale k)
def outer (a b : Vec) : Mat := a.map (fun x => vScale x b)
def zeroVec (n : Nat) : Vec := List.replicate n 0
def zeroMat (n : Nat) : Mat := List.replicate n (zeroVec n)
def diag (v : Vec) : Mat := v.zipIdx.map (fun e => (zeroVec v.length).set e.2 e.1)
/-- The covariance that a lower-triangular root stands for. -/
def gram (s : Mat) : Mat := s.map (fun r => s.map (fun q => vDot r q))

/-- One row of the Cholesky root from the rows above it, and its pivot. -/
def cholRow (a : Vec) (rows : Mat) : Vec × Rat :=
  let acc := rows.zipIdx.foldl (fun acc e =>
    let d := at_ e.1 e.2
    acc ++ [if d = 0 then 0 else (at_ a e.2 - vDot acc e.1) / d]) []
  (acc, at_ a rows.length - vDot acc acc)

/-- The lower-triangular root of a covariance; `none` if it is indefinite (R238). -/
def chol (m : Mat) : Option Mat :=
  m.foldl (fun r a => match r with
    | none => none
    | some rows =>
      let p := cholRow a rows
      if p.2 < 0 then none else some (rows ++ [p.1 ++ [sqrtR p.2]])) (some [])

/-! ### The matrix exponential -/

def mMul (a b : Mat) : Mat := a.map (fun r => (List.range (b.headD []).length).map (fun j => vDot r (mCol b j)))
def cutM (m : Mat) : Mat := m.map (fun r => r.map cutR)
def idMat (n : Nat) : Mat := diag (List.replicate n 1)
/-- The largest sum of magnitudes of a row. -/
def normM (m : Mat) : Rat := m.foldl (fun a r => maxR a (sumR (r.map absR))) 0

/-- Σ mᵏ/k! by Horner's rule from the last of `n` terms. -/
def expMTerms (m : Mat) : Nat → Nat → Mat
  | 0, _ => idMat m.length
  | n + 1, k => mAdd (idMat m.length) (cutM (mScale (1 / (k : Nat)) (mMul m (expMTerms m n (k + 1)))))

def squareM : Nat → Mat → Mat
  | 0, m => m
  | n + 1, m => squareM n (cutM (mMul m m))

/-- e^m. [Log: 7 DESIGN CHOICE] -/
def expM (m : Mat) : Mat :=
  let n := halvings (normM m)
  squareM n (expMTerms (mScale (1 / (2 ^ n : Nat)) m) 40 1)

/-- ∫ e^(s·m) ds for s from 0 to 1: the upper right block of the exponential of m beside the unit matrix. [Log: 7 DESIGN CHOICE] -/
def expMInt (m : Mat) : Mat :=
  let n := m.length
  let big := List.zipWith (fun a b => a ++ b) m (idMat n) ++ List.replicate n (zeroVec (2 * n))
  ((expM big).take n).map (fun r => r.drop n)

/-- The lane's result for an exact value: within one part in 2²³ of it. [Log: 7 DESIGN CHOICE] -/
def laneRound (q : Rat) : Rat :=
  let m := absR q / (2 ^ 23 : Nat)
  q + clampR (-m) m (Config.laneError q)

/-! ### A cell's parameters -/

/-- The image in force and the end points in force (R230). -/
structure CellPar where
  img  : Image
  q0   : Rat
  q100 : Rat
  deriving DecidableEq, Repr

def CellPar.full (p : CellPar) : Rat := p.q100 - p.q0

/-- The gas and Faraday constants. [Log: 21 PRESUMED] -/
def gasR : Rat := 831446261815324 / 100000000000000
/-- Log: 21 PRESUMED. -/
def faradayF : Rat := 964853321233100184 / 10000000000000

/-! ### The physics model (R226 to R230) -/

def thetaN (x : Vec) : Vec := x.take 3
def thetaP (x : Vec) : Vec := (x.drop 3).take 3
/-- LLI, LAM_PE, LAM_NE. -/
def learned (x : Vec) : Vec := (x.drop 12).take 3

/-- The stored charge of a state vector (R230). -/
def chargeOfState (p : CellPar) (k : Kind) (x : Vec) : Rat :=
  match k with
  | .physics => qNeg p.img (learned x) * vDot (nuOf p.img) (thetaN x)
  | .ecm => at_ x 0 * p.full

/-- SoC of a state vector (R230, R239). -/
def socOfState (p : CellPar) (k : Kind) (x : Vec) : Rat :=
  match k with
  | .physics => (chargeOfState p k x - p.q0) / p.full
  | .ecm => at_ x 0

/-- U_eq of a cell at a stored charge and a temperature in K (R230, R267). -/
def ueqAt (p : CellPar) (k : Kind) (l : Vec) (q tk : Rat) : Rat :=
  match k with
  | .physics => ueqPhys p.img l q tk
  | .ecm => p.img.ocvEcm (q / p.full) (celsius tk)

/-- dU_eq/dq at a stored charge (R251, R271). -/
def slopeAt (p : CellPar) (k : Kind) (l : Vec) (q tk : Rat) : Rat :=
  match k with
  | .physics => ueqSlope p.img l q tk
  | .ecm => p.img.surfaceSlope 1 0 101 (q / p.full) (celsius tk) / p.full

/-- The stored charges that the bounds of R226 allow, or 0 to Q_full (R271). -/
def chargeRange (p : CellPar) (k : Kind) (l : Vec) : Rat × Rat :=
  match k with
  | .physics => chargeBounds p.img l
  | .ecm => (0, p.full)

/-- Stored charges between which U_eq and the tables over 21 SoC points are linear. -/
def chargeKnots (p : CellPar) (k : Kind) (l : Vec) : List Rat :=
  match k with
  | .physics => insideKnots (chargeRange p k l) (mergeAsc 540 (physKnots p.img l) ((unitKnots 21).map (fun z => p.q0 + z * p.full)))
  | .ecm => (mergeAsc 130 (unitKnots 101) (unitKnots 21)).map (· * p.full)

/-- The stored charge at which U_eq(q) + g(q) takes a voltage, at a temperature in K (R247, R251, R267). [Log: 17 DESIGN CHOICE] -/
def chargeWhere (p : CellPar) (k : Kind) (l : Vec) (g : Rat → Rat) (v tk : Rat) : Rat :=
  invert (chargeKnots p k l) (fun q => ueqAt p k l q tk + g q) v

/-- SoC of a stored charge (R230, R239). -/
def socOfCharge (p : CellPar) (k : Kind) (q : Rat) : Rat :=
  match k with
  | .physics => (q - p.q0) / p.full
  | .ecm => q / p.full

/-- ρ of a state vector. -/
def rhoOf (k : Kind) (x : Vec) : Rat := match k with | .physics => at_ x 15 | .ecm => at_ x 5
/-- h of a state vector. -/
def hystOf (k : Kind) (x : Vec) : Rat := match k with | .physics => at_ x 10 | .ecm => at_ x 3
def relaxOf (k : Kind) (x : Vec) : Rat × Rat := match k with | .physics => (at_ x 8, at_ x 9) | .ecm => (at_ x 1, at_ x 2)

/-- The measured voltage of R229. -/
def physVolts (p : CellPar) (x : Vec) (i : Rat) : Rat :=
  let tk := at_ x 11
  let t := celsius tk
  let s := socOfState p .physics x
  let eta (e : Nat) (th : Rat) : Rat := 2 * gasR * tk / faradayF * asinhR (i / (2 * p.img.exchange e th t))
  electrodeU p.img 1 (at_ x 5) tk - electrodeU p.img 0 (at_ x 2) tk + hystWidth p.img s t * at_ x 10 + eta 0 (at_ x 2) +
    eta 1 (at_ x 5) + p.img.kPhi * (at_ x 7 - at_ x 6) + at_ x 15 * res p.img 0 s t * i + at_ x 8 + at_ x 9

def signR (q : Rat) : Rat := if q < 0 then -1 else if 0 < q then 1 else 0

/-- What surrounds a cell in a frame: ambient and neighbours' temperatures in K (R252). -/
structure CellEnv where
  amb  : Option Rat
  nbrs : List Rat
  /-- Temperature in K that an ECM cell takes (R240). -/
  tEcm : Rat
  deriving DecidableEq, Repr

/-- A sub-step: current in A and length in s (R231). -/
structure SubStep where
  cur : Rat
  sec : Rat
  deriving DecidableEq, Repr

/-- The particles of one electrode: exact zero-order hold at T_c rounded to 1 K (R227, R231). -/
def particleStep (i : Image) (e : Nat) (theta : Vec) (tk drive sec : Rat) : Vec :=
  let tr : Rat := roundAway tk
  let tau := i.tauRef e * expR (i.actEnergy e / gasR * (1 / tr - 100 / 29815))
  let m : Mat := (List.range 3).map (fun r => (List.range 3).map (fun c => i.diffusion e r c * sec / tau))
  let b : Vec := [0, 0, drive / at_ (nuOf i) 2]
  vAdd (mVec (expM m) theta) (vScale sec (mVec (expMInt m) b))

/-- Relaxation voltage j over a sub-step (R227, R239). [Log: 35 DEDUCED] -/
def relaxStep (i : Image) (j : Nat) (v soc t rho cur sec : Rat) : Rat :=
  let a := expR (-(sec / res i (2 * j) soc t))
  a * v + (1 - a) * rho * res i (2 * j - 1) soc t * cur

def hystStep (i : Image) (h cur sec full : Rat) : Rat :=
  let a := expR (-(gammaH i * absR cur * sec / full))
  a * h + (1 - a) * signR cur

/-- The exponential-Euler step of T_c (R227, R231). [Log: 35 DEDUCED] -/
def tempStep (p : CellPar) (x : Vec) (env : CellEnv) (st : SubStep) : Rat :=
  let tk := at_ x 11
  let q := chargeOfState p .physics x
  let c := p.img.cTh
  let ra := p.img.rAmb
  let rn := p.img.rNb
  let heat := st.cur * (physVolts p x st.cur - ueqPhys p.img (learned x) q tk)
  let gAmb : Rat := match env.amb with | some _ => 1 / ra | none => 0
  let g := gAmb + (env.nbrs.length : Rat) / rn + st.cur * duDtPhys p.img (learned x) q
  let inflow := heat + (match env.amb with | some a => a / ra | none => 0) + sumR env.nbrs / rn
  let rate := g / c
  let slope := (inflow - g * tk) / c
  if rate = 0 then tk + slope * st.sec else tk + slope * (1 - expR (-(rate * st.sec))) / rate

/-- The shift of R228. -/
def projectInventory (p : CellPar) (k : Kind) (x : Vec) : Vec :=
  match k with
  | .ecm => x
  | .physics =>
    let l := learned x
    let qn := qNeg p.img l
    let qp := qPos p.img l
    let d := (inventory p.img l - qn * vDot (nuOf p.img) (thetaN x) - qp * vDot (nuOf p.img) (thetaP x)) / qp
    thetaN x ++ (thetaP x).map (· + d) ++ x.drop 6

/-- Bounds of R226. -/
def physBounds : List (Rat × Rat) :=
  [(0, 1), (0, 1), (0, 1), (0, 1), (0, 1), (0, 1), (-9 / 10, 2), (-9 / 10, 2), (-1, 1), (-1, 1), (-1, 1),
   (22315 / 100, 42315 / 100), (0, 1 / 2), (0, 1 / 2), (0, 1 / 2), (1 / 2, 5)]

/-- Bounds of R239. -/
def ecmBounds (i : Image) : List (Rat × Rat) :=
  [(0, 1), (-1, 1), (-1, 1), (-1, 1), (qNom i / 2, 12 / 10 * qNom i), (1 / 2, 5)]

def boundsOf (i : Image) : Kind → List (Rat × Rat)
  | .physics => physBounds
  | .ecm => ecmBounds i

/-- Clipping of R238. [Log: 35 DEDUCED] -/
def clipState (i : Image) (k : Kind) (x : Vec) : Vec := List.zipWith (fun b v => clampR b.1 b.2 v) (boundsOf i k) x

/-- One sub-step of the physics model (R227). -/
def physStep (p : CellPar) (x : Vec) (env : CellEnv) (st : SubStep) : Vec :=
  let l := learned x
  let tk := at_ x 11
  let t := celsius tk
  let s := socOfState p .physics x
  let te := p.img.tauEl
  let a := expR (-(st.sec / te))
  let drop := (1 - a) * te * p.img.kEl * st.cur
  particleStep p.img 0 (thetaN x) tk (st.cur / qNeg p.img l) st.sec ++ particleStep p.img 1 (thetaP x) tk (-(st.cur / qPos p.img l)) st.sec ++
    [a * at_ x 6 - drop, a * at_ x 7 + drop, relaxStep p.img 1 (at_ x 8) s t (at_ x 15) st.cur st.sec,
     relaxStep p.img 2 (at_ x 9) s t (at_ x 15) st.cur st.sec, hystStep p.img (at_ x 10) st.cur st.sec p.full,
     tempStep p x env st] ++ x.drop 12

/-! ### The equivalent-circuit model (R239) -/

def ecmStep (p : CellPar) (x : Vec) (env : CellEnv) (st : SubStep) : Vec :=
  let t := celsius env.tEcm
  let z := at_ x 0
  [z + st.cur * st.sec / at_ x 4, relaxStep p.img 1 (at_ x 1) z t (at_ x 5) st.cur st.sec,
   relaxStep p.img 2 (at_ x 2) z t (at_ x 5) st.cur st.sec, hystStep p.img (at_ x 3) st.cur st.sec (at_ x 4), at_ x 4, at_ x 5]

def ecmVolts (p : CellPar) (x : Vec) (i tk : Rat) : Rat :=
  let t := celsius tk
  let z := at_ x 0
  p.img.ocvEcm z t + hystWidth p.img z t * at_ x 3 + at_ x 5 * res p.img 0 z t * i + at_ x 1 + at_ x 2

/-! ### Both kinds -/

def dimOf : Kind → Nat
  | .physics => 16 | .ecm => 6

/-- Index of the first learned parameter. -/
def learnedFrom : Kind → Nat
  | .physics => 12 | .ecm => 4

/-- f of R237 with its clip and projection. -/
def modelStep (p : CellPar) (k : Kind) (env : CellEnv) (x : Vec) (st : SubStep) : Vec :=
  projectInventory p k (clipState p.img k (match k with | .physics => physStep p x env st | .ecm => ecmStep p x env st))

def modelVolts (p : CellPar) (k : Kind) (env : CellEnv) (x : Vec) (i : Rat) : Rat :=
  match k with | .physics => physVolts p x i | .ecm => ecmVolts p x i env.tEcm

/-- Temperature of a state in K. [Log: 35 DEDUCED] -/
def tempOf (k : Kind) (env : CellEnv) (x : Vec) : Rat := match k with | .physics => at_ x 11 | .ecm => env.tEcm

/-! ### Sigma points (R237) -/

/-- n + λ, for α = 0.5 and κ = 0. -/
def spread2 (k : Kind) : Rat := (dimOf k : Rat) / 4

def spread (k : Kind) : Rat := match k with | .physics => 2 | .ecm => sqrtR (spread2 k)

def wOther (k : Kind) : Rat := 1 / (2 * spread2 k)
def wMean0 (k : Kind) : Rat := (spread2 k - dimOf k) / spread2 k
def wCov0 (k : Kind) : Rat := wMean0 k + 1 - 1 / 4 + 2

def sigmaPoints (k : Kind) (x : Vec) (root : Mat) : List Vec :=
  let cols := (List.range (dimOf k)).map (fun j => vScale (spread k) (mCol root j))
  x :: cols.map (vAdd x) ++ cols.map (vSub x)

def wMean (k : Kind) (l : List Vec) : Vec :=
  match l with
  | [] => []
  | a :: r => r.foldl (fun m v => vAdd m (vScale (wOther k) v)) (vScale (wMean0 k) a)

/-- Weighted sum of outer products of deviations. -/
def wCov (k : Kind) (a : List (Vec × Vec)) : Mat :=
  match a with
  | [] => []
  | c :: r => r.foldl (fun m v => mAdd m (mScale (wOther k) (outer v.1 v.2))) (mScale (wCov0 k) (outer c.1 c.2))

/-- The lane's results of a vector or a matrix. [Log: 7 DESIGN CHOICE] -/
def laneVec (v : Vec) : Vec := v.map laneRound
/-- Log: 7 DESIGN CHOICE. -/
def laneMat (m : Mat) : Mat := m.map laneVec

/-- A time update's outcome: mean, root if definite, and the sigma points that it carried through the span. -/
structure Predicted where
  x    : Vec
  root : Option Mat
  chi  : List Vec
  deriving DecidableEq, Repr

/-- The time update: the points, drawn once and held inside the bounds of R226, go through every sub-step; the root is
formed at the end of the span; none where the downdate is indefinite (R231, R237, R238). -/
def filterPredict (p : CellPar) (env : CellEnv) (f : Filter) (steps : List SubStep) (q : Mat) : Predicted :=
  let draw := (sigmaPoints f.kind f.x f.root).map (clipState p.img f.kind)
  let pts := (draw.map (fun x => steps.foldl (modelStep p f.kind env) x)).map laneVec
  let x := wMean f.kind pts
  let d := pts.map (fun v => (vSub v x, vSub v x))
  { x := laneVec x, root := (chol (mAdd (wCov f.kind d) q)).map laneMat, chi := pts }

/-- A measurement update's outcome: mean, root if definite, innovation statistic ε (R237, R253). -/
structure Updated where
  x   : Vec
  root : Option Mat
  eps : Rat
  deriving DecidableEq, Repr

/-- Inverse of a 1 × 1 or 2 × 2 matrix. -/
def smallInv (m : Mat) : Mat :=
  if m.length = 1 then [[1 / mAt m 0 0]]
  else
    let d := mAt m 0 0 * mAt m 1 1 - mAt m 0 1 * mAt m 1 0
    [[mAt m 1 1 / d, -(mAt m 0 1) / d], [-(mAt m 1 0) / d, mAt m 0 0 / d]]

/-- Rows of a gain for frozen learned parameters are 0 (R254, R530). -/
def freezeGain (k : Kind) (frozen : Bool) (g : Mat) : Mat :=
  if frozen then g.zipIdx.map (fun e => if learnedFrom k ≤ e.2 then e.1.map (fun _ => 0) else e.1) else g

/-- P − K·S·Kᵀ as a root. -/
def downdate (root : Mat) (g s : Mat) : Option Mat :=
  let ks := g.map (fun r => (List.range s.length).map (fun j => vDot r (mCol s j)))
  chol (mAdd (gram root) (mScale (-1) (ks.map (fun r => g.map (fun c => vDot r c)))))

/-- The measurement update with voltage, and temperature where given, each with its variance, on the points that the time
update carried (R235 to R238). Where S itself is indefinite, no gain can be formed and the mean stays. [Log: 35 DEDUCED] -/
def filterMeasure (p : CellPar) (env : CellEnv) (f : Filter) (chi : List Vec) (i : Rat) (v : Rat × Rat) (t : Option (Rat × Rat)) (frozen : Bool) :
    Updated :=
  let h (x : Vec) : Vec := modelVolts p f.kind env x i :: (match t with | some _ => [at_ x 11] | none => [])
  let y := v.1 :: (match t with | some a => [a.1] | none => [])
  let r := v.2 :: (match t with | some a => [a.2] | none => [])
  let yh := chi.map h
  let ybar := wMean f.kind yh
  let dy := yh.map (fun a => vSub a ybar)
  let dx := chi.map (fun a => vSub a f.x)
  let s := mAdd (wCov f.kind (dy.zip dy)) (diag r)
  if (chol s).isNone then { x := f.x, root := none, eps := 0 }
  else
    let inv := smallInv s
    let pxy := wCov f.kind (dx.zip dy)
    let g := freezeGain f.kind frozen (pxy.map (fun row => (List.range inv.length).map (fun j => vDot row (mCol inv j))))
    let nu := vSub y ybar
    { x := laneVec (projectInventory p f.kind (clipState p.img f.kind (vAdd f.x (mVec g nu))))
      root := (downdate f.root g s).map laneMat
      eps := vDot nu (mVec inv nu) / (y.length : Rat) }

/-- The gradient of SoC with respect to the states, with the end points in force (R230, R251). -/
def socGrad (p : CellPar) (k : Kind) (x : Vec) : Vec :=
  match k with
  | .physics =>
    let qn := qNeg p.img (learned x)
    (nuOf p.img).map (fun n => n * qn / p.full) ++ zeroVec 11 ++ [-(p.img.qNeg0 * vDot (nuOf p.img) (thetaN x) / p.full), 0]
  | .ecm => [1, 0, 0, 0, 0, 0]

/-- Variance of a linear form of the states. -/
def formVar (root : Mat) (g : Vec) : Rat := vDot g (mVec (gram root) g)

/-- σSoC. -/
def socSigma (p : CellPar) (f : Filter) : Rat := sqrtR (formVar f.root (socGrad p f.kind f.x))

/-- A scalar measurement of a linear form: mean, and root if definite (R238, R251). -/
def scalarUpdate (p : CellPar) (f : Filter) (g : Vec) (innov var : Rat) (frozen : Bool) : Vec × Option Mat :=
  let pg := mVec (gram f.root) g
  let s := vDot g pg + var
  let k := freezeGain f.kind frozen (pg.map (fun a => [a / s]))
  (laneVec (projectInventory p f.kind (clipState p.img f.kind (vAdd f.x (mVec k [innov])))), (downdate f.root k [[s]]).map laneMat)

end Sys2Proof.Machine
end

