-- ==== Sys2Proof/Machine/Sar.lean ====
section
/-! DEFINITION. The fast converters (R115 to R153): rounds, sequences, runs, the queue, paired capture, test-DAC
diagnosis, overcurrent comparators, and the commands SAR_SEQ_SET and SAR_INJECT. -/

namespace Sys2Proof.Machine

/-! ### Channels and units (R86, R115) -/

def isWS (chan : Nat) : Bool := 8 ≤ chan && chan < 16

/-- The tuning unit of a channel on a converter (R86). -/
def sarUnit (conv chan : Nat) : Nat :=
  if isWS chan then 17 + 9 * conv + (chan - 8) else 16 + 9 * conv

/-- The other converter. -/
def other (c : Nat) : Nat := 1 - c

def State.fRetired (s : State) (c : Nat) : Bool := s.diag.retF.getLsbD c
/-- Both converters are in service. -/
def State.fBoth (s : State) : Bool := s.diag.retF == 0

/-- Converters whose sequences a converter serves: its own, and the retired one's (R151). -/
def State.serves (s : State) (c : Nat) : List Nat :=
  if s.fRetired c then [] else if s.fRetired (other c) then [c, other c] else [c]

/-! ### Triggers (R127 to R130) -/

def Trig.code : Trig → Nat
  | .frame => 1 | .oc _ => 2 | .cmp _ => 3 | .host => 4

/-- The TRIGMASK bit of a trigger's class (R124). -/
def Trig.maskBit : Trig → Nat
  | .frame => 0 | .oc _ => 1 | .cmp _ => 2 | .host => 3

/-- Run order: FRAME, OC0 to OC7, CMP0 to CMP3, HOST (R130). -/
def Trig.rank : Trig → Nat
  | .frame => 0 | .oc n => 1 + n | .cmp n => 9 + n | .host => 13

/-- The channel an entry converts; WST and STT resolve to the tripping string's WSn and STVn (R124). -/
def entryChan (t : Trig) (chan : Nat) : Nat :=
  let n := match t with | .oc n => n | _ => Config.wstString % 8
  if chan = 0x3E then 8 + n else if chan = 0x3F then n else chan

/-- The device's entries 0 to 3 of a converter: STV0 to STV3 on F0, STV4 to STV7 on F1, FRAME only (R126, R128). -/
def deviceEntries (s : State) (conv : Nat) : List (Nat × SeqEntry) :=
  (List.range 4).filterMap (fun i =>
    if s.enabled (4 * conv + i) then some (i, { chan := 4 * conv + i, tdac := false, mask := 1#4 }) else none)

/-- The entries a trigger's run converts from one converter's list (R128). [Log: 20 DESIGN CHOICE] -/
def runEntries (s : State) (conv : Nat) (t : Trig) : List (Nat × SeqEntry) :=
  (if t == .frame then deviceEntries s conv else []) ++
    ((s.conv conv).inj.zipIdx 4).filterMap (fun e => if e.1.mask.getLsbD t.maskBit then some (e.2, e.1) else none)

/-- The pending trigger of highest rank. [Log: 71 DEDUCED] -/
def topTrig (l : List Trig) : Option Trig :=
  l.foldl (fun a t => match a with | some b => if t.rank < b.rank then some t else a | none => some t) none

/-! ### Completions of SAR_INJECT (R133) -/

def InjWait.phase (w : InjWait) (list : Nat) : InjPhase := if list = 0 then w.f0 else w.f1
def InjWait.setPhase (w : InjWait) (list : Nat) (p : InjPhase) : InjWait := if list = 0 then { w with f0 := p } else { w with f1 := p }

def injectResult (w : InjWait) : List Byte := leBytes 2 (min 0xFFFF w.count)

/-- The command's runs and its capture have ended. -/
def InjWait.over (w : InjWait) : Bool := w.f0 == .ended && w.f1 == .ended && !w.pair

def injectComplete (s : State) : State :=
  let ended := s.sar.waits.filter InjWait.over
  let s := { s with sar := { s.sar with waits := s.sar.waits.filter (fun w => !w.over) } }
  ended.foldl (fun s w => complete 0x51 w.sub stOK (injectResult w) s) s

/-- The HOST run of a list begins, for every SAR_INJECT that is pending on it (R127, R133). -/
def injectBegins (list : Nat) (s : State) : State :=
  { s with sar := { s.sar with waits := s.sar.waits.map (fun w => if w.phase list == .pending then w.setPhase list .running else w) } }

/-- A run of a converter's list has ended: EV57 for a run with host entries, and the SAR_INJECTs whose run it was. -/
def runEnded (r : InjRun) (s : State) : State :=
  let s := if r.hostRun then raise 57 0 s else s
  if r.trig == .host then
    injectComplete { s with sar := { s.sar with waits := s.sar.waits.map (fun w => if w.phase r.seqOf == .running then w.setPhase r.seqOf .ended else w) } }
  else s

/-! ### Conversions (R116, R117) -/

/-- Ticks of a conversion: 1 µs, or 4 µs in LEAN mode; and of its sampling. -/
def convTicks (lean : Bool) : Nat := if lean then 960 else 240
def sampleTicks (lean : Bool) : Nat := if lean then 240 else 60

/-- Housekeeping and regular entries run in LEAN mode in the LEAN power state (R117). -/
def State.leanConv (s : State) : Bool := s.pwr.state == .lean

/-- A conversion begins on a converter. -/
def startConv (c : Nat) (use : ConvUse) (chan : Nat) (tdac : Option Nat) (lean : Bool) (s : State) : State :=
  s.modConv c (fun k => { k with busy := some { use, chan, start := s.clk.ticks, ts32 := s.ts32, tdac, lean } })

/-! ### Choosing the next conversion (R119 to R130, R134, R135) -/

/-- It would finish by the start of the next round (R122). -/
def fitsRound (s : State) (d : Nat) : Bool := s.clk.ticks + d ≤ s.sar.roundStart + 24000

/-- A pending trigger of one of the lists that a converter serves, in rank order, its own list first (R130, R151). [Log: 71 DEDUCED] -/
def nextTrigger (c : Nat) (s : State) : Option (Trig × Nat) :=
  (s.serves c).foldl (fun a l => match topTrig (s.conv l).pend, a with
    | some t, some (b, _) => if t.rank < b.rank then some (t, l) else a
    | some t, none => some (t, l)
    | none, _ => a) none

/-- No run, trigger or due wide-path slot stands before the capture on a converter (R134, R135). -/
def captureFree (s : State) (c : Nat) : Bool :=
  let k := s.conv c
  k.run.isNone && k.pend.isEmpty && !k.wideDue.any (fun e => e.2 ≤ s.clk.ticks)

/-- A converter is idle, or converts a sample of the capture. -/
def captureOwn (s : State) (c : Nat) : Bool :=
  match (s.conv c).busy with
  | none => true
  | some b => match b.use with | .pair _ => true | _ => false

def Capture.nextOf (p : Capture) (c : Nat) : Nat := if c = 0 then p.next0 else p.next1
def Capture.bump (p : Capture) (c : Nat) (up : Bool) : Capture :=
  let m (n : Nat) : Nat := if up then n + 2 else n - 2
  if c = 0 then { p with next0 := m p.next0 } else { p with next1 := m p.next1 }

/-- The next sample of the capture begins on a converter: samples alternate 0.5 µs apart, the even ones on F0, and a
stretch of samples begins when both converters are free (R118, R134, R135). [Log: 71 DEDUCED] -/
def startSample (c : Nat) (p : Capture) (s : State) : State :=
  let n := p.nextOf c
  let turn := decide (n < p.nextOf (other c)) || decide (p.len ≤ p.nextOf (other c))
  if s.fBoth && captureFree s 0 && captureFree s 1 && captureOwn s (other c) && turn && decide (n < p.len) &&
      (!p.started || decide (p.last + 120 ≤ s.clk.ticks)) && fitsRound s 240 then
    startConv c (.pair n) (8 + p.str) none false
      { s with sar := { s.sar with capture := some { p.bump c true with started := true, last := s.clk.ticks } } }
  else s

/-- The regular list that a converter serves in this round. With one converter retired the spec says only that the two
lists alternate by round: the model gives the remaining converter's own list the even rounds (R151, log 71). [Log: 71 DEDUCED] -/
def regularOf (c : Nat) (s : State) : Nat := if (s.serves c).length = 2 && s.sar.round % 2 = 1 then other c else c

/-- A regular conversion, unless the list is empty; the list's position moves on as it begins (R123, R125). -/
def startRegular (c : Nat) (s : State) : State :=
  let l := regularOf c s
  let k := s.conv l
  let i := k.regPos % max 1 k.regular.length
  match k.regular[i]? with
  | some e =>
    if fitsRound s (convTicks s.leanConv) then
      startConv c (.regular i l k.regGen) e.chan none s.leanConv (s.modConv l (fun k => { k with regPos := (i + 1) % max 1 k.regular.length }))
    else s
  | none => s

/-- The channel and the test-DAC code of a housekeeping conversion (R115, R144, R145). -/
def HkTask.chan : HkTask → Nat
  | .temp i => if i < 32 then 0x10 + i % 16 else i
  | .tune u => if 25 < u then 8 + (u - 26) else if 16 < u && u < 25 then 8 + (u - 17) else 0x27
  | .diag c _ => c
  | .tdac _ => 0x27

/-- Test-DAC codes of the diagnosis and their expected tuned codes (R144). -/
def diagCode (k : Nat) : Nat := [0x066, 0x200, 0x399].getD k 0x200
def diagExpect (k : Nat) : Nat := [0x198, 0x800, 0xE64].getD k 0x800

/-- The codes at which the test DAC is checked: those nearest to the direct-path levels of R107 (0.25, 0.75, 1.25, 1.75 and
2.25 V), and the voltage that a code stands for. [Log: 71 DEDUCED] -/
def checkCode (k : Nat) : Nat := [0x066, 0x133, 0x200, 0x2CD, 0x39A].getD k 0x200
def checkVolts (k : Nat) : Rat := (checkCode k : Rat) * (5 / 2) / 1024

def HkTask.tdacCode : HkTask → Option Nat
  | .diag _ k => some (diagCode k)
  | .tdac k => some (checkCode k)
  | _ => none

/-- Housekeeping slots that may run: those due, outside HOLD, and not while a capture is pending or running (R135, R476). -/
def hkReady (c : Nat) (s : State) : Bool :=
  s.tuningRuns && s.sar.capture.isNone && (s.conv c).hkDue.any (· ≤ s.clk.ticks)

/-- A tuning point of a WSn path may be taken: the other converter neither samples the path for its string nor has a sample
of it due before the point's conversion is over (R108). -/
def HkTask.free (c : Nat) (s : State) : HkTask → Bool
  | .tune u =>
    let n := (HkTask.tune u).chan - 8
    !isWS (HkTask.tune u).chan ||
      !((s.conv (other c)).busy.any (fun b => match b.use with | .wide m _ => m == n | _ => false) ||
        (s.conv (other c)).wideDue.any (fun e => e.1 == n && e.2 < s.clk.ticks + convTicks s.leanConv))
  | _ => true

/-- A housekeeping slot takes the next task that it may take, or passes to the regular sequence (R108, R121). -/
def startHk (c : Nat) (s : State) : State :=
  let s' := s.modConv c (fun k => { k with hkDue := k.hkDue.drop 1 })
  match (s.conv c).hkTasks.find? (HkTask.free c s) with
  | some t =>
    if fitsRound s (convTicks s.leanConv) then
      startConv c (.hk t) t.chan t.tdacCode s.leanConv (s'.modConv c (fun k => { k with hkTasks := k.hkTasks.erase t }))
    else s
  | none => startRegular c s'

/-- A due wide-path slot begins. -/
def startWide (c : Nat) (e : Nat × Nat) (s : State) : State :=
  startConv c (.wide e.1 e.2) (8 + e.1) none false (s.modConv c (fun k => { k with wideDue := k.wideDue.erase e }))

/-- The wide-path slots that a run of `n` conversions beginning now would delay still begin within 8.25 µs of their instants
(R131). [Log: 71 DEDUCED] -/
def runFits (c n : Nat) (s : State) : Bool :=
  (s.conv c).wideDue.zipIdx.all (fun e => s.clk.ticks + 240 * (n + e.2) ≤ e.1.2 + 1980)

/-- What an idle converter does next: the run in progress; the wide-path slots that fell due in a run that has ended; the
highest pending trigger, unless it would make a due slot late (R131); wide-path slots that are due; housekeeping slots; the
capture; the regular sequence (R129, R130, R134). Triggers whose run has no entry take no time (R128). In HOLD the wide-path slots alone run (R476). [Log: 71 DEDUCED] -/
def sarNext (c : Nat) : Nat → State → State
  | 0, s => s
  | fuel + 1, s =>
    let k := s.conv c
    if k.busy.isSome || s.fRetired c || !s.metering then s
    else if s.pwr.state == .hold then
      match k.wideDue.find? (fun e => e.2 ≤ s.clk.ticks) with
      | some e => startWide c e s
      | none => s
    else match k.run with
      | some r =>
        match r.entries with
        | (i, e) :: rest =>
          startConv c (.injected i r.trig r.seqOf) (entryChan r.trig e.chan) (if e.tdac then some s.sar.tdac else none) false
            (s.modConv c (fun k => { k with run := some { r with entries := rest, hostRun := r.hostRun || decide (4 ≤ i), ran := true } }))
        | [] => sarNext c fuel (runEnded r (s.modConv c (fun k => { k with run := none, runEnd := if r.ran then s.clk.ticks else k.runEnd })))
      | none =>
        match k.wideDue.find? (fun e => e.2 ≤ k.runEnd) with
        | some e => startWide c e s
        | none =>
          match nextTrigger c s with
          | some (t, l) =>
            match k.wideDue.find? (fun e => e.2 ≤ s.clk.ticks && !runFits c (runEntries s l t).length s) with
            | some e => startWide c e s
            | none =>
              let s' := s.modConv l (fun k => { k with pend := k.pend.filter (· != t) })
              let s' := if t == .host then injectBegins l s' else s'
              sarNext c fuel (s'.modConv c (fun k => { k with
                run := some { trig := t, seqOf := l, entries := runEntries s l t, hostRun := false, ran := false } }))
          | none =>
            match k.wideDue.find? (fun e => e.2 ≤ s.clk.ticks) with
            | some e => startWide c e s
            | none =>
              if hkReady c s then startHk c s
              else match s.sar.capture with
                | some p => startSample c p s
                | none => startRegular c s

/-- Both converters take up what waits. -/
def sarKick (s : State) : State := sarNext 1 64 (sarNext 0 64 s)

/-- A transmit stamp joins its port's queue: EV44 (R446). [Log: 50 DEDUCED] -/
def queueStamp (port : Nat) (e : TxStamp) (s : State) : State :=
  raise 44 port (s.modPort port (fun p => { p with queue := p.queue ++ [e] }))

/-- A transmit stamp that found its queue full is dropped; EV43 on the first drop since the level was last below 16 (R446). [Log: 50 DEDUCED] -/
def dropLate (port : Nat) (s : State) : State :=
  let p := s.port port
  if p.late.isNone then s
  else
    let s := s.modPort port (fun p => { p with late := none, ovf := wrap32 (p.ovf + 1), ovfArmed := false })
    if p.ovfArmed then raise 43 0 s else s

/-- What a step does on an empty queue: one tick passes, stamps that found no room on it are dropped, and conversions whose
slot has come begin (log 1). [Log: 1 DESIGN CHOICE] -/
def idle (s : State) : State := sarKick (tick (dropLate 1 (dropLate 0 s)))

/-- A conversion is aborted: its slot, sample, task or regular entry is to be done again (R129, R130, R153). -/
def abortConv (w : Nat) (b : Conversion) (s : State) : State :=
  let s := s.modConv w (fun k => { k with busy := none })
  match b.use with
  | .wide n t0 => s.modConv w (fun k => { k with wideDue := (n, t0) :: k.wideDue })
  | .hk t => s.modConv w (fun k => { k with hkDue := s.clk.ticks :: k.hkDue, hkTasks := t :: k.hkTasks })
  | .regular i l gen => s.modConv l (fun k => if k.regGen = gen then { k with regPos := i } else k)
  | .pair _ => { s with sar := { s.sar with capture := s.sar.capture.map (fun p => p.bump w false) } }
  | .injected _ _ _ => s

/-- The conversion is a wide-path slot that comes before the next run: it fell due in an earlier run (R130), or would begin
again too late after a run of `n` conversions (R131). [Log: 71 DEDUCED] -/
def mustFinish (w n : Nat) (b : Conversion) (s : State) : Bool :=
  match b.use with
  | .wide m t0 => decide (t0 ≤ (s.conv w).runEnd) || !runFits w n (s.modConv w (fun k => { k with wideDue := (m, t0) :: k.wideDue }))
  | _ => false

/-- A trigger becomes pending on a converter's list; a conversion that is still sampling, or any LEAN-mode conversion,
is aborted (R127, R129, R153), but a wide-path slot only where R130 and R131 let it wait. [Log: 71 DEDUCED] -/
def setPending (c : Nat) (t : Trig) (s : State) : State :=
  let s := s.modConv c (fun k => if k.pend.contains t then k else { k with pend := k.pend ++ [t] })
  let w := if s.fRetired c then other c else c
  match (s.conv w).busy with
  | none => s
  | some b =>
    let early := decide (s.clk.ticks - b.start < sampleTicks b.lean) || b.lean
    if (s.conv w).run.isNone && early && !mustFinish w (runEntries s c t).length b s then abortConv w b s else s

/-- A trigger on both converters. [Log: 71 DEDUCED] -/
def triggerBoth (t : Trig) (s : State) : State := sarKick (setPending 1 t (setPending 0 t s))

/-! ### Rounds (R119, R120, R125, R126, R453) -/

/-- The wide-path channels of a converter in a round: even strings on F0 in even rounds, exchanged in odd rounds; a
remaining converter keeps its own slots (R119, R151). -/
def wideSlots (c round start : Nat) : List (Nat × Nat) :=
  (List.range 4).map (fun i => (2 * i + (c + round) % 2, start + 240 * i))

/-- Two housekeeping slots: 4 and 5 of the round, or two of 4 µs in LEAN (R119, R120). -/
def hkSlots (lean : Bool) (start : Nat) : List Nat := [start + 960, start + 960 + convTicks lean]

/-- Lists written by SAR_SEQ_SET take force at a round start; an injected list never while a run of it goes on, on
whichever converter (R125, R126). -/
def takeLists (s : State) (c : Nat) (k : SarConv) : SarConv :=
  let k := match k.newReg with
    | some l => { k with regular := l, regPos := 0, regGen := k.regGen + 1, newReg := none }
    | none => k
  let runs := (List.range 2).any (fun d => (s.conv d).run.any (fun r => r.seqOf == c))
  match k.newInj with
  | some l => if runs then k else { k with inj := l, newInj := none }
  | none => k

/-- SAR_SEQ_SETs whose lists have taken force complete (R415). -/
def seqComplete (s : State) : State :=
  let taken (sub : Submission) : Bool := (List.range 2).all (fun c =>
    !(sub.pU 0 1).testBit c || (if sub.pU 1 1 = 0 then (s.conv c).newReg.isNone else (s.conv c).newInj.isNone))
  let ended := s.sar.seqWaits.filter taken
  let s := { s with sar := { s.sar with seqWaits := s.sar.seqWaits.filter (fun w => !taken w) } }
  ended.foldl (fun s w => complete 0x50 w stOK [] s) s

/-- `n` tasks in every `per` rounds, spread evenly: the number of the one that falls into round `r`, if one does. -/
def spreadTask (n per r : Nat) : Option Nat := if n * r / per != n * (r - 1) / per || r % per = 0 then some (n * r / per) else none

/-- A pin has a role (R453). -/
def pinUsed (b : ConfigBlock) (p : Nat) : Bool :=
  b.strs.any (fun c => c.enable == 1 && (c.shuntPins.getLsbD p || c.busbarPins.getLsbD p || c.ambPin == p || c.enclPin == p))

/-- The converter of a pin: TH0 to TH7 on F0, the rest on F1, all on the one that remains (R453). -/
def pinConv (s : State) (p : Nat) : Nat :=
  let c := if p < 8 then 0 else 1
  if s.fRetired c then other c else c

/-- The temperature inputs of pass `j` of a period on a converter: its pins in use, with two conversions of a DIODE pin,
and the die sensors on both converters in turn (R452, R453). -/
def tempTasks (s : State) (c j : Nat) : List HkTask :=
  let pins := (List.range 16).filter (fun p => pinUsed s.cfg.live p && pinConv s p == c)
  let die := if s.fBoth then j % 2 == c else !s.fRetired c
  pins.flatMap (fun p => if (s.cfg.live.glob.pins.getD p ThPin.template).kind = 2 then [.temp (16 + p), .temp p] else [.temp p]) ++
    (if die then [.temp 32, .temp 33] else [])

/-- Tasks that come due on a converter in round `r`: 16 passes over the temperature inputs in 1,000 rounds, 64 conversions
of five levels for its nine tuning units in 100,000 rounds, three codes on 40 channels in the same time, and the check of
the test DAC (R107, R144, R145, R453). The spec fixes the counts and their spread; the order of units, levels and
channels is the model's. [Log: 71 DEDUCED] -/
def hkTasksOf (s : State) (c r : Nat) : List HkTask :=
  (match spreadTask 16 1000 r with | some j => tempTasks s c j | none => []) ++
    (match spreadTask 2880 100000 r with | some k => [.tune (16 + 9 * c + k % 9)] | none => []) ++
    (if s.sar.tdacOut then [] else match spreadTask 120 100000 r with | some k => [.diag (k % 120 / 3) (k % 3)] | none => []) ++
    (if r % 100000 = 50000 && (c = 0 || s.fRetired 0) then (List.range 5).map .tdac else [])

def HkTask.isTemp : HkTask → Bool
  | .temp _ => true
  | _ => false

/-- A housekeeping period of 1,000 rounds ends: its sums wait for judgement, and a new period begins (R453). -/
def endPeriod (s : State) : State :=
  { s with sar := { s.sar with hkLatch := some s.sar.hkAcc, hkAcc := List.replicate 34 HkAcc.zero
                               convs := s.sar.convs.map (fun k => { k with hkTasks := k.hkTasks.filter (fun t => !t.isTemp) }) } }

/-- The slots and tasks of a round on one converter. Housekeeping slots that a capture deferred stay due (R135). -/
def roundOn (c r : Nat) (s : State) : State :=
  if s.fRetired c then s
  else
    s.modConv c (fun k => { k with
      wideDue := k.wideDue ++ wideSlots c r s.clk.ticks
      hkDue := (if s.sar.capture.isSome then k.hkDue else []) ++ hkSlots s.leanConv s.clk.ticks
      hkTasks := if s.tuningRuns then k.hkTasks ++ hkTasksOf s c r else k.hkTasks })

/-- SAR_ROUND_START: every 24,000 ticks from measurement start. [Log: 2 DESIGN CHOICE, 71 DEDUCED] -/
def execSarRoundStart (s : State) : Out :=
  let d := s.clk.ticks - s.frm.measStart
  if !s.metering || d % 24000 != 0 || (s.sar.roundOn && decide (s.clk.ticks ≤ s.sar.roundStart)) then .next s
  else
    let r := d / 24000
    let s := { s with sar := { s.sar with round := r, roundStart := s.clk.ticks, roundOn := true, convs := s.sar.convs.zipIdx.map (fun e => takeLists s e.2 e.1) } }
    let s := if r % 1000 = 0 && r != 0 then endPeriod s else s
    .next (sarKick (seqComplete (roundOn 1 r (roundOn 0 r s))))

/-! ### Results (R137 to R143) -/

def codeLimit (x : Int) : Nat := (clampI 1 0xFFE x).toNat

/-- The uncorrected result of a conversion in V: what the converter found, or the test DAC's voltage with the path's
deviation from it; for a WSn path referred to the shunt, where its amplifier of gain 3.125 rests at 1.25 V (R115, R124,
R144). [Log: 71 DEDUCED] -/
def rawVolts (b : Conversion) (volts : Rat) : Rat :=
  match b.tdac with
  | none => volts
  | some k =>
    let d : Rat := (k : Rat) * (5 / 2) / 1024
    (if isWS b.chan then (d - 5 / 4) / (25 / 8) else d) + volts

/-- The rail that a result lies at. A direct path rails at 2.5 V and at 0 V; the exact points of a WSn path, ±400 mV
nominally, depend on its amplifier and arrive with the result (R141). -/
def railOf (chan : Nat) (raw : Rat) (rail : Rail) : Rail :=
  if isWS chan then rail else if 5 / 2 ≤ raw then .upper else if raw ≤ 0 then .lower else .within

/-- The tuned code and its OVR and UNR flags (R137, R141). -/
def sarCode (chan : Nat) (v : Rat) (rail : Rail) : Nat × Bool × Bool :=
  match rail with
  | .upper => (0xFFF, true, false)
  | .lower => (0x000, isWS chan, true)
  | .within => (if isWS chan then codeLimit (0x800 + roundAway (5120 * v)) else codeLimit (roundAway (v * 16384 / 10)), false, false)

/-- A direct-path result in 1/16 LSB, as internal consumers take it (R137). -/
def code16 (v : Rat) (rail : Rail) : Nat :=
  match rail with
  | .upper => 0xFFF0
  | .lower => 0
  | .within => (clampI 0 0xFFF0 (roundAway (v * 262144 / 10))).toNat

/-- The voltage that a code in 1/16 LSB stands for. -/
def volts16 (c : Rat) : Rat := c * 10 / 262144

/-- A mark of R142 meets a conversion that begins now: it is spent, or its time is over. -/
def NbrMark.hits (m : NbrMark) (b : Conversion) : Bool :=
  (b.chan + 1 == m.chan || b.chan == m.chan + 1) && decide (b.start - m.endTick < 1200)

/-- The neighbour marks as a conversion meets them: whether it carries NBR, and the marks afterwards (R142). -/
def nbrOf (k : SarConv) (b : Conversion) : Bool × List NbrMark :=
  (k.nbr.any (fun m => m.hits b),
   k.nbr.filterMap (fun m =>
     if 1200 ≤ b.start - m.endTick then none
     else if m.hits b then (if m.left ≤ 1 then none else some { m with left := m.left - 1 })
     else some m))

/-- The queue takes a result, or drops it when full (R140). -/
def queuePush (e : SarEntry) (s : State) : State :=
  if 256 ≤ s.sar.queue.length then
    let s' := { s with sar := { s.sar with drop := wrap32 (s.sar.drop + 1), dropArmed := false } }
    if s.sar.dropArmed then raise 59 0 s' else s'
  else
    let s' := { s with sar := { s.sar with queue := s.sar.queue ++ [e] } }
    if s.sar.wm ≠ 0 && s'.sar.queue.length = s.sar.wm then raise 58 0 s' else s'

/-- The oldest entry leaves the queue. -/
def queuePop (s : State) : State := { s with sar := { s.sar with queue := s.sar.queue.drop 1, dropArmed := true } }

/-- The two words of a queue entry (R138). -/
def SarEntry.lo (e : SarEntry) : Nat :=
  e.entry % 32 * 2 ^ 27 + e.trig % 8 * 2 ^ 24 + bit e.nbr 22 + bit e.unr 21 + bit e.ovr 20 + bit e.inj 19 + e.conv % 2 * 2 ^ 18 +
    e.chan % 64 * 2 ^ 12 + e.code % 4096

/-- A wide-path sample joins the string's list; one with NBR repeats the string's previous sample, and 0 V where the
string has none: the spec names no value for that case (R62, R63, R137, R143, log 24). A string that does not count keeps
only the last. [Log: 24 DEDUCED] -/
def addWide (n : Nat) (x : WideSample) (nbr : Bool) (s : State) : State :=
  s.modMet n (fun m =>
    let y : WideSample :=
      if nbr then { m.wide.getLast?.getD { x with fixed := some 0, sat := false } with tick := x.tick, nbr := true } else x
    { m with wide := if m.snap.enabled then m.wide ++ [y] else [y] })

/-- Conversions counted for the SAR_INJECTs whose run of a list, or whose capture, goes on (R133). -/
def countInject (list : Nat) (pair : Bool) (s : State) : State :=
  { s with sar := { s.sar with waits := s.sar.waits.map (fun w =>
    if (if pair then w.pair else w.phase list == .running) then { w with count := w.count + 1 } else w) } }

/-- A finished capture ends the SAR_INJECT that asked for it. -/
def captureEnd (s : State) : State :=
  injectComplete { s with sar := { s.sar with capture := none, waits := s.sar.waits.map (fun w => { w with pair := false }) } }

/-- STV of a string in mV, of the newest sampled frame (R22, R132). -/
def setStv (n : Nat) (mv : Nat) (s : State) : State :=
  let k := ((s.frm.frames.filter (·.sampled)).getLast?.map (·.epoch)).getD 0
  { s with sar := { s.sar with stv := s.sar.stv.set n mv }
           frm := { s.frm with frames := s.frm.frames.map (fun f => if f.epoch == k then { f with stv := f.stv.set n mv } else f) } }

/-- One more conversion of a temperature input. -/
def HkAcc.add (a : HkAcc) (code : Nat) (ranged : Bool) : HkAcc :=
  if a.n < 16 then { n := a.n + 1, sum := a.sum + code, ranged := a.ranged || ranged } else a

/-- A housekeeping result: one with NBR is discarded, and its conversion repeated in the next slot (R121). -/
def useHk (c : Nat) (b : Conversion) (t : HkTask) (raw v : Rat) (rail : Rail) (nbr : Bool) (s : State) : State :=
  if nbr then s.modConv c (fun k => { k with hkTasks := t :: k.hkTasks })
  else match t with
    | .temp i =>
      let bad := rail != .within || s.sar.diagFail.getLsbD b.chan
      { s with sar := { s.sar with hkAcc := s.sar.hkAcc.modify i (fun a => a.add (code16 v rail) bad) } }
    | .tune u => if s.tuning u then s.modTun u (fun x => x.addSlot (accSize u) raw s.tun.dieT) else s
    | .diag ch k =>
      let code := (sarCode b.chan v rail).1
      if 8 < (code : Int) - diagExpect k || 8 < (diagExpect k : Int) - code then
        { s with sar := { s.sar with diagAcc := s.sar.diagAcc.modify c (fun m => m ||| (1#40 <<< ch)) } }
      else s
    | .tdac k => { s with sar := { s.sar with tdacSeen := s.sar.tdacSeen ++ [(k, volts16 (code16 v rail : Rat))] } }

/-- What a finished conversion is for. -/
def useResult (c : Nat) (b : Conversion) (raw v : Rat) (rail : Rail) (nbr : Bool) (s : State) : State :=
  let r := sarCode b.chan v rail
  let e (entry trig : Nat) (inj : Bool) : SarEntry :=
    { ts32 := b.ts32, entry, trig, nbr, unr := r.2.2, ovr := r.2.1, inj, conv := c, chan := b.chan, code := r.1 }
  match b.use with
  | .wide n t =>
    let fixed : Option Rat := match rail with | .upper => some (4 / 10) | .lower => some (-4 / 10) | .within => none
    addWide n { tick := t, conv := c, raw, fixed, sat := r.2.1, nbr := false } nbr s
  | .hk t => useHk c b t raw v rail nbr s
  | .regular i _ _ => queuePush (e i 0 false) s
  | .injected i t l =>
    let s := queuePush (e i t.code true) s
    let n := b.chan % 8
    let s := if t == .frame && i < 4 then setStv n (pubU 32 (volts16 (code16 v rail : Rat) * ((s.strCfg n).stvRatio : Rat))) s else s
    if t == .host then countInject l false s else s
  | .pair k =>
    let s := countInject 0 true (queuePush (e (k % 32) 5 false) s)
    match s.sar.capture with
    | some p => if p.len ≤ p.done + 1 then captureEnd s else { s with sar := { s.sar with capture := some { p with done := p.done + 1 } } }
    | none => s

/-- SAR_CONVERSION_END: the conversion in progress on a converter ends with its uncorrected result, after 1 µs, or 4 µs
in LEAN mode (R116, R117). -/
def execSarConversionEnd (conv : Nat) (volts : Rat) (rail : Rail) (s : State) : Out :=
  match (s.conv conv).busy with
  | none => .next s
  | some b =>
    if s.clk.ticks < b.start + convTicks b.lean then .next s
    else
      let raw := rawVolts b volts
      let v := (s.tunUnit (sarUnit conv b.chan)).inForce.apply raw
      let rail := railOf b.chan raw rail
      let n := nbrOf (s.conv conv) b
      let marks := if rail == .within then n.2
        else n.2.filter (fun m => m.chan != b.chan) ++ [{ chan := b.chan, endTick := s.clk.ticks, left := 2 }]
      let s := s.modConv conv (fun k => { k with busy := none, nbr := marks })
      .next (sarKick (useResult conv b raw v rail n.1 s))

/-! ### Test-DAC diagnosis (R144 to R146, R501) -/

/-- A channel path that failed in two diagnoses running is LASTING at once: EV38 with its code (R146, R501). [Log: 71 DEDUCED] -/
def failChannels (m : BitVec 40) (s : State) : State :=
  (List.range 40).foldl (fun s c => if m.getLsbD c && !s.sar.diagFail.getLsbD c then
    recordEvent 38 c (logAdd 38 0xFF 0 c { s with sar := { s.sar with diagFail := s.sar.diagFail ||| (1#40 <<< c) } }) else s) s

/-- TDAC_DIAGNOSIS: a diagnosis of 10 s is complete; the channels that failed a point on each converter are judged, and
the next begins. A converter is compared with the other only where that one is in service and so has passed (R146). The
diagnoses before and after a suspension by R145 count as consecutive. [Log: 71 DEDUCED] -/
def execTdacDiagnosis (_ _ : Held) (s : State) : Out :=
  let a := s.sar.diagAcc.getD 0 0
  let b := s.sar.diagAcc.getD 1 0
  let s := { s with sar := { s.sar with diagAcc := [0, 0] } }
  if s.sar.tdacOut || !s.tuningRuns then .next s
  else
    let both := a &&& b
    let s' := failChannels (both &&& s.sar.diagPrev) { s with sar := { s.sar with diagPrev := both } }
    let many (x : BitVec 40) : Bool := s.fBoth && decide (2 ≤ ((List.range 40).filter (fun c => x.getLsbD c)).length)
    let s' := if many (a &&& ~~~b) then fileReport { target := 1, index := 0 } s' else s'
    .next (if many (b &&& ~~~a) then fileReport { target := 1, index := 1 } s' else s')

/-- TDAC_CHECK: while the test DAC, as I7 showed it, lies more than 2 mV off at any of the levels, the diagnosis is suspended
(R145). [Log: 71 DEDUCED] -/
def execTdacCheck (_ : Held) (s : State) : Out :=
  if s.sar.tdacSeen.isEmpty then .next s
  else .next { s with sar := { s.sar with
    tdacOut := s.sar.tdacSeen.any (fun e => decide (2 / 1000 < absR (e.2 - checkVolts e.1))), tdacSeen := [] } }

/-! ### Overcurrent comparators (R147 to R150) -/

/-- Some string holds OC_TRIP_N: tripped, or latched (R149). In HALT the pin stays released (R465). -/
def ocHeld (s : State) : Bool :=
  s.pwr.state != .halt && (s.sar.active != 0 || (List.range 8).any (fun n => s.sar.trip.getLsbD n && (s.sar.oc.getD n OcCfg.reset).latch))

/-- OC_TRIP_N follows its causes; an assertion lasts at least 100 µs (R149). -/
def ocPin (s : State) : State :=
  let held := ocHeld s
  { s with sar := { s.sar with pin := held || s.sar.pinMin, pinMin := s.sar.pinMin || (held && !s.sar.pin) } }

/-- A capture begins on a string, or PAIR_MISS is set while one runs (R134, R136); none with a converter retired (R151).
A capture that is pending counts as running: the spec does not say (R136, log 71). [Log: 71 DEDUCED] -/
def askCapture (n : Nat) (s : State) : State :=
  if !s.fBoth then s
  else match s.sar.capture with
    | some _ => { s with sar := { s.sar with pairMiss := true, hot := s.sar.hot.mark s.clk.ticks (2 ^ 17) } }
    | none => { s with sar := { s.sar with
        capture := some { str := n, len := s.sar.pairLen, started := false, next0 := 0, next1 := 1, last := 0, done := 0 }, pairStr := n } }

/-- The threshold of a string's comparator in V at the shunt: THR × 1.5625 mV, within ±(1 % + 0.5 mV) (R147). [Log: 20 DESIGN CHOICE] -/
def ocThreshold (n : Nat) (c : OcCfg) : Rat :=
  let t : Rat := (c.thr : Rat) * (15625 / 10000000)
  t + clampR (-1) 1 (Config.ocError n) * (t / 100 + 5 / 10000)

/-- How far a sample at the shunt lies in the direction that DIR selects, as SHUNT_POL wires it (R42, R147). [Log: 71 DEDUCED] -/
def ocLevel (s : State) (n : Nat) (c : OcCfg) (v : Rat) : Option Rat :=
  let i := if (s.strCfg n).shuntPol == 1 then -v else v
  match c.dir with
  | 1 => some (-i)
  | 2 => some i
  | 3 => some (absR i)
  | _ => none

/-- OC_TRIP: three detector samples in a row, in V at the shunt, above the threshold declare a trip (R148): TRIP and
ACTIVE, the pin, and what the string's SAR_OC_CFG asks for (R150). -/
def execOcTrip (x : OcSamples) (s : State) : Out :=
  let str := x.str
  let c := s.sar.oc.getD str OcCfg.reset
  let above (v : Rat) : Bool := (ocLevel s str c v).any (fun l => decide (ocThreshold str c < l))
  if !(above x.v0 && above x.v1 && above x.v2) || !(s.live || s.pwr.state == .hold) || s.sar.active.getLsbD str then .next s
  else
    let s := ocPin { s with sar := { s.sar with
      trip := setBit s.sar.trip str true, active := setBit s.sar.active str true, hot := s.sar.hot.mark s.clk.ticks (2 ^ str) } }
    let s := if c.pairEn then askCapture str s else s
    .next (if c.injEn then triggerBoth (.oc str) s else sarKick s)

/-- OC_RELEASE: three detector samples in a row below 98 % of the threshold (R148). -/
def execOcRelease (x : OcSamples) (s : State) : Out :=
  let c := s.sar.oc.getD x.str OcCfg.reset
  let below (v : Rat) : Bool := (ocLevel s x.str c v).all (fun l => decide (l < ocThreshold x.str c * (98 / 100)))
  if below x.v0 && below x.v1 && below x.v2 then .next (ocPin { s with sar := { s.sar with active := setBit s.sar.active x.str false } })
  else .next s

/-- OC_TRIP_N_MIN_END. -/
def execOcTripNMinEnd (s : State) : Out :=
  let s := { s with sar := { s.sar with pinMin := false } }
  .next { s with sar := { s.sar with pin := ocHeld s } }

/-! ### SAR_SEQ_SET and SAR_INJECT (R124, R133, R136, R415) -/

def parseSeq (b : List Byte) (n : Nat) : List (Nat × Nat × Nat × Nat) :=
  (List.range n).map (fun i => (fieldU b (4 * i) 1, fieldU b (4 * i + 1) 1, fieldU b (4 * i + 2) 1, fieldU b (4 * i + 3) 1))

/-- R124: the entry obeys its layout. -/
def seqEntryOk (inj : Bool) (e : Nat × Nat × Nat × Nat) : Bool :=
  (e.1 < 0x28 || (inj && (e.1 == 0x3E || e.1 == 0x3F))) && e.2.1 < (if inj then 2 else 1) &&
    e.2.2.1 < (if inj then 16 else 1) && e.2.2.2 == 0

def toEntry (e : Nat × Nat × Nat × Nat) : SeqEntry := { chan := e.1, tdac := e.2.1 = 1, mask := BitVec.ofNat 4 e.2.2.1 }

/-- SAR_SEQ_SET. [Log: 71 DEDUCED] -/
def execSarSeqSet (sub : Submission) (buf : DmaRead) (s : State) : Out :=
  let conv := sub.pU 0 1
  let inj := sub.pU 1 1 = 1
  let n := sub.pU 2 1
  let l := parseSeq (bufBytes sub buf) n
  runCmd 0x50 sub
    [(sub.formOk [(0, 1), (1, 1), (2, 1)] && 1 ≤ conv && conv < 4 && sub.pU 1 1 < 2 && n ≤ (if inj then 4 else 32) &&
        (if n = 0 then sub.noBuf else sub.hasBuf (sub.bufLen == 4 * n)), stBadField),
     (s.accepts 0x50, stBusy), (n = 0 || buf.isSome, stDmaError), (l.all (seqEntryOk inj), stBadField)]
    (fun s =>
      let es := l.map toEntry
      let host : List SeqEntry := (es ++ List.replicate 4 ({ chan := 0, tdac := false, mask := 0 } : SeqEntry)).take 4
      let s := (List.range 2).foldl (fun s c => if conv.testBit c then
        s.modConv c (fun k => if inj then { k with newInj := some host } else { k with newReg := some es }) else s) s
      { s with sar := { s.sar with seqWaits := s.sar.seqWaits ++ [sub] } }) s

/-- SAR_INJECT. -/
def execSarInject (sub : Submission) (s : State) : Out :=
  let conv := sub.pU 0 1
  let pair := sub.pU 1 1 = 1
  let str := sub.pU 2 1
  runCmd 0x51 sub
    [(sub.formOk [(0, 1), (1, 1), (2, 1)] && sub.noBuf && conv < 4 && sub.pU 1 1 < 2 && str < 8 && (pair || conv != 0), stBadField),
     (s.accepts 0x51, stBusy), (!pair || (s.enabled str && s.fBoth), stBadState), (!pair || s.sar.capture.isNone, stBusy)]
    (fun s =>
      let s := { s with sar := { s.sar with waits := s.sar.waits ++ [{ sub, f0 := if conv.testBit 0 then .pending else .ended, f1 := if conv.testBit 1 then .pending else .ended, pair, count := 0 }] } }
      let s := if pair then askCapture str s else s
      let s := if conv.testBit 0 then setPending 0 .host s else s
      let s := if conv.testBit 1 then setPending 1 .host s else s
      sarKick s) s

end Sys2Proof.Machine
end

