-- ==== Sys2Proof/Machine/Temperature.lean ====
section
/-! DEFINITION. Temperature inputs (R449 to R459): pin conversion, roles, groups, SUSPECT and substitution, and the
module inputs. -/

namespace Sys2Proof.Machine

/-! ### Roles (R392) -/

/-- Role codes of THM_PIN_STATUS: 0 UNUSED, 1 SHUNT, 2 BUSBAR, 3 AMBIENT, 4 ENCLOSURE; and the string of the first two. -/
def pinRole (b : ConfigBlock) (p : Nat) : Nat × Nat :=
  let on := (List.range 8).filter (fun n => (b.strs.getD n StrCfg.template).enable == 1)
  let cfg (n : Nat) : StrCfg := b.strs.getD n StrCfg.template
  match on.find? (fun n => (cfg n).shuntPins.getLsbD p) with
  | some n => (1, n)
  | none => match on.find? (fun n => (cfg n).busbarPins.getLsbD p) with
    | some n => (2, n)
    | none =>
      if on.any (fun n => (cfg n).ambPin == p) then (3, 0)
      else if on.any (fun n => (cfg n).enclPin == p) then (4, 0) else (0, 0)

/-- Roles that a pin would take; more than one is refused (R393). -/
def pinRoles (b : ConfigBlock) (p : Nat) : List (Nat × Nat) :=
  (List.range 8).flatMap (fun n =>
    let c := b.strs.getD n StrCfg.template
    if c.enable != 1 then []
    else (if c.shuntPins.getLsbD p then [(1, n)] else []) ++ (if c.busbarPins.getLsbD p then [(2, n)] else []) ++
      (if c.ambPin == p then [(3, 0)] else []) ++ (if c.enclPin == p then [(4, 0)] else []))

/-! ### Conversion (R450 to R454) -/

/-- q/k in K/V. -/
def qOverK : Rat := 1602176634 * 100 / 13806490

/-- What a period gave for one pin (R450, R452, R453): mean voltage at the pin, or for a DIODE pin the voltage
difference and the 10 µA voltage; the mean tuned code in 1/16 LSB; whether a conversion carried OVR or UNR. -/
structure PinMean where
  volts  : Rat
  lowV   : Rat
  code   : Nat
  ranged : Bool
  deriving DecidableEq, Repr

/-- The mean of an input's 16 conversions, in 1/16 LSB. -/
def HkAcc.mean (a : HkAcc) : Rat := (a.sum : Rat) / 16

/-- What a period gave for a pin; none where an input lacks one of its 16 conversions: no result is complete. A DIODE pin's
difference reaches the converter through a gain of 8. [Log: 70 DEDUCED] -/
def pinMean (c : ThPin) (l : List HkAcc) (p : Nat) : Option PinMean :=
  let a := l.getD p HkAcc.zero
  let lo := l.getD (16 + p) HkAcc.zero
  if a.n != 16 || (c.kind == 2 && lo.n != 16) then none
  else some { volts := if c.kind = 2 then volts16 a.mean / 8 else volts16 a.mean, lowV := volts16 lo.mean,
              code := (roundAway a.mean).toNat, ranged := a.ranged || (c.kind == 2 && lo.ranged) }

/-- A pin's result in 0.01 °C, and whether it is OPEN or SHORT; `none` out of range (R454). -/
def pinResult (c : ThPin) (x : PinMean) : Option Int × Bool × Bool :=
  let toOut (tk : Rat) : Option Int := some (pubS 16 ((tk - 27315 / 100) * 100))
  if c.kind = 2 then
    let dv := x.volts - (c.coefC : Rat) / 1000 * (150 / 1000000)
    if x.ranged || dv < 40 / 1000 || 120 / 1000 < dv || x.lowV < 2 / 10 || 1 < x.lowV then (none, false, false)
    else (toOut (qOverK * dv / ((c.coefA : Rat) / 1000000 * lnR 16) + (c.coefB : Rat) / 100), false, false)
  else
    let r := x.volts / Config.vTh
    if 985 / 1000 < r then (none, true, false)
    else if r < 10 / 1000 then (none, false, true)
    else if x.ranged then (none, false, false)
    else
      let ohm := 10000 * r / (1 - r)
      let inv : Rat := if c.kind = 0 then 100 / 29815 + lnR (ohm / ((c.coefA : Rat) / 1000)) / ((c.coefB : Rat) / 100)
        else
          let l := lnR ohm
          (c.coefA : Rat) / 1000000000000 + (c.coefB : Rat) / 1000000000000 * l + (c.coefC : Rat) / 1000000000000000 * (l * l * l)
      (toOut (1 / inv), false, false)

/-! ### Medians and references (R455) -/

def insertI (x : Int) : List Int → List Int
  | [] => [x]
  | y :: r => if x ≤ y then x :: y :: r else y :: insertI x r

def sortI (l : List Int) : List Int := l.foldr insertI []

/-- The median; with an even count the mean of the two middle values. [Log: 70 DEDUCED] -/
def median (l : List Int) : Rat :=
  let s := sortI l
  let n := s.length
  if n % 2 = 1 then (s.getD (n / 2) 0 : Rat) else ((s.getD (n / 2 - 1) 0 : Rat) + (s.getD (n / 2) 0 : Rat)) / 2

/-- The reference of fewer than two members is none. [Log: 70 DEDUCED] -/
def reference (l : List Int) : Option Rat := if l.length < 2 then none else some (median l)

/-! ### Pins (R455 to R457) -/

/-- A pin after a period's result, before judgement. -/
def PinState.measure (p : PinState) (c : ThPin) (x : PinMean) : PinState :=
  let r := pinResult c x
  { p with raw := x.code % 65536, measured := r.1, openRes := r.2.1, shortRes := r.2.2, valid := true }

/-- The judgement of a period on one pin: reference, TH_SUSPECT_DT in 0.01 K, TH_SUSPECT_TIME in periods. [Log: 70 DEDUCED] -/
def PinState.judge (p : PinState) (ref : Option Rat) (dt time : Nat) : PinState :=
  let out := p.measured.isNone
  let devOf : Option Rat := match p.measured, ref with
    | some m, some r => some (absR ((m : Rat) - r))
    | _, _ => none
  let dev := devOf.any (fun d => decide ((dt : Rat) < d))
  let outRun := if out then p.outRun + 1 else 0
  let devRun := if dev then p.devRun + 1 else 0
  let near := !out && devOf.all (fun d => decide (d ≤ (dt : Rat) / 2))
  let okRun := if near then p.okRun + 1 else 0
  let becomes := !p.suspect && (2 ≤ outRun || time ≤ devRun)
  let leaves := p.suspect && time ≤ okRun
  let suspect := (p.suspect || becomes) && !leaves
  let sub : Option Int := match ref with | some r => some (pubS 16 r) | none => p.lastGood
  { p with
    dev := dev, outRun := outRun, devRun := devRun, okRun := okRun, suspect := suspect, nosub := suspect && ref.isNone
    published := if suspect then sub else (match p.measured with | some m => some m | none => p.published)
    lastGood := if suspect then p.lastGood else (match p.measured with | some m => some m | none => p.lastGood) }

/-- All sixteen pins at the end of a housekeeping period: those with a role and a complete result are judged; a pin
refers to the latest results of its group, those of this period where they are complete. [Log: 70 DEDUCED] -/
def judgePins (s : State) (l : List HkAcc) : List PinState :=
  let g := s.cfg.live.glob
  let role (p : Nat) : Nat := (pinRole s.cfg.live p).1
  let cfg (p : Nat) : ThPin := g.pins.getD p ThPin.template
  let got (p : Nat) : Option PinMean := if role p = 0 then none else pinMean (cfg p) l p
  let ms := s.thm.pins.zipIdx.map (fun e => match got e.2 with | some x => e.1.measure (cfg e.2) x | none => e.1)
  ms.zipIdx.map (fun e =>
    if (got e.2).isNone then e.1
    else
      let others := ms.zipIdx.filterMap (fun o =>
        if o.2 != e.2 && role o.2 != 0 && (cfg o.2).group == (cfg e.2).group && !o.1.suspect then o.1.measured else none)
      e.1.judge (reference others) g.suspectDt g.suspectTime)

/-- One bit for each SUSPECT pin. -/
def suspectBits (ps : List PinState) : BitVec 16 := ps.zipIdx.foldl (fun v e => if e.1.suspect then setBit v e.2 true else v) 0

/-- The pins' results enter, with their sticky bits. -/
def enterPins (l : List HkAcc) (s : State) : State :=
  let ps := judgePins s l
  { s with thm := { s.thm with pins := ps, sticky := s.thm.sticky ||| suspectBits ps, hot := s.thm.hot.mark s.clk.ticks (suspectBits ps).toNat } }

/-- A die sensor's result: none out of range, and the last one where a conversion is missing (R453, R454, R460). [Log: 69 DEDUCED] -/
def dieResult (l : List HkAcc) (k : Nat) (last : Option Int) : Option Int :=
  let a := l.getD (32 + k) HkAcc.zero
  if a.n != 16 then last else if a.ranged then none else some (clampI (-32768) 32767 (Config.dieTemp k (volts16 a.mean)))

/-- A pin's state and timers restart (R468). -/
def pinsRestart (old new : ConfigBlock) (s : State) : State :=
  { s with thm := { s.thm with pins := s.thm.pins.zipIdx.map (fun e =>
      if pinRole old e.2 = pinRole new e.2 && old.glob.pins.getD e.2 ThPin.template = new.glob.pins.getD e.2 ThPin.template then e.1
      else PinState.reset) } }

/-! ### Ambient (R252) -/

/-- The published temperature of a pin in °C. -/
def pinCelsius (s : State) (p : Nat) : Option Rat :=
  if 15 < p then none else (s.pinTemp p).1.map (fun t => (t : Rat) / 100)

/-- The string's ambient: its ENCLOSURE pin, then its AMBIENT pin, in K. -/
def ambientOf (s : State) (n : Nat) : Option Rat :=
  match pinCelsius s (s.strCfg n).enclPin with
  | some t => some (kelvin t)
  | none => (pinCelsius s (s.strCfg n).ambPin).map kelvin

/-! ### Module inputs (R458, R459) -/

def moduleRange (v : Int) : Bool := -4000 ≤ v && v ≤ 12500

/-- A monitor's valid result page of a frame (R202). -/
def Mon.pageOf (x : Mon) (epoch : Nat) : Option (List Byte) := mapGet x.pages epoch

/-- The values of a monitor's inputs in a frame's page, in range or not. -/
def pageInputs (x : Mon) (epoch : Nat) : List (Option Int) :=
  match x.pageOf epoch with
  | some p => (List.range 4).map (fun i => if moduleRange (pageTemp p i) then some (pageTemp p i) else none)
  | none => []

/-- Values of a monitor's inputs in a frame that others may refer to: in range, and not SUSPECT when the frame's judgement
began, whichever monitor is judged first (R32). [Log: 70 DEDUCED] -/
def goodInputs (x : Mon) (epoch skip : Nat) : List Int :=
  (pageInputs x epoch).zipIdx.filterMap (fun e =>
    let t := x.inputs.getD e.2 SuspectTrack.fresh
    if e.2 != skip && !(if x.judged = epoch then t.was else t.suspect) then e.1 else none)

/-- Mean predicted T_c, in 0.01 °C, of the physics cells that an input serves. [Log: 70 DEDUCED] -/
def servedTemp (s : State) (str m i : Nat) : Option Rat :=
  let l : List Rat := (List.range 4).filterMap (fun c =>
    match s.cell (cellIndex str m (4 * i + c)) with
    | some x => (match x.filter with | some f => if f.kind = .physics then some (celsius (at_ f.x 11) * 100) else none | none => none)
    | none => none)
  if l.isEmpty then none else some (sumR l / (l.length : Rat))

/-- The judgement of one module input over a frame with a valid result, against its neighbour set and the mean predicted
T_c; times in ticks (R458, R459). [Log: 36 DEDUCED] -/
def SuspectTrack.judge (t : SuspectTrack) (v : Option Int) (set : List Int) (pred : Option Rat) (dt time span : Nat) : SuspectTrack :=
  let ref := reference set
  let far (r : Option Rat) : Bool := match v, r with
    | some x, some y => decide ((dt : Rat) < absR ((x : Rat) - y))
    | _, _ => false
  let near (r : Option Rat) : Bool := match v, r with
    | some x, some y => decide (absR ((x : Rat) - y) ≤ (dt : Rat) / 2)
    | _, _ => true
  let outRun := if v.isNone then t.outRun + 1 else 0
  let devTicks := if far ref then t.devTicks + span else 0
  let predTicks := if far pred then t.predTicks + span else 0
  let okTicks := if v.isSome && near ref && near pred then t.okTicks + span else 0
  let becomes := !t.suspect && (2 ≤ outRun || (far ref && time ≤ devTicks) || (far pred && time ≤ predTicks))
  let suspect := (t.suspect || becomes) && !(t.suspect && time ≤ okTicks)
  { suspect := suspect, was := t.suspect, outRun := outRun, devTicks := devTicks, predTicks := predTicks, okTicks := okTicks
    lastGood := if suspect then t.lastGood else (match v with | some x => some x | none => t.lastGood)
    published := if suspect then (if set.isEmpty then t.lastGood else some (pubS 16 (median set)))
      else (match v with | some x => some x | none => t.published)
    measured := v }

/-- The four inputs of a monitor, judged once in a frame, before its measurement updates. [Log: 70 DEDUCED] -/
def judgeInputs (str m epoch span : Nat) (s : State) : State :=
  match s.mon str m with
  | none => s
  | some x =>
    if x.judged = epoch || (x.pageOf epoch).isNone then s
    else
      let g := s.cfg.live.glob
      let beside (k : Nat) : List Int := match s.mon str k with | some y => goodInputs y epoch 9 | none => []
      let around := (if 1 < m then beside (m - 1) else []) ++ beside (m + 1)
      let vals := pageInputs x epoch
      let ins := x.inputs.zipIdx.map (fun e =>
        e.1.judge (vals.getD e.2 none) (goodInputs x epoch e.2 ++ around) (servedTemp s str m e.2) g.suspectDt (g.suspectTime * 24000000) span)
      s.modMon str m (fun y => { y with inputs := ins, judged := epoch })

/-- The module input that a cell uses. -/
def cellInput (s : State) (g : Nat) : SuspectTrack :=
  match s.mon (cellStr g) (cellMon g) with
  | some x => x.inputs.getD (cellPos g / 4) SuspectTrack.fresh
  | none => SuspectTrack.fresh

end Sys2Proof.Machine
end

