-- ==== Sys2Proof/Machine/Estimate.lean ====
section
/-! DEFINITION. The filter of one cell in a frame (R225, R231 to R263): time update, measurement update, rest, divergence,
publication, first use, and the cell record. -/

namespace Sys2Proof.Machine

/-! ### Dwells judged once per frame -/

/-- A dwell: 0 while the condition fails; 1 in the first frame in which it holds, then 1 plus the ticks since. [Log: 36 DEDUCED] -/
def holdFor (t : Nat) (cond : Bool) (adv : Nat) : Nat := if cond then (if t = 0 then 1 else t + adv) else 0

/-- The condition has held for a number of ticks. [Log: 36 DEDUCED] -/
def heldFor (t ticks : Nat) : Bool := ticks < t

/-! ### Fresh cells -/

/-- Log: 37 DEDUCED. -/
def CellRec.invalid : CellRec :=
  { volt := 0, temp := 0, soc := 0, qcap := 0, res := 0, sigma := 0xFFFF, soh := 0, bal := 0, flags := 0, iChg := 0, iDis := 0,
    lli := 0, lamPe := 0, lamNe := 0 }

def DwellFlag.off : DwellFlag := { on := false, above := 0, below := 0 }

def Diverge.clear : Diverge := { on := false, hist := [], lowTicks := 0, sinceInf := 0, inflated := 0 }

/-- A position inside a mask without a state (R247). -/
def Cell.fresh : Cell :=
  { filter := none, chi := [], prevRoot := [], qPub := 0, lliPub := 0, lamPePub := 0, lamNePub := 0, q0 := 0, q100 := 0, pubCount := 0,
    readyTicks := 0, stale := false, staleTicks := 0, lost := false, goodTicks := 0, cold := false, warmTicks := 0, rest := false,
    restTicks := 0, moveTicks := 0, corrTicks := 0, corrDue := false, balAdj := false, tSubst := false, wide := false,
    div := Diverge.clear, ov := DwellFlag.off, uv := DwellFlag.off, ot := DwellFlag.off, ut := DwellFlag.off, bleeding := false,
    balTicks := 0, duty := 0, phaseB := false, deferred := none, restored := none, keptLearned := none, kept := none, doneEpoch := 0,
    tPending := false, record := CellRec.invalid }

def Cell.par (c : Cell) (i : Image) : CellPar := { img := i, q0 := c.q0, q100 := c.q100 }

/-- VALID: in the mask and holding a state (R256). -/
def Cell.valid (c : Cell) : Bool := c.filter.isSome

/-! ### End points and equilibrium (R230, R588) -/

/-- q_0 and q_100 of learned parameters, at 298.15 K. -/
def endPoints (i : Image) (k : Kind) (l : Vec) (full : Rat) : Rat × Rat :=
  match k with
  | .physics => physEnds i l
  | .ecm => (0, full)

/-- The SoC at which the equilibrium curve takes a voltage, at a temperature in K. -/
def socAtVolts (p : CellPar) (k : Kind) (l : Vec) (v tk : Rat) : Rat := socOfCharge p k (chargeWhere p k l (fun _ => 0) v tk)

/-- The state vector at equilibrium at a SoC (R588). Learned: LLI, LAM_PE, LAM_NE and ρ; or Q_full and ρ. -/
def equilibrium (p : CellPar) (k : Kind) (lrn : Vec) (soc tk : Rat) : Vec :=
  match k with
  | .physics =>
    let q := p.q0 + soc * p.full
    let tn := q / qNeg p.img lrn
    let tp := (inventory p.img lrn - q) / qPos p.img lrn
    [tn, tn, tn, tp, tp, tp, 0, 0, 0, 0, 0, tk] ++ lrn
  | .ecm => [soc, 0, 0, 0] ++ lrn

/-- Deviations of the dynamic states of R588: SoC takes a deviation, every other state its INIT deviation. SoC of a physics
cell varies with its three negative nodes and with LAM_NE: the nodes, equal and uncorrelated, take what the learned
parameters' own covariance leaves of the named variance. [Log: 35 DEDUCED] -/
def dynamicDevs (p : CellPar) (k : Kind) (lrn : Vec) (lrnCov : Mat) (soc sigma : Rat) : Vec :=
  match k with
  | .physics =>
    let nu := nuOf p.img
    let qn := qNeg p.img lrn
    let lam := p.img.qNeg0 * ((p.q0 + soc * p.full) / qn)
    let d := sqrtR (maxR 0 (sigma * sigma * p.full * p.full - lam * lam * mAt lrnCov 2 2) / (qn * qn * vDot nu nu))
    [d, d, d] ++ (List.range 9).map (fun j => initDev p.img (3 + j))
  | .ecm => sigma :: (List.range 3).map (fun j => initDev p.img (1 + j))

def initLearnedDevs (p : CellPar) (k : Kind) : Vec :=
  (List.range (dimOf k - learnedFrom k)).map (fun j => initDev p.img (learnedFrom k + j))

/-- The block of a covariance from an index on. -/
def lowerBlock (m : Mat) (n : Nat) : Mat := (m.drop n).map (fun r => r.drop n)

/-- A covariance of two independent blocks. -/
def blockDiag (a b : Mat) : Mat :=
  a.map (fun r => r ++ zeroVec b.length) ++ b.map (fun r => zeroVec a.length ++ r)

/-- The covariance of R588: diagonal dynamic states, the learned parameters' own block. -/
def rebuiltCov (devs : Vec) (lrnCov : Mat) : Mat := blockDiag (diag (devs.map (fun d => d * d))) lrnCov

/-- The diagonal root of deviations. -/
def rootOf (cov : Mat) : Mat := (chol cov).getD []

/-! ### Initialisation (R247) and STATE_WRITE (R286) -/

/-- The published figures of a cell from its learned parameters (R230, R262). [Log: 37 DEDUCED] -/
def Cell.publish (c : Cell) (i : Image) (f : Filter) (qPub : Rat) : Cell :=
  match f.kind with
  | .physics =>
    let l := learned f.x
    let e := endPoints i .physics l 0
    { c with qPub, lliPub := at_ l 0, lamPePub := at_ l 1, lamNePub := at_ l 2, q0 := e.1, q100 := e.2 }
  | .ecm => { c with qPub, lliPub := 0, lamPePub := 0, lamNePub := 0, q0 := 0, q100 := qPub }

/-- Learned parameters of R247 for a full capacity in C. -/
def initLearned (i : Image) (full : Rat) : Vec :=
  match imgKind i with
  | .physics => [solveLli i full 0 0, 0, 0, 1]
  | .ecm => [full, 1]

/-- The end points in force for learned parameters. -/
def parOf (i : Image) (lrn : Vec) : CellPar :=
  let e := endPoints i (imgKind i) (lrn.take 3) (at_ lrn 0)
  { img := i, q0 := e.1, q100 := e.2 }

/-- SoC from a voltage at a current: V_meas − r_0·i with h = 0; r_0 at the SoC of the voltage itself (R247). -/
def socFromVolts (p : CellPar) (lrn : Vec) (v i tk : Rat) : Rat :=
  let k := imgKind p.img
  let s0 := socAtVolts p k (lrn.take 3) v tk
  socAtVolts p k (lrn.take 3) (v - res p.img 0 s0 (celsius tk) * i) tk

/-- A cell takes learned parameters and equilibrium at a SoC; its capacity is published at once, its publication count is 0
and it is COLD (R244, R247, R286 FULL). The rest count goes on: it depends on the current alone (R250, R259). -/
def Cell.start (c : Cell) (img : Image) (lrn : Vec) (lrnCov : Mat) (soc sigma tk : Rat) : Cell :=
  let p := parOf img lrn
  let k := imgKind img
  let x := laneVec (clipState img k (equilibrium p k lrn soc tk))
  let f : Filter := { kind := k, x := x, root := laneMat (rootOf (rebuiltCov (dynamicDevs p k lrn lrnCov soc sigma) lrnCov)) }
  let q := match k with | .physics => p.full | .ecm => at_ lrn 0
  { (c.publish img f q) with filter := some f, prevRoot := f.root, cold := true, warmTicks := 0, pubCount := 0, readyTicks := 0,
                             deferred := none, restored := none, keptLearned := none, kept := none }

/-- The INIT covariance of the learned parameters. [Log: 35 DEDUCED] -/
def initLearnedCov (i : Image) : Mat :=
  diag ((initLearnedDevs { img := i, q0 := 0, q100 := 1 } (imgKind i)).map (fun d => d * d))

/-- First use without a record: R247. [Log: 35 DEDUCED] -/
def Cell.firstUse (c : Cell) (img : Image) (soh : Rat) (socGiven : Option Rat) (sigma v i tk : Rat) : Cell :=
  let lrn := initLearned img (qNom img * soh)
  let soc := match socGiven with | some x => x | none => socFromVolts (parOf img lrn) lrn v i tk
  c.start img lrn (initLearnedCov img) soc sigma tk

/-- Fields of a STATE_WRITE record (R285). -/
def swMode (b : List Byte) : Nat := fieldU b 2 1
def swSoc (b : List Byte) : Option Rat := if fieldU b 4 4 = 0xFFFFFFFF then none else some ((fieldU b 4 4 : Rat) / 1000000)
def swSigma (b : List Byte) (dflt : Rat) : Rat := if fieldU b 8 2 = 0 then dflt else (fieldU b 8 2 : Rat) / 100000
def swSoh (b : List Byte) (init : Nat) : Rat := (if fieldU b 10 2 = 0 then (init : Rat) else (fieldU b 10 2 : Rat)) / 10000
def swRho (b : List Byte) : Rat := if fieldU b 16 2 = 0 then 1 else (fieldU b 16 2 : Rat) / 1000

/-- The learned parameters that FULL writes. -/
def swLearned (b : List Byte) (img : Image) (init : Nat) : Vec :=
  match imgKind img with
  | .physics => [(fieldU b 12 2 : Rat) / 10000, (fieldU b 14 1 : Rat) / 1000, (fieldU b 15 1 : Rat) / 1000, swRho b]
  | .ecm => [qNom img * swSoh b init, swRho b]

/-- The mode SOC: dynamic states and their covariance, with the learned parameters and their covariance, the published
figures and the publication count kept (R286, R588). -/
def Cell.writeSoc (c : Cell) (img : Image) (lrn : Vec) (lrnCov : Mat) (soc sigma tk : Rat) : Cell :=
  let p := c.par img
  let k := imgKind img
  let x := laneVec (clipState img k (equilibrium p k lrn soc tk))
  let cov := rebuiltCov (dynamicDevs p k lrn lrnCov soc sigma) lrnCov
  let g : Filter := { kind := k, x := x, root := laneMat (rootOf cov) }
  { c with filter := some g, prevRoot := g.root, cold := true, warmTicks := 0, deferred := none, restored := none, keptLearned := none }

/-- NEW_CELL and FULL clear MODEL_DIVERGE and its mean and restart the rest count (R286). A rest in force ends by current
alone (R250). [Log: 37 DEDUCED] -/
def Cell.restart (c : Cell) : Cell := { c with div := Diverge.clear, restTicks := 0, corrDue := false }

/-- A record takes force with a SoC known: given, or taken from a voltage. A cell whose learned parameters alone are kept
(R246) keeps them under SOC. -/
def Cell.applyWrite (c : Cell) (img : Image) (b : List Byte) (init : Nat) (soc tk : Rat) : Cell :=
  match swMode b with
  | 0 => c.restart.firstUse img (swSoh b init) (some soc) (swSigma b (20 / 100)) 0 0 tk
  | 1 => match c.filter with
    | some f => c.writeSoc img (f.x.drop (learnedFrom f.kind)) (lowerBlock (gram f.root) (learnedFrom f.kind)) soc (swSigma b (5 / 100)) tk
    | none => match c.keptLearned with
      | some k => c.writeSoc img k.1 k.2 soc (swSigma b (5 / 100)) tk
      | none => c.firstUse img ((init : Rat) / 10000) (some soc) (swSigma b (5 / 100)) 0 0 tk
  | _ => c.restart.start img (swLearned b img init) (initLearnedCov img) soc (swSigma b (5 / 100)) tk

/-! ### A new image (R244) -/

/-- The new image is of another chemistry or KIND than the old one. -/
def otherChem (old new : Image) : Bool := !(imgChem old = imgChem new && imgKind old = imgKind new)

/-- A cell under a new image: kept whole, or re-initialised with SoC and Q_full kept. A cell that has published no SoC yet
keeps the one of its state; one without a state starts under R247 with the new image (R259). T_c is kept (R588); an ECM
cell, which has none, takes the temperature of its last VALID record, and without one that of its next input. [Log: 37 DEDUCED] -/
def Cell.newImage (c : Cell) (old new : Image) : Cell :=
  if !otherChem old new then c
  else match c.filter with
    | none => { c with keptLearned := none, kept := none }
    | some f =>
      let soc := if c.record.flags.getLsbD 0 then (c.record.soc : Rat) / 1000000 else socOfState (c.par old) f.kind f.x
      let sigma := maxR (socSigma (c.par old) f) (5 / 100)
      let lrn := initLearned new c.qPub
      let valid := c.record.flags.getLsbD 0
      let tk := match f.kind with | .physics => at_ f.x 11 | .ecm => if valid then kelvin ((c.record.temp : Rat) / 100) else kelvin 25
      let d := c.start new lrn (initLearnedCov new) soc sigma tk
      { d with qPub := c.qPub, pubCount := c.pubCount, deferred := c.deferred, restored := c.restored
               tPending := c.tPending || (f.kind == .ecm && !valid) }

/-! ### Spans (R23, R231) -/

def chunkSpan : List Nat → List SpanWin → List (List SpanWin)
  | [], _ => []
  | n :: r, l => l.take n :: chunkSpan r (l.drop n)

/-- n_s sub-steps of whole windows, the first ones longer. -/
def spanSteps (l : List SpanWin) : List (List SpanWin) :=
  let n := min 10 l.length
  chunkSpan ((List.range n).map (fun k => l.length / n + (if k < l.length % n then 1 else 0))) l

def spanTicksOf (l : List SpanWin) : Nat := (l.map (·.ticks)).foldl (· + ·) 0
/-- Charge in C. -/
def spanCharge (l : List SpanWin) : Rat := sumR (l.map (·.charge)) / 1000000

/-- A cell's bleed: current in A while its switch cycles at the acknowledged duty, and ticks of the span with the gate
open, from its start (R220, R232). -/
structure Bleed where
  amps    : Rat
  openEnd : Nat
  deriving DecidableEq, Repr

/-- Log: 38 DEDUCED. -/
def bleedIn (b : Bleed) (from_ ticks : Nat) : Rat :=
  if ticks = 0 then 0 else b.amps * ((min (from_ + ticks) b.openEnd - from_ : Nat) : Rat) / (ticks : Rat)

/-- Sub-steps with the cell current of R232. -/
def cellSteps (b : Bleed) : Nat → List (List SpanWin) → List SubStep
  | _, [] => []
  | t, l :: r =>
    let k := spanTicksOf l
    { cur := (if k = 0 then 0 else spanCharge l / secs k) - bleedIn b t k, sec := secs k } :: cellSteps b (t + k) r

/-- Duty that a monitor has acknowledged for a cell position. -/
def Mon.duty (m : Mon) (c : Nat) : Nat := (m.ack.getD c 0).toNat % 32

/-- The duty of R222: the larger of the old and the new one after a failed BAL. -/
def Mon.adjDuty (m : Mon) (c : Nat) : Nat := if m.ackFailed then max (m.duty c) ((m.sent.getD c 0).toNat % 32) else m.duty c

/-- Bleed resistance in Ω. -/
def rBleed (c : StrCfg) : Rat := (c.balRBleed : Rat) / 10

/-- Log: 38 DEDUCED. -/
def bleedOf (s : State) (g : Nat) (f : FrameRec) (c : Cell) : Bleed :=
  let n := cellStr g
  let span := (s.metStr n).frmSpan
  let t := spanTicksOf span
  let w := (span.getLast?.map (·.ticks)).getD 0
  let lead := if f.gateSync then 120000 else (s.strCfg n).balGateLead * 24000
  { amps := ((match s.mon n (cellMon g) with | some m => m.duty (cellPos g) | none => 0 : Nat) : Rat) / 16 * (1 / 2) *
      ((c.record.volt : Rat) / 10000 / rBleed (s.strCfg n))
    openEnd := if s.gateOff n then t else t - w - lead }

/-- The current of the frame window as the cell sees it. -/
def frameCurrent (s : State) (g : Nat) (f : FrameRec) (c : Cell) : Rat :=
  let span := (s.metStr (cellStr g)).frmSpan
  match span.getLast? with
  | some w => (if w.ticks = 0 then 0 else w.charge / 1000000 / secs w.ticks) - bleedIn (bleedOf s g f c) (spanTicksOf span - w.ticks) w.ticks
  | none => 0

/-! ### What governs the frame (R244, R394, R527) -/

/-- The result of a module that governs the frame being estimated. -/
def State.estAuth (s : State) (n m : Nat) : AuthResult := (mapGet s.est.auth (64 * n + m)).getD .none

def State.estModules (s : State) (n : Nat) : List AuthResult := (s.modules n).map (s.estAuth n)

/-- The array works with the configuration and the images of the frame that it estimates, whatever a later sample instant
has put in force since. [Log: 27 DEDUCED] -/
def onEst (f : State → State) (s : State) : State :=
  let t := f { s with cfg := { s.cfg with live := s.est.live, images := s.est.images } }
  { t with cfg := s.cfg }

/-! ### Environment (R240, R252) -/

/-- Published temperature of a cell in K: that of its last record, if the record is VALID. A cell restored at a start has
published none yet (R252). [Log: 20 DESIGN CHOICE] -/
def cellTemp (s : State) (g : Nat) : Option Rat :=
  match s.cell g with
  | some c => if c.record.flags.getLsbD 0 then some (kelvin ((c.record.temp : Rat) / 100)) else none
  | none => none

/-- The temperature that an ECM cell or a cell without a state takes, in K. -/
def inputTemp (s : State) (g : Nat) : Rat :=
  match (cellInput s g).published with
  | some t => kelvin ((t : Rat) / 100)
  | none => match cellTemp s g with
    | some t => t
    | none => kelvin (Config.noTemp g)

/-- Neighbours inside the string and its masks; one without a published temperature counts at the cell's own (R227, R252). -/
def neighbours (s : State) (g : Nat) (own : Rat) : List Rat :=
  let one (h : Nat) : List Rat := if cellStr h = cellStr g && s.used h then [(cellTemp s h).getD own] else []
  (if g = 0 then [] else one (g - 1)) ++ one (g + 1)

def cellEnv (s : State) (g : Nat) (own : Rat) : CellEnv :=
  { amb := ambientOf s (cellStr g), nbrs := neighbours s g own, tEcm := inputTemp s g }

/-! ### STATE_WRITE at its take-force (R286, R287) -/

/-- The temperature in K that a rebuilt cell takes: T_c of a physics cell that holds a state is kept, any other takes its
measured or substituted temperature (R588); so does a restored cell whose T_c has not started yet, once there is one (R492). -/
def writeTemp (s : State) (g : Nat) (c : Cell) : Rat :=
  match c.filter with
  | some f => match f.kind with
    | .physics => if c.tPending && (cellInput s g).published.isSome then inputTemp s g else at_ f.x 11
    | .ecm => inputTemp s g
  | none => inputTemp s g

/-- A STATE_WRITE record at its take-force in a frame. A NEW_CELL record and one that takes SoC from voltage wait for a
valid measurement; until then the cell goes on from its state (R286, R287). A cell without a state takes T_c from its
input of the frame, which comes later. Where R244 has re-initialised the cell in the same frame, the publication count
ends at 0 (R288). [Log: 37 DEDUCED] -/
def takeWrite (epoch : Nat) (reinit : Bool) (b : List Byte) (s : State) : State :=
  let g := fieldU b 0 2
  let n := cellStr g
  let s := if s.used g && (s.cell g).isNone then s.setCell g Cell.fresh else s
  match s.strImage n with
  | none => s
  | some img => s.modCell g (fun c =>
    match swMode b, swSoc b with
    | 0, _ | _, none => { c with deferred := some { bytes := b, reinit := if reinit then some epoch else none } }
    | _, some soc =>
      let d := c.applyWrite img b (s.strCfg n).initSoh soc (writeTemp s g c)
      { d with tPending := c.filter.isNone || c.tPending, pubCount := if reinit then 0 else d.pubCount })

/-! ### The time update (R231 to R234) -/

/-- The string's process noise of a span: variance along the charge direction in C² (R233). [Log: 35 DEDUCED] -/
def chargeNoise (s : State) (n : Nat) : Rat :=
  let m := s.metStr n
  let d := m.frmDU / 1000000 / 3
  let openSec (l : List SpanWin) : Rat := secs (spanTicksOf (l.filter (·.asOpen)))
  d * d + m.frmDS / 1000000000000 + sumR ((spanSteps m.frmSpan).map (fun l =>
    let q := maxCurrent (s.strCfg n) * openSec l
    q * q / 3))

/-- The process noise matrix of a span (R233, R240). -/
def processNoise (p : CellPar) (k : Kind) (x : Vec) (chargeVar sec : Rat) (frozen : Bool) : Mat :=
  let day := sec / 86400
  let r (j : Nat) : Rat := noise p.img j * sec
  let w (j : Nat) : Rat := if frozen then 0 else walkRate p.img j * day
  match k with
  | .physics =>
    let qn := qNeg p.img (learned x)
    let qp := qPos p.img (learned x)
    let dir : Vec := [1 / qn, 1 / qn, 1 / qn, -1 / qp, -1 / qp, -1 / qp] ++ zeroVec 10
    mAdd (mScale chargeVar (outer dir dir))
      (diag [r 0, r 0, r 0, r 0, r 0, r 0, r 1, r 1, r 2, r 2, r 3, r 4, w 0, w 1, w 2, w 3])
  | .ecm =>
    let dir : Vec := [1 / at_ x 4, 0, 0, 0, 0, 0]
    mAdd (mScale chargeVar (outer dir dir)) (diag [0, r 2, r 2, r 3, w 4, w 3])

/-- The policy estimates the cell with default learned parameters (R529, R530). -/
def defaultParams (s : State) (g : Nat) : Bool :=
  (s.strCfg (cellStr g)).authPolicy.testBit 2 && s.estAuth (cellStr g) (cellMon g) != .ok

/-- The cell's own learned states: those of its filter, or those kept aside under DEFAULT_PARAMS (R530). -/
def Cell.ownLearned (c : Cell) (f : Filter) : Vec := c.kept.getD (f.x.drop (learnedFrom f.kind))

/-- DEFAULT_PARAMS stands, begins or ends for a cell: its own learned states are kept aside, or return (R530). -/
def Cell.policy (c : Cell) (img : Image) (initSoh : Nat) (on : Bool) : Cell :=
  match c.filter, on, c.kept with
  | some f, true, _ =>
    { c with kept := some (c.ownLearned f)
             filter := some { f with x := f.x.take (learnedFrom f.kind) ++ initLearned img (qNom img * (initSoh : Rat) / 10000) } }
  | some f, false, some k => { c with kept := none, filter := some { f with x := f.x.take (learnedFrom f.kind) ++ k } }
  | _, _, _ => c

/-- √2 times the previous frame's root (R238). -/
def widerRoot (m : Mat) : Mat := laneMat (mScale (sqrtR 2) m)

/-- The time mean of ε: entries within the last 60 s of update time, newest first (R253). -/
def keepHist : Nat → List (Nat × Rat) → List (Nat × Rat)
  | _, [] => []
  | t, e :: r => if t < secTicks 60 then e :: keepHist (t + e.1) r else []

def Diverge.push (d : Diverge) (span : Nat) (eps : Rat) : Diverge := { d with hist := keepHist 0 ((span, eps) :: d.hist) }

/-- A failed downdate counts as one frame with ε = 2·NIS_LIMIT (R238): the frame's own entry where it has had a measurement
update, and otherwise an entry without update time, which comes with measurement updates alone (R253). -/
def Diverge.fail (d : Diverge) (measured : Bool) (eps : Rat) : Diverge :=
  match measured, d.hist with
  | true, e :: r => { d with hist := (e.1, eps) :: r }
  | _, _ => d.push 0 eps

/-- The mean of ε; none over fewer than 10 frames. -/
def Diverge.mean (d : Diverge) : Option Rat :=
  if d.hist.length < 10 then none else some (sumR (d.hist.map (·.2)) / (d.hist.length : Rat))

/-- Rest over one window of the span (R250). -/
def restWindow (thr : Rat) (c : Cell) (w : Nat × Rat × Bool) : Cell :=
  let i := absR w.2.1
  if w.2.2 then { c with rest := false, restTicks := 0, moveTicks := 0, corrDue := false }
  else if c.rest then
    let mv := if 2 * thr < i then c.moveTicks + w.1 else 0
    if secTicks 10 ≤ mv then { c with rest := false, restTicks := 0, moveTicks := 0, corrDue := false }
    else
      let ct := c.corrTicks + w.1
      if secTicks 600 ≤ ct then { c with moveTicks := mv, corrTicks := ct - secTicks 600, corrDue := true } else { c with moveTicks := mv, corrTicks := ct }
  else
    let rt := if i < thr then c.restTicks + w.1 else 0
    if secTicks 1800 ≤ rt then { c with rest := true, restTicks := rt, moveTicks := 0, corrTicks := 0, corrDue := true }
    else { c with restTicks := rt }

/-- REST_I in A (R250, R391). -/
def restThreshold (c : StrCfg) (i : Image) : Rat := if c.restI = 0 then (imgQNom i : Rat) / 1000 / 500 else (c.restI : Rat) / 100000

/-- Windows of a span with the cell current in each and whether it is treated as open. -/
def cellWindows (b : Bleed) : Nat → List SpanWin → List (Nat × Rat × Bool)
  | _, [] => []
  | t, w :: r =>
    (w.ticks, (if w.ticks = 0 then 0 else w.charge / 1000000 / secs w.ticks) - bleedIn b t w.ticks, w.asOpen) :: cellWindows b (t + w.ticks) r

/-- The time update of one cell. A cell without a state counts its rest alone (R250). Where the downdate is indefinite the
mean stays, the root is the previous frame's widened, and the frame counts as one with ε = 2·NIS_LIMIT (R238). It adds
no update time of its own: that comes with a measurement update (R253). -/
def cellTimeUpdate (s : State) (f : FrameRec) (g : Nat) (c : Cell) : Cell :=
  let n := cellStr g
  match s.strImage n with
  | none => c
  | some img =>
    let c := c.policy img (s.strCfg n).initSoh (defaultParams s g)
    let span := (s.metStr n).frmSpan
    let b := bleedOf s g f c
    let c' := (cellWindows b 0 span).foldl (restWindow (restThreshold (s.strCfg n) img)) c
    match c.filter with
    | none => c'
    | some flt =>
      let p := c.par img
      let own := match flt.kind with | .physics => at_ flt.x 11 | .ecm => inputTemp s g
      let env := cellEnv s g own
      let q := processNoise p flt.kind flt.x (chargeNoise s n) (secs (spanTicksOf span)) (c.div.on || c.kept.isSome)
      let r := filterPredict p env flt (cellSteps b 0 (spanSteps span)) q
      match r.root with
      | some root => { c' with filter := some { flt with x := r.x, root := root }, chi := r.chi, prevRoot := flt.root }
      | none => { c' with filter := some { flt with x := r.x, root := widerRoot flt.root }, chi := r.chi, prevRoot := flt.root,
                          div := c'.div.fail false (2 * nisLimit img) }

/-! ### The measured voltage (R222) -/

/-- Average bleed current of a position over the window: its duty while its BLEED bit is set. -/
def bleedCurrent (s : State) (n : Nat) (m : Mon) (page : List Byte) (c : Nat) : Rat :=
  if c < 16 && pageBleed page c then (m.adjDuty c : Rat) / 16 * (1 / 2) * ((pageVolt page c : Rat) / 10000 / rBleed (s.strCfg n)) else 0

/-- The corrected voltage in V, its correction, and whether BAL_ADJ is set. -/
def measuredVolts (s : State) (n : Nat) (m : Mon) (page : List Byte) (c : Nat) : Rat × Rat × Bool :=
  let r := ((s.strCfg n).balRSw : Rat) / 10000
  let i := bleedCurrent s n m page
  let before : Rat := if c = 0 then 0 else i (c - 1)
  let corr := 2 * r * i c - r * before - r * i (c + 1)
  let adj := pageBleed page c || (0 < c && pageBleed page (c - 1)) || (c < 15 && pageBleed page (c + 1))
  ((pageVolt page c : Rat) / 10000 + corr, corr, adj)

/-! ### Divergence (R253, R254) -/

/-- The covariance inflated, and the learned parameters decoupled (R254). -/
def inflateRoot (k : Kind) (by_ : Rat) (root : Mat) : Mat :=
  let p := gram root
  let n := learnedFrom k
  laneMat (rootOf (blockDiag (mScale by_ ((p.take n).map (fun r => r.take n))) (lowerBlock p n)))

/-- The test of a frame with a measurement update; `true` where EV62 is raised. -/
def divergeStep (img : Image) (span : Nat) (c : Cell) : Cell × Bool :=
  match c.filter, c.div.mean with
  | some f, some m =>
    let lim := nisLimit img
    let inf (c : Cell) : Cell := { c with filter := some { f with root := inflateRoot f.kind (inflate img) f.root } }
    if !c.div.on then
      if lim < m then (inf { c with div := { c.div with on := true, lowTicks := 0, sinceInf := 0, inflated := 1 } }, true) else (c, false)
    else
      let low := if m < lim / 2 then c.div.lowTicks + span else 0
      let since := c.div.sinceInf + span
      if secTicks 60 ≤ low then ({ c with div := { c.div with on := false, lowTicks := 0, sinceInf := 0, inflated := 0 } }, false)
      else if secTicks 60 ≤ since && lim < m && c.div.inflated < 3 then
        (inf { c with div := { c.div with lowTicks := low, sinceInf := 0, inflated := c.div.inflated + 1 } }, false)
      else ({ c with div := { c.div with lowTicks := low, sinceInf := since } }, false)
  | _, _ => (c, false)

/-! ### Rest correction (R251) -/

/-- z_r, the SoC at which U_eq + M_h·ĥ takes the measured voltage; M_h·σ_h is taken at the prior SoC, where the slope is
taken. `measured`: the frame has had a measurement update. [Log: 35 DEDUCED] -/
def restCorrection (img : Image) (env : CellEnv) (measured : Bool) (v : Rat) (frozen : Bool) (c : Cell) : Cell :=
  match c.filter with
  | none => c
  | some f =>
    let p := c.par img
    let k := f.kind
    let tk := tempOf k env f.x
    let l := learned f.x
    let soc := socOfState p k f.x
    -- dU_eq/dSoC in mV per % of SoC.
    let slope := absR (slopeAt p k l (chargeOfState p k f.x) tk) * p.full / 100 * 1000
    let c := { c with corrDue := false }
    if slope < restSlopeMin img then c
    else
      let mh := hystWidth img soc (celsius tk)
      let z := socOfCharge p k (chargeWhere p k l (fun q => hystWidth img (socOfCharge p k q) (celsius tk) * hystOf k f.x) v tk)
      let hIdx := match k with | .physics => 10 | .ecm => 3
      let sh := sqrtR (formVar f.root ((zeroVec (dimOf k)).set hIdx 1))
      let a := restSigmaV img * 1000 / slope / 100
      let b := mh * 1000 * sh / slope / 100
      let u := scalarUpdate p f (socGrad p k f.x) (z - soc) (a * a + b * b) frozen
      match u.2 with
      | some root => { c with filter := some { f with x := u.1, root := root } }
      | none => { c with filter := some { f with x := u.1, root := widerRoot c.prevRoot }, div := c.div.fail measured (2 * nisLimit img) }

/-! ### Publication (R260 to R263) -/

/-- Q* and σ_Q (R260). [Log: 37 DEDUCED] -/
def candidate (img : Image) (f : Filter) : Rat × Rat :=
  match f.kind with
  | .physics => (physFull img (learned f.x), sqrtR (formVar f.root (zeroVec 12 ++ fullGrad img (learned f.x) ++ [0])))
  | .ecm => (at_ f.x 4, sqrtR (formVar f.root [0, 0, 0, 0, 1, 0]))

/-- A cell is ready in a frame: the conditions of R261 against a published capacity, and none of the flags that restart the
count; no publication takes place under DEFAULT_PARAMS (R530). -/
def Cell.readyFor (c : Cell) (nom : Rat) (q : Rat × Rat) : Bool :=
  decide (q.2 < nom * 5 / 1000) && decide (nom * 5 / 10000 < absR (q.1 - c.qPub)) && !c.stale && !c.lost && !c.cold && !c.div.on && c.kept.isNone

/-- The checks of step 6 of R225; `span` is the interval between sample instants. After a publication the count begins again
in the same frame, against the new capacity. [Log: 37 DEDUCED] -/
def publicationStep (img : Image) (span : Nat) (c : Cell) : Cell :=
  match c.filter with
  | none => c
  | some f =>
    let q := candidate img f
    let nom := qNom img
    let t := holdFor c.readyTicks (c.readyFor nom q) span
    if heldFor t (secTicks 60) then
      let qPub := clampR (c.qPub - nom * 5 / 1000) (c.qPub + nom * 5 / 1000) q.1
      let d := c.publish img f qPub
      { d with pubCount := c.pubCount + 1, readyTicks := holdFor 0 (d.readyFor nom q) 0 }
    else { c with readyTicks := t }

/-! ### Flags with dwells (R248, R257) -/

/-- A flag that is set after 1 s at or past its limit and clears after 1 s inside its band. [Log: 36 DEDUCED] -/
def DwellFlag.step (d : DwellFlag) (past inside : Bool) (span : Nat) : DwellFlag :=
  let a := holdFor d.above past span
  let b := holdFor d.below inside span
  { on := if d.on then !heldFor b tickHz else heldFor a tickHz, above := a, below := b }

/-- COLD clears after 10 s with σSoC below 2.00 % (R248). [Log: 36 DEDUCED] -/
def coldStep (p : CellPar) (span : Nat) (c : Cell) : Cell :=
  match c.filter with
  | some f =>
    let t := holdFor c.warmTicks (socSigma p f < 2 / 100) span
    { c with warmTicks := t, cold := c.cold && !heldFor t (secTicks 10) }
  | none => c

/-- The four limits of R257 on the published voltage and temperature. -/
def limitStep (cfg : StrCfg) (v : Nat) (t : Int) (span : Nat) (c : Cell) : Cell :=
  { c with ov := c.ov.step (cfg.cellVMax ≤ v) (v + 100 < cfg.cellVMax) span
           uv := c.uv.step (v ≤ cfg.cellVMin) (cfg.cellVMin + 100 < v) span
           ot := c.ot.step (cfg.cellTMax ≤ t) (t + 100 < cfg.cellTMax) span
           ut := c.ut.step (t ≤ cfg.cellTMin) (cfg.cellTMin + 100 < t) span }

/-! ### STALE and LOST (R211, R212) -/

/-- `adv` is the interval between the sample instants of the last frame and this one. [Log: 36 DEDUCED] -/
def staleStep (limit adv : Nat) (ok : Bool) (c : Cell) : Cell :=
  if ok then
    let good := if c.stale then 0 else c.goodTicks + adv
    { c with stale := false, staleTicks := 0, goodTicks := good, lost := c.lost && good < tickHz }
  else
    let t := if c.stale then c.staleTicks + adv else 0
    { c with stale := true, staleTicks := t, goodTicks := 0, lost := c.lost || limit * 24000000 ≤ t,
             bleeding := false, balTicks := 0, duty := 0 }

/-! ### The cell record (R255, R256, R263) -/

/-- Effective resistance over a horizon in s (R255 with 10 s). -/
def horizonRes (img : Image) (rho soc t h : Rat) : Rat :=
  rho * (res img 0 soc t + res img 1 soc t * (1 - expR (-(h / res img 2 soc t))) +
    res img 3 soc t * (1 - expR (-(h / res img 4 soc t))))

/-- mAh of a charge in C. -/
def mAh (q : Rat) : Rat := q * 10 / 36

end Sys2Proof.Machine
end

