-- ==== Sys2Proof/Machine/Limits.lean ====
section
/-! DEFINITION. Limits, remaining energy, throttle and caps of a string (R264 to R283), and the legacy qualified
discharge (R542). -/

namespace Sys2Proof.Machine

/-! ### Cell limits (R271 to R274) -/

/-- Horizons in s (R271). -/
def horizons : List Rat := [2, 10, 60]

/-- What bounds a cell in one direction over one horizon. `src` is the source of R282: 0 voltage, 1 configured maximum,
2 temperature, 3 flag. -/
structure CellLim where
  mag : Rat
  src : Nat
  v0  : Rat
  /-- R_h + h·k0 of R275. -/
  den : Rat
  deriving DecidableEq, Repr, Inhabited

/-- i_V of R271 for charge (`chg`) or discharge. [Log: 77 DEDUCED] -/
def voltLimit (vlim v0 k0 rh h qd : Rat) (range : Rat × Rat) (ueq : Rat → Rat) (chg : Bool) : Rat :=
  let den0 := rh + h * k0
  let iv : Rat :=
    if den0 ≤ 0 then 0
    else
      let i1 := (vlim - v0) / den0
      let dq := clampR range.1 range.2 (qd + i1 * h) - qd
      let k1 := if dq = 0 then k0 else (ueq (qd + dq) - ueq qd) / dq
      let den1 := rh + h * k1
      if den1 ≤ 0 then 0 else (vlim - v0) / den1
  if (chg && 0 < iv) || (!chg && iv < 0) then iv else 0

/-- The limit of a cell state for a direction and a horizon, before the flags of R273; `sig` is σSoC. Where R_h is 0 no
current heats the cell and the temperature does not bind. [Log: 77 DEDUCED] -/
def stateLimit (cfg : StrCfg) (p : CellPar) (k : Kind) (x : Vec) (sig tk : Rat) (chg : Bool) (h : Rat) : CellLim :=
  let l := learned x
  let t := celsius tk
  let s := socOfState p k x
  let sd := if chg then minR 1 (s + 2 * sig) else maxR 0 (s - 2 * sig)
  let qd := match k with | .physics => p.q0 + sd * p.full | .ecm => sd * p.full
  let rh := horizonRes p.img (rhoOf k x) sd t h
  let k0 := slopeAt p k l qd tk
  let v0 := ueqAt p k l qd tk + hystWidth p.img sd t * hystOf k x + (relaxOf k x).1 * expR (-(h / res p.img 2 sd t)) +
    (relaxOf k x).2 * expR (-(h / res p.img 4 sd t))
  let vlim : Rat := ((if chg then cfg.cellVMax else cfg.cellVMin : Nat) : Rat) / 10000
  let iv := absR (voltLimit vlim v0 k0 rh h qd (chargeRange p k l) (fun q => ueqAt p k l q tk) chg)
  let imax : Rat := ((if chg then cfg.iChgMax else cfg.iDisMax : Int) : Rat) / 100000
  let it : Option Rat := match k with
    | .physics => if rh * h ≤ 0 then none else some (sqrtR (maxR 0 ((cfg.cellTMax : Rat) / 100 - t) * p.img.cTh / (rh * h)))
    | .ecm => none
  let m1 : Rat × Nat := if imax < iv then (imax, 1) else (iv, 0)
  let m2 : Rat × Nat := match it with | some x => if x < m1.1 then (x, 2) else m1 | none => m1
  { mag := m2.1, src := m2.2, v0 := v0, den := rh + h * k0 }

/-- The limit of a VALID cell for a direction and a horizon. [Log: 77 DEDUCED] -/
def cellLimit (cfg : StrCfg) (p : CellPar) (c : Cell) (f : Filter) (tk : Rat) (chg : Bool) (h : Rat) : CellLim :=
  let r := stateLimit cfg p f.kind f.x (socSigma p f) tk chg h
  if c.ot.on || (chg && (c.ov.on || c.ut.on)) || (!chg && c.uv.on) then { r with mag := 0, src := 3 } else r

/-- R274, in 0.1 A. [Log: 77 DEDUCED] -/
def pubLimit (l : CellLim) : Nat := pubU 16 (l.mag * 10)

/-! ### The string's cells -/

/-- VALID cells inside the masks of a string, with what their limits need (R264). -/
structure LiveCell where
  g   : Nat
  c   : Cell
  f   : Filter
  p   : CellPar
  /-- Temperature in K. -/
  tk  : Rat
  deriving DecidableEq, Repr

def liveCells (s : State) (n : Nat) : List LiveCell :=
  match s.strImage n with
  | none => []
  | some img => s.est.cells.filterMap (fun e =>
    if cellStr e.1 = n && s.used e.1 then
      match e.2.filter with
      | some f => some { g := e.1, c := e.2, f := f, p := e.2.par img, tk := match f.kind with | .physics => at_ f.x 11 | .ecm => inputTemp s e.1 }
      | none => none
    else none)

def minOf (l : List Rat) : Rat := match l with | [] => 0 | a :: r => r.foldl minR a
def maxOf (l : List Rat) : Rat := match l with | [] => 0 | a :: r => r.foldl maxR a

/-! ### Capacity (R264) -/

/-- Published SoC as a fraction and published capacity in mAh. -/
def LiveCell.soc (x : LiveCell) : Rat := (x.c.record.soc : Rat) / 1000000
def LiveCell.cap (x : LiveCell) : Rat := (x.c.record.qcap : Rat)

def strCapacity (l : List LiveCell) : Nat :=
  if l.isEmpty then 0 else pubU 32 (minOf (l.map (fun x => x.soc * x.cap)) + minOf (l.map (fun x => (1 - x.soc) * x.cap)))

/-- Σ s_c·Q_c / Σ Q_c in ppm. -/
def socMean (l : List (Nat × Nat)) : Nat :=
  let q := sumR (l.map (fun e => (e.2 : Rat)))
  if q = 0 then 0 else pubU 32 (sumR (l.map (fun e => (e.1 : Rat) * e.2)) / q)

def minNat (l : List Nat) : Nat := match l with | [] => 0 | a :: r => r.foldl min a
def maxNat (l : List Nat) : Nat := l.foldl max 0

/-! ### Energy and run times (R266 to R268) -/

def LiveCell.stored (x : LiveCell) : Rat := chargeOfState x.p x.f.kind x.f.x

/-- M_h·h_c and R_∞,c at the published SoC and temperature. -/
def LiveCell.held (x : LiveCell) : Rat × Rat :=
  let t := (x.c.record.temp : Rat) / 100
  let i := x.p.img
  (hystWidth i x.soc t * hystOf x.f.kind x.f.x,
    rhoOf x.f.kind x.f.x * (res i 0 x.soc t + res i 1 x.soc t + res i 3 x.soc t))

def LiveCell.pubTk (x : LiveCell) : Rat := kelvin ((x.c.record.temp : Rat) / 100)

/-- The stored charge at which U_eq + M_h·h + R_∞·I takes a voltage (R267, R268). -/
def LiveCell.chargeAt (x : LiveCell) (v i : Rat) : Rat :=
  let h := x.held
  chargeWhere x.p x.f.kind (learned x.f.x) (fun _ => h.1 + h.2 * i) v x.pubTk

/-- The trapezoid rule over 16 equal segments. [Log: 77 DEDUCED] -/
def trapezoid16 (f : Rat → Rat) (a b : Rat) : Rat :=
  let d := (b - a) / 16
  d * (f a / 2 + f b / 2 + sumR ((List.range 15).map (fun k => f (a + d * ((k : Rat) + 1)))))

/-- I_e of R266 in A. -/
def evalCurrent (cfg : StrCfg) (img : Image) (iw : Rat) : Rat :=
  if iw ≤ -(restThreshold cfg img) then iw else -((cfg.eRefRate : Rat) / 1000 * (imgQNom img : Rat) / 1000)

/-- E_str in J (R267). [Log: 77 DEDUCED] -/
def strEnergy (cfg : StrCfg) (l : List LiveCell) (ie : Rat) : Rat :=
  let qd := minOf (l.map (fun x => x.stored - x.chargeAt ((cfg.cellVMin : Rat) / 10000) ie))
  if l.isEmpty || qd ≤ 0 then 0
  else sumR (l.map (fun x =>
    let h := x.held
    trapezoid16 (fun q => ueqAt x.p x.f.kind (learned x.f.x) q x.pubTk + h.1 + h.2 * ie) (x.stored - qd) x.stored))

/-- Time-to-empty in s (R268). [Log: 37 DEDUCED] -/
def timeToEmpty (cfg : StrCfg) (img : Image) (e vsum iw : Rat) : Nat :=
  if iw ≤ -(restThreshold cfg img) then (if vsum * absR iw ≤ 0 then 0 else pubU 32 (e / (vsum * absR iw))) else 0xFFFFFFFF

/-- Time-to-full in s (R268). [Log: 37 DEDUCED] -/
def timeToFull (cfg : StrCfg) (img : Image) (l : List LiveCell) (iw : Rat) : Nat :=
  if restThreshold cfg img ≤ iw && !l.isEmpty then
    pubU 32 (minOf (l.map (fun x => x.chargeAt ((cfg.cellVMax : Rat) / 10000) iw - x.stored)) / iw)
  else 0xFFFFFFFF

/-! ### Forced zero (R276), hot temperature and throttle (R277, R278) -/

/-- The fault tone of a rope holds: returned now, or within the last second (R276). -/
def toneHolds (s : State) (n : Nat) : Bool :=
  let r := s.ropeStr n
  r.toned || r.faultTick.any (fun t => s.clk.ticks - t < tickHz)

/-- The causes of R276, in the order of its table. -/
def zeroCauses (s : State) (n : Nat) (l : List LiveCell) : BitVec 5 :=
  let lost := s.est.cells.any (fun e => cellStr e.1 = n && s.used e.1 && e.2.lost)
  let pol := (s.strCfg n).authPolicy
  BitVec.ofNat 5 (bit (!s.enabled n || l.isEmpty) 0 + bit lost 1 + bit (s.met.ports.getD n OwPort.reset).treatedOpen 2 +
    bit (toneHolds s n) 3 + bit (s.enabled n && ((pol.testBit 0 && (s.estModules n).contains .fail) || (pol.testBit 1 && (s.estModules n).contains .none))) 4)

/-- T_hot in 0.01 °C (R277). -/
def hotTemp (s : State) (n : Nat) (l : List LiveCell) : Option Int :=
  let c := s.strCfg n
  let pins := (List.range 16).filterMap (fun p => if c.shuntPins.getLsbD p || c.busbarPins.getLsbD p then (s.pinTemp p).1 else none)
  match l.map (fun x => x.c.record.temp) ++ pins with
  | [] => none
  | a :: r => some (r.foldl max a)

/-- T_hot lies above the threshold at which step `j` rises, and below the one at which it falls, by the hysteresis (R278). -/
def GlobalCfg.throttleUp (g : GlobalCfg) (hot : Option Int) (j : Nat) : Bool :=
  j < 8 && hot.any (fun t => g.thrT0 + (j : Int) * (g.thrDt : Int) < t)
def GlobalCfg.throttleDown (g : GlobalCfg) (hot : Option Int) (j : Nat) : Bool :=
  0 < j && hot.any (fun t => t < g.thrT0 + ((j - 1 : Nat) : Int) * (g.thrDt : Int) - (g.thrHyst : Int))

/-- One frame of the throttle (R278). A dwell at the new step counts from the frame of the change. -/
def throttleStep (g : GlobalCfg) (hot : Option Int) (adv : Nat) (x : StrLim) : StrLim :=
  if g.thrEn = 0 then { x with step := 0, hotTicks := 0, coolTicks := 0, sinceStep := x.sinceStep + adv }
  else
    let a := holdFor x.hotTicks (g.throttleUp hot x.step) adv
    let b := holdFor x.coolTicks (g.throttleDown hot x.step) adv
    let since := x.sinceStep + adv
    let moved (j : Nat) : StrLim :=
      { x with step := j, hotTicks := holdFor 0 (g.throttleUp hot j) adv, coolTicks := holdFor 0 (g.throttleDown hot j) adv, sinceStep := 0 }
    if heldFor a (g.thrDown * 24000000) && decide (g.thrDown * 24000000 ≤ since) then moved (x.step + 1)
    else if heldFor b (g.thrUp * 24000000) && decide (g.thrUp * 24000000 ≤ since) then moved (x.step - 1)
    else { x with hotTicks := a, coolTicks := b, sinceStep := since }

/-! ### String limits (R275, R279 to R282) -/

/-- A string's limit at each stage of R281, for a direction and a horizon. -/
structure StrLimit where
  model  : Rat
  forced : Rat
  thr    : Rat
  capped : Rat
  /-- The cell whose limit set I_s, and its source. -/
  cell   : Nat
  src    : Nat
  deriving DecidableEq, Repr, Inhabited

/-- The smallest limit, its cell and source. [Log: 77 DEDUCED] -/
def weakest (l : List (Nat × CellLim)) : Option (Nat × CellLim) :=
  l.foldl (fun a e => match a with | some b => if e.2.mag < b.2.mag then some e else a | none => some e) none

/-- Σ_c V_c(h, i) of R275. -/
def sumVolts (l : List (Nat × CellLim)) (i : Rat) : Rat := sumR (l.map (fun e => e.2.v0 + e.2.den * i))

/-- A cap of R279; none where it reads 0xFFFF_FFFF. -/
def capOf (caps : List Nat) (i : Nat) : Option Nat := let v := caps.getD i 0xFFFFFFFF; if v = 0xFFFFFFFF then none else some v

/-- Log: 77 DEDUCED. -/
def strLimit (step : Nat) (caps : List Nat) (zero chg : Bool) (l : List (Nat × CellLim)) : StrLimit :=
  let sg : Rat := if chg then 1 else -1
  let w := weakest l
  let is : Rat := match w with | some e => sg * e.2.mag | none => 0
  let pm := is * sumVolts l is
  let forced := if zero then 0 else pm
  let thr := forced * (8 - (step : Rat)) / 8
  let capW := match capOf caps (if chg then 0 else 1) with | some c => minR (absR thr) (c : Rat) | none => absR thr
  let capI := match capOf caps (if chg then 2 else 3) with
    | some c => minR capW (absR ((c : Rat) / 10 * sumVolts l (sg * ((c : Rat) / 10))))
    | none => capW
  { model := pm, forced := forced, thr := thr, capped := signR thr * capI, cell := match w with | some e => e.1 | none => 0,
    src := match w with | some e => e.2.src | none => 0 }

/-- The published value (R281 step 5). -/
def StrLimit.pub (x : StrLimit) : Int := pubS 32 x.capped

/-- LIMIT_CELL of R282. [Log: 39 DEDUCED] -/
def limitCell (x : StrLimit) (valid : Bool) : Nat :=
  if !valid then 0xFFFF
  else
    let src := if absR x.capped < absR x.thr then 6 else if absR x.thr < absR x.forced then 5
      else if absR x.forced < absR x.model then 4 else x.src
    src * 4096 + x.cell % 4096

/-- The six limits of a string: charge and discharge, three horizons each. [Log: 77 DEDUCED] -/
def strLimits (s : State) (n step : Nat) (caps : List Nat) (zero : Bool) (l : List LiveCell) : List StrLimit × List StrLimit :=
  let one (chg : Bool) (h : Rat) : StrLimit :=
    strLimit step caps zero chg (l.map (fun x => (x.g, cellLimit (s.strCfg n) x.p x.c x.f x.tk chg h)))
  (horizons.map (one true), horizons.map (one false))

/-! ### The legacy qualified discharge (R542) -/

/-- DESIGN_CAP of a string in 10 mAh: Q_NOM of its cell type (R540). -/
def designCap (s : State) (n : Nat) : Nat := match s.strImage n with | some i => min 0xFFFF ((imgQNom i + 5) / 10) | none => 0

/-- A changed frozen capacity is kept in the configuration region (R541). -/
def setFrozen (n v : Nat) (s : State) : State :=
  s.storeSaved (fun r => { r with frozen := r.frozen.set n (some v) })

/-- FULL_CAP: the frozen capacity, DESIGN_CAP where none is stored (R541). -/
def frozenCap (s : State) (n : Nat) : Nat := (s.nvm.saved.frozen.getD n none).getD (designCap s n)

/-- One frame of the qualified discharge of a string, on the frame's published values. -/
def gaugeFrame (n adv : Nat) (b : StrBlk) (s : State) : State :=
  match s.leg.gauges[n]?, s.strImage n with
  | some g, some img =>
    let rest := restThreshold (s.strCfg n) img
    let iw := (b.iWin : Rat) / 100000
    let put (x : Gauge) (s : State) : State := { s with leg := { s.leg with gauges := s.leg.gauges.set n x } }
    if !g.active then
      if iw ≤ -rest && 950000 ≤ b.socMean then put { g with active := true, netStart := b.net, socStart := b.socMean, chgTicks := 0, idleTicks := 0 } s
      else s
    else
      let chg := holdFor g.chgTicks (rest ≤ iw) adv
      let idle := holdFor g.idleTicks (absR iw < rest) adv
      if b.socMean ≤ 50000 then
        let dq : Rat := (toS 64 (toU 64 (g.netStart - b.net)) : Rat) / (((g.socStart - (b.socMean : Int) : Int) : Rat) / 1000000)
        let cap := pubU 16 (dq / 36000000)
        setFrozen n cap (put { g with active := false, qual := min 0xFFFF (g.qual + 1) } s)
      else if heldFor chg (secTicks 10) || heldFor idle (secTicks 18000) then put { g with active := false } s
      else put { g with chgTicks := chg, idleTicks := idle } s
  | _, _ => s

end Sys2Proof.Machine
end

