-- ==== Sys2Proof/Machine/Balance.lean ====
section
/-! DEFINITION. Balancing (R214 to R222): eligibility, charge to bleed, bleed states, duties, BAL frames, overrides. -/

namespace Sys2Proof.Machine

/-- R215. -/
def balEligible (s : State) (n : Nat) (x : LiveCell) : Bool :=
  let c := x.c
  !c.stale && !c.lost && !c.cold && !c.div.on && s.estAuth n (cellMon x.g) != .fail && !c.uv.on && !c.ot.on &&
    c.record.temp < (s.strCfg n).balTMax && !(s.ropeStr n).toned

/-- The quantity whose excess over the string's smallest is B_c of R216, by BAL_MODE, in mAh. -/
def bleedY (cfg : StrCfg) (soc cap : Rat) : Rat :=
  match cfg.balMode with
  | 1 => -((1 - soc) * cap)
  | 2 => soc * cap
  | 3 => (soc - (cfg.balMidSoc : Rat) / 1000000) * cap
  | _ => 0

/-- B_c of R216 in mAh over the eligible cells: global index, SoC, capacity in mAh. [Log: 38 DEDUCED] -/
def bleedCharges (cfg : StrCfg) (l : List (Nat × Rat × Rat)) : List (Nat × Rat) :=
  let lo := minOf (l.map (fun e => bleedY cfg e.2.1 e.2.2))
  l.map (fun e => (e.1, bleedY cfg e.2.1 e.2.2 - lo))

def ceilNat (q : Rat) : Nat := q.ceil.toNat

/-- g of R217, the fraction of time that the gate is open: window of W ticks, frame period in ns. -/
def gateShare (cfg : StrCfg) (wTicks periodNs : Nat) : Rat :=
  maxR (1 / 10) (1 - (secs wTicks + (cfg.balGateLead : Rat) / 10000) / ((periodNs : Rat) / 1000000000))

/-- The duty of a cell in BLEED (R217): B_c in mAh, cell voltage in V. [Log: 38 DEDUCED] -/
def bleedDuty (cfg : StrCfg) (g b volts : Rat) : Nat :=
  let i : Rat := volts / (2 * rBleed cfg)
  if i * g * (cfg.balHorizon : Rat) ≤ 0 then 16 else min 16 (ceilNat (16 * (b * 36 / 10) / (i * g * (cfg.balHorizon : Rat))))

/-- The bleed state of R217 after `adv` ticks: bleeding, its dwell and the duty; `b` is none for an ineligible cell. [Log: 38 DEDUCED] -/
def bleedNext (cfg : StrCfg) (g nom volts : Rat) (adv : Nat) (b : Option Rat) (bleeding : Bool) (ticks : Nat) : Bool × Nat × Nat :=
  match b with
  | none => (false, 0, 0)
  | some q =>
    let start := nom * (cfg.balStart : Rat) / 100000
    let stop := nom * (cfg.balStop : Rat) / 100000
    let t := holdFor ticks (if bleeding then q < stop else start < q) adv
    let flip := heldFor t (secTicks cfg.balDwell)
    let on := if flip then !bleeding else bleeding
    (on, if flip then 0 else t, if on then bleedDuty cfg g q volts else 0)

/-- One frame of a cell's bleed state. [Log: 38 DEDUCED] -/
def bleedStep (cfg : StrCfg) (g nom : Rat) (adv : Nat) (b : Option Rat) (c : Cell) : Cell :=
  let r := bleedNext cfg g nom ((c.record.volt : Rat) / 10000) adv b c.bleeding c.balTicks
  { c with bleeding := r.1, balTicks := r.2.1, duty := r.2.2 }

/-- The override byte of a position, where it forces the cell (R221, R401). -/
def forcedByte (s : State) (g : Nat) : Option Byte :=
  match (s.lim (cellStr g)).override with
  | some l => let b := l.getD (g % 512) 0; if b.getLsbD 6 then some b else none
  | none => none

/-- A forced cell's duty and phase; duty 0 under UV_LIMIT, OT_LIMIT, STALE or LOST (R221). [Log: 38 DEDUCED] -/
def forceCell (b : Byte) (c : Cell) : Cell :=
  { c with duty := if c.uv.on || c.ot.on || c.stale || c.lost then 0 else b.toNat % 32, phaseB := b.getLsbD 7 }

/-- The unforced cell of a same-phase neighbour pair with a forced one has duty 0 (R218, R221). -/
def pairGuard (s : State) (g : Nat) (c : Cell) : Cell :=
  let other (h : Nat) : Bool := (forcedByte s h).isSome &&
    (match s.cell h with | some d => d.duty != 0 && c.duty != 0 && d.phaseB == c.phaseB | none => false)
  let hit := (cellPos g != 0 && other (g - 1)) || (cellPos g != 15 && other (g + 1))
  if (forcedByte s g).isNone && hit && !(s.lim (cellStr g)).ovFlags.getLsbD 0 then { c with duty := 0 } else c

/-- The balance byte of a record: duty and phase (R326). -/
def balByte (c : Cell) : Byte := BitVec.ofNat 8 (c.duty % 32 + bit c.phaseB 7)

/-- Cells of a string, updated together. -/
def mapCells (n : Nat) (f : Nat → Cell → Cell) (s : State) : State :=
  { s with est := { s.est with cells := s.est.cells.map (fun e => if cellStr e.1 = n then (e.1, f e.1 e.2) else e) } }

/-- Duties and phases of a frame for every cell of a string (R215 to R221). A forced cell keeps its own bleed state and dwell
running and counts among the eligible cells of R216. [Log: 38 DEDUCED] -/
def balanceString (n adv : Nat) (f : FrameRec) (s : State) : State :=
  let cfg := s.strCfg n
  let nom : Rat := match s.strImage n with | some i => (imgQNom i : Rat) | none => 0
  let charges := bleedCharges cfg (((liveCells s n).filter (balEligible s n)).map (fun x => (x.g, x.soc, x.cap)))
  let gate := gateShare cfg f.wTicks s.frm.scheme.periodNs
  let s := mapCells n (fun g c => bleedStep cfg gate nom adv (mapGet charges g) { c with phaseB := cellPos g % 2 = 1 }) s
  let s := mapCells n (fun g c => match forcedByte s g with | some b => forceCell b c | none => c) s
  let s := mapCells n (fun g c => pairGuard s g c) s
  mapCells n (fun _ c => { c with record := { c.record with bal := if c.valid then balByte c else 0 } }) s

/-- The payload of a BAL: the duties and phases of the frame's cell records (R219). -/
def balPayload (s : State) (recs : List (Nat × CellRec)) (n m : Nat) : List Byte :=
  let l := s.lim n
  (List.range 16).map (fun c => match mapGet recs (cellIndex n m c) with | some x => x.bal | none => 0) ++
    [BitVec.ofNat 8 (bit (l.override.isSome && l.ovFlags.getLsbD 1) 0 + bit (l.override.isSome && l.ovFlags.getLsbD 0) 1)]

/-- One BAL to every reachable monitor of a rope, from the staging buffer of the frame (R27, R219). -/
def sendBal (epoch n : Nat) (s : State) : State :=
  let r := s.ropeStr n
  let recs := (s.est.staging.getD (epoch % 3) Staging.empty).recs
  if r.mode == .down || r.tie.isSome then s
  else ropeGap n (s.modRope n (fun r => { r with balTodo := (r.mons.filter (fun e => e.2.reachable)).map (fun e => (e.1, balPayload s recs n e.1)) }))

/-- BAL_OVERRIDE_EXPIRY: the duration is over (R221). -/
def execBalOverrideExpiry (str : Nat) (s : State) : Out :=
  .next (s.modLim str (fun l => { l with override := none, ovFlags := 0 }))

end Sys2Proof.Machine
end

