-- ==== Sys2Proof/Machine/FrameUpdate.lean ====
section
/-! DEFINITION. The estimation of a frame: TIME_UPDATE_DONE, MEASUREMENT_UPDATE_DONE, and what ends a string's and a
frame's updates (R225, R264 to R283, R315). -/

namespace Sys2Proof.Machine

/-- Frames whose updates are complete and whose cairn is complete or abandoned are over. [Log: 26 DEDUCED] -/
def State.dropFrames (s : State) : State :=
  { s with frm := { s.frm with frames := s.frm.frames.filter (fun f => !(f.updated && f.ended)) } }

/-- Interval between the sample instants of the last frame estimated and this one; 0 across HOLD (R476). [Log: 26 DEDUCED] -/
def frameAdvance (s : State) (f : FrameRec) : Nat := if s.est.heldSince || s.est.lastStart = 0 then 0 else f.startTick - s.est.lastStart

/-! ### One cell (R225 steps 2 to 7) -/

/-- Variance of a voltage measurement (R236). -/
def voltVariance (s : State) (g : Nat) (c : Cell) (p : CellPar) (flt : Filter) (tk i corr : Rat) (page : List Byte) : Rat :=
  let n := cellStr g
  let rr := rhoOf flt.kind flt.x * res p.img 0 (socOfState p flt.kind flt.x) (celsius tk)
  let sq (x : Rat) : Rat := x * x
  let isOpen := ((s.metStr n).frmSpan.getLast?.map (·.asOpen)).getD false
  sq (noiseV p.img) + (if pageEndEst page then sq (15 / 10000) else 0) +
    (if c.balAdj then sq (((s.strCfg n).balAdjK : Rat) / 100 * absR corr) else 0) +
    (if c.wide then sq (rr * (25 / 10000) * absR i) else 0) + (if isOpen then sq (rr * maxCurrent (s.strCfg n)) / 3 else 0)

/-- T_c of a restored cell, and of the points that carried it, starts at its first measured or substituted temperature (R492). [Log: 54 DEDUCED] -/
def Cell.takeTemp (c : Cell) (published : Option Int) : Cell :=
  match c.tPending, c.filter, published with
  | true, some f, some t =>
    match f.kind with
    | .physics =>
      let d := kelvin ((t : Rat) / 100) - at_ f.x 11
      let shift (x : Vec) : Vec := x.set 11 (at_ x 11 + d)
      { c with tPending := false, filter := some { f with x := shift f.x }, chi := c.chi.map shift }
    | .ecm => { c with tPending := false }
  | _, _, _ => c

/-- A measurement for a cell that holds a state: update, rest correction, divergence (R225 steps 2 to 5); `true` where
EV62 is raised. -/
def measureCell (s : State) (g span : Nat) (img : Image) (page : List Byte) (v : Rat) (corr : Rat) (f : FrameRec) (c : Cell) : Cell × Bool :=
  let inp := cellInput s g
  let c := c.takeTemp inp.published
  match c.filter with
  | none => (c, false)
  | some flt =>
    let temp : Option Rat := if inp.suspect then none else inp.measured.map (fun t => kelvin ((t : Rat) / 100))
    let env := cellEnv s g 0
    let p := c.par img
    let tk := tempOf flt.kind env flt.x
    let i := frameCurrent s g f c
    let frozen := c.div.on || c.kept.isSome
    let tm : Option (Rat × Rat) := match flt.kind, temp with
      | .physics, some t => some (t, noiseT img * noiseT img)
      | _, _ => none
    let u := filterMeasure p env flt c.chi i (v, voltVariance s g c p flt tk i corr page) tm frozen
    let c := match u.root with
      | some r => { c with filter := some { flt with x := u.x, root := r }, div := c.div.push span u.eps }
      | none => { c with filter := some { flt with x := u.x, root := widerRoot c.prevRoot }, div := c.div.push span (2 * nisLimit img) }
    let c := if c.corrDue && c.rest then restCorrection img env true v frozen c else c
    divergeStep img span c

/-- A deferred STATE_WRITE record, first use, or the re-initialisation of R246, at a valid measurement: it replaces the
cell's state (R246, R247, R286). Under DEFAULT_PARAMS its learned parameters are the cell's own, kept aside (R530). -/
def startCell (s : State) (epoch g : Nat) (img : Image) (v i : Rat) (c : Cell) : Option Cell :=
  let n := cellStr g
  let tk := writeTemp s g c
  let init := (s.strCfg n).initSoh
  let ready (w : Cell) : Cell :=
    { w with tPending := c.tPending && (cellInput s g).published.isNone }.policy img init (defaultParams s g)
  match c.deferred, c.filter with
  | some d, flt =>
    let soc : Rat := match swSoc d.bytes with
      | some x => x
      | none =>
        let lrn := match swMode d.bytes, flt with
          | 1, some f => f.x.drop (learnedFrom f.kind)
          | 1, none => match c.keptLearned with | some k => k.1 | none => initLearned img (qNom img * (init : Rat) / 10000)
          | 2, _ => swLearned d.bytes img init
          | _, _ => initLearned img (qNom img * swSoh d.bytes init)
        socFromVolts (match swMode d.bytes, flt with | 1, some _ => c.par img | _, _ => parOf img lrn) lrn v i tk
    let w := c.applyWrite img d.bytes init soc tk
    some (ready { w with pubCount := if d.reinit = some epoch then 0 else w.pubCount })
  | none, none => match c.keptLearned with
    | some k => some (ready (c.start img k.1 k.2 (socFromVolts (parOf img k.1) k.1 v i tk) (20 / 100) tk))
    | none => some (ready (c.firstUse img ((init : Rat) / 10000) none (20 / 100) v i tk))
  | none, some _ => none

/-- The elapsed-time action of R246 after the first frame with TIME64 locked; `v` is the measured voltage of the frame, if
it is valid. At 30 days or more the cell follows R247 with its learned parameters: at once, or without a state until its
next valid measurement. The record holds no temperature, so T_ckpt is a free value. The TIME64 of a first sample instant
before the lock is the first locked t_sample less the nominal ticks since. [Log: 20 DESIGN CHOICE, 54 DEDUCED] -/
def elapsedAction (s : State) (f : FrameRec) (g : Nat) (img : Image) (v : Option Rat) (c : Cell) : Cell :=
  match c.restored, c.filter with
  | some (stamp, known), some flt =>
    if !f.locked then c
    else
      let c := { c with restored := none }
      let first : Int := -- the nominal tick, 25/6 ns
        (f.tSample : Int) - ((f.startTick - (s.est.firstTick.getD f.startTick) : Nat) : Int) * 25 / 6
      let dt : Rat := ((first - (stamp : Int) : Int) : Rat) / 1000000000
      if !known || dt < 0 then c
      else if dt < 30 * 86400 then
        let p := c.par img
        match flt.kind with
        | .physics =>
          let dq := selfDischarge img (Config.ckptTemp g) * dt * p.full
          let x := (thetaN flt.x).map (· - dq / qNeg img (learned flt.x)) ++ flt.x.drop 3
          { c with filter := some { flt with x := laneVec (projectInventory p .physics (clipState img .physics x)) } }
        | .ecm =>
          let x := (at_ flt.x 0 - selfDischarge img (Config.ckptTemp g) * dt) :: flt.x.drop 1
          { c with filter := some { flt with x := laneVec (clipState img .ecm x) } }
      else
        let lf := learnedFrom flt.kind
        let lrn := c.ownLearned flt
        let grow (j : Nat) : Rat := walkRate img j * dt / 86400
        let cov := mAdd (lowerBlock (gram flt.root) lf) (diag (match flt.kind with | .physics => [grow 0, grow 1, grow 2, grow 3] | .ecm => [grow 4, grow 3]))
        let tk := tempOf flt.kind (cellEnv s g 0) flt.x
        match v with
        | some x => (c.start img lrn cov (socFromVolts (parOf img lrn) lrn x (frameCurrent s g f c) tk) (20 / 100) tk).policy img
            (s.strCfg (cellStr g)).initSoh (defaultParams s g)
        | none => { c with filter := none, keptLearned := some (lrn, cov), kept := none }
  | _, _ => c

/-- The record of a cell that holds no state: its flags alone (R255, R256). -/
def statelessRec (s : State) (g : Nat) (ecm : Bool) (c : Cell) : CellRec :=
  let fl : CellFlags :=
    { valid := false, stale := c.stale, lost := c.lost, cold := false, rest := c.rest, balAdj := c.balAdj, tSubst := c.tSubst,
      diverge := false, authFail := s.estAuth (cellStr g) (cellMon g) == .fail, wide := c.wide, ov := false, uv := false, ot := false,
      ut := false, ecm := ecm, unused := false }
  { CellRec.invalid with flags := fl.word }

/-- The record of a cell after its update, without its duty (R255, R256, R263, R274). [Log: 37 DEDUCED] -/
def cellRecord (s : State) (g adv : Nat) (f : FrameRec) (img : Image) (measured : Option Rat) (c : Cell) : Cell :=
  let n := cellStr g
  let auth := s.estAuth n (cellMon g) == .fail
  match c.filter with
  | none => { c with record := statelessRec s g (imgKind img == .ecm) c }
  | some flt =>
    let cfg := s.strCfg n
    let p := c.par img
    let env := cellEnv s g 0
    let tk := tempOf flt.kind env flt.x
    let t := celsius tk
    let soc := socOfState p flt.kind flt.x
    let v := match measured with | some x => x | none => modelVolts p flt.kind env flt.x (frameCurrent s g f c)
    let volt := pubU 16 (v * 10000)
    let temp := pubS 16 (t * 100)
    let c := limitStep cfg volt temp adv c
    let lim (chg : Bool) : Nat := pubLimit (cellLimit cfg p c flt tk chg 10)
    let lrn : Nat × Nat × Nat := match flt.kind with
      | .physics => (pubU 16 (c.lliPub * 10000), pubU 8 (c.lamPePub * 1000), pubU 8 (c.lamNePub * 1000))
      | .ecm => (0xFFFF, 0xFF, 0xFF)
    let fl : CellFlags :=
      { valid := true, stale := c.stale, lost := c.lost, cold := c.cold, rest := c.rest, balAdj := c.balAdj, tSubst := c.tSubst,
        diverge := c.div.on, authFail := auth, wide := c.wide, ov := c.ov.on, uv := c.uv.on, ot := c.ot.on, ut := c.ut.on,
        ecm := flt.kind == .ecm, unused := false }
    let rec_ : CellRec :=
      { volt := volt, temp := temp, soc := (clampI 0 1000000 (roundAway (soc * 1000000))).toNat, qcap := pubU 32 (mAh c.qPub),
        res := pubU 16 (horizonRes img (rhoOf flt.kind flt.x) soc t 10 * 1000000), sigma := pubU 16 (socSigma p flt * 100000),
        soh := pubU 16 (c.qPub / qNom img * 10000), bal := c.record.bal,
        flags := fl.word, iChg := lim true, iDis := lim false, lli := lrn.1, lamPe := lrn.2.1, lamNe := lrn.2.2 }
    { c with record := rec_ }

/-- The page of a cell's monitor, if the monitor gave a valid result for the frame (R202). -/
def framePage (s : State) (f : FrameRec) (g : Nat) : Option (List Byte) := (s.mon (cellStr g) (cellMon g)).bind (fun m => m.pageOf f.epoch)

/-- A monitor's part in the frame is settled: its page is in, or its rope's sweep has nothing left to read (R202, R203). -/
def pageSettled (s : State) (f : FrameRec) (n m : Nat) : Bool :=
  ((s.mon n m).bind (fun x => x.pageOf f.epoch)).isSome ||
    (match (s.ropeStr n).sweep with | some w => w.epoch != f.epoch || w.done | none => true)

/-- What a cell's measurement update reads is settled: the pages of its own monitor and, for the reference of R458, of
both adjacent ones. The result is then the same in whatever order cells are updated (R32). [Log: 26 DEDUCED] -/
def cellSettled (s : State) (f : FrameRec) (g : Nat) : Bool :=
  let n := cellStr g
  let m := cellMon g
  f.swept && pageSettled s f n (m - 1) && pageSettled s f n m && pageSettled s f n (m + 1)

/-- The flags of a cell that its inputs of the frame decide (R256): STALE and LOST, T_SUBST, WIDE_CURRENT and BAL_ADJ. -/
def inputFlags (s : State) (f : FrameRec) (g adv : Nat) (c : Cell) : Cell :=
  let n := cellStr g
  let page := framePage s f g
  let c := staleStep (s.strCfg n).staleLimit adv page.isSome c
  { c with tSubst := (cellInput s g).suspect, wide := (s.lim n).blk.sflags.getLsbD 1
           balAdj := match page, s.mon n (cellMon g) with | some pg, some m => (measuredVolts s n m pg (cellPos g)).2.2 | _, _ => false }

/-- A cell whose type slot has lost its image holds no state (R493): its record carries its flags alone (R256). -/
def bareCell (s : State) (f : FrameRec) (g adv : Nat) (c : Cell) : Cell :=
  let c := { inputFlags s f g adv c with filter := none }
  { c with record := statelessRec s g false c }

/-- Everything that R225 does to one cell in a frame after its time update; `true` where EV62 is raised. -/
def updateCell (s : State) (f : FrameRec) (g adv span : Nat) (img : Image) (c : Cell) : Cell × Bool :=
  let n := cellStr g
  let c := inputFlags s f g adv c
  let cool (c : Cell) : Cell := coldStep (c.par img) adv c
  let settle (c : Cell) : Cell := publicationStep img adv (cool c)
  match framePage s f g, s.mon n (cellMon g) with
  | some pg, some m =>
    let mv := measuredVolts s n m pg (cellPos g)
    let r := match startCell s f.epoch g img mv.1 (frameCurrent s g f c) c with
      | some d => (cool (if d.corrDue && d.rest then restCorrection img (cellEnv s g 0) false mv.1 (d.div.on || d.kept.isSome) d else d), false)
      | none =>
        let u := measureCell s g span img pg mv.1 mv.2.1 f c
        (settle u.1, u.2)
    (cellRecord s g adv f img (some mv.1) (elapsedAction s f g img (some mv.1) r.1), r.2)
  | _, _ => (cellRecord s g adv f img none (elapsedAction s f g img none (settle c)), false)

/-! ### A string (R264 to R283) -/

/-- Figures of an enabled string from its cells' records, with the frame's own STV and the rope mode at the end of its sweep
(R22, R210). Without a VALID cell there is nothing to empty: TTE and TTF are 0xFFFF_FFFF. [Log: 37 DEDUCED] -/
def strFigures (s : State) (n : Nat) (f : FrameRec) (l : List LiveCell) (b : StrBlk) : StrBlk :=
  let cfg := s.strCfg n
  let recs : List CellRec := l.map (fun (x : LiveCell) => x.c.record)
  let iw := (b.iWin : Rat) / 100000
  let vsum := pubU 32 (sumR (recs.map (fun (r : CellRec) => (r.volt : Rat))) / 10)
  let count (p : Cell → Bool) : Nat := (s.est.cells.filter (fun e => cellStr e.1 = n && s.used e.1 && p e.2)).length
  let base := { b with vSum := vsum, qStr := strCapacity l, socMin := minNat (recs.map CellRec.soc), socMax := maxNat (recs.map CellRec.soc),
                       socMean := socMean (recs.map (fun (r : CellRec) => (r.soc, r.qcap))), nStale := count (·.stale), nLost := count (·.lost),
                       ropeMode := f.modes.getD n 3, stv := f.stv.getD n 0 }
  match s.strImage n with
  | some img =>
    let e := strEnergy cfg l (evalCurrent cfg img iw)
    { base with eRem := pubU 64 (e / 36 * 10), tte := if l.isEmpty then 0xFFFFFFFF else timeToEmpty cfg img e ((vsum : Rat) / 1000) iw,
                ttf := timeToFull cfg img l iw }
  | none => { base with eRem := 0, tte := 0xFFFFFFFF, ttf := 0xFFFFFFFF }

/-- The block of a string that is not enabled: nothing but its mode and its counters (R323). -/
def disabledBlk (f : FrameRec) (n : Nat) (b : StrBlk) : StrBlk :=
  { StrBlk.empty with ropeMode := f.modes.getD n 3, net := b.net, qIn := b.qIn, qOut := b.qOut, unc := b.unc }

/-- The staging buffer of a frame (R27). -/
def modStaging (epoch : Nat) (h : Staging → Staging) (s : State) : State :=
  { s with est := { s.est with staging := s.est.staging.modify (epoch % 3) h } }

/-- A string's block and the records of its cells, with their duties, enter the frame's staging buffer. -/
def stageString (n : Nat) (f : FrameRec) (s : State) : State :=
  let recs := (s.est.cells.filter (fun e => cellStr e.1 = n)).map (fun e => (e.1, e.2.record))
  modStaging f.epoch (fun e => { e with blks := e.blks.set n (s.lim n).blk, forced := e.forced.set n (s.lim n).forced, recs := recs.foldl (fun l r => mapSet l r.1 r.2) e.recs }) s

/-- A string's limits, throttle, event, flags and duties, after its cells' last update. -/
def finishString (n adv : Nat) (f : FrameRec) (s : State) : State :=
  let l := liveCells s n
  let old := s.lim n
  let causes := zeroCauses s n l
  let hot := hotTemp s n l
  let x := throttleStep s.cfg.live.glob hot adv old
  if !s.enabled n then
    let s := s.modLim n (fun y => { x with causes := causes, forced := true, blk := disabledBlk f n y.blk, capsOld := none })
    stageString n f (if x.step != old.step || causes != old.causes then raise (24 + n) (x.step + bit true 4) s else s)
  else
    let zero := causes != 0
    let lims := strLimits s n x.step x.caps zero l
    let pubs (q : List StrLimit × List StrLimit) : List Int := (q.1 ++ q.2).map StrLimit.pub
    let capChange := match x.capsOld with | some c => pubs (strLimits s n x.step c zero l) != pubs lims | none => false
    let b := strFigures s n f l old.blk
    let ten := if b.iWin ≤ 0 then lims.2.getD 1 default else lims.1.getD 1 default
    let b := { b with
      thrStep := x.step, pChg := lims.1.map StrLimit.pub, pDis := lims.2.map StrLimit.pub, limitCell := limitCell ten (!l.isEmpty),
      tHot := hot.getD 0,
      sflags := BitVec.ofNat 32 (sflagsWord true (b.sflags.getLsbD 1) (b.sflags.getLsbD 2) (b.sflags.getLsbD 3)
        (b.sflags.getLsbD 4) (b.sflags.getLsbD 5) (b.sflags.getLsbD 6) zero
        (f.tones.getLsbD n) (s.ropeStr n).tie.isSome
        (b.sflags.getLsbD 10)) }
    let s := s.modLim n (fun _ => { x with causes := causes, forced := zero, capsOld := none, blk := b })
    let s := if x.step != old.step || causes != old.causes || capChange then raise (24 + n) (x.step + bit zero 4) s else s
    stageString n f (balanceString n adv f s)

/-- A string has no cell left to update in the frame. -/
def strDone (s : State) (n : Nat) : Bool := !s.est.todo.any (fun g => cellStr g = n)

/-- The duty of a cell that its monitor has acknowledged. -/
def ackDuty (s : State) (g : Nat) : Nat :=
  match s.mon (cellStr g) (cellMon g) with | some m => m.duty (cellPos g) | none => 0

/-- The buffer of frame k holds nothing of an earlier frame: it is the frame's own from its time update on (R27). -/
def openStaging (f : FrameRec) (s : State) : State :=
  modStaging f.epoch (fun _ => { Staging.empty with
    epoch := f.epoch, tSample := f.tSample, unsync := f.unsync, wTicks := f.wTicks, bounds := s.met.strs.map (fun m => (m.frmUEnd, m.frmSEnd))
    images := s.cfg.images, strImgs := (List.range 8).map s.strImage }) s

/-- A disabled string's qualified discharge aborts (R542). -/
def abortGauge (n : Nat) (s : State) : State :=
  { s with leg := { s.leg with gauges := s.leg.gauges.modify n (fun g => { g with active := false }) } }

/-- The qualified discharges of S0 to S3, judged once per frame on the values of the frame that has completed (R538, R542). -/
def judgeGauges (adv : Nat) (s : State) : State :=
  (List.range 4).foldl (fun s n => if s.enabled n then gaugeFrame n adv (s.lim n).blk s else abortGauge n s) s

/-- What the legacy window shows of a string until the next frame completes (R538). [Log: 72 DEDUCED] -/
def legPage (s : State) (n : Nat) : LegPage :=
  let g := s.leg.gauges.getD n Gauge.reset
  { on := s.enabled n, blk := (s.lim n).blk, cap := frozenCap s n, design := designCap s n, qual := g.qual, act := g.active }

/-- The frame's updates are complete: the legacy window takes its values, and what the seed of R295 needs beside the records
joins the buffer. -/
def finishFrame (f : FrameRec) (s : State) : State :=
  let s := judgeGauges (frameAdvance s f) s
  let s := { s with leg := { s.leg with frame := (List.range 4).map (legPage s) } }
  let s := modStaging f.epoch (fun e => { e with
    cells := s.est.cells, ambs := (List.range 8).map (ambientOf s), acks := s.est.cells.map (fun e => (e.1, ackDuty s e.1)) }) s
  let s := (s.modFrame f.epoch (fun x => { x with updated := true })).dropFrames
  { s with est := { s.est with lastStart := f.startTick, heldSince := false, lost := [], cells := s.est.lost.foldl (fun l e => mapSet l e.1 e.2) s.est.cells } }

/-- Cells inside the masks of enabled strings. -/
def usedCells (s : State) : List Nat := (List.range 4096).filter s.used

/-! ### What governs the frame takes force in the array (R244, R249, R280, R287, R527) -/

/-- The cells of a string under a new image. -/
def newImages (n : Nat) (old new : Option Image) (s : State) : State :=
  match old, new with
  | some a, some b => if a = b then s else mapCells n (fun _ c => c.newImage a b) s
  | _, _ => s

/-- The image of string `n` under a configuration; none for a string that is not enabled. -/
def imageUnder (live : ConfigBlock) (images : List (Option Image)) (n : Nat) : Option Image :=
  let c := live.strs.getD n StrCfg.template
  if c.enable = 1 then images.getD c.cellType none else none

/-- Caps of a LIMIT_SET for every string (R280, R283). -/
def takeCaps (l : List (List Nat)) (s : State) : State :=
  (List.range 8).foldl (fun s n => s.modLim n (fun x =>
    { x with caps := l.getD n (List.replicate 4 0xFFFFFFFF), capsOld := some (x.capsOld.getD x.caps) })) s

/-- Cells outside the masks keep no state (R249, R395). [Log: 79 DEDUCED] -/
def dropUnused (s : State) : State := { s with est := { s.est with cells := s.est.cells.filter (fun e => s.used e.1) } }

/-- One sample instant's changes: the images first, then the written states, which replace a cell's state (R259). A string
that is disabled aborts its qualified discharge, whether or not the frame is estimated (R542). -/
def adoptTake (t : EstTake) (s : State) : State :=
  let was (n : Nat) : Option Image := imageUnder s.est.live s.est.images n
  let reinit (b : List Byte) : Bool := match was (cellStr (fieldU b 0 2)), imageUnder t.live t.images (cellStr (fieldU b 0 2)) with
    | some old, some new => otherChem old new
    | _, _ => false
  let s' := { s with est := { s.est with live := t.live, images := t.images, auth := t.auth } }
  let s' := (List.range 8).foldl (fun x n => newImages n (was n) (imageUnder t.live t.images n) x) s'
  let s' := onEst dropUnused s'
  let s' := (List.range 4).foldl (fun x n => if (t.live.strs.getD n StrCfg.template).enable = 1 then x else abortGauge n x) s'
  let s' := match t.caps with | some l => takeCaps l s' | none => s'
  onEst (fun x => t.writes.foldl (fun x b => takeWrite t.epoch (reinit b) b x) x) s'

/-- Every sample instant up to the frame's own; those of frames that were not estimated are among them. [Log: 27 DEDUCED] -/
def adoptFrame (f : FrameRec) (s : State) : State :=
  let due := s.est.takes.filter (fun t => t.epoch ≤ f.epoch)
  due.foldl (fun s t => adoptTake t s) { s with est := { s.est with takes := s.est.takes.filter (fun t => f.epoch < t.epoch) } }

/-! ### The two rows -/

/-- The BAL frames of the strings whose last cell has been updated (R219). -/
def sendBals (epoch : Nat) (l : List Nat) (s : State) : State := l.foldl (fun s n => sendBal epoch n s) s

/-- The array's time update: every cell of the frame, and the strings that have no cell to measure. -/
def timeUpdate (f : FrameRec) (adv : Nat) (s : State) : State :=
  let used := usedCells s
  let cells := used.map (fun g => (g, cellTimeUpdate s f g ((s.cell g).getD Cell.fresh)))
  let s := openStaging f { s with est := { s.est with cells := cells, todo := used, firstTick := some (s.est.firstTick.getD f.startTick) } }
  let s := s.modFrame f.epoch (fun x => { x with timeDone := true })
  let s := (List.range 8).foldl (fun s n => if strDone s n then finishString n adv f s else s) s
  if s.est.todo.isEmpty then finishFrame f s else s

/-- The frame's inputs are there: every string's charge of its window, and a staging buffer that no older frame's cairn
still needs (R23, R27). [Log: 26 DEDUCED] -/
def frameReady (s : State) (f : FrameRec) : Bool :=
  (List.range 8).all (fun n => (s.metStr n).frmQueue.any (fun x => x.epoch == f.epoch)) &&
    !s.frm.frames.any (fun x => x.epoch < f.epoch && x.epoch % 3 == f.epoch % 3 && !x.ended)

/-- The inputs of monitors that serve no used cell are judged too (R458): over the frame before, whose pages are all in and
whose spans still stand. Other monitors referred to them as they were when that frame's judgement began, so the moment
makes no difference. [Log: 70 DEDUCED] -/
def judgeBare (epoch : Nat) (s : State) : State :=
  (List.range 8).foldl (fun s n => (s.ropeStr n).mons.foldl (fun s e =>
    if (List.range 16).any (fun c => s.used (cellIndex n e.1 c)) then s
    else (e.2.pages.filter (fun p => e.2.judged < p.1 && p.1 < epoch)).foldl
      (fun s p => judgeInputs n e.1 p.1 (spanTicksOf (s.metStr n).frmSpan) s) s) s) s

/-- TIME_UPDATE_DONE: the time update of every cell of the frame (R23, R231). [Log: 26 DEDUCED] -/
def execTimeUpdateDone (s : State) : Out :=
  match s.estFrame with
  | none => .next s
  | some f =>
    if f.timeDone || !s.live || !frameReady s f then .next s
    else
      let s := onEst (timeUpdate f (frameAdvance s f)) (loadFrame f.epoch (adoptFrame f (judgeBare f.epoch s)))
      .next (settleWork (sendBals f.epoch ((List.range 8).filter (strDone s)) s))

/-- One cell's part of the frame after its time update; the last one of a string and of the frame completes them. -/
def measureUpdate (f : FrameRec) (g : Nat) (s : State) : State :=
  let adv := frameAdvance s f
  let n := cellStr g
  let span := spanTicksOf (s.metStr n).frmSpan
  let s := judgeInputs n (cellMon g) f.epoch span s
  let c := (s.cell g).getD Cell.fresh
  let r := match s.strImage n with | some img => updateCell s f g adv span img c | none => (bareCell s f g adv c, false)
  let s := modStaging f.epoch (fun e => { e with recs := mapSet e.recs g r.1.record }) (s.setCell g r.1)
  let s := if r.2 then raise 62 g s else s
  let s := { s with est := { s.est with todo := s.est.todo.filter (· != g) } }
  let s := if strDone s n then finishString n adv f s else s
  if s.est.todo.isEmpty then finishFrame f s else s

/-- Lanes whose results failed their residue check: each files a report. The result has been discarded and the work
replayed, on another lane, or on the same one when it is the last (R499, R500, R505). -/
def reportResidues (l : List Nat) (s : State) : State := l.foldl (fun s i => fileReport { target := 3, index := i } s) s

/-- MEASUREMENT_UPDATE_DONE: it takes effect for a cell of the frame whose pages are settled. [Log: 26 DEDUCED, 68 DEDUCED] -/
def execMeasurementUpdateDone (d : UpdateDone) (s : State) : Out :=
  let g := d.g
  let s := if s.estFrame.isSome && s.live then reportResidues d.residues s else s
  match s.estFrame with
  | none => .next s
  | some f =>
    if !f.timeDone || !s.live || !s.est.todo.contains g || !cellSettled s f g then .next s
    else
      let n := cellStr g
      let s := onEst (measureUpdate f g) s
      .next (settleWork (if strDone s n then sendBals f.epoch [n] s else s))

end Sys2Proof.Machine
end

