-- ==== Sys2Proof/Machine/Traverse.lean ====
section
/-! DEFINITION. The traverse engine (R289 to R314): descriptors, admission, simulation steps, limits, results, and the
commands TRAVERSE_START, TRAVERSE_ABORT and TRAVERSE_STATUS. Simulated times are in 0.1 s. -/

namespace Sys2Proof.Machine

/-! ### The descriptor (R289, R292) -/

def parseJob (b : List Byte) : JobDesc :=
  { jobId := fieldU b 0 2, stop := fieldU b 2 1, flags := b.getD 3 0, nSteps := fieldU b 4 2, nAmb := fieldU b 6 2,
    strMask := b.getD 8 0, dtMax := fieldU b 10 2, maxWall := fieldU b 12 4, eTarget := fieldU b 16 8,
    profAddr := fieldU b 24 8, ambAddr := fieldU b 32 8, resAddr := fieldU b 40 8, trajAddr := fieldU b 48 8,
    trajLen := fieldU b 56 4 }

def JobDesc.balModel (d : JobDesc) : Bool := d.flags.getLsbD 0
def JobDesc.ambTrace (d : JobDesc) : Bool := d.flags.getLsbD 1
def JobDesc.traj (d : JobDesc) : Bool := d.flags.getLsbD 2
/-- DT_MAX, 0 selecting 600 (R289). -/
def JobDesc.maxDt (d : JobDesc) : Nat := if d.dtMax = 0 then 600 else d.dtMax

/-- The BAD_FIELD conditions of R292. -/
def jobFieldsOk (s : State) (b : List Byte) : Bool :=
  let d := parseJob b
  d.flags.toNat < 8 && fieldU b 9 1 == 0 && fieldU b 60 4 == 0 && d.jobId != 0 && !(s.trv.jobs.any (fun j => j.desc.jobId == d.jobId)) &&
    d.strMask != 0 && (List.range 8).all (fun n => !d.strMask.getLsbD n || s.enabled n) && 1 ≤ d.nSteps && d.nSteps ≤ 4096 &&
    (if d.ambTrace then 1 ≤ d.nAmb && d.nAmb ≤ 1024 else d.nAmb == 0) && (d.dtMax == 0 || (10 ≤ d.dtMax && d.dtMax ≤ 6000)) &&
    d.stop ≤ 2 && (d.stop != 2 || d.eTarget != 0) && d.profAddr % 8 == 0 && (!d.ambTrace || d.ambAddr % 8 == 0) && d.resAddr % 64 == 0 &&
    (!d.traj || (d.trajAddr % 64 == 0 && 51200 ≤ d.trajLen))

/-- TRAVERSE_START. [Log: 40 DEDUCED] -/
def execTraverseStart (sub : Submission) (buf : DmaRead) (s : State) : Out :=
  let b := bufBytes sub buf
  runCmd 0x20 sub
    [(sub.formOk [] && sub.hasBuf (sub.bufLen == 64), stBadField), (s.accepts 0x20, stBusy),
     (s.pwr.state != .lean && s.cairn.lastDone.isSome && !s.diag.work.isEmpty, stBadState), bufRead buf, (jobFieldsOk s b, stBadField)]
    (fun s => settleVcore { s with trv := { s.trv with jobs := s.trv.jobs ++ [{
      sub, desc := parseJob b, running := false, profile := [], ambient := [], startEpoch := 0, startTime := 0, strs := [], simTime := 0,
      lastDt := 10, steps := 0, cellSteps := 0, admitTick := 0, endReason := none, endTime := 0, trajDone := 0, aborts := [] }] } }) s

/-! ### Profile and ambient (R290, R291, R294) -/

def parseProf (b : List Byte) : ProfRec :=
  { dur := fieldU b 0 2, isCur := (b.getD 2 0).getLsbD 0, perStr := (b.getD 2 0).getLsbD 1, alloc := fieldU b 3 1,
    sets := (List.range 8).map (fun k => fieldS b (4 + 4 * k) 4) }

def profOk (d : JobDesc) (b : List Byte) : Bool :=
  let r := parseProf b
  1 ≤ r.dur && fieldU b 2 1 < 4 && r.alloc ≤ 2 && (!r.perStr || r.alloc == 0) &&
    (if r.perStr then (List.range 8).all (fun n => d.strMask.getLsbD n || r.sets.getD n 0 == 0)
     else (r.sets.drop 1).all (· == 0))

def slices (n size : Nat) (b : List Byte) : List (List Byte) := (List.range n).map (fun k => fit size (b.drop (size * k)))

def ambRising : List (Nat × Int) → Bool
  | a :: b :: r => a.1 < b.1 && ambRising (b :: r)
  | _ => true

/-- T_amb of a trace at a simulated time, in K (R291). -/
def ambAt : List (Nat × Int) → Nat → Option Rat
  | [], _ => none
  | [a], _ => some (kelvin ((a.2 : Rat) / 100))
  | a :: b :: r, t =>
    if t ≤ a.1 then some (kelvin ((a.2 : Rat) / 100))
    else if t ≤ b.1 then some (kelvin (((a.2 : Rat) + ((b.2 - a.2 : Int) : Rat) * ((t - a.1 : Nat) : Rat) / ((b.1 - a.1 : Nat) : Rat)) / 100))
    else ambAt (b :: r) t

/-! ### The seed (R295, R296) -/

/-- Log: 40 DEDUCED. -/
def seedCell (e : Staging) (g : Nat) (c : Cell) (f : Filter) (bal : Bool) : SimCell :=
  let r := (mapGet e.recs g).getD CellRec.invalid
  { g, kind := f.kind, x := f.x, q0 := c.q0, q100 := c.q100, tk := kelvin ((r.temp : Rat) / 100), bleeding := c.bleeding,
    balTicks := c.balTicks, duty := if bal then (mapGet e.acks g).getD 0 else 0, ok := !c.cold && !c.div.on && !r.flags.getLsbD 8 }

/-- Log: 40 DEDUCED. -/
def seedStr (s : State) (d : JobDesc) (n : Nat) : SimStr :=
  let e := s.est.seed
  let b := e.blks.getD n StrBlk.empty
  let own := e.cells.filter (fun c => cellStr c.1 = n && s.used c.1)
  let inc := d.strMask.getLsbD n
  { included := inc, held := false, startForced := inc && e.forced.getD n false, staleStart := inc && own.any (fun c => c.2.stale || c.2.lost),
    reason := 0, limitCell := 0xFFFF, tLimit := 0xFFFFFFFF, energy := 0, charge := 0, current := (b.iWin : Rat) / 100000, qStr := b.qStr,
    amb := e.ambs.getD n none, gate := gateShare (s.strCfg n) e.wTicks s.frm.scheme.periodNs, cfg := s.strCfg n, img := s.strImage n,
    cells := if inc then own.filterMap (fun c => c.2.filter.map (fun f => seedCell e c.1 c.2 f d.balModel)) else [] }

/-! ### Boundaries and steps (R297, R309) -/

def Job.duration (j : Job) : Nat := (j.profile.map (·.dur)).foldl (· + ·) 0
/-- TRAJ_DT; 0 without TRAJ. -/
def Job.trajDt (j : Job) : Nat := if j.desc.traj then max 10 ((j.duration + 254) / 255) else 0

/-- Records with the times at which they begin. -/
def recStarts : Nat → List ProfRec → List (Nat × ProfRec)
  | _, [] => []
  | t, r :: l => (t, r) :: recStarts (t + r.dur) l

/-- Trajectory times inside the profile. -/
def Job.trajTimes (j : Job) : List Nat := if j.desc.traj then ((List.range 256).map (· * j.trajDt)).filter (· < j.duration) else []

/-- Every boundary after time 0, in order and without repeats. -/
def Job.boundaries (j : Job) : List Nat :=
  let ends := (recStarts 0 j.profile).map (fun e => e.1 + e.2.dur)
  let extra := j.trajTimes.filter (fun t => t != 0 && !ends.contains t)
  (ends ++ extra).mergeSort (· ≤ ·)

/-- Stretches (start, end) after the merging of R297. [Log: 39 DEDUCED] -/
def mergeShort (last : Nat) : Nat → List Nat → List (Nat × Nat)
  | _, [] => []
  | a, b :: r => if b - a < 10 && b != last then mergeShort last a r else (a, b) :: mergeShort last b r

/-- Log: 39 DEDUCED. -/
def Job.stretches (j : Job) : List (Nat × Nat) := mergeShort j.duration 0 j.boundaries

/-- The stretch that holds the present simulated time. -/
def Job.stretch (j : Job) : Nat × Nat := (j.stretches.find? (fun e => e.1 ≤ j.simTime && j.simTime < e.2)).getD (j.simTime, j.simTime)

def overlap (a b c d : Nat) : Nat := min b d - max a c

/-- The time-weighted mean of a setpoint over a stretch (R297). [Log: 39 DEDUCED] -/
def Job.meanSet (j : Job) (e : Nat × Nat) (k : Nat) : Rat :=
  sumR ((recStarts 0 j.profile).map (fun r => (overlap e.1 e.2 r.1 (r.1 + r.2.dur) : Rat) * (r.2.sets.getD k 0 : Int))) / ((e.2 - e.1 : Nat) : Rat)

/-- The record whose KIND and ALLOC hold in a stretch: the last one that it spans. -/
def Job.kindOf (j : Job) (e : Nat × Nat) : ProfRec :=
  match (recStarts 0 j.profile).find? (fun r => r.1 < e.2 && e.2 ≤ r.1 + r.2.dur) with
  | some r => r.2
  | none => default

/-! ### Simulated cells -/

def SimStr.par (x : SimStr) (c : SimCell) : CellPar := { img := x.img.getD default, q0 := c.q0, q100 := c.q100 }
def SimCell.temp (c : SimCell) : Rat := match c.kind with | .physics => at_ c.x 11 | .ecm => c.tk
def SimStr.soc (x : SimStr) (c : SimCell) : Rat := socOfState (x.par c) c.kind c.x
/-- Published capacity in mAh. -/
def SimCell.cap (c : SimCell) : Rat := mAh (c.q100 - c.q0)

/-- Temperatures of the neighbours of R227 at the start of a step. -/
def SimStr.nbrs (x : SimStr) (c : SimCell) : List Rat :=
  let one (g : Nat) : List Rat :=
    if cellStr g = cellStr c.g && (x.cfg.cellsUsed.getD (cellMon g - 1) 0).getLsbD (cellPos g) then
      [((x.cells.find? (fun d => d.g == g)).map SimCell.temp).getD c.temp]
    else []
  (if c.g = 0 then [] else one (c.g - 1)) ++ one (c.g + 1)

def SimStr.env (x : SimStr) (amb : Option Rat) (c : SimCell) : CellEnv := { amb := amb, nbrs := x.nbrs c, tEcm := c.tk }

def SimStr.cellVolts (x : SimStr) (c : SimCell) (i : Rat) : Rat := modelVolts (x.par c) c.kind { amb := none, nbrs := [], tEcm := c.tk } c.x i

/-- Σ_c V_c(I) of R299. -/
def SimStr.volts (x : SimStr) (i : Rat) : Rat := sumR (x.cells.map (fun c => x.cellVolts c i))

/-- dV_c/dI at a current. -/
def SimStr.cellSlope (x : SimStr) (c : SimCell) (i : Rat) : Rat :=
  let p := x.par c
  let t := celsius c.temp
  let eta (e : Nat) (th : Rat) : Rat :=
    let z := 2 * p.img.exchange e th t
    2 * gasR * c.temp / faradayF / sqrtR (i * i + z * z)
  rhoOf c.kind c.x * res p.img 0 (x.soc c) t + (match c.kind with | .physics => eta 0 (at_ c.x 2) + eta 1 (at_ c.x 5) | .ecm => 0)

/-- d(I·ΣV_c)/dI. -/
def SimStr.powerSlope (x : SimStr) (i : Rat) : Rat := x.volts i + i * sumR (x.cells.map (fun c => x.cellSlope c i))

/-- The Newton iteration of R299. [Log: 39 DEDUCED] -/
def newton (f df : Rat → Rat) : Nat → Rat → Option Rat
  | 0, i => if absR (f i) < 1 then some i else none
  | n + 1, i => if absR (f i) < 1 then some i else newton f df n (i - f i / df i)

/-- The string current for a setpoint in W or A; none for NO_SOLUTION (R299). [Log: 39 DEDUCED] -/
def SimStr.solve (x : SimStr) (isCur : Bool) (target : Rat) : Option Rat :=
  if isCur then some target
  else match newton (fun i => i * x.volts i - target) x.powerSlope 4 x.current with
    | some i => if x.powerSlope i ≤ 0 && i < 0 then none else some i
    | none => none

/-- The current of R232 for a cell. -/
def SimStr.cellCurrent (x : SimStr) (c : SimCell) (i : Rat) : Rat :=
  i - (c.duty : Rat) / 16 * (1 / 2) * (x.cellVolts c x.current / rBleed x.cfg) * x.gate

def tenths (n : Nat) : Rat := (n : Rat) / 10

/-- One cell on current `i` for `dt`; the learned parameters stay at their seed values (R298 step 3). -/
def SimStr.stepCell (x : SimStr) (amb : Option Rat) (i : Rat) (dt : Nat) (c : SimCell) : SimCell :=
  let y := laneVec (modelStep (x.par c) c.kind (x.env amb c) c.x { cur := x.cellCurrent c i, sec := tenths dt })
  { c with x := y.take (learnedFrom c.kind) ++ c.x.drop (learnedFrom c.kind) }

/-- Every cell on current `i` for `dt`. -/
def SimStr.advance (x : SimStr) (amb : Option Rat) (i : Rat) (dt : Nat) : SimStr :=
  if dt = 0 then x
  else { x with cells := x.cells.map (x.stepCell amb i dt) }

/-! ### Allocation (R301) -/

def SimStr.headroom (x : SimStr) (chg : Bool) : Rat := minOf (x.cells.map (fun c => (if chg then 1 - x.soc c else x.soc c) * c.cap))

/-- The share of a string that is not held. -/
def share (l : List SimStr) (alloc : Nat) (chg : Bool) (x : SimStr) : Rat :=
  let act := l.filter (fun y => y.included && !y.held)
  let w (y : SimStr) : Rat := match alloc with | 1 => (y.qStr : Rat) | 2 => y.headroom chg | _ => 1
  let d := sumR (act.map w)
  if d = 0 then 1 / ((act.length : Nat) : Rat) else w x / d

/-- The setpoint of string `n` in W or A for a step. -/
def Job.target (j : Job) (e : Nat × Nat) (n : Nat) (x : SimStr) : Rat :=
  let r := j.kindOf e
  let v := if r.perStr then j.meanSet e n else j.meanSet e 0 * share j.strs r.alloc (decide (0 < j.meanSet e 0)) x
  if r.isCur then v / 100000 else v

/-! ### Limits (R302) -/

/-- A limit met in a step: instant from the step's start in 0.1 s, exact, with its cell and reason. -/
structure Crossing where
  instant : Rat
  g      : Nat
  reason : Nat
  deriving DecidableEq, Repr

/-- Where a quantity crosses a limit inside a step. -/
def crossAt (a b lim : Rat) (up : Bool) (dt : Nat) : Option Rat :=
  if (if up then lim ≤ a else a ≤ lim) then some 0
  else if (if up then lim ≤ b else b ≤ lim) then some ((dt : Rat) * (lim - a) / (b - a))
  else none

/-- The crossings of one cell over a step on string current `i`. -/
def cellCrossings (x y : SimStr) (i : Rat) (dt : Nat) (a b : SimCell) : List Crossing :=
  let cfg := x.cfg
  let va := x.cellVolts a i
  let vb := y.cellVolts b i
  let one (r : Nat) (q : Option Rat) : List Crossing := match q with | some t => [{ instant := t, g := a.g, reason := r }] | none => []
  (if 0 < i then one 1 (crossAt va vb ((cfg.cellVMax : Rat) / 10000) true dt) else []) ++
    (if i < 0 then one 2 (crossAt va vb ((cfg.cellVMin : Rat) / 10000) false dt) else []) ++
    one 3 (crossAt (celsius a.temp) (celsius b.temp) ((cfg.cellTMax : Rat) / 100) true dt) ++
    (if i = 0 then [] else one 4 (crossAt (celsius a.temp) (celsius b.temp) ((cfg.cellTMin : Rat) / 100) false dt))

def earlier (a b : Crossing) : Bool := a.instant < b.instant || (a.instant == b.instant && (a.g < b.g || (a.g == b.g && a.reason ≤ b.reason)))

/-- Log: 39 DEDUCED. -/
def firstCrossing (l : List Crossing) : Option Crossing :=
  l.foldl (fun a c => match a with | some b => if earlier b c then a else some c | none => some c) none

/-- The cell limit of R273 (10 s) on the simulated state: forced to 0 at or past the cell's limits. Their dwells have no
meaning here (R304). [Log: 39 DEDUCED] -/
def SimStr.cellLimit (x : SimStr) (chg : Bool) (c : SimCell) : CellLim :=
  let r := stateLimit x.cfg (x.par c) c.kind c.x 0 c.temp chg 10
  let v := x.cellVolts c x.current * 10000
  let t := celsius c.temp * 100
  if (x.cfg.cellTMax : Rat) ≤ t || (chg && ((x.cfg.cellVMax : Rat) ≤ v || t ≤ (x.cfg.cellTMin : Rat))) || (!chg && v ≤ (x.cfg.cellVMin : Rat)) then
    { r with mag := 0, src := 3 }
  else r

/-- The cell with the smallest cell limit at the start of a step. -/
def SimStr.weakCell (x : SimStr) (chg : Bool) : Nat :=
  match weakest (x.cells.map (fun c => (c.g, x.cellLimit chg c))) with
  | some e => e.1
  | none => 0xFFFF

/-! ### One string's step (R298) -/

/-- A string over one step: its states at the start, at its limit if it meets one, and at the end. -/
structure StrStep where
  start : SimStr
  lim   : Option (Nat × SimStr)
  fin   : SimStr
  deriving DecidableEq, Repr

/-- Log: 39 DEDUCED. -/
def lerpVec (a b : Vec) (w : Rat) : Vec := List.zipWith (fun p q => lerp p q w) a b

/-- States between two points of a step, with the energy and charge accumulated there. [Log: 39 DEDUCED] -/
def lerpStr (a b : SimStr) (w : Rat) : SimStr :=
  { a with energy := lerp a.energy b.energy w, charge := lerp a.charge b.charge w,
           cells := List.zipWith (fun c d => { c with x := lerpVec c.x d.x w }) a.cells b.cells }

def ratio (a b : Nat) : Rat := if b = 0 then 0 else (a : Rat) / (b : Rat)

/-- The state at a time inside a step of length `dt`; the limit's record is that of the whole step (R314). -/
def StrStep.stateAt (p : StrStep) (dt e : Nat) : SimStr :=
  let q := match p.lim with
    | some (m, y) => if e < m then { lerpStr p.start y (ratio e m) with current := y.current } else { lerpStr y p.fin (ratio (e - m) (dt - m)) with current := 0 }
    | none => { lerpStr p.start p.fin (ratio e dt) with current := p.fin.current }
  { q with held := p.fin.held, reason := p.fin.reason, limitCell := p.fin.limitCell, tLimit := p.fin.tLimit }

/-- Energy and charge of a stretch on current `i` between two states (R308). -/
def SimStr.deliver (x y : SimStr) (i : Rat) (dt : Nat) : SimStr :=
  { y with energy := x.energy - i * (x.volts i + y.volts i) / 2 * tenths dt, charge := x.charge + i * tenths dt }

/-- The bleed states of R215 to R217 on the simulated state, after a step of `dt`. -/
def SimStr.balance (x : SimStr) (dt : Nat) : SimStr :=
  let cfg := x.cfg
  let ok (c : SimCell) : Bool :=
    c.ok && celsius c.temp < (cfg.balTMax : Rat) / 100 && (cfg.cellVMin : Rat) / 10000 < x.cellVolts c x.current && celsius c.temp < (cfg.cellTMax : Rat) / 100
  let b := bleedCharges cfg ((x.cells.filter ok).map (fun c => (c.g, x.soc c, c.cap)))
  let nom : Rat := match x.img with | some i => (imgQNom i : Rat) | none => 0
  { x with cells := x.cells.map (fun c =>
    let r := bleedNext cfg x.gate nom (x.cellVolts c x.current) (dt * 24000000) (mapGet b c.g) c.bleeding c.balTicks
    { c with bleeding := r.1, balTicks := r.2.1, duty := r.2.2 }) }

/-- The string becomes held at an instant `m` of a step that began at `t` (R302, R303). -/
def SimStr.hold (x : SimStr) (reason cell t m : Nat) : SimStr :=
  { x with held := true, reason := reason, limitCell := cell, tLimit := t + m }

/-- The step of one string. [Log: 39 DEDUCED] -/
def strStep (bal isCur : Bool) (target : Rat) (amb : Option Rat) (t dt : Nat) (x : SimStr) : StrStep :=
  let done (y : SimStr) : SimStr := if bal then y.balance dt else y
  let rest (x : SimStr) (d : Nat) : SimStr := { x.advance amb 0 d with current := 0 }
  if !x.included then { start := x, lim := none, fin := x }
  else if x.held then { start := x, lim := none, fin := done (rest x dt) }
  else
    let stop (r : Nat) (chg : Bool) : StrStep :=
      let h := x.hold r (x.weakCell chg) t 0
      { start := x, lim := some (0, { h with current := 0 }), fin := done (rest h dt) }
    match x.solve isCur target with
    | none => stop 6 (decide (0 < target))
    | some i =>
      if ((if 0 < i then x.cfg.iChgMax else x.cfg.iDisMax : Int) : Rat) < absR i * 100000 then stop 5 (decide (0 < i))
      else
        let y := x.advance amb i dt
        match firstCrossing ((x.cells.zip y.cells).flatMap (fun e => cellCrossings x y i dt e.1 e.2)) with
        | none => { start := x, lim := none, fin := done { x.deliver y i dt with current := i } }
        | some c =>
          let m := min dt (roundAway c.instant).toNat
          let z := x.deliver (lerpStr x y (ratio m dt)) i m
          let h := { z.hold c.reason c.g t m with current := i }
          { start := x, lim := some (m, h), fin := done (rest h (dt - m)) }

/-! ### The length of a step (R297) -/

/-- On the current of the previous step, no cell changes SoC by more than 0.50 % or T_c by more than 0.50 K. -/
def calmOver (j : Job) (amb : SimStr → Option Rat) (dt : Nat) : Bool :=
  j.strs.all (fun x => (x.cells.zip (x.advance (amb x) x.current dt).cells).all (fun e =>
    absR (x.soc e.2 - x.soc e.1) ≤ 5 / 1000 && absR (e.2.temp - e.1.temp) ≤ 1 / 2))

/-- Δt_c. [Log: 39 DEDUCED] -/
def candidateDt (j : Job) (amb : SimStr → Option Rat) (e : Nat × Nat) : Nat :=
  if j.simTime = e.1 then 10
  else
    let cap := min j.desc.maxDt (2 * j.lastDt)
    (((List.range cap).map (cap - ·)).find? (fun d => 10 ≤ d && calmOver j amb d)).getD 10

def stepLen (j : Job) (amb : SimStr → Option Rat) (e : Nat × Nat) : Nat :=
  let c := candidateDt j amb e
  let r := e.2 - j.simTime
  if r < c + 10 then r else c

/-! ### Trajectory points (R309) -/

def minMaxSoc (x : SimStr) : Nat × Nat :=
  let l := x.cells.map (fun c => (clampI 0 1000000 (roundAway (x.soc c * 1000000))).toNat)
  (minNat l, maxNat l)

/-- Log: 39 DEDUCED. -/
def trajStr (t : Nat) (x : SimStr) : List Byte :=
  if !x.included then zeros 24
  else
    let v := x.volts x.current
    let m := minMaxSoc x
    sBytes 4 (pubS 32 (x.current * 100000)) ++ sBytes 4 (pubS 32 (x.current * v)) ++ leBytes 4 (pubU 32 (v * 1000)) ++ leBytes 4 m.1 ++
      leBytes 4 m.2 ++ sBytes 2 (if x.cells.isEmpty then 0 else pubS 16 (maxOf (x.cells.map (fun c => celsius c.temp)) * 100)) ++
      leBytes 2 (bit (x.held && decide (x.tLimit ≤ t)) 0 + bit x.included 1)

/-- Log: 39 DEDUCED. -/
def trajPoint (t : Nat) (l : List SimStr) : List Byte := leBytes 4 t ++ zeros 4 ++ l.flatMap (trajStr t)

/-- One more point after those written. -/
def writePoint (t : Nat) (l : List SimStr) (js : Job × State) : Job × State :=
  ({ js.1 with trajDone := js.1.trajDone + 1 }, js.2.dma (js.1.desc.trajAddr + 200 * js.1.trajDone) (trajPoint t l))

/-- Points that fall after `t0`, up to `t1`, or before it where the job ends there. -/
def writePoints (t0 t1 : Nat) (ends : Bool) (l : List StrStep) (dt : Nat) (js : Job × State) : Job × State :=
  (js.1.trajTimes.filter (fun t => t0 < t && (if ends then t < t1 else t ≤ t1))).foldl
    (fun js t => writePoint t (l.map (fun p => p.stateAt dt (t - t0))) js) js

/-- The final point at END_TIME, unless that time has its point already. -/
def writeFinal (js : Job × State) : Job × State :=
  let j := js.1
  if j.desc.traj && !(0 < j.trajDone && (j.trajDone - 1) * j.trajDt = j.endTime) then writePoint j.endTime j.strs js else js

/-! ### Ends and results (R304, R307, R308, R310) -/

def putJob (j : Job) (s : State) : State :=
  { s with trv := { s.trv with jobs := s.trv.jobs.map (fun k => if k.desc.jobId = j.desc.jobId then j else k) } }

def dropJob (id : Nat) (s : State) : State := { s with trv := { s.trv with jobs := s.trv.jobs.filter (fun k => k.desc.jobId != id) } }

/-- A job leaves the turn: where it was dealt a chunk last, the turn stands at the job before it, so that the one after it
comes next (R305). -/
def leaveTurn (id : Nat) (s : State) : State :=
  if s.trv.turn = some id then
    { s with trv := { s.trv with turn := (((s.trv.jobs.filter (fun j => j.running && j.endReason.isNone)).map (·.desc.jobId)).takeWhile (· != id)).getLast? } }
  else s

/-- A running job ends: its results are to be written. -/
def endJob (reason time : Nat) (j : Job) (s : State) : State :=
  let js := writeFinal ({ j with endReason := some reason, endTime := time }, leaveTurn j.desc.jobId s)
  putJob js.1 js.2

def mWh (joule : Rat) : Rat := joule / 36 * 10

def strResult (n : Nat) (x : SimStr) : List Byte :=
  if !x.included then zeros 4 ++ leBytes 2 0xFFFF ++ zeros 2 ++ leBytes 4 0xFFFFFFFF ++ zeros 52
  else
    let m := minMaxSoc x
    let mean := socMean (x.cells.map (fun c => ((clampI 0 1000000 (roundAway (x.soc c * 1000000))).toNat, pubU 32 c.cap)))
    [BitVec.ofNat 8 n, BitVec.ofNat 8 (1 + bit x.held 1 + bit x.startForced 2 + bit x.staleStart 3), BitVec.ofNat 8 x.reason, 0] ++
      leBytes 2 x.limitCell ++ zeros 2 ++ leBytes 4 x.tLimit ++ zeros 4 ++ sBytes 8 (pubS 64 (mWh x.energy)) ++
      sBytes 8 (pubS 64 (micro x.charge)) ++ leBytes 4 m.1 ++ leBytes 4 mean ++ leBytes 4 m.2 ++ zeros 20

/-- The results block of 576 bytes. -/
def resultsBlock (s : State) (j : Job) : List Byte :=
  leBytes 2 j.desc.jobId ++ [BitVec.ofNat 8 (j.endReason.getD 4), j.desc.flags &&& 3#8] ++ leBytes 4 j.endTime ++ leBytes 8 j.startEpoch ++
    leBytes 8 j.startTime ++ leBytes 8 j.cellSteps ++ leBytes 4 j.steps ++
    leBytes 4 (if j.running then pubU 32 (((s.clk.ticks - j.admitTick : Nat) : Rat) / 240000) else 0) ++
    sBytes 8 (clampS 64 ((j.strs.map (fun x => pubS 64 (mWh x.energy))).foldl (· + ·) 0)) ++ leBytes 2 j.trajDone ++ zeros 2 ++ leBytes 4 j.trajDt ++ zeros 8 ++
    (List.range 8).flatMap (fun n => strResult n (j.strs.getD n default))

def jobResult (j : Job) : List Byte := leBytes 2 j.desc.jobId ++ [BitVec.ofNat 8 (j.endReason.getD 0), 0] ++ zeros 4 ++ leBytes 8 j.cellSteps

/-- Status of a job's completion (R310). -/
def endStatus (reason : Nat) : Nat := if reason ≤ 3 then stOK else if reason = 4 then stAborted else stTimeout

/-- Commands that asked for the abort of a job complete. -/
def finishAborts (j : Job) (status : Nat) (s : State) : State := j.aborts.foldl (fun s a => complete 0x21 a status [] s) s

/-- TRAVERSE_RESULTS_DONE: the results are in host memory, or their write failed, or one of the trajectory's did. A job
that was never admitted raises no event. [Log: 40 DEDUCED] -/
def execTraverseResultsDone (jobId : Nat) (writes : JobWrites) (s : State) : Out :=
  match s.trv.jobs.find? (fun j => j.desc.jobId == jobId && j.endReason.isSome) with
  | none => .next s
  | some j =>
    let st := if writes.results && writes.traj then endStatus (j.endReason.getD 4) else stDmaError
    let s := if writes.results then s.dma j.desc.resAddr (resultsBlock s j) else s
    let s := complete 0x20 j.sub st (jobResult j) (dropJob jobId s)
    let s := if j.running then raise (if st = stOK then 34 else 35) jobId s else s
    .next (settleVcore (finishAborts j stOK s))

/-- A queued job leaves the queue; a header with END_REASON 4 and string records zeroed is to be written (R311). -/
def abortQueued (j : Job) (s : State) : State := putJob { j with endReason := some 4, strs := List.replicate 8 default } s

/-- Every job ends with ABORTED (R313). [Log: 40 DEDUCED] -/
def abortJobs (s : State) : State :=
  s.trv.jobs.foldl (fun s j => if j.endReason.isSome then s else if j.running then endJob 4 j.simTime j s else abortQueued j s) s

/-! ### Admission (R293, R294) -/

/-- When the command of a job was fetched: its place in the command table. -/
def fetchRank (s : State) (j : Job) : Nat := s.hif.table.findIdx (fun e => e.sub == j.sub)

/-- Queued jobs in the order in which their commands were fetched (R293). -/
def queuedJobs (s : State) : List Job :=
  (s.trv.jobs.filter (fun j => !j.running && j.endReason.isNone)).foldl (fun l j =>
    l.takeWhile (fun k => fetchRank s k ≤ fetchRank s j) ++ j :: l.dropWhile (fun k => fetchRank s k ≤ fetchRank s j)) []

/-- A job runs, after those admitted before it. -/
def admitJob (j : Job) (s : State) : State :=
  { s with trv := { s.trv with jobs := s.trv.jobs.filter (·.running) ++ j :: s.trv.jobs.filter (fun k => !k.running && k.desc.jobId != j.desc.jobId) } }

/-- TRAVERSE_ADMISSION: the queued job fetched first is read, checked and seeded. [Log: 40 DEDUCED] -/
def execTraverseAdmission (profile : DmaRead) (ambient : DmaRead) (s : State) : Out :=
  match (queuedJobs s).head? with
  | none => .next s
  | some j =>
    if 2 * s.diag.work.length ≤ jobsRunning s then .next s
    else
      let d := j.desc
      let refuse (st : Nat) : Out := .next (settleVcore (complete 0x20 j.sub st (jobResult j) (dropJob d.jobId s)))
      if profile.isNone || (d.ambTrace && ambient.isNone) then refuse stDmaError
      else
        let recs := slices d.nSteps 36 (profile.getD [])
        let ambs := slices d.nAmb 8 (ambient.getD [])
        let trace := ambs.map (fun b => (fieldU b 0 4, fieldS b 4 2))
        if !(recs.all (profOk d)) || !(ambs.all (fun b => fieldU b 6 2 == 0)) || !ambRising trace then refuse stBadField
        else
          let j := { j with running := true, profile := recs.map parseProf, ambient := trace, startEpoch := s.est.seed.epoch,
                            startTime := s.est.seed.tSample, strs := (List.range 8).map (seedStr s d), admitTick := s.clk.ticks }
          let js := if d.traj then writePoint 0 j.strs (j, s) else (j, s)
          .next (settleWork (admitJob js.1 js.2))

/-! ### A chunk (R298, R304, R305) -/

/-- E_CONT in mWh. -/
def contEnergy (l : List SimStr) : Rat := mWh (sumR (l.map (·.energy)))

/-- Where a quantity that is linear between two times reaches a magnitude: `a` and `b` are its values there. -/
def magCross (target a b : Rat) (t0 t1 : Nat) : Option Rat :=
  let at_ (goal : Rat) : Rat := (t0 : Rat) + ((t1 - t0 : Nat) : Rat) * (goal - a) / (b - a)
  if target ≤ absR a then some t0
  else if target ≤ b then some (at_ target)
  else if b ≤ -target then some (at_ (-target))
  else none

/-- The instant in a step at which |E_CONT| reaches a target. Between the instants at which strings meet their limits every
string's energy is linear (R302 to R304). -/
def energyEnd (target : Rat) (l : List StrStep) (dt : Nat) : Option Nat :=
  let times := 0 :: ((l.filterMap (fun p => p.lim.map (·.1))).mergeSort (· ≤ ·) ++ [dt])
  let e (t : Nat) : Rat := contEnergy (l.map (fun p => p.stateAt dt t))
  ((times.zip (times.drop 1)).findSome? (fun p => magCross target (e p.1) (e p.2) p.1 p.2)).map (fun t => min dt (roundAway t).toNat)

/-- Where the job ends inside or at the end of a step from `t` of length `dt`: reason and time (R304, R314). -/
def stepEnd (j : Job) (l : List StrStep) (t dt : Nat) : Option (Nat × Nat) :=
  let fins := l.map (·.fin)
  let lims := l.filterMap (fun p => p.lim.map (·.1))
  let reached := if j.desc.stop = 2 then energyEnd j.desc.eTarget l dt else none
  if let some e := reached then some (2, t + e)
  else if j.desc.stop = 1 && !lims.isEmpty then some (1, t + minNat lims)
  else if t + dt = j.duration then some (0, t + dt)
  else if fins.all (fun x => !x.included || x.held) then some (3, t + dt)
  else none

/-- One simulation step of a job: the new job, and whether it has ended. [Log: 39 DEDUCED] -/
def jobStep (j : Job) (s : State) : State :=
  let e := j.stretch
  let t := j.simTime
  let amb (x : SimStr) : Option Rat := if j.desc.ambTrace then ambAt j.ambient t else x.amb
  let dt := stepLen j amb e
  let l := j.strs.zipIdx.map (fun p => strStep j.desc.balModel (j.kindOf e).isCur (j.target e p.2 p.1) (amb p.1) t dt p.1)
  let n := (j.strs.map (fun x => x.cells.length)).foldl (· + ·) 0
  let k := { j with simTime := t + dt, lastDt := dt, steps := j.steps + 1, cellSteps := j.cellSteps + n }
  match stepEnd j l t dt with
  | none =>
    let js := writePoints t (t + dt) false l dt ({ k with strs := l.map (·.fin) }, s)
    putJob js.1 js.2
  | some (r, time) =>
    let js := writePoints t time true l dt (k, s)
    endJob r time { js.1 with strs := l.map (fun p => p.stateAt dt (time - t)) } js.2

/-- A lane has ended its chunk, or lost it. -/
def freeLane (lane : Nat) (s : State) : State := { s with trv := { s.trv with lanes := s.trv.lanes.set lane .idle } }

/-- TRAVERSE_ABORT stops a running job at the end of its current chunk; where the job has ended in that chunk, its own
reason stands (R311, R314). A job that has been stopped already, while another lane held a chunk of it, keeps the commands
that wait for its results. -/
def abortAtChunk (jobId : Nat) (s : State) : State :=
  match s.trv.jobs.find? (fun k => k.desc.jobId == jobId) with
  | none => s
  | some k =>
    if k.aborts.isEmpty then s
    else match k.endReason with
      | none => endJob 4 k.simTime k s
      | some 4 => s
      | some _ => finishAborts k stBadState (putJob { k with aborts := [] } s)

/-- Some lane holds a chunk of the job. -/
def chunkHeld (jobId : Nat) (s : State) : Bool := s.trv.lanes.contains (.chunk jobId)

/-- A job asked to stop whose chunk was lost with its lane stops at once: it has no current chunk. [Log: 40 DEDUCED] -/
def abortIdle (jobId : Nat) (s : State) : State := if chunkHeld jobId s then s else abortAtChunk jobId s

/-- TRAVERSE_CHUNK_END: the chunk of a job's present step that a lane holds ends; `last` says that the step is complete. A
result that fails its residue check is discarded, and its lane files a report (R499). The lane then takes frame work, if
any is pending, or the next chunk (R35, R305). -/
def execTraverseChunkEnd (jobId lane : Nat) (residueOk last : Bool) (s : State) : Out :=
  if s.trv.lanes.getD lane .idle != .chunk jobId then .next s
  else
    let s := freeLane lane s
    if !residueOk then .next (settleWork (abortIdle jobId (fileReport { target := 3, index := lane } s)))
    else
      match s.trv.jobs.find? (fun j => j.desc.jobId == jobId && j.running && j.endReason.isNone) with
      | none => .next (settleWork s)
      | some j => .next (settleWork (abortAtChunk jobId (if last then jobStep j s else s)))

/-- LANE_CHUNK_TIMEOUT: a chunk has not been acknowledged within 200 µs of its bound (R499); it is replayed on another
lane. -/
def execLaneChunkTimeout (lane : Nat) (s : State) : Out :=
  let t := fileReport { target := 3, index := lane } (freeLane lane s)
  match s.trv.lanes.getD lane .idle with
  | .idle => .next s
  | .frame => .next (settleWork t)
  | .chunk j => .next (settleWork (abortIdle j t))

/-- TRAVERSE_WALL_TIMEOUT: a running job's MAX_WALL has passed. Its own END_REASON stands against a TRAVERSE_ABORT that
waits for the end of the same chunk (R304, R314). -/
def execTraverseWallTimeout (jobId : Nat) (s : State) : Out :=
  match s.trv.jobs.find? (fun j => j.desc.jobId == jobId && j.running && j.endReason.isNone) with
  | some j => .next (if j.desc.maxWall = 0 || decide (s.clk.ticks ≤ j.admitTick + j.desc.maxWall * 24000000) then s
      else settleWork (finishAborts j stBadState (endJob 5 j.simTime { j with aborts := [] } s)))
  | none => .next s

/-! ### TRAVERSE_ABORT, TRAVERSE_STATUS (R311, R312) -/

/-- TRAVERSE_ABORT. A running job stops at the end of its current chunk; one that holds no chunk stops at once. [Log: 40 DEDUCED] -/
def execTraverseAbort (sub : Submission) (s : State) : Out :=
  let id := sub.pU 0 2
  let named := s.trv.jobs.find? (fun j => j.desc.jobId == id && j.endReason.isNone)
  runCmd 0x21 sub [(sub.formOk [(0, 2)] && sub.noBuf, stBadField), (s.accepts 0x21, stBusy), (named.isSome, stBadState)]
    (fun s => match named with
      | none => s
      | some j =>
        let k := { j with aborts := j.aborts ++ [sub] }
        if !j.running then settleVcore (abortQueued k s)
        else if chunkHeld id s then putJob k s else endJob 4 k.simTime k s) s

/-- Records of R312: running jobs in order of admission, then queued jobs. -/
def statusRecords (s : State) : List (List Byte) :=
  (s.trv.jobs.filter (·.running)).map (fun j => leBytes 2 j.desc.jobId ++ [2, 0] ++ leBytes 4 (j.endReason.elim j.simTime (fun _ => j.endTime)) ++ leBytes 8 j.cellSteps) ++
    ((queuedJobs s).zipIdx.map (fun e => leBytes 2 e.1.desc.jobId ++ [1, BitVec.ofNat 8 (e.2 + 1)] ++ zeros 12))

/-- TRAVERSE_STATUS. [Log: 40 DEDUCED] -/
def execTraverseStatus (sub : Submission) (s : State) : Out :=
  runCmd 0x22 sub
    [(sub.formOk [] && sub.bufLen % 16 == 0 && (sub.bufLen == 0 || sub.hasBuf true), stBadField), (s.accepts 0x22, stBusy)]
    (fun s => complete 0x22 sub stOK [BitVec.ofNat 8 (statusRecords s).length]
      (s.dma sub.bufAddr (((statusRecords s).take (sub.bufLen / 16)).flatten))) s

end Sys2Proof.Machine
end

