-- ==== Sys2Proof/Machine/Cairns.lean ====
section
/-! DEFINITION. Cairns (R315 to R337): layout, write order, deadlines, slots, ALIVE, and the commands CAIRN_SETUP and
STATE_READ. -/

namespace Sys2Proof.Machine

/-! ### Layout (R320 to R329) -/

/-- A string block of R323. -/
def blkBytes (n : Nat) (b : StrBlk) : List Byte :=
  [BitVec.ofNat 8 n, BitVec.ofNat 8 b.ropeMode, BitVec.ofNat 8 b.thrStep, 0] ++ leBytes 4 b.sflags.toNat ++ sBytes 4 b.iWin ++ leBytes 4 b.stv ++
    leBytes 4 b.vSum ++ leBytes 4 b.qStr ++ sBytes 8 b.net ++ leBytes 8 b.qIn ++ leBytes 8 b.qOut ++ leBytes 8 b.unc ++ leBytes 4 b.socMin ++
    leBytes 4 b.socMean ++ leBytes 4 b.socMax ++ leBytes 4 b.tte ++ leBytes 8 b.eRem ++ leBytes 4 b.ttf ++ leBytes 2 b.nStale ++ leBytes 2 b.nLost ++
    b.pChg.flatMap (sBytes 4) ++ b.pDis.flatMap (sBytes 4) ++ leBytes 2 b.limitCell ++ sBytes 2 b.tHot ++ zeros 140

/-- A cell record of R326. -/
def recBytes (r : CellRec) : List Byte :=
  leBytes 2 r.volt ++ sBytes 2 r.temp ++ leBytes 4 r.soc ++ leBytes 4 r.qcap ++ leBytes 2 r.res ++ leBytes 2 r.sigma ++ leBytes 2 r.soh ++
    [r.bal, 0] ++ leBytes 4 r.flags.toNat ++ leBytes 2 r.iChg ++ leBytes 2 r.iDis ++ leBytes 2 r.lli ++
    [BitVec.ofNat 8 r.lamPe, BitVec.ofNat 8 r.lamNe]

/-- The record of a position outside the masks (R11). [Log: 37 DEDUCED, 42 DEDUCED] -/
def unusedRec : CellRec :=
  { volt := 0, temp := 0, soc := 0, qcap := 0, res := 0, sigma := 0xFFFF, soh := 0, bal := 0, flags := 0x8000#32, iChg := 0, iDis := 0, lli := 0,
    lamPe := 0, lamNe := 0 }

def Staging.record (e : Staging) (g : Nat) : CellRec := (mapGet e.recs g).getD unusedRec

def StrBlk.enabled (b : StrBlk) : Bool := b.sflags.getLsbD 0

/-- The smallest valid value, or 0xFFFF_FFFF (R265). -/
def minValid (l : List Nat) : Nat := l.foldl min 0xFFFFFFFF

/-- The container block of R328 from the string blocks and the records of the same cairn (R265, R315). -/
def contBytes (e : Staging) : List Byte :=
  let b := e.blks.filter StrBlk.enabled
  let recs := (e.recs.map (·.2)).filter (fun r => r.flags.getLsbD 0)
  let sumN (f : StrBlk → Nat) : Nat := (b.map f).foldl (· + ·) 0
  let sumI (f : StrBlk → Int) : Int := clampI (-2147483648) 2147483647 ((b.map f).foldl (· + ·) 0)
  leBytes 4 (min 0xFFFFFFFF (sumN (·.qStr))) ++ leBytes 4 (minNat (recs.map CellRec.soc)) ++ leBytes 4 (socMean (recs.map (fun r => (r.soc, r.qcap)))) ++
    leBytes 4 (maxNat (recs.map CellRec.soc)) ++ leBytes 8 (min (two64 - 1) (sumN (·.eRem))) ++ leBytes 4 (minValid (b.map (·.tte))) ++
    leBytes 4 (minValid (b.map (·.ttf))) ++ (List.range 3).flatMap (fun h => sBytes 4 (sumI (fun x => x.pChg.getD h 0))) ++
    (List.range 3).flatMap (fun h => sBytes 4 (sumI (fun x => x.pDis.getD h 0))) ++ zeros 8

/-- Bytes 64 to 133,247. -/
def bodyBytes (e : Staging) : List Byte :=
  (List.range 8).flatMap (fun n => blkBytes n (e.blks.getD n StrBlk.empty)) ++ (List.range 4096).flatMap (fun g => recBytes (e.record g)) ++ contBytes e

/-- The header of R321; `busy` is bit 63 of EPOCH. -/
def headerBytes (s : State) (f : FrameRec) (e : Staging) (busy : Bool) : List Byte :=
  let count (i : Nat) : Nat := (e.recs.filter (fun r => r.2.flags.getLsbD i)).length
  let prev := s.cairn.abandoned.any (fun k => k + 1 == f.epoch)
  let strEn := (List.range 8).foldl (fun a n => a + bit (e.blks.getD n StrBlk.empty).enabled n) 0
  leBytes 4 0x4341524E ++ leBytes 2 1 ++ leBytes 2 (hflags f prev) ++ leBytes 8 (f.epoch + bit busy 63) ++ leBytes 8 f.tSample ++
    leBytes 4 f.wTicks ++ leBytes 4 (min 0xFFFFFFFF f.spanTicks) ++ leBytes 4 (f.win % two32) ++ leBytes 2 (count 0) ++ leBytes 2 (count 1) ++
    leBytes 2 (count 2) ++ [BitVec.ofNat 8 strEn, 0] ++ leBytes 4 s.cairn.skipped ++ leBytes 4 f.takeGen ++ zeros 12

/-- The trailer of R329 for the bytes before it. -/
def trailerBytes (epoch : Nat) (before : List Byte) : List Byte :=
  let t := leBytes 8 epoch ++ zeros 4
  t ++ leBytes 4 (crc32c (before ++ t)).toNat

/-! ### Slots (R317, R318) -/

/-- Log: 41 DEDUCED. -/
def noSlots (l : List Nat) : Bool := l.all (· == 0)

/-- The slots in force at the next cairn. -/
def State.slotsNext (s : State) : List Nat := s.cairn.newSlots.getD s.cairn.slots

/-- The slot of a new cairn. -/
def nextSlot (lb lc : Option Nat) : Nat :=
  match lb with
  | none => 0
  | some b => if lc == some ((b + 1) % 3) then (b + 2) % 3 else (b + 1) % 3

/-- A waiting setup takes force at the next cairn that the publisher begins. -/
def takeSlots (s : State) : State :=
  match s.cairn.newSlots with
  | some l => { s with cairn := { s.cairn with slots := l, newSlots := none, lb := none, lc := none } }
  | none => s

/-- The oldest frame whose cairn is neither complete nor abandoned (R29). -/
def State.cairnFrame (s : State) : Option FrameRec := s.frm.frames.find? (fun f => !f.ended)

def stagingOf (s : State) (epoch : Nat) : Staging := s.est.staging.getD (epoch % 3) Staging.empty

/-- The staging buffer of a frame with the rope modes of the end of its sweep (R210). -/
def cairnStaging (s : State) (epoch : Nat) (modes : List Nat) : Staging :=
  let e := stagingOf s epoch
  { e with blks := e.blks.zipIdx.map (fun b => { b.1 with ropeMode := modes.getD b.2 3 }) }

/-- Every rope has ended the sweep of a frame. -/
def sweepsOver (s : State) (f : FrameRec) : Bool :=
  f.swept && (List.range 8).all (fun n => match (s.ropeStr n).sweep with | some w => w.epoch != f.epoch || w.done | none => true)

/-- The close of frame k+3's window has come, or in HOLD, where frames are only counted, that frame (R28, R476). -/
def cairnLate (s : State) (f : FrameRec) : Bool :=
  s.frm.frames.any (fun x => f.epoch + 3 ≤ x.epoch && x.closed) || (s.pwr.state == .hold && f.epoch + 3 ≤ s.frm.epoch)

/-- CAIRN_BEGIN: the header goes out with BUSY, and the body begins to follow (R330). A frame's cairn waits for the end of
its sweeps, whose rope modes it names (R210). [Log: 20 DESIGN CHOICE, 41 DEDUCED] -/
def execCairnBegin (s : State) : Out :=
  match s.cairnFrame with
  | none => .next s
  | some f =>
    if s.cairn.writing.isSome || !f.updated || !sweepsOver s f || noSlots s.slotsNext || !s.hif.linkUp || cairnLate s f then .next s
    else
      let s := takeSlots s
      let slot := nextSlot s.cairn.lb s.cairn.lc
      let addr := s.cairn.slots.getD slot 0
      let e := cairnStaging s f.epoch f.modes
      let (k, s) := s.draw
      let s := (s.dma addr (headerBytes s f e true)).dma (addr + 64) ((bodyBytes e).take (Config.bodyPosted k))
      .next { s with cairn := { s.cairn with lb := some slot, writing := some f.epoch, cut := false, writeSlot := slot, writeAddr := addr,
                                             header := headerBytes s f e false } }

/-- The frame's cairn has ended, one way or the other. [Log: 41 DEDUCED] -/
def endFrame (epoch : Nat) (s : State) : State := (s.modFrame epoch (fun f => { f with ended := true })).dropFrames

/-- The last 64 digests (R335). -/
def keepDigest (d : KeptDigest) (l : List KeptDigest) : List KeptDigest := if l.length < 64 then l ++ [d] else l.drop 1 ++ [d]

/-- CAIRN_COMPLETE: the rest of the body, the trailer, EPOCH with BUSY clear, the status block and EV32, in this order
(R330); the frame's state becomes the one that seeds traverse (R295, R334). [Log: 41 DEDUCED] -/
def execCairnComplete (s : State) : Out :=
  match s.cairnFrame, s.cairn.writing with
  | some f, some k =>
    if s.cairn.cut || !s.hif.linkUp || cairnLate s f then .next s
    else
    let e := cairnStaging s k f.modes
    let a := s.cairn.writeAddr
    let head := s.cairn.header
    let body := bodyBytes e
    let trailer := trailerBytes k (head ++ body)
    let s := drainWrites s
    let s := ((s.dma (a + 64) body).dma (a + 133248) trailer).dma (a + 8) (leBytes 8 k)
    let s := { s with
      cairn := { s.cairn with lc := some s.cairn.writeSlot, writing := none, latestEpoch := k, latestSlot := some s.cairn.writeSlot,
                              lastDone := some s.clk.ticks,
                              digests := keepDigest { epoch := k, tSample := e.tSample, digest := Config.sha256 (head ++ body ++ trailer) } s.cairn.digests }
      est := { s.est with seed := e }
      diag := { s.diag with supplyOut := s.diag.supplyOut && s.pwr.state == .hold } }
    .next (endFrame k (raise 32 (k % two32) (writeStatus s)))
  | _, _ => .next s

/-! ### Abandonment (R28, R331, R510) -/

/-- An abandonment counts as a supply, host or device outage. [Log: 41 DEDUCED, 43 DEDUCED] -/
def countOutage (writesHeld : Bool) (s : State) : State :=
  let d := s.diag
  { s with diag :=
      if d.supplyOut then { d with outSupply := sat32 (d.outSupply + 1) }
      else if !s.hif.linkUp || writesHeld then { d with outHost := sat32 (d.outHost + 1) }
      else { d with outDev := sat32 (d.outDev + 1) } }

/-- The cairn of a frame is given up: counted, named by EV33 and in SKIPPED. Without slots there is no cairn to abandon: the
frame counts as one without a published cairn, a host outage (R331, R510). In HOLD frames are only counted (R476). [Log: 41 DEDUCED, 43 DEDUCED] -/
def abandonCairn (epoch : Nat) (writesHeld : Bool) (s : State) : State :=
  if noSlots s.slotsNext && s.cairn.writing != some epoch then
    let d := s.diag
    let d := if d.supplyOut then { d with outSupply := sat32 (d.outSupply + 1) } else { d with outHost := sat32 (d.outHost + 1) }
    endFrame epoch { s with diag := d }
  else
    let c := { s.cairn with abandoned := epoch :: s.cairn.abandoned.take 3, writing := if s.cairn.writing == some epoch then none else s.cairn.writing }
    if s.pwr.state == .hold then endFrame epoch (countOutage writesHeld { s with cairn := c })
    else raise 33 (epoch % two32) (endFrame epoch (countOutage writesHeld { s with cairn := { c with skipped := wrap32 (c.skipped + 1) } }))

/-- CAIRN_DEADLINE: frame k+3's window has closed and the oldest open cairn, that of frame k, is not complete. `writesHeld`
says that the publisher held a write for want of flow-control credit: the root complex does not accept posted writes (R373). [Log: 64 DEDUCED] -/
def execCairnDeadline (writesHeld : Bool) (s : State) : Out :=
  match s.cairnFrame with
  | none => .next s
  | some f => .next (if cairnLate s f then
      abandonCairn f.epoch writesHeld (if writesHeld then { s with hif := { s.hif with writesHeld := true } } else drainWrites s)
    else s)

/-- ALIVE_TOGGLE (R336); in HALT ALIVE stays low (R465). [Log: 41 DEDUCED] -/
def execAliveToggle (s : State) : Out :=
  if s.pwr.state == .halt then .next s
  else
  let limit := max (secTicks 2) (3 * (s.frm.scheme.periodNs * 24 / 100))
  match s.cairn.lastDone with
  | some t => .next (if s.clk.ticks - t ≤ limit then { s with cairn := { s.cairn with alive := !s.cairn.alive } } else s)
  | none => .next s

/-! ### CAIRN_SETUP, STATE_READ -/

/-- Bytes of a cairn (R320). -/
abbrev cairnLen : Nat := 133264

/-- Log: 41 DEDUCED. -/
def apart (a b : Nat) : Bool := a + cairnLen ≤ b || b + cairnLen ≤ a

/-- CAIRN_SETUP. Of the host memory behind a slot the device can judge only that its addresses exist. [Log: 41 DEDUCED] -/
def execCairnSetup (sub : Submission) (s : State) : Out :=
  let l := [sub.pU 0 8, sub.pU 8 8, sub.pU 16 8]
  let ok := l.all (· % 4096 == 0) && (noSlots l || (l.all (· + cairnLen ≤ two64) && apart (sub.pU 0 8) (sub.pU 8 8) && apart (sub.pU 8 8) (sub.pU 16 8) && apart (sub.pU 0 8) (sub.pU 16 8)))
  runCmd 0x28 sub [(sub.formOk [(0, 24)] && sub.noBuf && ok, stBadField), (s.accepts 0x28, stBusy)]
    (fun s => complete 0x28 sub stOK [] { s with cairn := { s.cairn with newSlots := some l } }) s

def f32Bytes (q : Rat) : List Byte := leBytes 4 (f32Code q).toNat

/-- The mean of ε over what the 60 s hold (R253, R402). [Log: 42 DEDUCED] -/
def epsMean (d : Diverge) : Rat := if d.hist.isEmpty then 0 else sumR (d.hist.map (·.2)) / (d.hist.length : Rat)

/-- A STATE_READ record (R402). [Log: 42 DEDUCED] -/
def stateRecord (e : Staging) (g : Nat) : List Byte :=
  match (mapGet e.cells g).bind (fun c => c.filter.map (fun f => (c, f))) with
  | none => leBytes 2 g ++ [0xFF, 0] ++ zeros 140
  | some (c, f) =>
    let sd := (gram f.root).zipIdx.map (fun r => sqrtR (at_ r.1 r.2))
    leBytes 2 g ++ [match f.kind with | .physics => 0 | .ecm => 1, 0] ++ leBytes 4 c.pubCount ++ fit 64 (f.x.flatMap f32Bytes) ++
      fit 64 (sd.flatMap f32Bytes) ++ f32Bytes (epsMean c.div) ++ zeros 4

/-- STATE_READ: the state of the frame whose cairn was published last (R334). [Log: 42 DEDUCED] -/
def execStateRead (sub : Submission) (s : State) : Out :=
  let first := sub.pU 0 2
  let n := sub.pU 2 2
  let e := s.est.seed
  runCmd 0x29 sub
    [(sub.formOk [(0, 2), (2, 2)] && first < 4096 && 1 ≤ n && n ≤ 4096 - first && sub.hasBuf (16 + 144 * n ≤ sub.bufLen), stBadField),
     (s.accepts 0x29, stBusy)]
    (fun s => complete 0x29 sub stOK (leBytes 8 e.epoch)
      (s.dma sub.bufAddr (leBytes 8 e.epoch ++ leBytes 2 n ++ zeros 6 ++ ((List.range n).map (· + first)).flatMap (stateRecord e)))) s

end Sys2Proof.Machine
end

