-- ==== Sys2Proof/Machine/NvmJobs.lean ====
section
/-! DEFINITION. The queue of flash jobs: which page is programmed next (R382, R486, R495). -/

namespace Sys2Proof.Machine

/-- Urgent records before sets, sets before other writes, firmware in the gaps (R495). [Log: 52 DEDUCED] -/
def NvmWrite.rank : NvmWrite → Nat
  | .urgent _ _ => 0
  | .set _ => 1
  | .config _ | .images _ _ => 2
  | .firmware _ => 3

/-- A job waits behind every job of its own rank or before; the write at the head that has begun keeps its place. [Log: 52 DEDUCED] -/
def insertJob (j : NvmJob) (l : List NvmJob) : List NvmJob :=
  let head := l.take 1 |>.filter (·.begun)
  let rest := l.drop head.length
  head ++ rest.filter (fun k => k.what.rank ≤ j.what.rank) ++ j :: rest.filter (fun k => j.what.rank < k.what.rank)

/-- Between two pages, a job of a lower rank number goes first. [Log: 52 DEDUCED] -/
def nextJob : List NvmJob → List NvmJob
  | [] => []
  | h :: r => r.filter (fun k => k.what.rank < h.what.rank) ++ h :: r.filter (fun k => h.what.rank ≤ k.what.rank)

/-- Pages of a write of `n` bytes. [Log: 52 DEDUCED] -/
def pagesFor (n : Nat) : Nat := max 1 ((n + 255) / 256)

/-! ### Wear levelling and the image region (R485, R493) -/

/-- Erase cycles of a sector. -/
def State.wearOf (s : State) (region i : Nat) : Nat := (s.nvm.wear.getD region []).getD i 0

/-- Sectors of a region in the order in which levelled wear takes them into use: those erased the fewest times first. [Log: 52 DEDUCED] -/
def leastWornFirst (s : State) (region : Nat) (l : List Nat) : List Nat :=
  let w (i : Nat) : Nat := s.wearOf region i
  l.foldl (fun l i => l.filter (fun k => w k ≤ w i) ++ i :: l.filter (fun k => w i < w k)) []

/-- Sectors of an image (R493). -/
def sectorsOf (i : Image) : Nat := (i.bytes.length + 4095) / 4096

/-- The sectors that no image in the directory holds. -/
def freeImageSectors (s : State) : List Nat :=
  let held (i : Nat) : Bool := (List.range 8).any (fun t => (s.cfg.committed.getD t none).isSome && (s.nvm.imgSecs.getD t []).contains i)
  leastWornFirst s 3 ((List.range 128).filter (fun i => !held i))

/-- The sectors that take a write of images: free ones, or the slots' own first when it overwrites in place (R493). [Log: 52 DEDUCED] -/
def imageTarget (s : State) (l : List (Nat × Image)) (inPlace : Bool) : List Nat :=
  let own := if inPlace then l.flatMap (fun e => s.nvm.imgSecs.getD e.1 []) else []
  (own ++ freeImageSectors s).take (l.map (fun e => sectorsOf e.2)).sum

/-- A write of the configuration or of images at the head of the queue begins, unless the last page of a write that was
cut off is still being programmed: images have their sectors from then on, and an image of the directory's older copy that
lies in them is gone. What the other writes do when they begin stands with them (`settle`). -/
def beginPlain (s : State) : State :=
  match s.nvm.jobs with
  | j :: r =>
    if s.nvm.tail || j.begun || j.what.rank != 2 then s
    else match j.what with
      | .images l p =>
        let secs := imageTarget s l p
        let lost (t : Nat) : Bool := (s.nvm.imgSecsOld.getD t []).any secs.contains
        { s with
          cfg := { s.cfg with dirOld := s.cfg.dirOld.zipIdx.map (fun e => if lost e.2 then none else e.1) }
          nvm := { s.nvm with jobs := { j with begun := true, secs := secs } :: r } }
      | _ => { s with nvm := { s.nvm with jobs := { j with begun := true } :: r } }
  | [] => s

/-- A write waits until the jobs before it leave the flash. -/
def addJob (what : NvmWrite) (pages : Nat) (sub : Option Submission) (s : State) : State :=
  beginPlain { s with nvm := { s.nvm with jobs := insertJob { what, left := pages, sub, begun := false, secs := [], tries := 0 } s.nvm.jobs } }

/-! ### The event log's ring (R485, R513) -/

/-- The ring has no room for a page: its oldest sector is to be erased. [Log: 34 DESIGN CHOICE] -/
def State.logFull (s : State) : Bool := decide (4096 < s.nvm.logRing.length + 8)

/-- A page of the event log is in progress: nothing else waits for the flash (R512). [Log: 34 DESIGN CHOICE] -/
def State.logPaging (s : State) : Bool :=
  s.live && s.nvm.jobs.isEmpty && !s.nvm.tail && !s.nvm.logBuf.isEmpty && !s.logFull

end Sys2Proof.Machine
end

