-- ==== Sys2Proof/Machine/Time.lean ====
section
/-! DEFINITION. TIME64, its sources and states, crystal compensation, PPS, compare units, TIME_SET, TIME_STATUS
(R417 to R431, R441 to R443, R587). -/

namespace Sys2Proof.Machine

/-! ### The rate (R418) -/

/-- INC_NOM of R418, in 2^-32 ns. -/
def incNom : Nat := 0x42AAAAAAB

/-- TIM_INC for a correction in 10^-12, limited to ±500 ppm. -/
def timInc (c : Rat) : BitVec 40 :=
  BitVec.ofNat 40 (roundAway ((incNom : Rat) * (1 + clampR (-500000000) 500000000 c / 1000000000000))).toNat

/-- The correction in force becomes TIM_INC on the next tick. -/
def applyRate (s : State) : State := { s with clk := { s.clk with inc := timInc (s.tim.freq + (s.tim.slewRate : Rat)) } }

def setFreq (c : Rat) (s : State) : State := applyRate { s with tim := { s.tim with freq := c } }

/-- A slew term in 10^-12, limited to ±50 ppm (R435, R443). -/
def setSlew (rate total : Int) (s : State) : State :=
  applyRate { s with tim := { s.tim with slewRate := clampI (-50000000) 50000000 rate, slew := total } }

/-- The source in force (R427). -/
def State.timeSrc (s : State) : Nat := s.cfg.live.glob.timeSrc

/-! ### Time states (R427 to R429, R533, R587) -/

/-- Entry to HOLD: the slew component goes; c_h, the correction in force without it (R418), and T_h are kept; EV42 gives the
reason (R429, R431). [Log: 44 DEDUCED] -/
def timeLost (reason : Nat) (s : State) : State :=
  let s := { s with tim := { s.tim with state := .hold, holdFreq := clampR (-500000000) 500000000 s.tim.freq, holdT := s.tun.dieT, holdTick := s.clk.ticks } }
  raise 42 reason (setSlew 0 0 s)

/-- The device enters LOCKED; on the first lock since reset, certificates that expire are judged again (R533). [Log: 46 DEDUCED] -/
def enterLocked (s : State) : State :=
  let first := !s.tim.lockedOnce
  let s := { s with tim := { s.tim with state := .locked, suspect := false, lockedOnce := true } }
  if first then authLocked s else s

/-- A change of TIME_SRC at its take-force (R587): what becomes of the time state. [Log: 46 DEDUCED] -/
def srcState (old new : Nat) (s : State) : State :=
  let s := if new = 3 then setSlew 0 0 { s with tim := { s.tim with state := .free } }
    else if s.tim.state == .locked then timeLost (if old = 2 then 1 else if old = 1 then 2 else 0) s
    else s
  { s with tim := { s.tim with lead := none, suspect := false, ppsLock := false, ppsGood := 0, ppsBad := 0, hostSet := false } }

/-- PTP messages are sent and taken: PTP_AUTO, and a power state in which PTP runs (R442, R448, R476). -/
def State.ptpOn (s : State) : Bool :=
  s.timeSrc = 0 && (s.live || s.pwr.state == .boot || s.pwr.state == .stopping)

/-- PTP_CTRL.EN of a domain. -/
def State.domEnabled (s : State) (d : Nat) : Bool := if d = 0 then s.ptp.enA else s.ptp.enB

/-- A domain starts over: LISTENING, or DISABLED (R434, R447). -/
def resetDom (d : Nat) (s : State) : State :=
  s.modDom d (fun x => { x with
    state := if s.domEnabled d then .listening else .disabled, gmClass := 0xFF, gmId := 0, goodSyncs := 0, waitSync := none,
    sync := none, reqTx := none, waitPd := none, newPath := none, stab := none, master := none, masters := [], outliers := 0, path := none })

/-- SET_AT_PPS commands that the new source forbids complete with BAD_STATE (R448). -/
def dropSetAtPps (s : State) : State :=
  let l := s.tim.setAtPps
  l.foldl (fun s e => complete 0x48 e.1 stBadState [] s) { s with tim := { s.tim with setAtPps := [] } }

/-- TIME_SRC takes force (R394, R448, R587). [Log: 46 DEDUCED] -/
def takeTimeSrc (new : Nat) (s : State) : State :=
  let old := s.timeSrc
  let s := { s with cfg := { s.cfg with live := { s.cfg.live with glob := { s.cfg.live.glob with timeSrc := new } } } }
  if new = old then s
  else
    let s := resetDom 1 (resetDom 0 (srcState old new s))
    if new = 0 || new = 3 then dropSetAtPps s else s

/-- PTP stops and the time state becomes HOLD on entry to the HOLD power state (R448, R476). [Log: 44 DEDUCED] -/
def timeHold (s : State) : State :=
  let s := if s.tim.state == .locked then timeLost 0 s else s
  let s := { s with tim := { s.tim with lead := none, suspect := false, ppsLock := false, ppsGood := 0, ppsBad := 0 } }
  resetDom 1 (resetDom 0 s)

/-! ### A step of TIME64 (R419) -/

/-- TIME64 is replaced, and the frame schedule re-anchors. -/
def stepTime (ns : Int) (keepFrac : Bool) (s : State) : State := s.stepTime ns keepFrac

/-! ### Crystal compensation (R430, R431) -/

/-- e(T) in 10^-12, with T in 0.01 °C. [Log: 44 DEDUCED] -/
def xoError (co : List Int) (t : Int) : Rat :=
  let d : Rat := ((t - 2500 : Int) : Rat) / 100
  let c (i : Nat) : Rat := ((co.getD i 0 : Int) : Rat)
  c 0 + c 1 * d + c 2 * (d * d) + c 3 / 1000 * (d * d * d)

/-- XO_CORRECTION_UPDATE. [Log: 44 DEDUCED] -/
def execXoCorrectionUpdate (s : State) : Out :=
  let e (t : Int) : Rat := xoError s.cfg.live.glob.xo t
  match s.tim.state with
  | .free => .next (setFreq (-(e s.tun.dieT)) s)
  | .hold => .next (setFreq (s.tim.holdFreq - (e s.tun.dieT - e s.tim.holdT)) s)
  | .locked => .next s

/-! ### PPS_OUT, compare units and captures (R420 to R425) -/

/-- TIME64_SECOND: PPS_OUT rises, from step 2 of a start on (R581); in HALT it stays low (R465). [Log: 57 DEDUCED] -/
def execTime64Second (s : State) : Out :=
  if s.pwr.state == .halt || !s.clk.running then .next s else .next { s with tim := { s.tim with ppsOut := true } }

/-- PPS_OUT_PULSE_END. -/
def execPpsOutPulseEnd (s : State) : Out := .next { s with tim := { s.tim with ppsOut := false } }

def State.cmp (s : State) (n : Nat) : CmpUnit := s.tim.cmps.getD n CmpUnit.reset

/-- The unit after a fire (R422, R423): a one-shot disarms; a periodic unit adds PERIOD once, or, where a step of TIME64
left TARGET in the past, the smallest multiple that puts it after the present TS32. -/
def CmpUnit.fire (u : CmpUnit) (ts now : Nat) : CmpUnit :=
  let k := if u.stepped then toU 32 ((ts : Int) - (u.target.toNat : Int)) / max 1 u.period.toNat + 1 else 1
  { u with fired := true, active := u.active || u.outEn, en := u.period != 0, stepped := false, hot := u.hot.mark now 128
           target := if u.period = 0 then u.target else u.target + BitVec.ofNat 32 (k * u.period.toNat) }

/-- CMP_FIRE. -/
def execCmpFire (unit : Nat) (s : State) : Out :=
  let u := s.cmp unit
  if u.en && tsReached s.ts32 u.target.toNat && unit < 4 && s.pwr.state != .halt then
    let s := { s with tim := { s.tim with cmps := s.tim.cmps.set unit (u.fire s.ts32 s.clk.ticks) } }
    .next (if u.inj then triggerBoth (.cmp unit) s else s)
  else .next s

/-- TRIG_OUT_PULSE_END. -/
def execTrigOutPulseEnd (unit : Nat) (s : State) : Out :=
  .next { s with tim := { s.tim with cmps := s.tim.cmps.modify unit (fun u => { u with active := false }) } }

/-- The level of TRIG_OUTn under POL (R422). -/
def CmpUnit.level (u : CmpUnit) : Bool := u.active != u.pol

/-! ### The host servo (R442) -/

/-- A TIME_SET of a mode has completed with PTP_HOST in force. [Log: 46 DEDUCED] -/
def hostLock (mode : Nat) (s : State) : State :=
  if s.timeSrc != 1 then s
  else if s.tim.hostSet || mode ≤ 2 then
    let s := { s with tim := { s.tim with hostSet := true } }
    if s.tim.state == .locked then s else enterLocked s
  else s

/-- HOST_SERVO_TIMEOUT. [Log: 46 DEDUCED] -/
def execHostServoTimeout (s : State) : Out :=
  if s.timeSrc = 1 && s.tim.state == .locked then .next (timeLost 2 s) else .next s

/-! ### The PPS source (R426, R441, R443) -/

/-- TIME64 at an edge: that from before a step of the same tick (R448). -/
def edgeTime (s : State) : Nat :=
  match s.tim.beforeStep with
  | some (k, t) => if k = s.clk.ticks then t else s.now
  | none => s.now

/-- The stamp reduced by IN_DELAY, and its phase error folded to ±0.5 s. [Log: 45 DEDUCED] -/
def ppsError (s : State) : Int :=
  let r := ((edgeTime s : Int) - s.tim.inDelay) % 1000000000
  if r < 500000000 then r else r - 1000000000

/-- The device enters LOCKED when the servo is locked and a SET_AT_PPS has completed since reset. [Log: 45 DEDUCED] -/
def ppsEnter (s : State) : State :=
  if s.tim.ppsLock && s.tim.ppsSet && s.tim.state != .locked then enterLocked s else s

/-- An edge feeds the servo: 8 edges within ±1 µs lock it, 4 discarded edges re-acquire. [Log: 19 DESIGN CHOICE, 45 DEDUCED] -/
def ppsServo (e : Int) (s : State) : State :=
  let t := s.tim
  if t.ppsLock && 100000 < e.natAbs then
    if t.ppsBad + 1 < 4 then { s with tim := { t with ppsBad := t.ppsBad + 1 } }
    else stepTime ((s.now : Int) - e) true { s with tim := { t with ppsLock := false, ppsGood := 0, ppsBad := 0 } }
  else
    let good := if e.natAbs ≤ 1000 then t.ppsGood + 1 else 0
    let s := { s with tim := { t with ppsBad := 0, ppsGood := min 8 good, ppsLock := t.ppsLock || 8 ≤ good } }
    ppsEnter (setFreq (Config.ppsFreq t.freq e) s)

/-- The pending SET_AT_PPS commands complete on the edge: TIME64 takes the value at the edge itself, which came IN_DELAY
ago; the command started last governs. [Log: 44 DEDUCED] -/
def ppsSets (s : State) : State :=
  match s.tim.setAtPps.getLast? with
  | none => s
  | some e =>
    let l := s.tim.setAtPps
    let s := stepTime ((e.2 : Int) + s.tim.inDelay) false { s with tim := { s.tim with setAtPps := [], ppsSet := true } }
    hostLock 0 (l.foldl (fun s x => complete 0x48 x.1 stOK [] s) s)

/-- PPS_IN_EDGE. [Log: 45 DEDUCED] -/
def execPpsInEdge (s : State) : Out :=
  if s.pwr.state == .halt then .next s
  else
    let e := ppsError s
    let set := !s.tim.setAtPps.isEmpty
    let s := ppsSets { s with tim := { s.tim with ppsStamp := BitVec.ofNat 64 (edgeTime s) } }
    if s.timeSrc = 2 && s.pwr.state != .hold then .next (if set then ppsEnter s else ppsServo e s) else .next s

/-- PPS_LOSS: no edge for 3 s. -/
def execPpsLoss (s : State) : Out :=
  if s.timeSrc != 2 then .next s
  else
    let s := { s with tim := { s.tim with ppsLock := false, ppsGood := 0, ppsBad := 0 } }
    .next (if s.tim.state == .locked then timeLost 1 s else s)

/-! ### TIME_SET and TIME_STATUS (R413, R414, R443) -/

/-- The rules that depend on the source in force: R413 first, then those of PPS. [Log: 44 DEDUCED] -/
def timeSetChecks (s : State) (mode : Nat) (value : Int) : List Check :=
  let src := s.timeSrc
  [(src != 0 && (src != 3 || mode == 1), stBadState),
   (!(src == 2 && (mode == 1 || mode == 3 || mode == 4)), stBadState),
   (!(src == 2 && mode == 2 && value % 1000000000 != 0), stBadField)]

/-- The effect of a mode, for every mode but SET_AT_PPS. [Log: 44 DEDUCED] -/
def timeSetAct (sub : Submission) (mode : Nat) (s : State) : State :=
  let v := sub.pS 8 8
  match mode with
  | 1 => stepTime (sub.pU 8 8) false s
  | 2 => if v = 0 then s else stepTime ((s.now : Int) + v) true s
  | 3 => setSlew (v.sign * 50000000) v s
  | _ => setFreq ((sub.pS 16 4 : Int) : Rat) s

/-- TIME_SET. [Log: 44 DEDUCED] -/
def execTimeSet (sub : Submission) (s : State) : Out :=
  let mode := sub.pU 0 1
  let v := sub.pS 8 8
  let f := sub.pS 16 4
  runCmd 0x48 sub
    ([(sub.formOk [(0, 1), (8, 8), (16, 4)] && sub.noBuf && mode ≤ 4 && (mode != 3 || v.natAbs ≤ 10000000) &&
        (mode != 4 || f.natAbs ≤ 100000000), stBadField), (s.accepts 0x48, stBusy)] ++ timeSetChecks s mode v)
    (fun s =>
      if mode = 0 then { s with tim := { s.tim with setAtPps := s.tim.setAtPps ++ [(sub, sub.pU 8 8)] } }
      else complete 0x48 sub stOK [] (hostLock mode (timeSetAct sub mode s))) s

/-- SET_AT_PPS_TIMEOUT: 1.1 s without an edge. -/
def execSetAtPpsTimeout (s : State) : Out :=
  match s.tim.setAtPps with
  | [] => .next s
  | e :: r => .next (complete 0x48 e.1 stTimeout [] { s with tim := { s.tim with setAtPps := r } })

/-- SLEW_END. -/
def execSlewEnd (s : State) : Out := .next (setSlew 0 0 s)

/-- Whole seconds since the entry to HOLD; 0 outside HOLD (R429). [Log: 57 DEDUCED] -/
def holdoverTime (s : State) : Nat := if s.holdover then (s.clk.ticks - s.tim.holdTick) / tickHz else 0

/-- TFLAGS of R414. -/
def timeFlags (s : State) : Nat :=
  bit s.unsync 0 + bit s.tim.suspect 1 + bit ((s.dom 0).state == .asym) 2 + bit ((s.dom 1).state == .asym) 3 + bit s.holdover 4

/-- The filtered mean path delay as it is published (R8); 0 before one is measured. -/
def PtpDom.pathNs (x : PtpDom) : Nat := (clampI 0 4294967295 (x.path.getD 0)).toNat

/-- The 64 bytes of R414. -/
def timeStatusBytes (s : State) : List Byte :=
  let a := s.dom 0
  let b := s.dom 1
  fit 64 (leBytes 8 s.now ++ [BitVec.ofNat 8 (s.tim.lead.getD 0xFF), BitVec.ofNat 8 (timeFlags s), BitVec.ofNat 8 s.timeSrc, 0] ++
    sBytes 4 (clampS 32 a.offset) ++ sBytes 4 (clampS 32 b.offset) ++ sBytes 4 (clampS 32 a.freq) ++ sBytes 4 (clampS 32 b.freq) ++
    leBytes 4 a.pathNs ++ leBytes 4 b.pathNs ++ zeros 4 ++ leBytes 8 s.clk.inc.toNat ++ leBytes 4 (min (two32 - 1) (holdoverTime s)))

/-- TIME_STATUS. -/
def execTimeStatus (sub : Submission) (s : State) : Out :=
  runCmd 0x49 sub [(sub.formOk [] && sub.hasBuf (64 ≤ sub.bufLen), stBadField), (s.accepts 0x49, stBusy)]
    (fun s => complete 0x49 sub stOK [] (s.dma sub.bufAddr (timeStatusBytes s))) s

end Sys2Proof.Machine
end

