-- ==== Sys2Proof/Machine/Ptp.lean ====
section
/-! DEFINITION. The PTP clock and its ports (R432 to R440, R442, R444 to R448). -/

namespace Sys2Proof.Machine

/-- The port that carries a domain (R434). -/
def State.domPort (s : State) (d : Nat) : Nat := if s.ptp.portMap = 2 then d else s.ptp.portMap

/-- Peer-to-peer is in use: DELAY, or the power profile (R432). -/
def PtpDom.p2p (x : PtpDom) : Bool := x.delayP2p || x.profile = 1

/-- A domain that a master disciplines. -/
def PtpDom.tracking (x : PtpDom) : Bool := x.state != .disabled && x.state != .listening

def otherDom (d : Nat) : Nat := 1 - d

/-- The link of an RMII port has started (R581). [Log: 20 DESIGN CHOICE] -/
def State.rmiiUp (s : State) (port : Nat) : Bool := s.clk.running && Config.rmiiLink port s.clk.ticks

/-- Frames leave a port. Their kinds: 0 ARP reply, 1 Delay_Req, 2 Pdelay_Req, 3 Pdelay_Resp, 4 a PTX frame,
5 Pdelay_Resp_Follow_Up. The pins stay low until the port's link has started (R581). -/
def sendFrames (port : Nat) (l : List NetTx) (s : State) : State :=
  s.modPort port (fun p => { p with lastTx := if s.rmiiUp port then l else [] })

/-- The destination of a PTP message of a domain (R432): the peer-delay messages go to the link-local addresses; event
messages to UDP port 319, others to 320. [Log: 48 PRESUMED] -/
def ptpDest (udp peer event : Bool) : NetDest :=
  if udp then .udp (if peer then 0xE000006B else 0xE0000181) (if event then 319 else 320)
  else .layer2 (if peer then 0x0180C200000E else 0x011B19000000)

/-! ### The lead (R435, R436) -/

/-- The servo of the lead: c is its frequency estimate plus a slew term of at most ±50 ppm. [Log: 19 DESIGN CHOICE] -/
def servoLead (d : Nat) (s : State) : State :=
  let x := s.dom d
  setSlew (Config.ptpSlew x.offset) x.offset { s with tim := { s.tim with freq := ((x.freq : Int) : Rat) } }

/-- A step of TIME64 by the servo moves both domains' offsets, which are formed against TIME64 (R434, R435). [Log: 47 DEDUCED] -/
def servoStep (o : Int) (s : State) : State :=
  let s := stepTime ((s.now : Int) + o) true s
  s.modDom 0 (fun x => { x with offset := x.offset - o }) |>.modDom 1 (fun x => { x with offset := x.offset - o })

/-- With no lead, a LOCKED domain takes it: a step above 10 µs, otherwise a slew. [Log: 47 DEDUCED] -/
def takeLead (d : Nat) (s : State) : State :=
  let o := (s.dom d).offset
  let o := if 10000 < o.natAbs then o else 0
  let s := { s with tim := { s.tim with lead := some d, tookLead := some (s.clk.ticks, o) } }
  enterLocked (servoLead d (if o = 0 then s else servoStep o s))

/-- Domain B took the lead on this very tick, with no lead before it: A, which locks on it too, wins (R435). -/
def State.tie (s : State) (d : Nat) : Option Int :=
  if d = 0 && s.tim.lead = some 1 then (s.tim.tookLead.filter (fun t => t.1 == s.clk.ticks)).map (·.2) else none

/-- A domain is LOCKED: it takes the lead if there is none, or steers the device if it leads. In a tie B's step is taken
back. [Log: 47 DEDUCED] -/
def domLocked (d : Nat) (s : State) : State :=
  match s.tie d, s.tim.lead with
  | some o, _ => takeLead d (if o = 0 then s else servoStep (-o) s)
  | none, none => takeLead d s
  | none, some l => if l = d then servoLead d s else s

/-- The domain's Syncs have stopped: the last one came two of its Sync intervals ago, or more. [Log: 47 DEDUCED] -/
def State.syncsGone (s : State) (d : Nat) : Bool :=
  decide ((s.dom d).syncTick + secTicks 4 / 2 ^ (1 - (s.dom d).logSync).toNat ≤ s.clk.ticks)

/-- The lead is lost (R436): the other LOCKED domain takes it at once with no step, EV40; otherwise HOLD. When the lead has
lost its master (`gone`) and the other domain's Syncs have stopped too, both have lost theirs in one Sync interval: HOLD and
no EV40 (R448). [Log: 47 DEDUCED] -/
def loseLead (gone : Bool) (d : Nat) (s : State) : State :=
  if (s.dom (otherDom d)).state == .locked && !(gone && s.syncsGone (otherDom d)) then
    raise 40 (otherDom d) (enterLocked (servoLead (otherDom d) { s with tim := { s.tim with lead := some (otherDom d), tookLead := none } }))
  else
    let s := { s with tim := { s.tim with lead := none } }
    if s.tim.state == .locked then timeLost 0 s else { s with tim := { s.tim with suspect := false } }

/-- A domain loses its lock: back to ACQUIRING while a master is selected, to LISTENING otherwise. One that is ASYM stays so
while it keeps a path delay to judge (R438). [Log: 47 DEDUCED] -/
def unlockDom (d : Nat) (s : State) : State :=
  let s := s.modDom d (fun x => { x with
    state := if x.state == .asym && x.path.isSome then .asym else if x.master.isSome then .acquiring else .listening, goodSyncs := 0, waitSync := none, waitPd := none })
  if s.tim.lead = some d then loseLead true d s else s

/-! ### Messages and their domain (R432 to R434) -/

/-- The domain runs over UDP: TRANSPORT, unless the power profile puts it on Layer 2 (R432). -/
def PtpDom.udp (x : PtpDom) : Bool := x.transport = 1 && x.profile != 1

/-- The transport of a domain works on its port: a PTP_IPV4 of 0 disables UDP (R447). -/
def State.domCarried (s : State) (d : Nat) : Bool := !(s.dom d).udp || (s.port (s.domPort d)).ipv4 != 0

/-- A message belongs to a domain: its port, its transport and its domainNumber. -/
def State.domHears (s : State) (h : PtpHead) (d : Nat) : Bool :=
  s.ptpOn && s.domEnabled d && s.domPort d == h.port && (s.dom d).num == h.number && h.udp == (s.dom d).udp && s.domCarried d

/-- The domain that takes a message; A where both are set up alike. [Log: 47 DEDUCED] -/
def State.domOf (s : State) (h : PtpHead) : Option Nat := [0, 1].find? (s.domHears h)

/-- The domain that tracks the message's sender as its master. [Log: 48 PRESUMED] -/
def State.slaveOf (s : State) (h : PtpHead) : Option Nat :=
  (s.domOf h).filter (fun d => (s.dom d).tracking && (s.dom d).master.any (fun m => m.id == h.sender))

/-- A receive stamp reduced by PTP_LAT.RX of the domain's port, a transmit stamp increased by PTP_LAT.TX (R433). -/
def State.rxStamp (s : State) (d : Nat) (ns : Int) : Int := ns - (s.port (s.domPort d)).latRx
def State.txStamp (s : State) (d : Nat) (ns : Int) : Int := ns + (s.port (s.domPort d)).latTx

/-! ### Sync (R434, R437) -/

/-- Domain time minus TIME64 at the ingress of a Sync. [Log: 48 PRESUMED] -/
def syncOffset (path rx origin : Int) : Int := origin + path - rx

/-- A Sync is complete: its offset enters the estimates; a FROZEN domain's stop updating. [Log: 19 DESIGN CHOICE] -/
def domOffset (d : Nat) (rx origin : Int) (s : State) : State :=
  let x := s.dom d
  let off := syncOffset (x.path.getD 0) rx origin
  let s := s.modDom d (fun x => { x with syncCnt := wrap32 (x.syncCnt + 1), sync := some (rx, origin) })
  if x.state == .frozen then s
  else
    let f := Config.ptpFreq x.freq off
    let good := if (Config.ptpResidual x.offset off f).natAbs ≤ 1000 then min 8 (x.goodSyncs + 1) else 0
    let st := if x.state == .acquiring && good = 8 then DomState.locked else x.state
    let s := s.modDom d (fun x => { x with offset := off, freq := f, goodSyncs := good, state := st })
    if st == .locked then domLocked d s else s

/-- PTP_SYNC_RECEIVED: from the domain's master, at an interval that the device supports (R432). [Log: 48 PRESUMED] -/
def execPtpSyncReceived (m : PtpSync) (s : State) : Out :=
  match (s.slaveOf m.head).filter (fun _ => -4 ≤ m.logSync ∧ m.logSync ≤ 1) with
  | none => .next s
  | some d =>
    let rx := s.rxStamp d m.rxNs
    let s := s.modDom d (fun x => { x with logSync := m.logSync, syncTick := s.clk.ticks })
    if m.twoStep then .next (s.modDom d (fun x => { x with waitSync := some (m.head.seqId, rx) }))
    else .next (domOffset d rx m.originNs s)

/-- PTP_FOLLOW_UP_RECEIVED: the precise origin timestamp and the correction fields of Sync and Follow_Up. -/
def execPtpFollowUpReceived (h : PtpHead) (originNs corrNs : Int) (s : State) : Out :=
  match s.slaveOf h with
  | none => .next s
  | some d => match (s.dom d).waitSync with
    | some (q, rx) =>
      if q = h.seqId then .next (domOffset d rx (originNs + corrNs) (s.modDom d (fun x => { x with waitSync := none }))) else .next s
    | none => .next s

/-! ### Path delay (R437 to R439) -/

/-- A measurement joins a run of R438 and R439, or breaks it and begins the next. [Log: 47 DEDUCED] -/
def Stab.add (t : Stab) (delay : Int) (now : Nat) : Stab :=
  if t.n = 0 then { t with n := 1, sum := delay }
  else if absR ((delay : Rat) - (t.sum : Rat) / (t.n : Nat)) ≤ 200 then { t with n := t.n + 1, sum := t.sum + delay }
  else { tick := now, n := 1, sum := delay }

/-- A suspected step to a path delay: the domain freezes for 10 s; EV41. [Log: 47 DEDUCED] -/
def freezeDom (d : Nat) (delay : Int) (s : State) : State :=
  raise 41 d (s.modDom d (fun x => { x with
    state := .frozen, outliers := 0, goodSyncs := 0, newPath := some delay, stab := none }))

/-- A path-delay measurement is filtered, or discarded as an outlier; while the domain is FROZEN it forms the new path
delay. With each one that is taken, the difference of the domains' offsets is kept (R438). [Log: 19 DESIGN CHOICE, 47 DEDUCED] -/
def pathMeasured (d : Nat) (delay : Int) (s : State) : State :=
  let s := s.modDom d (fun x => { x with stab := x.stab.map (fun t => t.add delay s.clk.ticks) })
  let x := s.dom d
  if x.state == .frozen then
    s.modDom d (fun x => { x with newPath := some ((x.newPath.map (fun p => Config.ptpPath p delay)).getD delay) })
  else
    let d0 := x.offset - (s.dom (otherDom d)).offset
    match x.path with
    | none => s.modDom d (fun x => { x with path := some delay, outliers := 0, d0 := d0 })
    | some p =>
      if s.ptp.pdStep < (delay - p).natAbs then
        if x.outliers + 1 < 2 then s.modDom d (fun x => { x with outliers := x.outliers + 1 }) else freezeDom d delay s
      else s.modDom d (fun x => { x with path := some (Config.ptpPath p delay), outliers := 0, d0 := d0 })

/-- Half of an interval in ns (R7). -/
def half (n : Int) : Int := roundAway ((n : Rat) / 2)

/-- PTP_DELAY_RESP_RECEIVED: the end-to-end mechanism; the mean of the two ways of the last Sync and this request. [Log: 48 PRESUMED] -/
def execPtpDelayRespReceived (h : PtpHead) (recvNs : Int) (s : State) : Out :=
  match s.slaveOf h with
  | none => .next s
  | some d => match (s.dom d).reqTx, (s.dom d).sync with
    | some (q, tx), some (rx, origin) =>
      if q = h.seqId && !(s.dom d).p2p then
        .next (pathMeasured d (half ((rx - origin) + (recvNs - tx))) (s.modDom d (fun x => { x with reqTx := none })))
      else .next s
    | _, _ => .next s

/-- The domain of a Pdelay message that answers the request sent last. -/
def State.peerOf (s : State) (h : PtpHead) : Option Nat :=
  (s.domOf h).filter (fun d => (s.dom d).tracking && (s.dom d).p2p && (s.dom d).reqTx.any (fun r => r.1 == h.seqId))

/-- PTP_PDELAY_RESP_RECEIVED: of one step, with the turnaround in its correction; of two, with the request's receipt. [Log: 48 PRESUMED] -/
def execPtpPdelayRespReceived (h : PtpHead) (twoStep : Bool) (rxNs recvNs corrNs : Int) (s : State) : Out :=
  match s.peerOf h with
  | none => .next s
  | some d =>
    let round := s.rxStamp d rxNs - ((s.dom d).reqTx.map (·.2)).getD 0 - corrNs
    if twoStep then .next (s.modDom d (fun x => { x with waitPd := some (h.seqId, round + recvNs) }))
    else .next (pathMeasured d (half round) (s.modDom d (fun x => { x with reqTx := none })))

/-- PTP_PDELAY_RESP_FOLLOW_UP_RECEIVED. [Log: 48 PRESUMED] -/
def execPtpPdelayRespFollowUpReceived (h : PtpHead) (originNs corrNs : Int) (s : State) : Out :=
  match s.peerOf h with
  | none => .next s
  | some d => match (s.dom d).waitPd with
    | some (q, round) =>
      if q = h.seqId then .next (pathMeasured d (half (round - originNs - corrNs)) (s.modDom d (fun x => { x with waitPd := none, reqTx := none })))
      else .next s
    | none => .next s

/-- The offset of the last Sync under a path delay (R438). -/
def PtpDom.offsetWith (x : PtpDom) (path : Int) : Int :=
  match x.sync with
  | some (rx, origin) => syncOffset path rx origin
  | none => x.offset + path - x.path.getD 0

/-- The domain takes its new path delay in a state. -/
def takePath (d : Nat) (st : DomState) (s : State) : State :=
  s.modDom d (fun x =>
    let p := x.newPath.getD (x.path.getD 0)
    { x with state := st, path := some p, offset := x.offsetWith p, newPath := none, stab := none })

/-- The 60 s of R438 and R439 begin. -/
def watchPath (d : Nat) (s : State) : State := s.modDom d (fun x => { x with stab := some { tick := s.clk.ticks, n := 0, sum := 0 } })

/-- No other domain can confirm the new path delay (R439): HOLD, with EV42 INFO 3, and TIME_SUSPECT; the 60 s begin. From
HOLD the device stays in it. [Log: 47 DEDUCED] -/
def timeSuspect (d : Nat) (s : State) : State :=
  let s := if s.tim.state == .locked then timeLost 3 s else raise 42 3 s
  watchPath d { s with tim := { s.tim with suspect := true } }

/-- PTP_FREEZE_END: the offset is recomputed with the new path delay and judged (R438, R439). With both domains frozen, the one
that does not lead becomes ASYM (R448), and so does one whose device has never locked (R427). [Log: 47 DEDUCED] -/
def execPtpFreezeEnd (dom : Nat) (_ _ : Held) (s : State) : Out :=
  let x := s.dom dom
  let o := s.dom (otherDom dom)
  if !(x.state == .frozen) || !s.ptpOn || x.stab.isSome then .next s
  else
    let off := x.offsetWith (x.newPath.getD (x.path.getD 0))
    if o.state == .locked then
      if ((off - o.offset) - x.d0).natAbs ≤ 1000 then .next (domLocked dom (takePath dom .locked s))
      else
        let s := watchPath dom (takePath dom .asym s)
        .next (if s.tim.lead = some dom then loseLead false dom s else s)
    else if s.tim.state == .free || (o.state == .frozen && s.tim.lead = some (otherDom dom)) then .next (watchPath dom (takePath dom .asym s))
    else .next (timeSuspect dom s)

/-- The path delay has stayed within ±200 ns of its mean for 60 s. -/
def State.pathStable (s : State) (d : Nat) : Bool := (s.dom d).stab.any (fun t => 0 < t.n && t.tick + secTicks 60 ≤ s.clk.ticks)

/-- PTP_PATH_DELAY_STABLE (R438, R439): an ASYM domain becomes LOCKED; a frozen one accepts the new delay, and a suspect time
state returns to LOCKED by a slew, under its lead or, with none, under this domain. [Log: 47 DEDUCED] -/
def execPtpPathDelayStable (dom : Nat) (_ _ : Held) (s : State) : Out :=
  let x := s.dom dom
  if !s.ptpOn || !s.pathStable dom then .next s
  else if x.state == .asym then .next (domLocked dom (s.modDom dom (fun x => { x with state := .locked, stab := none })))
  else if x.state != .frozen then .next s
  else if s.tim.suspect && (s.tim.lead = none || s.tim.lead = some dom) then
    .next (enterLocked (servoLead dom (takePath dom .locked { s with tim := { s.tim with lead := some dom } })))
  else .next (domLocked dom (takePath dom .locked s))

/-! ### Master selection (R432, R436) -/

/-- The dataset comparison over quality lists, best first. [Log: 48 PRESUMED] -/
def better : List Nat → List Nat → Bool
  | a :: l, b :: r => a < b || (a = b && better l r)
  | _, _ => false

/-- Log: 48 PRESUMED. -/
def bestMaster (l : List Master) : Option Master :=
  l.foldl (fun b m => match b with | none => some m | some x => if better m.quality x.quality then some m else b) none

/-- Log: 48 PRESUMED. -/
def masterOf (m : PtpAnnounce) : Master :=
  { id := m.head.sender, gmId := m.gmId, gmClass := m.gmClass
    quality := [m.priority1, m.gmClass, m.accuracy, m.variance, m.priority2, m.gmId.toNat, m.steps, m.head.sender.toNat] }

/-- clockQuality: class, accuracy, variance. [Log: 48 PRESUMED] -/
def Master.clockQuality (m : Master) : List Nat := (m.quality.drop 1).take 3

/-- The lead's master changes so that the lead is lost (R436). [Log: 47 DEDUCED] -/
def masterLost (old new : Master) : Bool :=
  better old.clockQuality new.clockQuality || old.gmClass != new.gmClass || old.gmId != new.gmId

/-- The list of senders has changed: selection is repeated. [Log: 47 DEDUCED] -/
def selectMaster (d : Nat) (l : List Master) (s : State) : State :=
  let x := s.dom d
  let new := bestMaster l
  let s := s.modDom d (fun x => { x with masters := l, master := new, gmClass := (new.map (·.gmClass)).getD 0xFF, gmId := (new.map (·.gmId)).getD 0 })
  match x.master, new with
  | none, none => s
  | none, some _ => if x.state == .listening then s.modDom d (fun x => { x with state := .acquiring, goodSyncs := 0 }) else s
  | some _, none => unlockDom d (s.modDom d (fun x => { x with path := none, newPath := none, stab := none, outliers := 0 }))
  | some a, some b => if masterLost a b then unlockDom d (s.modDom d (fun x => { x with path := none, newPath := none, stab := none, outliers := 0 })) else s

/-- PTP_ANNOUNCE_RECEIVED. -/
def execPtpAnnounceReceived (m : PtpAnnounce) (s : State) : Out :=
  match s.domOf m.head with
  | none => .next s
  | some d => .next (selectMaster d ((s.dom d).masters.filter (fun k => k.id != m.head.sender) ++ [masterOf m]) s)

/-- PTP_ANNOUNCE_TIMEOUT: the selected master's Announces have stopped. -/
def execPtpAnnounceTimeout (dom : Nat) (s : State) : Out :=
  match (s.dom dom).master with
  | some m => if s.ptpOn && dom < 2 then .next (selectMaster dom ((s.dom dom).masters.filter (fun k => k.id != m.id)) s) else .next s
  | none => .next s

/-- PTP_SYNC_TIMEOUT: three Sync intervals with no Sync. -/
def execPtpSyncTimeout (dom : Nat) (s : State) : Out :=
  if s.ptpOn && (s.dom dom).tracking && dom < 2 then .next (unlockDom dom s) else .next s

/-! ### Messages sent (R433) -/

/-- PTP_PDELAY_REQ_RECEIVED: answered while a domain of the port runs peer-to-peer, with a Pdelay_Resp that holds the stamped
receipt and a Pdelay_Resp_Follow_Up that holds the response's own stamp (R432, R433); over UDP only with a PTP_IPV4 (R447). -/
def execPtpPdelayReqReceived (h : PtpHead) (x : PdelayStamps) (s : State) : Out :=
  let p := s.port h.port
  let on (d : Nat) : Bool := s.domEnabled d && s.domPort d = h.port && (s.dom d).p2p && s.domCarried d
  if s.ptpOn && (on 0 || on 1) && (!h.udp || p.ipv4 != 0) then
    .next (sendFrames h.port
      [{ kind := 3, dest := ptpDest h.udp true true, body := leBytes 2 h.seqId ++ sBytes 8 (x.rxNs - p.latRx) },
       { kind := 5, dest := ptpDest h.udp true false, body := leBytes 2 h.seqId ++ sBytes 8 (x.txNs + p.latTx) }] s)
  else .next s

/-- PTP_DELAY_REQ_SEND: Delay_Req or Pdelay_Req with the domain's next sequence number; its egress is stamped (R433). -/
def execPtpDelayReqSend (r : PtpRequest) (s : State) : Out :=
  let dom := r.dom
  let x := s.dom dom
  if s.ptpOn && x.tracking && dom < 2 && s.domCarried dom then
    .next (sendFrames (s.domPort dom) [{ kind := if x.p2p then 2 else 1, dest := ptpDest x.udp x.p2p true, body := leBytes 2 x.seqTx }]
      (s.modDom dom (fun x => { x with seqTx := (x.seqTx + 1) % two16, reqTx := some (x.seqTx, s.txStamp dom r.txNs), waitPd := none })))
  else .next s

/-- ARP_REQUEST_RECEIVED: answered for PTP_IPV4 of the port. -/
def execArpRequestReceived (port target : Nat) (s : State) : Out :=
  let ip := (s.port port).ipv4.toNat
  if ip != 0 && target = ip && port < 2 && (s.live || s.pwr.state == .boot || s.pwr.state == .stopping) then
    .next (sendFrames port [{ kind := 0, dest := .inFrame, body := leBytes 4 ip }] s)
  else .next s

/-- ETHERNET_FRAME_DISCARDED: nothing follows. [Log: 50 DEDUCED] -/
def execEthernetFrameDiscarded (_port : Nat) (s : State) : Out := .next s

/-! ### PTX, PRX and transmit stamps (R371, R442, R444 to R446) -/

/-- The entry of a received frame (R445). -/
def prxEntry (f : RxFrame) (rx : Int) (phase : Bool) : List Byte :=
  let n := f.bytes.length
  leBytes 2 (min 256 n) ++ leBytes 2 n ++ [BitVec.ofNat 8 f.port, BitVec.ofNat 8 (bit (256 < n) 0 + bit f.udp 1)] ++ zeros 2 ++
    sBytes 8 rx ++ zeros 15 ++ [BitVec.ofNat 8 (bit phase 0)]

/-- PRX_FRAME_RECEIVED: the frame before its entry; dropped while PRX is full or not enabled. [Log: 50 DEDUCED] -/
def execPrxFrameReceived (f : RxFrame) (s : State) : Out :=
  let r := s.ring 11
  if s.timeSrc = 1 && s.pwr.state != .hold && s.pwr.state != .halt && r.en && !r.err && !r.full && f.port < 2 then
    let a := s.ptp.prxHi.toNat * two32 + s.ptp.prxLo.toNat + 256 * r.mine
    let s := s.dma a (f.bytes.take 256)
    .next (raise 45 f.port (postEntry 11 (prxEntry f (f.rxNs - (s.port f.port).latRx) r.phase) s))
  else .next s

/-- The frame check sequence of an Ethernet frame. [Log: 48 PRESUMED] -/
def fcsBit (c : BitVec 32) : BitVec 32 := if c.getLsbD 0 then (c >>> 1) ^^^ 0xEDB88320#32 else c >>> 1

/-- Log: 48 PRESUMED. -/
def fcs (l : List Byte) : List Byte :=
  leBytes 4 (l.foldl (fun c b => (List.range 8).foldl (fun c _ => fcsBit c) (c ^^^ b.setWidth 32)) 0xFFFFFFFF#32 ^^^ 0xFFFFFFFF#32).toNat

/-- A PTX frame as it is sent: padded to 60 bytes, with its FCS (R444). -/
def ptxFrame (len : Nat) (b : List Byte) : List Byte := let f := fit (max 60 len) (fit len b); f ++ fcs f

/-- PTX_FETCH: the 32 bytes of the entry at the head and then the frame it names; with TS_REQ its TAG waits for the stamp. [Log: 50 DEDUCED] -/
def execPtxFetch (d : DmaRead) (s : State) : Out :=
  let r := s.ring 10
  if !r.en || r.err || r.mine = r.theirs then .next s
  else match d with
    | none =>
      let s := s.modRing 10 (Ring.fail s.clk.ticks)
      .next (hifErr 4 s)
    | some b =>
      let len := fieldU b 8 2
      let port := fieldU b 10 1
      let s := s.modRing 10 Ring.advance
      if 14 ≤ len && len ≤ 256 && port < 2 && s.pwr.state != .hold && s.pwr.state != .halt then
        let s := sendFrames port [{ kind := 4, dest := .inFrame, body := ptxFrame len (b.drop 32) }] s
        .next (if fieldU b 11 1 % 2 = 1 then s.modPort port (fun p => { p with stampFor := p.stampFor ++ [fieldU b 12 4] }) else s)
      else .next s

/-- PTP_FRAME_TRANSMITTED: the stamp of the oldest frame with TS_REQ, increased by PTP_LAT.TX, joins the port's queue of 16
with that frame's TAG. On a full queue it is dropped as the tick ends (`dropLate`), unless a TAG read of that tick makes room
(R448). [Log: 50 DEDUCED] -/
def execPtpFrameTransmitted (port : Nat) (_ : Held) (stampNs : Int) (s : State) : Out :=
  let p := s.port port
  match p.stampFor with
  | [] => .next s
  | tag :: r =>
    let s := dropLate port (s.modPort port (fun p => { p with stampFor := r }))
    let e : TxStamp := { tag, time := toU 64 (stampNs + p.latTx), port, tick := s.clk.ticks }
    if p.queue.length < 16 then .next (queueStamp port e s) else .next (s.modPort port (fun p => { p with late := some e }))

/-- The oldest stamp of the selected port is popped, and its time and INFO are latched. A stamp of the same tick is queued
after the pop (R448). [Log: 50 DEDUCED] -/
def popTxStamp (s : State) : State :=
  let n := s.ptp.txSel
  let ready := (s.port n).queue.filter (fun e => e.tick != s.clk.ticks)
  match ready with
  | [] => { s with ptp := { s.ptp with txInfo := 0 }, hif := { s.hif with readData := 0 } }
  | e :: r =>
    let late := (s.port n).late
    let s := s.modPort n (fun p => { p with queue := p.queue.drop 1, ovfArmed := true, late := none })
    let s := match late with | some x => queueStamp n x s | none => s
    { s with
      ptp := { s.ptp with txLo := BitVec.ofNat 32 e.time, txHi := BitVec.ofNat 32 (e.time / two32),
                          txInfo := BitVec.ofNat 32 (256 * r.length + 2 * e.port + 1) }
      hif := { s.hif with readData := BitVec.ofNat 32 e.tag } }

/-- PTP_TXTS_TAG_READ. [Log: 50 DEDUCED] -/
def execPtpTxtsTagRead (s : State) : Out :=
  if s.blockLive 0x1064 then .next (popTxStamp s) else .next { s with hif := { s.hif with readData := 0 } }

/-! ### Registers with actions (R447) -/

/-- The domains that a register change affects return to LISTENING; if one leads, the lead is lost (R436, R447). -/
def relisten (d : Nat) (s : State) : State :=
  let lead := s.tim.lead = some d
  let s := resetDom d s
  if lead then loseLead false d s else s

/-- PTP_CTRL's fields; PORT_MAP 3 is outside its range and ignored (R552). [Log: 49 DEDUCED] -/
def setPtpCtrl (v : Reg) (s : State) : State :=
  let m := v.toNat % 4
  let new : Ptp := { s.ptp with enA := v.getLsbD 4, enB := v.getLsbD 5, portMap := if m < 3 then m else s.ptp.portMap }
  let port (p : Ptp) (d : Nat) : Nat := if p.portMap = 2 then d else p.portMap
  let a := s.ptp.enA != new.enA || port s.ptp 0 != port new 0
  let b := s.ptp.enB != new.enB || port s.ptp 1 != port new 1
  let s := { s with ptp := new }
  let s := if a then relisten 0 s else s
  if b then relisten 1 s else s

/-- PTP_DOM_CFG of the selected domain; PROFILE and TRANSPORT codes above 1 are ignored. [Log: 49 DEDUCED] -/
def setDomCfg (v : Reg) (s : State) : State :=
  let d := s.ptp.domSel
  let x := s.dom d
  let n := v.toNat
  let new : PtpDom := { x with
    num := n % 256, transport := if n / 256 % 4 < 2 then n / 256 % 4 else x.transport, delayP2p := v.getLsbD 10
    profile := if n / 2048 % 4 < 2 then n / 2048 % 4 else x.profile }
  if new = x then s else relisten d (s.modDom d (fun _ => new))

/-- PTP_DOMAIN_RECONFIGURE: a write of PTP_CTRL or of PTP_DOM_CFG. -/
def execPtpDomainReconfigure (off : Nat) (v : Reg) (s : State) : Out :=
  if !s.takesWrite off then .next s
  else if off = 0x1000 then .next (setPtpCtrl v s)
  else if off = 0x100C then .next (setDomCfg v s)
  else .next s

/-- PTP_MDIO_GO: the fields take what is written, and a clause-22 access of the selected port starts with them; while one
runs there, GO alone has no effect (R552). [Log: 63 DEDUCED] -/
def execPtpMdioGo (v : Reg) (s : State) : Out :=
  if !s.takesWrite 0x1058 then .next s
  else .next (s.modPort s.ptp.portSel (fun p => { p with
    mdioGo := p.mdioGo || v.getLsbD 31, mdioWr := if p.mdioGo then p.mdioWr else v.getLsbD 30, mdio := v &&& 0x7E1FFFFF#32 }))

/-- MDIO_ACCESS_DONE: GO clears, and a read leaves its result in DATA. -/
def execMdioAccessDone (x : MdioAnswer) (s : State) : Out :=
  if !(s.port x.port).mdioGo then .next s
  else .next (s.modPort x.port (fun p => { p with
    mdioGo := false
    mdio := if p.mdioWr then p.mdio else (p.mdio &&& 0xFFFF0000#32) ||| BitVec.ofNat 32 (x.data % two16) }))

end Sys2Proof.Machine
end

