-- ==== Sys2Proof/Machine/TakeForce.lean ====
section
/-! DEFINITION. What takes force at a sample instant (R244, R249, R280, R287, R394, R395, R401, R416): configurations,
parameter images, cell states, caps, overrides and balancing policies. -/

namespace Sys2Proof.Machine

/-- Fields that a CONFIG_LOAD puts in force before any sample instant (R394): they stay as they are. -/
def keepImmediate (cur new : GlobalCfg) : GlobalCfg :=
  { new with frameRate := cur.frameRate, windowMode := cur.windowMode, windowCycles := cur.windowCycles,
             windowMs := cur.windowMs, framePhase := cur.framePhase, rrefCorr := cur.rrefCorr, timeSrc := cur.timeSrc, xo := cur.xo }

def keepShunt (cur new : StrCfg) : StrCfg :=
  { new with shuntR := cur.shuntR, shuntAlpha := cur.shuntAlpha, shuntBeta := cur.shuntBeta, shuntPol := cur.shuntPol }

/-- The balancing fields of R214 that BAL_POLICY sets. -/
def copyBalance (src dst : StrCfg) : StrCfg :=
  { dst with balMode := src.balMode, balGateLead := src.balGateLead, balAdjK := src.balAdjK, balMidSoc := src.balMidSoc,
             balStart := src.balStart, balStop := src.balStop, balDwell := src.balDwell, balHorizon := src.balHorizon,
             balRBleed := src.balRBleed, balRSw := src.balRSw, balTMax := src.balTMax }

/-- A cell type with another chemistry or kind (R244). -/
def newChem (a b : Image) : Bool := imgChem a != imgChem b || imgKind a != imgKind b

/-- A configuration page of every reachable monitor is to be rewritten (R395); during a tie-in, of every monitor that it leaves
reachable, since its step 6 may have written an old page. -/
def rewriteMons (n : Nat) (s : State) : State :=
  ropeGap n (s.modRope n (fun r => { r with rewrite :=
    if r.tie.isSome then (List.range (s.expect n)).map (· + 1) else (r.mons.filter (fun e => e.2.reachable)).map (·.1) }))

/-- The host frames of a rope, waiting or in flight, each with the end that serves it. -/
def rawsOf (s : State) (n : Nat) : List (Submission × RopeEnd) :=
  let r := s.ropeStr n
  r.rawQueue.map (fun e => (e.1, s.servedFrom n (e.1.pU 2 1))) ++
    r.inflight.filterMap (fun t => match t.use with | .raw sub => some (sub, t.fromEnd) | _ => none) ++
    r.txnWait.filterMap (fun w => match w.2.2.1 with | .raw sub => some (sub, w.1) | _ => none)

/-- A disabled string's rope stops all traffic (R395): its mode is DOWN and no monitor is reachable any more; host frames
that wait on it fail in three attempts as on a monitor that has become unreachable (R167, R193). Counters and what tie-in
found stay. [Log: 30 DEDUCED] -/
def stopRope (n : Nat) (s : State) : State :=
  let r := s.ropeStr n
  let raws := rawsOf s n
  let s := s.modRope n (fun r => { RopeStr.reset with
    tieResult := r.tieResult, tied := r.tied, count := r.count, top := r.top, sticky := r.sticky, hot := r.hot, dlyWarn := r.dlyWarn, unaddr := r.unaddr,
    tRing := r.tRing, tRingNs := r.tRingNs, crcCnt := r.crcCnt, retryCnt := r.retryCnt, failCnt := r.failCnt, belayMiss := r.belayMiss,
    belayCnt := r.belayCnt, seqs := r.seqs, anchorF := r.top + 1, mons := (setReach 0 (r.top + 1) r).mons, oldAuth := r.oldAuth })
  let s := modeEvent n r s
  let s := raws.foldl (fun s e => complete 0x11 e.1 stRopeTimeout [0, 0, BitVec.ofNat 8 (endIdx e.2), 3] s) s
  toneLevel (authUnreach n (if r.tie.isSome then tieCmdDone n s else s))

/-- A new enumeration, or one that follows the tie-in in progress (R395, R416). -/
def retie (n : Nat) (s : State) : State :=
  if (s.ropeStr n).tie.isSome then s.modRope n (fun r => { r with tieAgain := true }) else tieBegin n 1 s

/-- Rope effects of a new section of string `n`, and the frozen capacity of a string whose type changes its CHEM_ID (R395,
R541), enabled or not. The cells and the qualified discharge follow in the array, at the frame's time update (`adoptFrame`). -/
def takeSection (old : StrCfg) (n : Nat) (s : State) : State :=
  let new := s.strCfg n
  let was := old.enable == 1
  let now := new.enable == 1
  let s := match s.image old.cellType, s.image new.cellType with
    | some x, some y => if n < 4 && imgChem x != imgChem y then setFrozen n (designCap s n) s else s
    | _, _ => s
  if was && !now then stopRope n s
  else if !now then s
  else
    let s := if was && (old.monOv != new.monOv || old.monUv != new.monUv || old.balRBleed != new.balRBleed || old.balRSw != new.balRSw)
      then rewriteMons n s else s
    if !was || old.monExpect != new.monExpect then retie n s else s

/-- CONFIG_TAKE_FORCE: every field that waits for the sample instant (R394). [Log: 28 DEDUCED] -/
def takeConfig (b : ConfigBlock) (s : State) : State :=
  let old := s.cfg.live
  let live := { b with glob := keepImmediate old.glob b.glob, strs := List.zipWith keepShunt old.strs b.strs }
  let s := { s with frm := { s.frm with scheme := { s.frm.scheme with lineFreq := b.glob.lineFreq } }
                    cfg := { s.cfg with live := live, block := s.cfg.block.map (fun k => if k.configId = b.configId then b else k) } }
  let s := pinsRestart old live s
  let s := (List.range 8).foldl (fun s n => takeSection (old.strs.getD n StrCfg.template) n s) s
  s.judgePeriod

/-- IMAGE_TAKE_FORCE (R244); the cells follow in the array, at the frame's time update (`adoptFrame`). [Log: 28 DEDUCED] -/
def takeImages (l : List (Nat × Image)) (s : State) : State :=
  ({ s with cfg := { s.cfg with images := l.foldl (fun (a : List (Option Image)) (e : Nat × Image) => a.set e.1 (some e.2)) s.cfg.images } }).judgePeriod

/-- Balancing fields of BAL_POLICY: in force, and in the block that CONFIG_READ reports (R214, R396). A change of the
fields that a monitor's configuration page holds is written to the monitors (R395). [Log: 38 DEDUCED] -/
def takePolicy (n : Nat) (c : StrCfg) (s : State) : State :=
  let old := s.strCfg n
  let put (b : ConfigBlock) : ConfigBlock := { b with strs := b.strs.modify n (copyBalance c) }
  let s := { s with cfg := { s.cfg with live := put s.cfg.live, block := s.cfg.block.map put } }
  if s.enabled n && (old.balRBleed != c.balRBleed || old.balRSw != c.balRSw) then rewriteMons n s else s

/-- One waiting change takes force; states and caps wait for the frame's time update. [Log: 27 DEDUCED] -/
def takeOne (t : TakeForce) (s : State) : State :=
  match t with
  | .config b => takeConfig b s
  | .images l => takeImages l s
  | .balPolicy n c => takePolicy n c s
  | .states _ | .caps _ => s
  | .override n cells flags on => s.modLim n (fun x => { x with override := if on then some cells else none, ovFlags := if on then flags else 0 })

/-- The take-force counts in TAKE_GEN (R321). [Log: 27 DEDUCED] -/
def TakeForce.counts : TakeForce → Bool
  | .config _ | .images _ | .states _ | .caps _ => true
  | .balPolicy _ _ | .override _ _ _ _ => false

/-- The records of a STATE_WRITE. -/
def TakeForce.records : TakeForce → List (List Byte)
  | .states recs => recs
  | _ => []

/-- The caps of a LIMIT_SET. -/
def TakeForce.capsOf : TakeForce → Option (List (List Nat))
  | .caps l => some l
  | _ => none

/-- The change takes force at the next sample instant, whether or not its START SYNC has been sent (R214, R280, R401). [Log: 27 DEDUCED] -/
def TakeForce.anyInstant : TakeForce → Bool
  | .caps _ | .balPolicy _ _ | .override _ _ _ _ => true
  | .config _ | .images _ | .states _ => false

/-- A change waits for its sample instant: that of the first frame whose START SYNC is sent later (R244, R287, R394), or
the next one. [Log: 27 DEDUCED] -/
def awaitInstant (t : TakeForce) (s : State) : State :=
  let n := if t.counts then wrap32 (s.cfg.takeNext + 1) else s.cfg.takeNext
  { s with cfg := { s.cfg with waiting := s.cfg.waiting ++ [{ what := t, synced := t.anyInstant, gen := n }], takeNext := n } }

/-- What governs the frame that starts at this sample instant (R244, R287, R394, R527). -/
def takeOf (epoch : Nat) (due : List TakeForce) (s : State) : EstTake :=
  { epoch, live := s.cfg.live, images := s.cfg.images
    auth := (List.range 8).flatMap (fun n => (s.modules n).map (fun m => (64 * n + m, s.authOf n m)))
    writes := due.flatMap TakeForce.records, caps := (due.filterMap TakeForce.capsOf).getLast? }

/-- Of two configurations at one sample instant the one that completed later governs wholly (R416). [Log: 27 DEDUCED] -/
def governing : List TakeForce → List TakeForce
  | [] => []
  | t :: r =>
    let isConfig (x : TakeForce) : Bool := match x with | .config _ => true | _ => false
    if isConfig t && r.any isConfig then governing r else t :: governing r

/-- TAKE_GEN: every change up to this number, in the order of completion, has taken force (R321, R386). A LIMIT_SET whose
caps take force before a change that completed earlier counts with that one. [Log: 27 DEDUCED] -/
def reachedGen (waiting : List Waiting) (next : Nat) : Nat :=
  match waiting.find? (fun w => w.what.counts) with
  | some w => wrap32 (w.gen + (two32 - 1))
  | none => next

/-- Every change whose START SYNC has been sent takes force, in the order of completion; what concerns the array is kept
for the time update of the frame that starts here (R259, R361, R416). [Log: 27 DEDUCED] -/
def takeForces (epoch : Nat) (s : State) : State :=
  let due := (s.cfg.waiting.filter (·.synced)).map (·.what)
  let rest := s.cfg.waiting.filter (fun w => !w.synced)
  let s := { s with cfg := { s.cfg with waiting := rest, takeGen := reachedGen rest s.cfg.takeNext } }
  let s := (governing due).foldl (fun s t => takeOne t s) s
  { s with est := { s.est with takes := s.est.takes ++ [takeOf epoch due s] } }

end Sys2Proof.Machine
end

