-- ==== Sys2Proof/Machine/Windows.lean ====
section
/-! DEFINITION. Windows, line lock, frames and re-anchoring (R12 to R25, R38 to R41, R194, R195, R473, R585, R586). -/

namespace Sys2Proof.Machine

/-! ### Line lock (R14, R16) -/

/-- Line lock is lost. EV61 is raised in LINE mode only. A lock that was lost before measurement start, or in FIXED mode,
stays lost when LINE mode takes force: its windows run held with WIN_HOLD, and no EV61 follows for that loss. [Log: 25 DEDUCED] -/
def loseLine (s : State) : State :=
  let s := holdEnd { s with frm := { s.frm with line := { s.frm.line with lost := true, goodTicks := 0, outRun := 0 } } }
  if s.frm.scheme.fixed || !s.frm.measuring then s else raise 61 0 s

/-- The windows move to the predicted crossings through one transition window. -/
def lineReanchor (s : State) : State :=
  if s.frm.scheme.fixed || !s.frm.measuring then s else s.reanchor { Reanchor.at_ s.clk.ticks with lineBack := true }

/-- Lock returns: the windows move to the locked boundaries by a re-anchoring. [Log: 25 DEDUCED] -/
def regainLine (p : Nat) (s : State) : State :=
  lineReanchor { s with frm := { s.frm with line := { s.frm.line with lost := false, tracked := true, period := p, outRun := 0, goodTicks := 0 } } }

/-- One mains period of `p` ticks, judged on its own (R16): 44.5 and 65.5 Hz, 45.5 and 64.5 Hz. The first period measured
moves the windows to the crossings as a return of lock does. [Log: 25 DEDUCED] -/
def judgeMains (p : Nat) (s : State) : State :=
  let l := s.frm.line
  let outside := 2 * tickHz < 89 * p || 131 * p < 2 * tickHz
  let good := 91 * p ≤ 2 * tickHz && 2 * tickHz ≤ 129 * p
  if l.lost then
    let g := if good then l.goodTicks + p else 0
    if secTicks 10 ≤ g then regainLine p s else { s with frm := { s.frm with line := { l with goodTicks := g } } }
  else if outside then
    if 3 ≤ l.outRun + 1 then loseLine s else { s with frm := { s.frm with line := { l with outRun := l.outRun + 1 } } }
  else
    let s' := { s with frm := { s.frm with line := { l with outRun := 0, tracked := true, period := p } } }
    if l.tracked then s' else lineReanchor s'

/-- LINE_ZERO_CROSSING. -/
def execLineZeroCrossing (s : State) : Out :=
  let s' := match s.frm.line.lastCross with
    | some t => judgeMains (s.clk.ticks - t) s
    | none => s
  .next (replan { s' with frm := { s'.frm with line := { s'.frm.line with lastCross := some s.clk.ticks } } })

/-- No crossing has arrived for three predicted periods, counted from the last one or from measurement start (R16, R585). [Log: 2 DESIGN CHOICE] -/
def crossingLate (s : State) : Bool :=
  let from_ := s.frm.line.lastCross.orElse (fun _ => if s.frm.measuring then some s.frm.measStart else none)
  from_.any (fun t => t + 3 * linePeriod s ≤ s.clk.ticks)

/-- LINE_CROSSING_TIMEOUT: no crossing within 3 predicted periods. -/
def execLineCrossingTimeout (s : State) : Out :=
  if crossingLate s then
    let s := if s.frm.line.lost then s else loseLine s
    .next { s with frm := { s.frm with line := { s.frm.line with lastCross := none, goodTicks := 0 } } }
  else .next s

/-! ### Re-anchoring (R39, R40, R586) -/

/-- The window that starts next is a frame window whose boundary is frozen (R20). -/
def State.frozenNext (s : State) : Bool := s.frm.frames.any (fun f => f.win == s.frm.win + 1 && !f.sampled)

/-- A re-anchoring takes force at the boundary `b`: its earliest boundary has come, it does not move a frozen frame window
unless it was due there before the freeze, and a change of power state waits for RUN or LEAN. -/
def eligibleAt (s : State) (b : Nat) (r : Reanchor) : Bool :=
  decide (r.earliest ≤ b) && (!s.frozenNext || r.early) && (r.lean.isNone || s.live)

/-- The scheme has a boundary at a tick `b` of TIME64 label `ns`: on the grid of FIXED mode, or within 2 µs of a
predicted crossing. A LINE scheme without lock has its boundaries where its windows run (R16). [Log: 25 DEDUCED] -/
def boundaryAt (c : Scheme) (b ns : Nat) (s : State) : Bool :=
  if c.fixed then
    let g := c.gridFrom (ns - 5)
    decide (g ≤ ns + 4)
  else if s.frm.line.predicts then near2us (crossNear s b) b else true

/-- A change of power state at its boundary (R473): traverse jobs end on entry to LEAN (R313). -/
def applyPower (l : List Reanchor) (s : State) : State :=
  match l.filterMap (·.lean) |>.getLast? with
  | some true => settleWork (abortJobs (enterPower .lean s))
  | some false => settleWork (enterPower .run s)
  | none => s

/-- The nominal instant that follows a window's start: the first one at or after it, or after it where a frame takes that
window (R19, R40). -/
def nominalAfter (c : Scheme) (t : Nat) (framed : Bool) : Nat := c.nominalFrom (if framed then t + 1 else t)

/-- Every eligible re-anchoring takes force, all of them together. -/
def reanchorAt (b : Nat) (s : State) : State :=
  let due := s.frm.reanchors.filter (eligibleAt s b)
  if due.isEmpty then { s with frm := { s.frm with transition := false } }
  else
    let c := due.foldl applyScheme s.frm.scheme
    let framed := s.frozenNext
    let s := { s with frm := { s.frm with
      reanchors := s.frm.reanchors.filter (fun r => !eligibleAt s b r)
      scheme := c
      transition := !framed && !(if c.fixed then onGrid c s else boundaryAt c b s.now s)
      nextNominal := nominalAfter c (if c.fixed then (gridNow c s).getD s.now else s.now) framed
      stepMark := s.frm.stepMark || (!framed && due.any (·.timeStep)) } }
    applyPower due (if due.any (·.scheme.isSome) then s.judgePeriod else s)

/-! ### Window boundaries (R12, R22, R23, R46, R51) -/

/-- The ropes on which a fault tone has been returned since a tick. -/
def tonesSince (s : State) (t0 : Nat) : BitVec 8 :=
  BitVec.ofNat 8 ((List.range 8).foldl (fun a n => a + bit ((s.ropeStr n).faultTick.any (t0 ≤ ·)) n) 0)

/-- The frame window that ends closes its frame: W, the span of R23 and its flags. -/
def closeFrame (b : Nat) (s : State) : State :=
  let f := s.frm
  let span := b - f.spanStart
  let hit (x : FrameRec) : Bool := x.win == f.win && x.sampled && !x.closed
  if f.frames.any hit then
    settleWork { s with frm := { f with
        frames := f.frames.map (fun x => if hit x then
          { x with closed := true, closeTick := b, tones := tonesSince s f.spanStart, wTicks := b - f.winStart, spanTicks := span, transition := f.spanTrans || f.transition,
                   winHold := f.line.lost && !f.scheme.fixed } else x)
        spanStart := b, spanTrans := false } }
  else { s with frm := { f with spanTrans := f.spanTrans || f.transition } }

/-- A window that is no frame window, no transition window and not window 0 passes over every nominal instant up to its
start: no SYNC announced it (R19, R20). [Log: 25 DEDUCED] -/
def passNominal (s : State) : State :=
  let f := s.frm
  if f.transition || f.nextNominal > f.winTime then s
  else { s with frm := { f with nextNominal := nominalAfter f.scheme f.winTime true } }

/-- The window in progress ends at this tick for every string, and the next begins on the other converters. -/
def nextWindow (s : State) : State :=
  let b := s.clk.ticks
  let num := s.frm.win + 1
  let s := { s with frm := { s.frm with
    win := num, winStart := b, winTime := if s.frm.scheme.fixed then (gridNow s.frm.scheme s).getD s.now else s.now, frozen := false } }
  let s := planEnd (passNominal s)
  let s := tuneBoundary num (owBoundary s)
  (List.range 8).foldl (fun s n => openWindow n num s) s

/-- WINDOW_BOUNDARY: it takes effect at the tick on which the window in progress ends. [Log: 2 DESIGN CHOICE] -/
def execWindowBoundary (_ : Held) (s : State) : Out :=
  if !s.metering || !endsIn 0 s then .next s
  else
    let b := s.clk.ticks
    let f := s.frm
    let s := { s with met := { s.met with winLen := wrap32 (b - f.winStart) } }
    let s := (List.range 8).foldl (fun s n => closeWindow n f.win f.winStart (b - f.winStart) f.transition s) s
    .next (nextWindow (reanchorAt b (closeFrame b s)))

/-- Measurement start (R585): window 0 of the scheme that the configuration gives. -/
def startMeasurement (s : State) : State :=
  let b := s.clk.ticks
  let c := schemeOf s.cfg.live.glob { Scheme.reset with shift := 0, lean := false }
  let c := { c with shift := shiftFor c.rate (demand s.cfg.live s.cfg.images) s.lanesFree }
  let grid := gridNow c s
  let t := if c.fixed then grid.getD s.now else s.now
  let s := { s with frm := { s.frm with
    measuring := true, measStart := b, win := 0, winStart := b, winTime := t, scheme := c, frozen := false
    transition := if c.fixed then grid.isNone else !boundaryAt c b s.now s
    nextNominal := c.nominalFrom t, spanStart := b, spanTrans := false } }
  let s := planEnd { s with sar := { s.sar with round := 0, roundStart := b, roundOn := false },
                            met := { s.met with owBase := b, owTurn := 0, owDue := [] } }
  let s := (List.range 34).foldl (fun s u => s.modTun u (fun t => t.evaluate s.tun.dieT)) s
  (List.range 8).foldl (fun s n => openWindow n 0 s) s

/-! ### SYNC (R18 to R21, R24, R194, R195) -/

/-- SPAN in units of 20 µs. -/
def spanUnits (ticks : Nat) : Nat := ticks / 4800

/-- TIME64 at the end of the window in progress, `d` ticks from now. -/
def endLabel (d : Nat) (s : State) : Nat :=
  if s.frm.scheme.fixed then s.frm.winEndNs else rawIn d s / two32

/-- Windows of the continuation from the end boundary of label `te` until the next frame window (R195); lengths in 1/6 ns. -/
def windowsAhead (s : State) (te w : Nat) : Nat :=
  if s.frm.nextNominal ≤ te then 0 else (6 * (s.frm.nextNominal - te) + 25 * w - 1) / max 1 (25 * w)

/-- The re-anchorings that take force at the boundary 500 µs ahead, and the scheme from there. -/
def dueAhead (s : State) : List Reanchor := s.frm.reanchors.filter (fun r => eligibleAt s (s.clk.ticks + syncLead) r)

/-- The window that starts 500 µs ahead is the frame window of the next nominal instant (R19, R40): the window in
progress ends there, the window ahead is an ordinary one of the scheme in force from there, and it starts at or after
that instant. -/
def frameAhead (s : State) : Bool :=
  let due := dueAhead s
  let c := due.foldl applyScheme s.frm.scheme
  let te := endLabel syncLead s
  let nominal := if due.isEmpty then s.frm.nextNominal else c.nominalFrom te
  endsIn syncLead s && (due.isEmpty || boundaryAt c (s.clk.ticks + syncLead) te s) && decide (nominal ≤ te)

/-- The nominal instant after that of the frame window 500 µs ahead. -/
def nominalThen (s : State) : Nat := nominalAfter ((dueAhead s).foldl applyScheme s.frm.scheme) (endLabel syncLead s) true

/-- The END SPAN, sent 500 µs ahead of its boundary. [Log: 26 DEDUCED] -/
def endSpan (s : State) : Nat :=
  if s.frozenNext || frameAhead s then 0
  else
    let w := windowTicks s
    let te := s.clk.ticks + syncLead
    let i := windowsAhead s (endLabel syncLead s) w
    let broken := s.frm.reanchors.any (fun r => decide (r.earliest ≤ te + i * w))
    if broken || 0xFFFE < spanUnits (i * w) then 0xFFFF else spanUnits (i * w)

/-- START_SYNC: the next window is frozen as a frame window and the epoch assigned; re-anchorings due at its start stay
due there. In HOLD no SYNC is sent and no frame is estimated; the epoch counts on (R476). [Log: 2 DESIGN CHOICE, 26 DEDUCED, 43 DEDUCED] -/
def execStartSync (s : State) : Out :=
  let f := s.frm
  if !s.metering || s.frozenNext || !frameAhead s then .next s
  else if s.pwr.state == .hold then
    .next { s with frm := { f with epoch := f.epoch + 1, nextNominal := nominalThen s, frameCount := wrap64 (f.frameCount + 1) }
                   diag := { s.diag with outSupply := sat32 (s.diag.outSupply + 1) } }
  else if !s.live then .next s
  else
    let k := f.epoch + 1
    let due := dueAhead s
    let c := due.foldl applyScheme f.scheme
    let r : FrameRec :=
      { epoch := k, tSample := 0, startTick := 0, win := f.win + 1, wTicks := 0, spanTicks := 0, gateSync := f.endUnknown, winHold := false,
        timeStep := f.stepMark || due.any (·.timeStep), unsync := false, suspect := false, transition := false, lean := c.lean,
        doubled := c.shift != 0, sampled := false, endSynced := false, closed := false, locked := false, timeDone := false, updated := false,
        swept := false, ended := false, takeGen := 0, closeTick := 0, stv := List.replicate 8 0, modes := List.replicate 8 3, tones := 0 }
    let early (r : Reanchor) : Reanchor := { r with early := r.early || eligibleAt s (s.clk.ticks + syncLead) r }
    let w := if c.fixed then c.windowMs * 240000 else c.cycles * linePeriod { s with frm := { f with scheme := c } }
    let s := freezeEnd { s with
      frm := { f with epoch := k, frames := f.frames ++ [r], nextNominal := nominalThen s, stepMark := false,
                      reanchors := f.reanchors.map early, frameCount := wrap64 (f.frameCount + 1) }
      cfg := { s.cfg with waiting := s.cfg.waiting.map (fun w => { w with synced := true }) } }
    .next (sendSync 0 k (spanUnits w) s)

/-- END_SYNC: the end boundary of the frame window in progress is frozen 500 µs ahead. [Log: 2 DESIGN CHOICE] -/
def execEndSync (s : State) : Out :=
  match s.frm.frames.find? (fun f => f.win == s.frm.win && f.sampled && !f.endSynced && !f.closed) with
  | none => .next s
  | some f =>
    if !s.live || !endsIn syncLead s then .next s
    else
      let span := endSpan s
      let s := freezeEnd (s.modFrame f.epoch (fun x => { x with endSynced := true }))
      .next (sendSync 1 f.epoch span { s with frm := { s.frm with endUnknown := span = 0xFFFF } })

/-! ### The sample instant (R19, R22, R131, R394) -/

/-- Results of module authentication take force, those that a tie-in in progress keeps included (R527). -/
def takeAuth (s : State) : State :=
  { s with rope := { s.rope with strs := s.rope.strs.map (fun r => { r with
      mons := r.mons.map (fun e => (e.1, { e.2 with auth := e.2.authNext.getD e.2.auth, authNext := none }))
      oldAuth := r.oldAuth.map (fun e => (e.1, { e.2 with auth := e.2.next.getD e.2.auth, next := none })) }) } }

/-- SAMPLE_INSTANT: the frame window has just begun. What takes force here governs that whole window and its FRAME runs
(R337, R394). [Log: 27 DEDUCED] -/
def execSampleInstant (s : State) : Out :=
  match s.frm.frames.find? (fun f => f.win == s.frm.win && !f.sampled) with
  | none => .next s
  | some f =>
    if !s.live then .next s
    else
      let s := triggerBoth .frame ((List.range 8).foldl resnap (takeForces f.epoch (takeAuth s)))
      .next (s.modFrame f.epoch (fun x =>
        { x with sampled := true, tSample := s.frm.winTime, startTick := s.frm.winStart, locked := !s.unsync, unsync := s.unsync,
                 suspect := s.tim.suspect, takeGen := s.cfg.takeGen }))

/-! ### PWR_CTRL.MODE (R473) -/

/-- PWR_MODE_WRITE: 0 RUN, 1 LEAN; the change re-anchors at the first boundary at least 1 ms later. -/
def execPwrModeWrite (v : Reg) (s : State) : Out :=
  let m := v.getLsbD 0
  if !s.takesWrite 0x2400 then .next s
  else
    let s := { s with pwr := { s.pwr with mode := m } }
    if s.nextScheme.lean = m then .next s
    else .next (s.reanchor { Reanchor.at_ (s.clk.ticks + 240000) with lean := some m })

end Sys2Proof.Machine
end

