-- ==== Sys2Proof/Machine/ConfigCmds.lean ====
section
/-! DEFINITION. Configuration, parameter images, policies, caps, overrides and cell states: NOP, IDENTIFY, CONFIG_LOAD,
CONFIG_READ, PARAM_LOAD, PARAM_COMMIT, PARAM_READ, BAL_POLICY, BAL_OVERRIDE, LIMIT_SET, STATE_WRITE (R280, R285 to R287,
R382 to R401). -/

namespace Sys2Proof.Machine

/-! ### The configuration block in bytes (R388 to R390) -/

def pinBytes (p : ThPin) : List Byte :=
  [BitVec.ofNat 8 p.kind, BitVec.ofNat 8 p.group, 0, 0] ++ sBytes 4 p.coefA ++ sBytes 4 p.coefB ++ sBytes 4 p.coefC

def globBytes (g : GlobalCfg) : List Byte :=
  fit 512 (leBytes 1 g.frameRate ++ leBytes 1 g.windowMode ++ leBytes 1 g.windowCycles ++ leBytes 1 g.lineFreq ++ leBytes 2 g.windowMs ++
    leBytes 1 g.timeSrc ++ leBytes 1 g.thrEn ++ leBytes 4 g.framePhase ++ sBytes 4 g.rrefCorr ++ sBytes 2 g.thrT0 ++ leBytes 2 g.thrDt ++
    leBytes 2 g.thrHyst ++ leBytes 2 g.thrDown ++ leBytes 2 g.thrUp ++ leBytes 2 g.suspectDt ++ leBytes 2 g.suspectTime ++ zeros 2 ++
    (List.range 4).flatMap (fun i => sBytes 4 (g.xo.getD i 0)) ++ zeros 16 ++
    (List.range 16).flatMap (fun p => pinBytes (g.pins.getD p ThPin.template)))

def strBytes (c : StrCfg) : List Byte :=
  fit 128 (leBytes 1 c.enable ++ leBytes 1 c.cellType ++ leBytes 1 c.monExpect ++ leBytes 1 c.shuntPol ++ leBytes 1 c.shuntTh ++
    leBytes 1 c.authPolicy ++ leBytes 1 c.ambPin ++ leBytes 1 c.enclPin ++ leBytes 4 c.shuntR ++ sBytes 4 c.shuntAlpha ++
    sBytes 4 c.shuntBeta ++ leBytes 2 c.shuntLegR ++ leBytes 2 c.extGainUnc ++ leBytes 4 c.stvRatio ++ leBytes 2 c.shuntPins.toNat ++
    leBytes 2 c.busbarPins.toNat ++ leBytes 2 c.cellVMax ++ leBytes 2 c.cellVMin ++ sBytes 2 c.cellTMax ++ sBytes 2 c.cellTMin ++
    sBytes 4 c.iChgMax ++ sBytes 4 c.iDisMax ++ leBytes 2 c.eRefRate ++ leBytes 2 c.initSoh ++ leBytes 4 c.restI ++ leBytes 2 c.monOv ++
    leBytes 2 c.monUv ++ leBytes 1 c.balMode ++ leBytes 1 c.balGateLead ++ leBytes 1 c.balAdjK ++ zeros 1 ++ leBytes 4 c.balMidSoc ++
    leBytes 2 c.balStart ++ leBytes 2 c.balStop ++ leBytes 2 c.balDwell ++ leBytes 2 c.balHorizon ++ leBytes 2 c.balRBleed ++
    leBytes 2 c.balRSw ++ sBytes 2 c.balTMax ++ leBytes 2 c.staleLimit) ++
  fit 128 ((List.range 32).flatMap (fun m => leBytes 2 (c.cellsUsed.getD m 0).toNat))

/-- LEN of a block. -/
def blockLen (b : ConfigBlock) : Nat := 2624 + b.sig.length

/-- The whole block, with its signature block if it has one (R396). -/
def blockBytes (b : ConfigBlock) : List Byte :=
  fit 64 (leBytes 4 0x47434631 ++ leBytes 2 1 ++ leBytes 1 (bit b.signed 0) ++ zeros 1 ++ leBytes 4 (blockLen b) ++ leBytes 4 b.configId ++
    leBytes 8 b.devSerial) ++ globBytes b.glob ++ (List.range 8).flatMap (fun n => strBytes (b.strs.getD n StrCfg.template)) ++ b.sig

def parsePin (b : List Byte) : ThPin :=
  { kind := fieldU b 0 1, group := fieldU b 1 1, coefA := fieldS b 4 4, coefB := fieldS b 8 4, coefC := fieldS b 12 4 }

def parseGlob (b : List Byte) : GlobalCfg :=
  { frameRate := fieldU b 0 1, windowMode := fieldU b 1 1, windowCycles := fieldU b 2 1, lineFreq := fieldU b 3 1, windowMs := fieldU b 4 2,
    timeSrc := fieldU b 6 1, thrEn := fieldU b 7 1, framePhase := fieldU b 8 4, rrefCorr := fieldS b 12 4, thrT0 := fieldS b 16 2,
    thrDt := fieldU b 18 2, thrHyst := fieldU b 20 2, thrDown := fieldU b 22 2, thrUp := fieldU b 24 2, suspectDt := fieldU b 26 2,
    suspectTime := fieldU b 28 2, xo := (List.range 4).map (fun i => fieldS b (32 + 4 * i) 4),
    pins := (List.range 16).map (fun p => parsePin ((b.drop (64 + 16 * p)).take 16)) }

def parseStr (b : List Byte) : StrCfg :=
  { enable := fieldU b 0 1, cellType := fieldU b 1 1, monExpect := fieldU b 2 1, shuntPol := fieldU b 3 1, shuntTh := fieldU b 4 1,
    authPolicy := fieldU b 5 1, ambPin := fieldU b 6 1, enclPin := fieldU b 7 1, shuntR := fieldU b 8 4, shuntAlpha := fieldS b 12 4,
    shuntBeta := fieldS b 16 4, shuntLegR := fieldU b 20 2, extGainUnc := fieldU b 22 2, stvRatio := fieldU b 24 4,
    shuntPins := BitVec.ofNat 16 (fieldU b 28 2), busbarPins := BitVec.ofNat 16 (fieldU b 30 2), cellVMax := fieldU b 32 2,
    cellVMin := fieldU b 34 2, cellTMax := fieldS b 36 2, cellTMin := fieldS b 38 2, iChgMax := fieldS b 40 4, iDisMax := fieldS b 44 4,
    eRefRate := fieldU b 48 2, initSoh := fieldU b 50 2, restI := fieldU b 52 4, monOv := fieldU b 56 2, monUv := fieldU b 58 2,
    balMode := fieldU b 60 1, balGateLead := fieldU b 61 1, balAdjK := fieldU b 62 1, balMidSoc := fieldU b 64 4, balStart := fieldU b 68 2,
    balStop := fieldU b 70 2, balDwell := fieldU b 72 2, balHorizon := fieldU b 74 2, balRBleed := fieldU b 76 2, balRSw := fieldU b 78 2,
    balTMax := fieldS b 80 2, staleLimit := fieldU b 82 2,
    cellsUsed := (List.range 32).map (fun m => BitVec.ofNat 16 (fieldU b (128 + 2 * m) 2)) }

def parseBlock (b : List Byte) : ConfigBlock :=
  { signed := fieldU b 6 1 == 1, configId := fieldU b 12 4, devSerial := fieldU b 16 8, glob := parseGlob ((b.drop 64).take 512),
    strs := (List.range 8).map (fun n => parseStr ((b.drop (576 + 256 * n)).take 256)), sig := b.drop 2624 }

/-- A range of bytes is 0. -/
def zeroAt (b : List Byte) (off n : Nat) : Bool := ((b.drop off).take n).all (· == 0)

/-- Every reserved field of R388 to R390 is 0 (R9). -/
def blockReserved (b : List Byte) : Bool :=
  zeroAt b 7 1 && zeroAt b 24 40 && zeroAt b 94 2 && zeroAt b 112 16 && zeroAt b 384 192 &&
    (List.range 16).all (fun p => zeroAt b (64 + 64 + 16 * p + 2) 2) &&
    (List.range 8).all (fun n => zeroAt b (576 + 256 * n + 63) 1 && zeroAt b (576 + 256 * n + 84) 44 && zeroAt b (576 + 256 * n + 192) 64)

/-! ### The checks of R393 -/

/-- Framing (step 7 of R379). -/
def blockFraming (b : List Byte) (bufLen : Nat) : Bool :=
  fieldU b 0 4 == 0x47434631 && fieldU b 4 2 == 1 && fieldU b 6 1 < 2 && fieldU b 8 4 == bufLen && bufLen == 2624 + 72 * fieldU b 6 1

def within (x : Nat) (lo hi : Nat) : Bool := lo ≤ x && x ≤ hi
def withinI (x lo hi : Int) : Bool := lo ≤ x && x ≤ hi

/-- R14, R15, R17, R83, R270, R391. -/
def globOk (g : GlobalCfg) : Bool :=
  [1, 2, 4, 5, 8, 10, 20, 25, 40, 50].contains g.frameRate && g.framePhase * g.frameRate < 1000000 && g.windowMode < 2 &&
    [1, 2, 4].contains g.windowCycles && [50, 60].contains g.lineFreq && within g.windowMs 5 200 && g.timeSrc < 4 && g.thrEn < 2 &&
    withinI g.rrefCorr (-15000) 15000 && withinI g.thrT0 0 12000 && within g.thrDt 50 1000 && within g.thrHyst 100 1000 &&
    within g.thrDown 10 100 && within g.thrUp 10 6000 && within g.suspectDt 100 5000 && within g.suspectTime 10 600

/-- KIND and GROUP of R391, and the coefficients of a pin with a role (R451). -/
def pinOk (b : ConfigBlock) (p : Nat) : Bool :=
  let c := b.glob.pins.getD p ThPin.template
  c.kind ≤ 2 && (c.kind != 2 || p < 4) && c.group < 16 && (c.kind != 0 || c.coefC == 0) &&
    ((pinRole b p).1 == 0 || c.kind == 1 || (0 < c.coefA && 0 < c.coefB)) && (pinRoles b p).dedup.length ≤ 1

/-- Ranges of the balancing fields (R214). -/
def balanceOk (c : StrCfg) : Bool :=
  c.balMode < 4 && within c.balMidSoc 100000 900000 && within c.balStart 10 5000 && within c.balStop 5 4999 && c.balStop < c.balStart &&
    within c.balDwell 1 3600 && 60 ≤ c.balHorizon && within c.balGateLead 10 200 && within c.balRBleed 10 10000 && c.balRSw ≤ 10000 &&
    withinI c.balTMax (-4000) 10000 && c.balAdjK ≤ 100

/-- Ranges of an enabled string's shunt fields (R44). -/
def shuntOk (c : StrCfg) : Bool :=
  within c.shuntR 10000 1000000 && withinI c.shuntAlpha (-200000) 200000 && withinI c.shuntBeta (-10000) 10000 && c.shuntPol < 2 &&
    (c.shuntTh < 16 || c.shuntTh == 0xFF) && c.shuntLegR ≤ 40000 && c.extGainUnc ≤ 10000

/-- With ALPHA or BETA, SHUNT_TH is one of the string's SHUNT_PINS (R45, R393), whether or not the string is enabled. [Log: 51 DEDUCED] -/
def shuntPinOk (c : StrCfg) : Bool := (c.shuntAlpha == 0 && c.shuntBeta == 0) || (c.shuntTh < 16 && c.shuntPins.getLsbD c.shuntTh)

/-- Ranges of the other fields of a string section (R269, R391). -/
def strOk (c : StrCfg) : Bool :=
  c.enable < 2 && c.cellType < 8 && within c.monExpect 1 32 && c.authPolicy < 8 && (c.ambPin < 16 || c.ambPin == 0xFF) &&
    (c.enclPin < 16 || c.enclPin == 0xFF) && within c.stvRatio 1000 1000000 && within c.initSoh 5000 12000 &&
    (c.restI == 0 || within c.restI 100 100000000) && within c.cellVMax 10000 50000 && within c.cellVMin 5000 45000 &&
    c.cellVMin < c.cellVMax && withinI c.cellTMax (-2000) 10000 && withinI c.cellTMin (-4000) 5000 && c.cellTMin < c.cellTMax &&
    1 ≤ c.iChgMax && 1 ≤ c.iDisMax && within c.eRefRate 10 5000 && c.cellVMax < c.monOv && c.monOv ≤ 50000 && 5000 ≤ c.monUv &&
    c.monUv < c.cellVMin && balanceOk c && within c.staleLimit 10 600 && (c.cellsUsed.drop c.monExpect).all (· == 0) &&
    shuntPinOk c && (c.enable == 0 || shuntOk c)

/-- R37 over the committed images. -/
def ratesOk (b : ConfigBlock) (images : List (Option Image)) : Bool :=
  let n := b.glob.frameRate
  let phys := b.strs.any (fun c => c.enable == 1 && (images.getD c.cellType none).any (fun i => imgKind i == .physics))
  (!phys || n ≤ 25) && n ≤ 50 &&
    (if b.glob.windowMode = 0 then n * b.glob.windowCycles ≤ 40
     else b.glob.windowMs * n ≤ 1000 && 1000 % (n * b.glob.windowMs) == 0) &&
    10 * n * demand b images ≤ 7 * 9600000000

/-- Step 9 of R379 for a configuration block (R393). -/
def blockFieldsOk (s : State) (raw : List Byte) : Bool :=
  let b := parseBlock raw
  blockReserved raw && (b.devSerial == 0 || b.devSerial == Config.serial.toNat) && globOk b.glob && b.strs.all strOk &&
    (List.range 16).all (pinOk b) && b.strs.all (fun c => c.enable == 0 || (s.cfg.committed.getD c.cellType none).isSome) &&
    ratesOk b s.cfg.committed

/-! ### CONFIG_LOAD, CONFIG_READ (R394, R396) -/

/-- The frame group of R394. -/
def frameGroup (g : GlobalCfg) : List Nat := [g.frameRate, g.windowMode, g.windowCycles, g.windowMs, g.framePhase]

/-- A block that passed becomes the block in force: what takes force before the sample instant does so, the rest waits;
the command completes with CONFIG_ID and TAKE_GEN (R385, R386, R394). -/
def configForce (sub : Submission) (b : ConfigBlock) (s : State) : State :=
  let old := s.cfg.live
  let s := if frameGroup old.glob = frameGroup b.glob then s
    else s.reanchor { Reanchor.at_ (s.clk.ticks + 240000) with scheme := some (schemeOf b.glob s.nextScheme) }
  let shunt (cur new : StrCfg) : StrCfg :=
    { cur with shuntR := new.shuntR, shuntAlpha := new.shuntAlpha, shuntBeta := new.shuntBeta, shuntPol := new.shuntPol }
  let glob : GlobalCfg := { old.glob with
    frameRate := b.glob.frameRate, windowMode := b.glob.windowMode, windowCycles := b.glob.windowCycles, windowMs := b.glob.windowMs,
    framePhase := b.glob.framePhase, rrefCorr := b.glob.rrefCorr, xo := b.glob.xo }
  let s := { s with
    cfg := { s.cfg with live := { old with glob := glob, strs := List.zipWith shunt old.strs b.strs }, block := some b }
    tun := { s.tun with corrNext := if b.glob.rrefCorr = old.glob.rrefCorr then s.tun.corrNext else some b.glob.rrefCorr } }
  let s := awaitInstant (.config b) (takeTimeSrc b.glob.timeSrc s)
  complete 0x02 sub stOK (leBytes 4 b.configId ++ leBytes 4 s.cfg.takeNext) s

/-- CONFIG_LOAD; with COMMIT the block is written first (R394). [Log: 28 DEDUCED] -/
def execConfigLoad (sub : Submission) (buf : DmaRead) (s : State) : Out :=
  let raw := bufBytes sub buf
  let b := parseBlock raw
  runCmd 0x02 sub
    ([(sub.formOk [(0, 1)] && sub.hasBuf (sub.bufLen == 2624 || sub.bufLen == 2696) && sub.pU 0 1 < 2, stBadField),
      (s.accepts 0x02, stBusy), bufRead buf, (blockFraming raw sub.bufLen, stBadField)] ++
     (if b.signed then sigChecks s .config raw else [(!s.sec.sealed, stSealed)]) ++ [(blockFieldsOk s raw, stBadField)])
    (fun s => if sub.pU 0 1 = 1 then addJob (.config b) (pagesFor (blockLen b)) (some sub) s else configForce sub b s) s

/-- The stored block as the flash reads it: the older copy where the newer one cannot be read (R485, R499). [Log: 20 DESIGN CHOICE] -/
def storedBlock (s : State) : Option ConfigBlock := if Config.flashEcc s.free 0 then s.cfg.storedOld else s.cfg.stored

/-- The block of a SOURCE. -/
def sourceBlock (s : State) (src : Nat) : Option ConfigBlock :=
  if src = 0 then s.cfg.block else if src = 1 then storedBlock s else some ConfigBlock.template

/-- CONFIG_READ. [Log: 51 DEDUCED] -/
def execConfigRead (sub : Submission) (s : State) : Out :=
  let b := sourceBlock s (sub.pU 0 1)
  runCmd 0x03 sub
    [(sub.formOk [(0, 1)] && sub.pU 0 1 < 3 && sub.hasBuf (b.all (fun x => blockLen x ≤ sub.bufLen)), stBadField), (s.accepts 0x03, stBusy),
     (b.isSome, stBadState)]
    (fun s => match b with
      | some x =>
        let s := if sub.pU 0 1 = 1 then flashRead 1 s else s
        complete 0x03 sub stOK (leBytes 4 (blockLen x) ++ leBytes 4 x.configId) (s.dma sub.bufAddr (blockBytes x))
      | none => s) s

/-! ### Parameter images (R397 to R399) -/

/-- PARAM_LOAD. -/
def execParamLoad (sub : Submission) (buf : DmaRead) (s : State) : Out :=
  let raw := bufBytes sub buf
  let i : Image := { bytes := raw }
  runCmd 0x04 sub
    ([(sub.formOk [(0, 1)] && sub.hasBuf (within sub.bufLen 136 65536) && sub.pU 0 1 < 8, stBadField), (s.accepts 0x04, stBusy), bufRead buf,
      (imgFraming raw sub.bufLen, stBadField)] ++ sigChecks s .image raw ++ [(imgFieldsOk i, stBadField)])
    (fun s => complete 0x04 sub stOK (leBytes 4 (imgChem i) ++ leBytes 4 (imgRev i) ++ leBytes 1 (fieldU raw 6 1))
      { s with cfg := { s.cfg with pending := s.cfg.pending.set (sub.pU 0 1) (some i) } }) s

/-- The pending images of the named slots. -/
def namedPending (s : State) (mask : Nat) : List (Nat × Option Image) :=
  ((List.range 8).filter (fun t => mask.testBit t)).map (fun t => (t, s.cfg.pending.getD t none))

/-- The free sectors cannot hold the new images beside those in force: the slots' own sectors are overwritten (R493). [Log: 52 DEDUCED] -/
def mustOverwrite (s : State) (l : List (Nat × Image)) : Bool :=
  128 < ((s.cfg.committed.filterMap id).map sectorsOf).sum + (l.map (fun e => sectorsOf e.2)).sum

/-- PARAM_COMMIT: the write begins; NVM_PAGE_PROGRAMMED completes it. [Log: 28 DEDUCED] -/
def execParamCommit (sub : Submission) (s : State) : Out :=
  let named := namedPending s (sub.pU 0 1)
  runCmd 0x05 sub
    [(sub.formOk [(0, 1)] && sub.noBuf && sub.pU 0 1 != 0, stBadField), (s.accepts 0x05, stBusy), (named.all (fun e => e.2.isSome), stBadState)]
    (fun s =>
      let l := named.filterMap (fun e => e.2.map (fun i => (e.1, i)))
      addJob (.images l (mustOverwrite s l)) (((l.map (fun e => pagesFor e.2.bytes.length)).sum) + 1) (some sub) s) s

/-- PARAM_READ. -/
def execParamRead (sub : Submission) (s : State) : Out :=
  let slot := sub.pU 0 1
  let pf := sub.pU 1 1
  let i := if pf.testBit 0 then s.cfg.pending.getD slot none else s.image slot
  let whole := pf.testBit 1
  runCmd 0x06 sub
    [(sub.formOk [(0, 1), (1, 1)] && slot < 8 && pf < 4 && sub.hasBuf (if whole then i.all (fun x => imgLen x ≤ sub.bufLen) else 96 ≤ sub.bufLen), stBadField),
     (s.accepts 0x06, stBusy), (i.isSome, stBadState)]
    (fun s => match i with
      | some x =>
        let d := if whole then x.bytes else x.bytes.take 64 ++ fit 32 (imgDigest x)
        complete 0x06 sub stOK (leBytes 4 d.length ++ leBytes 1 1) (s.dma sub.bufAddr d)
      | none => s) s

/-! ### NOP and IDENTIFY (R382, R387) -/

/-- NOP. -/
def execNop (sub : Submission) (s : State) : Out :=
  runCmd 0x00 sub [(sub.formOk [] && sub.noBuf, stBadField), (s.accepts 0x00, stBusy)] (fun s => complete 0x00 sub stOK [] s) s

/-- The running bank. -/
def State.bank (s : State) : Bank := if s.pwr.runB then s.pwr.bankB else s.pwr.bankA

/-- ROOT_SLOTS: a bit for each written root slot. -/
def rootMask (s : State) : Nat := ((List.range 4).map (fun t => bit ((s.root t).isSome) t)).sum

/-- The 128 bytes of R387; what the firmware has not yet loaded reads 0. -/
def identifyBytes (s : State) : List Byte :=
  let up := s.pwr.loaded
  let n (v : Nat) : Nat := if up then v else 0
  fit 64 (leBytes 2 0x1E7B ++ leBytes 2 0x6408 ++ [0x10, 0x01] ++ leBytes 2 (n s.bank.version) ++ leBytes 1 (n (bit s.pwr.runB 0)) ++
      leBytes 1 s.pwr.state.code ++
      leBytes 2 (n (bit s.sec.sealed 0) + n (bit s.cfg.stored.isSome 1) + bit s.frm.measuring 2 + bit s.unsync 3 + n (bit s.pwr.fallback 4)) ++
      leBytes 4 (n ((s.cfg.block.map (·.configId)).getD 0)) ++ leBytes 8 (n Config.serial.toNat) ++ [8, 8, 64] ++ leBytes 1 s.lanesFree ++ [8] ++
      leBytes 1 (n (rootMask s)) ++ leBytes 1 (n s.frm.scheme.shift) ++ zeros 1 ++ leBytes 4 (n s.sys.bootCount) ++ leBytes 2 128 ++ zeros 2 ++
      leBytes 8 s.frm.epoch ++ leBytes 8 s.now) ++
    (if up then fit 64 Config.identityKey else zeros 64)

/-- IDENTIFY. [Log: 28 DEDUCED] -/
def execIdentify (sub : Submission) (s : State) : Out :=
  runCmd 0x01 sub [(sub.formOk [] && sub.hasBuf (128 ≤ sub.bufLen), stBadField), (s.accepts 0x01, stBusy)]
    (fun s => complete 0x01 sub stOK [] (s.dma sub.bufAddr (identifyBytes s))) s

/-! ### Balancing (R214, R221, R401) -/

/-- The balancing fields of a BAL_POLICY (R383), on top of a section. -/
def policyOf (sub : Submission) (c : StrCfg) : StrCfg :=
  { c with balMode := sub.pU 1 1, balGateLead := sub.pU 2 1, balAdjK := sub.pU 3 1, balMidSoc := sub.pU 4 4, balStart := sub.pU 8 2,
           balStop := sub.pU 10 2, balDwell := sub.pU 12 2, balHorizon := sub.pU 14 2, balRBleed := sub.pU 16 2, balRSw := sub.pU 18 2,
           balTMax := sub.pS 20 2 }

/-- BAL_POLICY. -/
def execBalPolicy (sub : Submission) (s : State) : Out :=
  let n := sub.pU 0 1
  let c := policyOf sub (s.strCfg n)
  runCmd 0x18 sub [(sub.formOk [(0, 22)] && sub.noBuf && n < 8 && balanceOk c, stBadField), (s.accepts 0x18, stBusy)]
    (fun s => complete 0x18 sub stOK [] (awaitInstant (.balPolicy n c) s)) s

/-- A duty of at most 16 and bit 5 clear. -/
def overrideByteOk (b : Byte) : Bool := b.toNat % 32 ≤ 16 && !b.getLsbD 5

/-- Two forced cells of one monitor side by side form a same-phase neighbour pair (R218). -/
def forcedPair (l : List Byte) (g : Nat) : Bool :=
  let a := l.getD g 0
  let b := l.getD (g + 1) 0
  g % 16 != 15 && a.getLsbD 6 && b.getLsbD 6 && a.toNat % 32 != 0 && b.toNat % 32 != 0 && a.getLsbD 7 == b.getLsbD 7

/-- BAL_OVERRIDE; it ends at the tick that BAL_OVERRIDE_EXPIRY names, or with DURATION 0. [Log: 38 DEDUCED] -/
def execBalOverride (sub : Submission) (buf : DmaRead) (s : State) : Out :=
  let n := sub.pU 0 1
  let fl := sub.pU 1 1
  let dur := sub.pU 2 2
  let cells := bufBytes sub buf
  runCmd 0x19 sub
    ([(sub.formOk [(0, 1), (1, 1), (2, 2)] && n < 8 && fl < 4 && dur ≤ 3600 && (if dur = 0 then sub.noBuf else sub.hasBuf (sub.bufLen == 512)), stBadField),
      (s.accepts 0x19, stBusy), (s.enabled n, stBadState)] ++
     (if dur = 0 then []
      else [bufRead buf, (cells.all overrideByteOk && (fl.testBit 0 || !(List.range 512).any (forcedPair cells)), stBadField)]))
    (fun s => complete 0x19 sub stOK [] (awaitInstant (.override n cells (BitVec.ofNat 8 fl) (dur != 0)) s)) s

/-! ### Caps (R279, R280) -/

def parseCaps (b : List Byte) : List (List Nat) :=
  (List.range 8).map (fun n => (List.range 4).map (fun i => fieldU b (16 * n + 4 * i) 4))

/-- LIMIT_SET. -/
def execLimitSet (sub : Submission) (buf : DmaRead) (s : State) : Out :=
  runCmd 0x58 sub [(sub.formOk [] && sub.hasBuf (sub.bufLen == 128), stBadField), (s.accepts 0x58, stBusy), bufRead buf]
    (fun s =>
      let s := awaitInstant (.caps (parseCaps (bufBytes sub buf))) s
      complete 0x58 sub stOK (leBytes 4 s.cfg.takeNext) s) s

/-! ### STATE_WRITE (R285 to R287) -/

def swRecords (b : List Byte) : List (List Byte) := (List.range (b.length / 24)).map (fun i => (b.drop (24 * i)).take 24)

/-- Learned values that a record sets inside the bounds of R226 and R239: those of FULL, and Q_full of NEW_CELL. [Log: 51 DEDUCED] -/
def swLearnedOk (s : State) (b : List Byte) : Bool :=
  let n := fieldU b 0 2 / 512
  match s.strImage n with
  | none => true
  | some i =>
    let l := (swLearned b i (s.strCfg n).initSoh).take
      (if fieldU b 2 1 = 2 then 4 else if fieldU b 2 1 = 0 && imgKind i == .ecm then 1 else 0)
    (List.zip l ((boundsOf i (imgKind i)).drop (match imgKind i with | .physics => 12 | .ecm => 4))).all (fun e => e.2.1 ≤ e.1 && e.1 ≤ e.2.2)

/-- The checks of one record (R287). -/
def swRecordOk (s : State) (b : List Byte) : Bool :=
  let g := fieldU b 0 2
  s.used g && fieldU b 2 1 < 3 && zeroAt b 3 1 && zeroAt b 18 6 && (fieldU b 4 4 ≤ 1000000 || fieldU b 4 4 == 0xFFFFFFFF) &&
    fieldU b 10 2 ≤ 12000 && swLearnedOk s b

/-- STATE_WRITE. [Log: 51 DEDUCED] -/
def execStateWrite (sub : Submission) (buf : DmaRead) (s : State) : Out :=
  let l := swRecords (bufBytes sub buf)
  let gs := l.map (fun b => fieldU b 0 2)
  runCmd 0x2A sub
    [(sub.formOk [] && sub.hasBuf (sub.bufLen % 24 == 0 && within sub.bufLen 24 98304), stBadField), (s.accepts 0x2A, stBusy), bufRead buf,
     (gs.all (fun g => 4095 < g || s.enabled (cellStr g)), stBadState), (decide gs.Nodup && l.all (swRecordOk s), stBadField)]
    (fun s =>
      let s := awaitInstant (.states l) s
      complete 0x2A sub stOK (leBytes 4 s.cfg.takeNext) s) s

end Sys2Proof.Machine
end

