-- ==== Sys2Proof/Machine/Reset.lean ====
section
/-! DEFINITION. A whole-device reset (R479, R557): what the flash, the OTP and the outside keep. -/

namespace Sys2Proof.Machine

/-- Records of a log page that was being programmed: torn, its CRC fails (R513). -/
def tornPage (l : List LogRec) : List LogRec := (l.take 8).map (fun r => { r with torn := true })

/-- The flash keeps its contents; a record or set whose write had begun is torn, waiting log records are lost, and
sequence numbers go on from what is stored (R488, R491, R512, R513). `logging` says that a page of the event log was being
programmed. [Log: 34 DESIGN CHOICE, 54 DEDUCED] -/
def Nvm.afterReset (n : Nvm) (logging : Bool) : Nvm :=
  let hit (f : NvmWrite → Bool) : Bool := n.jobs.any (fun j => j.begun && f j.what)
  let ring := if logging then n.logRing ++ tornPage n.logBuf else n.logRing
  { Nvm.reset with
    wear := n.wear, announced := n.announced, urgent := n.urgent, urgSecs := n.urgSecs, urgOld := n.urgOld,
    urgSeq := (n.urgent.map (·.seq)).getD 0, set := n.set, setSecs := n.setSecs, setOld := n.setOld, setSeq := n.setSeq, setNext := n.setSeq,
    tune := n.tune, tuneOld := n.tuneOld, secs := n.secs, jCur := n.jCur, jPos := n.jPos,
    tornSet := n.tornSet || hit (fun w => match w with | .set _ => true | _ => false)
    tornUrg := n.tornUrg || hit (fun w => match w with | .urgent _ _ => true | _ => false)
    logSec := n.logSec, imgSecs := n.imgSecs, imgSecsOld := n.imgSecsOld, logRing := ring, logSeq := ((ring.filter (!·.torn)).getLast?.map (·.seq)).getD 0, saved := n.saved, savedOld := n.savedOld }

/-- Stored images after a reset: a slot that it finds being overwritten in place holds none (R493). -/
def imagesAfter (jobs : List NvmJob) (l : List (Option Image)) : List (Option Image) :=
  jobs.foldl (fun l j => match j.what with
    | .images a true => if j.begun then a.foldl (fun c e => c.set e.1 none) l else l
    | _ => l) l

/-- The configuration region after a reset: a write that it tears was going over the older copy (R394). -/
def olderBlock (jobs : List NvmJob) (b : Option ConfigBlock) : Option ConfigBlock :=
  if jobs.any (fun j => j.begun && (match j.what with | .config _ => true | _ => false)) then none else b

/-- Every block starts from BOOT; the next start carries the cause. [Log: 57 DEDUCED] -/
def wholeReset (cause : ResetCause) (s : State) : State :=
  { State.reset with
    cfg := { Cfg.reset with
      stored := s.cfg.stored, storedOld := olderBlock s.nvm.jobs s.cfg.storedOld
      committed := imagesAfter s.nvm.jobs s.cfg.committed, dirOld := imagesAfter s.nvm.jobs s.cfg.dirOld }
    nvm := s.nvm.afterReset (s.logPaging || s.nvm.tailLog)
    pwr := { Pwr.reset with nextCause := cause, nextHard := s.pwr.nextHard, porstLow := s.pwr.porstLow,
                            hardLatch := s.pwr.hardLatch, bankA := s.pwr.bankA, bankB := s.pwr.bankB, runB := s.pwr.runB, trial := s.pwr.trial }
    sec := { Sec.reset with sealed := s.sec.sealed, slots := s.sec.slots }
    sys := { Sys.reset with bootCount := s.sys.bootCount }
    diag := { Diag.reset with supplyOut := s.diag.supplyOut }
    hif := { Hif.reset with perst := s.hif.perst }
    hostMem := s.hostMem, free := s.free, pending := s.pending }

end Sys2Proof.Machine
end

