-- ==== Sys2Proof/Machine/Nvm.lean ====
section
/-! DEFINITION. The journal and the rest of the flash (R372, R409 to R411, R485 to R498, R509, R513, R560): urgent records,
checkpoint sets, page programs, erases, restore, saved registers, NVM_CHECKPOINT, LOG_READ. -/

namespace Sys2Proof.Machine

/-! ### Wear and intervals (R485, R490, R497) -/

/-- Mean wear of the journal in percent of the rated 100,000 cycles, rounded down. -/
def journalWear (s : State) : Nat := (s.nvm.wear.getD 5 []).sum / (128 * 1000)

/-- LIFE_EXT: the extended intervals are in force (R490). [Log: 54 DEDUCED] -/
def lifeExt (s : State) : Bool := s.nvm.life = 2 || (s.nvm.life = 0 && 50 ≤ journalWear s)

/-- EV47 on reaching 50, 80 and 95 % mean wear. -/
def announceWear (s : State) : State :=
  [50, 80, 95].foldl (fun s p =>
    if p ≤ journalWear s && s.nvm.announced < p then raise 47 p { s with nvm := { s.nvm with announced := p } } else s) s

/-! ### The urgent record (R488) -/

/-- The value of an IEEE 754 binary32 code (a NaN or infinity as 0). [Log: 54 DEDUCED] -/
def f32Value (b : BitVec 32) : Rat :=
  let n := b.toNat
  let e := n / 8388608 % 256
  let m := n % 8388608
  let v : Rat := if e = 0 then (m : Rat) / 2 ^ 149 else if e = 255 then 0 else if 150 ≤ e then ((8388608 + m) * 2 ^ (e - 150) : Nat) else ((8388608 + m : Nat) : Rat) / 2 ^ (150 - e)
  if b.getLsbD 31 then -v else v

/-- The record that a write of a kind begins with: the counters at the last window close before that moment. -/
def makeUrgent (kind : Nat) (s : State) : UrgentRec :=
  let m (n : Nat) : MetStr := s.metStr n
  let blk (n : Nat) : StrBlk := s.est.seed.blks.getD n StrBlk.empty
  { win := s.frm.win, seq := wrap32 (s.nvm.urgSeq + 1), epoch := s.frm.epoch, tWrite := if s.frm.measuring then s.frm.winTime else s.now, kind,
    unsync := s.unsync, lifeExt := lifeExt s, bootCount := s.sys.bootCount, qIn := (List.range 8).map (fun n => pubAcc (m n).qIn),
    qOut := (List.range 8).map (fun n => pubAcc (m n).qOut), uLin := (List.range 8).map (fun n => pubU 64 ((m n).uLin * 256)),
    sN := (List.range 8).map (fun n => f32Code (m n).sN),
    socs := (List.range 8).flatMap (fun n => [(blk n).socMin, (blk n).socMean, (blk n).socMax]) }

/-- The 512 bytes of an urgent record. -/
def urgentBytes (r : UrgentRec) : List Byte :=
  let b := leBytes 4 0x55524731 ++ leBytes 4 r.seq ++ leBytes 8 r.epoch ++ leBytes 8 r.tWrite ++ leBytes 1 r.kind ++
    leBytes 1 (bit r.unsync 0 + bit r.lifeExt 1) ++ zeros 2 ++ leBytes 4 r.bootCount ++
    (List.range 8).flatMap (fun n => leBytes 8 (r.qIn.getD n 0) ++ leBytes 8 (r.qOut.getD n 0) ++ leBytes 8 (r.uLin.getD n 0) ++
      leBytes 4 (r.sN.getD n 0).toNat ++ zeros 4) ++
    (List.range 24).flatMap (fun i => leBytes 4 (r.socs.getD i 0)) ++ zeros 28 ++ zeros 96
  b ++ leBytes 4 (crc32c b).toNat

/-! ### Checkpoint sets (R103, R489) -/

/-- The code k of a deviation 10^−6 × 2^(k/8). [Log: 54 DEDUCED] -/
def sigCode (sd : Rat) : Nat :=
  if sd * 1000000 ≤ 1 then 0 else (clampI 0 255 (roundAway (8 * lnR (sd * 1000000) / lnR 2))).toNat

/-- Log: 54 DEDUCED. -/
def sigValue (k : Nat) : Rat := expR ((k : Rat) / 8 * lnR 2) / 1000000

/-- Standard deviation of a filter state. [Log: 54 DEDUCED] -/
def stateDev (f : Filter) (i : Nat) : Rat := sqrtR (at_ ((gram f.root).getD i []) i)

/-- H of an entry: the hysteresis state in 1/127. -/
def hCode (h : Rat) : Int := clampI (-127) 127 (roundAway (h * 127))

/-- An entry of 32 bytes, with the cell's own learned states (R530). -/
def ckptEntry (img : Image) (c : Cell) (f : Filter) : List Byte :=
  let p := c.par img
  let x := f.x.take (learnedFrom f.kind) ++ c.ownLearned f
  let soc := leBytes 3 (pubU 24 (socOfState p f.kind f.x * 1000000))
  let mid (h : Rat) : List Byte := sBytes 1 (hCode h) ++ leBytes 2 (pubU 16 (socSigma p f * 100000)) ++ leBytes 2 (min 0xFFFF c.pubCount)
  match f.kind with
  | .physics =>
    soc ++ mid (at_ x 10) ++ leBytes 2 (pubU 16 (at_ x 12 * 100000)) ++ leBytes 2 (pubU 16 (at_ x 13 * 100000)) ++
      leBytes 2 (pubU 16 (at_ x 14 * 100000)) ++ leBytes 2 (pubU 16 (at_ x 15 * 10000)) ++
      (List.range 4).flatMap (fun j => leBytes 1 (sigCode (stateDev f (12 + j)))) ++ leBytes 4 (pubU 32 (mAh c.qPub)) ++
      leBytes 4 (pubU 32 (c.q0 * 10)) ++ leBytes 2 (pubU 16 (c.lliPub * 10000)) ++ leBytes 1 (pubU 8 (c.lamPePub * 1000)) ++
      leBytes 1 (pubU 8 (c.lamNePub * 1000))
  | .ecm =>
    soc ++ mid (at_ x 3) ++ leBytes 4 (pubU 32 (mAh (at_ x 4))) ++ leBytes 2 0 ++ leBytes 2 (pubU 16 (at_ x 5 * 10000)) ++
      leBytes 1 (sigCode (stateDev f 4 / at_ x 4)) ++ zeros 2 ++ leBytes 1 (sigCode (stateDev f 5)) ++ leBytes 4 (pubU 32 (mAh c.qPub)) ++
      zeros 4 ++ [0xFF, 0xFF, 0xFF, 0xFF]

/-- Cells of the frame published last; before any frame, the cells as they stand. -/
def setCells (s : State) : List (Nat × Cell) := if s.est.seed.epoch = 0 then s.est.cells else s.est.seed.cells

/-- The images of the type slots, and of each string, behind a set (R489). [Log: 52 DEDUCED] -/
def setImages (s : State) : List (Option Image) := if s.est.seed.epoch = 0 then s.cfg.images else s.est.seed.images
def setStrImage (s : State) (n : Nat) : Option Image := if s.est.seed.epoch = 0 then s.strImage n else s.est.seed.strImgs.getD n none

/-- The set that begins now, with the refined table if a point of it has changed since the last write (R103); a position
without a state has no entry of its own. [Log: 52 DEDUCED] -/
def makeSet (s : State) : CkptSet :=
  let e := s.est.seed
  let img (g : Nat) : Option Image := setStrImage s (cellStr g)
  { seq := wrap32 (s.nvm.setNext + 1), epoch := e.epoch, urgAt := (s.nvm.urgent.map (·.seq)).getD 0, time := if e.epoch = 0 then s.now else e.tSample,
    unsync := if e.epoch = 0 then s.unsync else e.unsync,
    net := (List.range 8).map (fun n => if e.epoch = 0 then pubNet (s.metStr n).qIn (s.metStr n).qOut else (e.blks.getD n StrBlk.empty).net),
    uLin := (List.range 8).map (fun n => pubU 64 ((if e.epoch = 0 then (s.metStr n).uLin else (e.bounds.getD n (0, 0)).1) * 256)),
    sN := (List.range 8).map (fun n => f32Code (if e.epoch = 0 then (s.metStr n).sN else (e.bounds.getD n (0, 0)).2)),
    digests := (setImages s).map (fun i => match i with | some x => fit 32 (imgDigest x) | none => zeros 32),
    chems := (setImages s).map (fun i => match i with | some x => imgChem x | none => 0),
    kinds := (setImages s).map (fun i => match i with | some x => fieldU x.bytes 6 1 | none => 0xFF),
    entries := (setCells s).filterMap (fun c => match img c.1, c.2.filter with
      | some i, some f => if imgKind i = f.kind then some (c.1, ckptEntry i c.2 f) else none
      | _, _ => none),
    refined := if s.tun.dirty then some (s.tun.units.map (·.refined)) else none, crc := 0 }

/-- Entry g of a set's data pages: 0xFF bytes where it has none. -/
def CkptSet.entry (c : CkptSet) (g : Nat) : List Byte := (mapGet c.entries g).getD (List.replicate 32 0xFF)

/-- What a set's header holds, in the order of R489's list. [Log: 80 DESIGN CHOICE] -/
def CkptSet.header (c : CkptSet) : List Byte :=
  leBytes 8 c.epoch ++ leBytes 8 c.time ++ leBytes 1 (bit c.unsync 0) ++
    (List.range 8).flatMap (fun n => leBytes 8 (toU 64 (c.net.getD n 0)) ++ leBytes 8 (c.uLin.getD n 0) ++ leBytes 4 (c.sN.getD n 0).toNat) ++
    (List.range 8).flatMap (fun t => fit 32 (c.digests.getD t []) ++ leBytes 2 (c.chems.getD t 0) ++ leBytes 1 (c.kinds.getD t 0xFF))

/-- The CRC-32C over a set's header and all its data pages. [Log: 80 DESIGN CHOICE] -/
def setCrc (c : CkptSet) : Reg := crc32c (c.header ++ (List.range 4096).flatMap c.entry)

/-- A set whose write is complete: its commit page holds its CRC. -/
def sealSet (c : CkptSet) : CkptSet := { c with crc := setCrc c }

/-! ### A write begins (R409, R411, R488, R489, R495) -/

/-- The inactive bank after a write or an activation. -/
def State.setInactive (f : Bank → Bank) (s : State) : State :=
  if s.pwr.runB then { s with pwr := { s.pwr with bankA := f s.pwr.bankA } } else { s with pwr := { s.pwr with bankB := f s.pwr.bankB } }

def State.inactive (s : State) : Bank := if s.pwr.runB then s.pwr.bankA else s.pwr.bankB

/-- Bank A (`false`) or B (`true`). -/
def State.bankOf (s : State) (b : Bool) : Bank := if b then s.pwr.bankB else s.pwr.bankA

def State.setBank (b : Bool) (st : BankState) (s : State) : State :=
  if b then { s with pwr := { s.pwr with bankB := { s.pwr.bankB with state := st } } }
  else { s with pwr := { s.pwr with bankA := { s.pwr.bankA with state := st } } }

/-- The running bank, if it was on trial, is PENDING no more: the other bank has been named. [Log: 62 DEDUCED] -/
def dropPending (s : State) : State :=
  if (s.bankOf s.pwr.runB).state == .pending then
    let s := s.setBank s.pwr.runB .valid
    { s with pwr := { s.pwr with trial := false } }
  else s

/-- The write at the head of the queue begins: a record or a set takes its content and its sequence number, a WRITE of
firmware empties its bank. Behind a page of a write that was cut off it waits. [Log: 52 DEDUCED] -/
def settle (s : State) : State :=
  match s.nvm.jobs with
  | [] => s
  | j :: r =>
    if s.nvm.tail || j.begun then s
    else
      let put (w : NvmWrite) (s : State) : State := { s with nvm := { s.nvm with jobs := { j with what := w, begun := true } :: r } }
      match j.what with
      | .urgent k _ => let u := makeUrgent k s; put (.urgent k (some u)) { s with nvm := { s.nvm with urgSeq := u.seq } }
      | .set _ =>
        let c := sealSet (makeSet s)
        put (.set (some c)) { s with nvm := { s.nvm with setNext := c.seq }, tun := { s.tun with dirty := false } }
      | .firmware _ => put j.what ((dropPending s).setInactive (fun _ => { state := .empty, version := 0, keyId := 0xFF }))
      | _ => put j.what s

/-- An urgent record is to be written: two pages. -/
def beginUrgent (kind : Nat) (sub : Option Submission) (s : State) : State := settle (addJob (.urgent kind none) 2 sub s)

/-- A set is to be written: 514 pages. -/
def beginSet (sub : Option Submission) (s : State) : State := settle (addJob (.set none) 514 sub s)

/-! ### Timers and NVM_CHECKPOINT (R409, R490) -/

/-- URGENT_RECORD_TIMER. -/
def execUrgentRecordTimer (s : State) : Out := if s.live then .next (beginUrgent 0 none s) else .next s

/-- FULL_SET_TIMER. -/
def execFullSetTimer (s : State) : Out := if s.live && !s.diag.journalStopped then .next (beginSet none s) else .next s

/-- NVM_CHECKPOINT. [Log: 52 DEDUCED] -/
def execNvmCheckpoint (sub : Submission) (s : State) : Out :=
  let kind := sub.pU 0 1
  runCmd 0x40 sub
    [(sub.formOk [(0, 1)] && sub.noBuf && kind < 2, stBadField), (s.accepts 0x40, stBusy),
     (!(kind == 1 && s.diag.journalStopped), stNvmError)]
    (fun s => if kind = 0 then beginUrgent 3 (some sub) s else beginSet (some sub) s) s

/-! ### The end of a job -/

/-- VERSION and BANK of FW_UPDATE (R385): the inactive bank. -/
def fwResult (version : Nat) (s : State) : List Byte := leBytes 4 version ++ leBytes 1 (bit (!s.pwr.runB) 0)

def completeOpt (op : Nat) (sub : Option Submission) (status : Nat) (result : List Byte) (s : State) : State :=
  match sub with | some x => complete op x status result s | none => s

/-- An urgent record counts; a commanded one raises EV46 and completes its command, and that of ACTIVATE_RESTART is
followed by the reset (R411). -/
def urgentDone (r : UrgentRec) (sub : Option Submission) (secs : List Nat) (s : State) : State :=
  let old := match s.nvm.urgent with | some u => (u, s.nvm.urgSecs) :: s.nvm.urgOld | none => s.nvm.urgOld
  let s := { s with nvm := { s.nvm with urgent := some r, urgSecs := secs, urgOld := old, urgTick := s.clk.ticks } }
  if r.kind = 3 then completeOpt 0x40 sub stOK (leBytes 8 r.epoch) (raise 46 0 s)
  else if sub.isSome then
    let s := completeOpt 0x7A sub stOK (fwResult s.inactive.version s) s
    { s with pwr := { s.pwr with restart := true } }
  else s

/-- A set counts from its commit page on. [Log: 52 DEDUCED] -/
def setDone (c : CkptSet) (sub : Option Submission) (secs : List Nat) (s : State) : State :=
  let old := match s.nvm.set with | some x => (x, s.nvm.setSecs) :: s.nvm.setOld | none => s.nvm.setOld
  let s := { s with nvm := { s.nvm with set := some c, setSecs := secs, setOld := old, setSeq := c.seq } }
  let s := if c.refined.isSome then { s with nvm := { s.nvm with tune := c.refined, tuneOld := s.nvm.tune } } else s
  completeOpt 0x40 sub stOK (leBytes 8 c.epoch) (raise 46 1 s)

/-- The sectors of a write, slot by slot. -/
def imageParts : List (Nat × Image) → List Nat → List (Nat × List Nat)
  | [], _ => []
  | e :: l, secs => (e.1, secs.take (sectorsOf e.2)) :: imageParts l (secs.drop (sectorsOf e.2))

/-- The directory names the new images; each takes force at its sample instant (R244, R398, R416). The older copy of the
directory names no image that has been overwritten in place. [Log: 28 DEDUCED] -/
def imagesDone (l : List (Nat × Image)) (inPlace : Bool) (secs : List Nat) (sub : Option Submission) (s : State) : State :=
  let put (s : State) (e : Nat × Image) : State := { s with cfg := { s.cfg with
    committed := s.cfg.committed.set e.1 (some e.2)
    pending := if s.cfg.pending.getD e.1 none = some e.2 then s.cfg.pending.set e.1 none else s.cfg.pending } }
  let old {α : Type} (none : α) (c : List α) : List α := if inPlace then l.foldl (fun c e => c.set e.1 none) c else c
  let s := { s with
    cfg := { s.cfg with dirOld := old none s.cfg.committed }
    nvm := { s.nvm with imgSecsOld := old [] s.nvm.imgSecs, imgSecs := (imageParts l secs).foldl (fun c e => c.set e.1 e.2) s.nvm.imgSecs } }
  let s := awaitInstant (.images l) (l.foldl put s)
  completeOpt 0x05 sub stOK (leBytes 4 s.cfg.takeNext) s

/-- The bank holds a verified image (R411, R495). -/
def firmwareDone (image : List Byte) (sub : Option Submission) (s : State) : State :=
  let v := Config.fwVersion image
  let s := s.setInactive (fun _ => { state := .valid, version := v, keyId := fieldU (sigBlock image) 4 1 })
  completeOpt 0x7A sub stOK (fwResult v s) s

def finishJob (j : NvmJob) (s : State) : State :=
  match j.what with
  | .urgent _ (some r) => urgentDone r j.sub j.secs s
  | .set (some c) => setDone c j.sub j.secs s
  | .urgent _ none | .set none => s
  | .config b => match j.sub with
    | some sub => configForce sub b { s with cfg := { s.cfg with stored := some b, storedOld := s.cfg.stored } }
    | none => s
  | .images l p => imagesDone l p j.secs j.sub s
  | .firmware i => firmwareDone i j.sub s

/-- Opcode of the command that a job serves. -/
def NvmWrite.opcode : NvmWrite → Nat
  | .urgent k _ => if k = 2 then 0x7A else 0x40
  | .set _ => 0x40
  | .config _ => 0x02
  | .images _ _ => 0x05
  | .firmware _ => 0x7A

/-- What a write leaves behind that ends without success: a set or record that had begun is torn, a refined table in it is
to be written again (R103). -/
def NvmJob.spoil (j : NvmJob) (s : State) : State :=
  if !j.begun then s
  else match j.what with
    | .set c => { s with nvm := { s.nvm with tornSet := true }, tun := { s.tun with dirty := s.tun.dirty || c.any (·.refined.isSome) } }
    | .urgent _ _ => { s with nvm := { s.nvm with tornUrg := true } }
    | .config _ => { s with cfg := { s.cfg with storedOld := none } }
    | .images _ _ | .firmware _ => s

/-- A write of images is torn: a slot that was being overwritten in place holds none (R493). -/
def NvmJob.tear (j : NvmJob) (s : State) : State :=
  { s with cfg := { s.cfg with committed := imagesAfter [j] s.cfg.committed, dirOld := imagesAfter [j] s.cfg.dirOld } }

/-- A write failed after its retries: its command reports NVM_ERROR; no slot named by PARAM_COMMIT changes (R398). -/
def failJob (j : NvmJob) (s : State) : State := completeOpt j.what.opcode j.sub stNvmError [] (j.spoil s)

/-! ### Pages and sectors (R486, R487, R499, R509) -/

/-- The erased sectors of the journal, least worn first: the order in which they are taken into use (R485, R487). [Log: 52 DEDUCED] -/
def freshSectors (s : State) : List Nat :=
  leastWornFirst s 5 ((List.range 128).filter (fun i => (s.nvm.secs.getD i default).erased && !(s.nvm.secs.getD i default).bad))

/-- A sector may be opened: two erased ones stay ahead of the write position. The records of HOLD and of the orderly stop
use those two, since a commit never waits for an erase (R475, R487). [Log: 52 DEDUCED] -/
def State.sectorReady (s : State) : Bool :=
  decide (3 ≤ erasedSectors s.nvm.secs) || s.pwr.state == .hold || s.pwr.state == .stopping

/-- The next sector of the journal is opened: its header takes the next sequence number (R486). [Log: 52 DEDUCED] -/
def openSector (s : State) : Option State :=
  if !s.sectorReady then none
  else (freshSectors s).head?.map (fun i =>
    let n := (s.nvm.secs.map (·.seq)).foldl max 0 + 1
    { s with nvm := { s.nvm with secs := s.nvm.secs.set i { erased := false, bad := false, seq := n }, jCur := some i, jPos := 1 } })

/-- A page of a journal job goes to the write position; the sector that takes it then holds part of the job. -/
def placePage (j : NvmJob) (s : State) : Option (NvmJob × State) :=
  if 1 < j.what.rank then some (j, s)
  else
    (if s.nvm.jCur.isSome && s.nvm.jPos < 16 then some s else openSector s).map (fun s =>
      let i := s.nvm.jCur.getD 0
      ({ j with secs := if j.secs.contains i then j.secs else j.secs ++ [i] }, { s with nvm := { s.nvm with jPos := s.nvm.jPos + 1 } }))

/-- Sets that wait or are being written end when no more may be written (R509). [Log: 53 DEDUCED] -/
def dropSets (s : State) : State :=
  let isSet (j : NvmJob) : Bool := j.what.rank == 1
  (s.nvm.jobs.filter isSet).foldl (fun s j => failJob j s) { s with nvm := { s.nvm with jobs := s.nvm.jobs.filter (fun j => !isSet j) } }

/-- A sector of the journal is marked bad and takes no page any more; below 70 usable sectors full sets stop (R486, R509). -/
def markBad (i : Nat) (s : State) : State :=
  if (s.nvm.secs.getD i default).bad then s
  else
    let s := raise 47 0 { s with nvm := { s.nvm with
      secs := s.nvm.secs.modify i (fun x => { x with bad := true })
      jCur := if s.nvm.jCur = some i then none else s.nvm.jCur } }
    if 128 - badSectors s.nvm.secs < 70 && !s.diag.journalStopped then
      raise 47 100 (dropSets { s with diag := { s.diag with journalStopped := true } })
    else s

/-- Flash work runs: not in HALT or without power. -/
def State.flashOn (s : State) : Bool := s.live || s.pwr.state == .hold || s.pwr.state == .stopping

/-- A failed program, read-back or erase (R486, R499), and the sector where it is known. [Log: 52 DEDUCED] -/
def pageFailed (at_ : Option (Nat × Nat)) (s : State) : State :=
  fileReport { target := 5, index := 0 } { s with nvm := { s.nvm with errCnt := wrap32 (s.nvm.errCnt + 1), suspect := at_ } }

/-- Records join the event log's ring. -/
def logPage (l : List LogRec) (s : State) : State := { s with nvm := { s.nvm with logRing := s.nvm.logRing ++ l } }

/-- The event log takes a page: eight records. While its ring is full it waits for the erase of the oldest sector. [Log: 34 DESIGN CHOICE] -/
def flushLog (s : State) : State :=
  if s.logFull then s
  else
    let s := logPage (s.nvm.logBuf.take 8) s
    { s with nvm := { s.nvm with logBuf := s.nvm.logBuf.drop 8 } }

/-- Every log record that waits is written: a commit has come (R512). [Log: 34 DESIGN CHOICE] -/
def flushAll (s : State) : State :=
  (List.range 8).foldl (fun s _ => if s.nvm.logBuf.isEmpty then s else flushLog s) s

/-- Steps 3 to 5 of R464 as the flash becomes free: the page in progress has ended, the urgent record is written, and the
ropes follow. [Log: 61 DEDUCED] -/
def stopFlash (s : State) : State :=
  if s.pwr.state != .stopping then s
  else match s.pwr.stopStep with
    | .pageProgram => beginUrgent 2 none { s with pwr := { s.pwr with stopStep := .urgent } }
    | .urgent => if s.nvm.jobs.isEmpty then stopRopes (flushAll { s with pwr := { s.pwr with stopStep := .ropes } }) else s
    | _ => s

/-- HOLD is left: code 0x47 (R512). [Log: 53 DEDUCED] -/
def leaveHold (s : State) : State := logAdd 0x47 0xFF 0 (openInfo 0x47) s

/-- A reset out of HOLD: the exit is logged before it. In the pause of a start nothing is written to flash (R483). [Log: 53 DEDUCED] -/
def resetFromHold (cause : ResetCause) (s : State) : State :=
  wholeReset cause (if s.pwr.state != .hold then s else if s.pwr.holdFrom == .boot then leaveHold s else flushAll (leaveHold s))

/-- The reset of ACTIVATE_RESTART, once its record counts and its completion is posted (R411). [Log: 61 DEDUCED] -/
def restartIf (s : State) : State :=
  if s.pwr.restart && (s.live || s.pwr.state == .hold) then resetFromHold .fwRestart s else s

/-- A page of the job at the head has ended; a write of a better rank goes ahead of the next page, be it a repetition
(R495). [Log: 52 DEDUCED] -/
def jobPage (ok : Bool) (j : NvmJob) (r : List NvmJob) (s : State) : State :=
  if ok then
    if j.left ≤ 1 then settle (finishJob j { s with nvm := { s.nvm with jobs := r } })
    else settle { s with nvm := { s.nvm with jobs := nextJob ({ j with left := j.left - 1, tries := 0 } :: r) } }
  else
    let s := pageFailed (if j.what.rank ≤ 1 then s.nvm.jCur.map (fun i => (5, i)) else none) s
    if j.tries + 1 < 3 then settle { s with nvm := { s.nvm with jobs := nextJob ({ j with tries := j.tries + 1 } :: r) } }
    else
      let s := { s with nvm := { s.nvm with jobs := r } }
      settle (failJob j (if j.what.rank ≤ 1 then markBad (s.nvm.jCur.getD 0) s else raise 47 0 s))

/-- A page of the event log has ended. [Log: 34 DESIGN CHOICE] -/
def logPageEnd (ok : Bool) (s : State) : State :=
  if ok then flushLog s else pageFailed none (logPage (tornPage s.nvm.logBuf) s)

/-- The page in progress when HOLD or a stop cut the flash's work off has ended: one of the event log, or of a write. -/
def tailEnd (ok : Bool) (s : State) : State :=
  let t := { s with nvm := { s.nvm with tail := false, tailLog := false } }
  if s.nvm.tailLog then logPageEnd ok t else if ok then t else pageFailed none t

/-- A page program has ended: that of a write that was cut off, that of the job at the head, or, with neither, one of the
event log. A journal page has no place while no sector may be opened. [Log: 34 DESIGN CHOICE, 52 DEDUCED, 53 DEDUCED] -/
def pageEnd (ok : Bool) (s : State) : State :=
  if s.nvm.tail then settle (tailEnd ok s)
  else match s.nvm.jobs with
    | [] => if s.logPaging then logPageEnd ok s else s
    | j :: r => match placePage j s with
      | some (j, s) => jobPage ok j r s
      | none => s

/-- NVM_PAGE_PROGRAMMED. -/
def execNvmPageProgrammed (ok : Bool) (s : State) : Out :=
  if !s.flashOn then .next s else .next (restartIf (stopFlash (pageEnd ok s)))

/-- The journal's sector may not be erased: it is being written, it is bad, or it holds part of the newest set, of the
newest urgent record, or of a write in progress (R487). [Log: 52 DEDUCED] -/
def State.sectorHeld (s : State) (i : Nat) : Bool :=
  s.nvm.jCur == some i || (s.nvm.secs.getD i default).bad || s.nvm.setSecs.contains i || s.nvm.urgSecs.contains i ||
    s.nvm.jobs.any (fun j => decide (j.what.rank ≤ 1) && j.secs.contains i)

/-- A sector of the journal is erased: what was stored in it is gone. -/
def eraseJournal (i : Nat) (s : State) : State :=
  { s with nvm := { s.nvm with
    secs := s.nvm.secs.set i { erased := true, bad := false, seq := 0 }
    urgOld := s.nvm.urgOld.filter (fun e => !e.2.contains i), setOld := s.nvm.setOld.filter (fun e => !e.2.contains i) } }

/-- The oldest sector of the event log is erased: its 128 records are gone. -/
def eraseLog (s : State) : State :=
  { s with nvm := { s.nvm with logRing := s.nvm.logRing.drop 128, logSec := (s.nvm.logSec + 1) % 32 } }

/-- No sector of the region, but one under test, has been erased fewer times than this one (R485). -/
def leastWorn (s : State) (e : SectorId) : Bool :=
  (List.range (regionSectors.getD e.region 0)).all (fun k => s.nvm.suspect == some (e.region, k) || decide (s.wearOf e.region e.sector ≤ s.wearOf e.region k))

/-- The erase is one that the flash makes. Those of the journal run in the background at the lowest priority, only while no
write waits that can go on (R487); the event log's, when its ring is full, takes the oldest sector (R485); every other one
serves the write at the head or, where the flash is idle, a store of the tuning table or of registers, with wear levelled
within its region (R485, R493, R495). [Log: 52 DEDUCED] -/
def State.mayErase (s : State) (e : SectorId) : Bool :=
  let head (f : NvmJob → Bool) : Bool := s.nvm.jobs.head?.any f
  let idle := s.nvm.jobs.isEmpty
  !s.nvm.tail && decide (e.sector < regionSectors.getD e.region 0) && (match e.region with
    | 2 => (idle || head (fun j => j.what.rank = 1)) && leastWorn s e
    | 3 => head (fun j => match j.what with | .images _ _ => j.begun && j.secs.contains e.sector | _ => false)
    | 4 => (idle || head (fun j => match j.what with | .config _ => true | _ => false)) && leastWorn s e
    | 5 => !s.sectorHeld e.sector && !(s.nvm.secs.getD e.sector default).erased && s.nvm.jobs.head?.all (fun j => (placePage j s).isNone)
    | 6 => idle && s.logFull && e.sector = s.nvm.logSec
    | r => head (fun j => match j.what with | .firmware _ => j.begun | _ => false) && r = bit (!s.pwr.runB) 0 && leastWorn s e)

/-- NVM_SECTOR_ERASED. [Log: 52 DEDUCED] -/
def execNvmSectorErased (e : SectorId) (ok : Bool) (s : State) : Out :=
  if !s.live || !s.mayErase e then .next s
  else if !ok then .next (pageFailed (some (e.region, e.sector)) s)
  else
    let s := { s with nvm := { s.nvm with wear := s.nvm.wear.modify e.region (fun l => l.modify e.sector (· + 1)) } }
    .next (announceWear (if e.region = 5 then eraseJournal e.sector s else if e.region = 6 then eraseLog s else s))

/-! ### HOLD and the orderly stop (R380, R464 steps 2 and 3, R475, R498) -/

/-- A job that is cut off: its command completes with BUSY, but NVM_CHECKPOINT with NVM_ERROR once its write had begun;
a write not begun has had no effect. [Log: 53 DEDUCED] -/
def cutJob (j : NvmJob) (s : State) : State :=
  completeOpt j.what.opcode j.sub (if j.begun && j.what.rank ≤ 1 then stNvmError else stBusy) [] (j.tear (j.spoil s))

/-- An urgent record whose write has begun runs to its end; everything else is cut off. The page in progress at that
moment still ends (R475), a page of the event log too, as `logging` says. [Log: 53 DEDUCED] -/
def cutJobs (logging : Bool) (s : State) : State :=
  let keep (j : NvmJob) : Bool := j.what.rank = 0 && j.begun
  let cut := s.nvm.jobs.filter (fun j => !keep j)
  let running := (s.nvm.jobs.head?).any (fun j => j.begun && !keep j)
  let s := match s.nvm.jobs.head? with
    | some j => if running then (match placePage j s with | some x => x.2 | none => s) else s
    | none => s
  cut.foldl (fun s j => cutJob j s) { s with nvm := { s.nvm with jobs := s.nvm.jobs.filter keep, tail := s.nvm.tail || running || logging, tailLog := s.nvm.tailLog || logging } }

/-- The pages of a job that are left; `none` where one of them has no place. -/
def restPages : Nat → NvmJob → State → Option (NvmJob × State)
  | 0, j, s => some (j, s)
  | n + 1, j, s => (placePage j s).bind (fun p => restPages n p.1 p.2)

/-- The job at the head is complete, or has failed where the journal has no place for it. -/
def headDone (s : State) : State :=
  let s := settle s
  match s.nvm.jobs with
  | [] => s
  | j :: r =>
    match restPages j.left j s with
    | some p => finishJob p.1 { p.2 with nvm := { p.2.nvm with jobs := r } }
    | none => failJob j { s with nvm := { s.nvm with jobs := r } }

/-- The urgent records still in the queue are complete (HOLD commit, step 4 of R464). [Log: 53 DEDUCED] -/
def urgentsDone (s : State) : State :=
  let s := if s.nvm.tail then tailEnd true s else s
  s.nvm.jobs.foldl (fun s _ => headDone s) s

/-! ### Saved registers (R447, R548, R560, R566) -/

/-- Stores that wait when the orderly stop begins are abandoned. [Log: 55 DEDUCED] -/
def dropSaves (s : State) : State :=
  { s with sys := { s.sys with save := false }, ptp := { s.ptp with save := false }, leg := { s.leg with save := false }, nvm := { s.nvm with saves := [] } }

/-- A store of registers. -/
def SaveReq.store (q : SaveReq) (s : State) : State :=
  match q with
  | .sys => saveSys s
  | .ptp => savePtp s
  | .leg v => s.storeSaved (fun r => { r with leg := some v })

/-- Stores that wait run in order of arrival, in RUN and LEAN (R566). [Log: 55 DEDUCED] -/
def doSaves (s : State) : State := dropSaves (s.nvm.saves.foldl (fun s q => q.store s) s)

/-- SAVE reads 1 until its store has run. -/
def markSave (q : SaveReq) (s : State) : State :=
  match q with
  | .sys => { s with sys := { s.sys with save := true } }
  | .ptp => { s with ptp := { s.ptp with save := true } }
  | .leg _ => { s with leg := { s.leg with save := true } }

/-- A save is asked for: at once in RUN and LEAN, later in BOOT and HOLD. [Log: 55 DEDUCED] -/
def askSave (q : SaveReq) (s : State) : State :=
  let waits := { markSave q s with nvm := { s.nvm with saves := s.nvm.saves ++ [q] } }
  if s.live then doSaves waits else if s.pwr.state == .hold || s.pwr.state == .boot then waits else s

/-- SYS_CTRL_SAVE; no effect after SEAL. [Log: 55 DEDUCED] -/
def execSysCtrlSave (s : State) : Out :=
  if s.sec.sealed || !s.takesWrite 0x24 then .next s else .next (askSave .sys s)

/-- PTP_CTRL_SAVE: the fields of the same write take their values first. [Log: 55 DEDUCED] -/
def execPtpCtrlSave (v : Reg) (s : State) : Out :=
  if !s.takesWrite 0x1000 then .next s
  else
    let s := setPtpCtrl v s
    if v.getLsbD 31 then .next (askSave .ptp s) else .next s

/-- LEG_CTRL's RWL fields (R548). -/
def setLegCtrl (v : Reg) (s : State) : State :=
  let a := v.toNat % 128
  if s.sec.sealed then s
  else { s with leg := { s.leg with page0 := v.toNat / 2048 % 4, pecReq := v.getLsbD 10, en := v.getLsbD 9,
                                    addr := if 8 ≤ a && a < 0x78 then a else s.leg.addr } }

/-- LEG_CTRL_SAVE. [Log: 55 DEDUCED] -/
def execLegCtrlSave (v : Reg) (s : State) : Out :=
  if !s.takesWrite 0x3000 then .next s
  else
    let s := setLegCtrl v s
    if v.getLsbD 31 then .next (askSave (.leg (legCtrl s)) s) else .next s

/-! ### LOG_READ (R410, R513) -/

/-- A record of 32 bytes with its CRC. -/
def logBytes (r : LogRec) : List Byte :=
  let b := leBytes 4 r.seq ++ leBytes 2 r.code ++ leBytes 1 r.target ++ leBytes 1 r.index ++ leBytes 8 r.time ++ leBytes 8 r.epoch ++
    leBytes 4 r.info ++ leBytes 2 r.boot
  b ++ leBytes 2 (crc16 b).toNat

/-- The records that LOG_READ finds: those in the ring whose CRC holds and that the flash reads without an uncorrectable
ECC error, then those that wait. [Log: 20 DESIGN CHOICE, 34 DESIGN CHOICE] -/
def logFound (s : State) : List LogRec :=
  ((s.nvm.logRing.zipIdx.filter (fun e => !Config.flashEcc s.free e.2)).map (·.1) ++ s.nvm.logBuf).filter (!·.torn)

/-- LOG_READ; it reads the ring from the flash. [Log: 34 DESIGN CHOICE] -/
def execLogRead (sub : Submission) (s : State) : Out :=
  runCmd 0x41 sub
    [(sub.formOk [(0, 4)] && sub.hasBuf (32 ≤ sub.bufLen && sub.bufLen % 32 == 0), stBadField), (s.accepts 0x41, stBusy)]
    (fun s =>
      let l := ((logFound s).filter (fun r => sub.pU 0 4 ≤ r.seq)).take (sub.bufLen / 32)
      let s := flashRead s.nvm.logRing.length s
      complete 0x41 sub stOK (leBytes 4 l.length ++ leBytes 4 ((l.head?.map (·.seq)).getD 0) ++ leBytes 4 s.nvm.logSeq)
        (s.dma sub.bufAddr (l.flatMap logBytes))) s

/-! ### Restore (R57, R103, R245, R491, R492) -/

/-- What the scan of the journal leaves of a list of records, newest first: those with no page in a sector whose header
fails its CRC. -/
def scanned {α : Type} (bad : List Nat) (l : List (α × List Nat)) : List (α × List Nat) := l.filter (fun e => !e.2.any bad.contains)

/-- A set that the scan finds, beside the newest urgent record found: the records after that one are newer than the set
(R492). -/
def CkptSet.beside (c : CkptSet) (found : Nat) : CkptSet :=
  { c with urgAt := if 0 < toS 32 (toU 32 ((c.urgAt : Int) - found)) then found else c.urgAt }

/-- The scan of the journal: the newest urgent record and the newest set that count, a set only if its commit page's CRC
matches; a sector whose header fails is to be erased before it takes a page (R489, R491). [Log: 54 DEDUCED] -/
def scanJournal (bad : List Nat) (s : State) : State :=
  let u := scanned bad ((s.nvm.urgent.map (fun x => (x, s.nvm.urgSecs))).toList ++ s.nvm.urgOld)
  let found := (u.head?.map (·.1.seq)).getD 0
  let c := ((scanned bad ((s.nvm.set.map (fun x => (x, s.nvm.setSecs))).toList ++ s.nvm.setOld)).filter
    (fun e => e.1.crc = setCrc e.1)).map (fun e => (e.1.beside found, e.2))
  let top := ((c.head?.map (·.1.seq)).getD 0)
  { s with nvm := { s.nvm with
    urgent := u.head?.map (·.1), urgSecs := (u.head?.map (·.2)).getD [], urgOld := u.drop 1, urgSeq := found
    set := c.head?.map (·.1), setSecs := (c.head?.map (·.2)).getD [], setOld := c.drop 1, setSeq := top, setNext := top
    secs := s.nvm.secs.zipIdx.map (fun e => if bad.contains e.2 then { e.1 with erased := false, seq := 0 } else e.1)
    jCur := if s.nvm.jCur.any bad.contains then none else s.nvm.jCur } }

/-- Each two-copy store is read from its newer copy, or from the older one where the newer fails its CRC (R485, R493). -/
def readCopies (bad : List Nat) (s : State) : State :=
  let s := if bad.contains 0 then { s with nvm := { s.nvm with tune := s.nvm.tuneOld } } else s
  let s := if bad.contains 1 then { s with cfg := { s.cfg with committed := s.cfg.dirOld }, nvm := { s.nvm with imgSecs := s.nvm.imgSecsOld } } else s
  let s := if bad.contains 2 then { s with cfg := { s.cfg with stored := s.cfg.storedOld } } else s
  if bad.contains 3 then { s with nvm := { s.nvm with saved := s.nvm.savedOld } } else s

/-- CNT_SRC of a record's KIND. -/
def cntSrcOf (kind : Nat) : Nat := if kind = 1 then 1 else if kind = 2 then 3 else 2

/-- The counters resume from the newest urgent record; without one they start at 0. [Log: 54 DEDUCED] -/
def restoreCounters (s : State) : State :=
  match s.nvm.urgent with
  | none => s
  | some r => { s with met := { s.met with strs := s.met.strs.zipIdx.map (fun e => { e.1 with
      qIn := r.qIn.getD e.2 0 * 65536, qOut := r.qOut.getD e.2 0 * 65536, uLin := (r.uLin.getD e.2 0 : Rat) / 256,
      sN := f32Value (r.sN.getD e.2 0), sNMark := f32Value (r.sN.getD e.2 0),
      frmUEnd := (r.uLin.getD e.2 0 : Rat) / 256, frmSEnd := f32Value (r.sN.getD e.2 0),
      cntSrc := cntSrcOf r.kind }) } }

/-- The urgent record is newer than the set: it came after the newest one that counted when the set began. [Log: 54 DEDUCED] -/
def urgentNewer (r : UrgentRec) (c : CkptSet) : Bool := 0 < toS 32 (toU 32 ((r.seq : Int) - c.urgAt))

/-- Δt_s of R492 in s. -/
def setGap (r : UrgentRec) (c : CkptSet) : Rat :=
  if !r.unsync && !c.unsync && c.time ≤ r.tWrite then ((r.tWrite - c.time : Nat) : Rat) / 1000000000 else if r.lifeExt then 3600 else 600

/-- Charge in C since the set, and the variance in C² that it and the unknown bleeding add (R492). -/
def setAdvance (r : UrgentRec) (c : CkptSet) (n : Nat) (cfg : StrCfg) : Rat × Rat :=
  let net : Int := toS 64 (toU 64 ((r.qIn.getD n 0 : Int) - (r.qOut.getD n 0 : Int) - c.net.getD n 0))
  let du : Rat := ((r.uLin.getD n 0 : Rat) - (c.uLin.getD n 0 : Rat)) / 256 / 1000000
  let ds : Rat := (f32Value (r.sN.getD n 0) - f32Value (c.sN.getD n 0)) / 1000000000000
  let bl : Rat := (cfg.cellVMax : Rat) / 10000 / (2 * rBleed cfg) * setGap r c
  ((net : Rat) / 1000000, du / 3 * (du / 3) + ds + bl * bl / 3)

/-- Learned parameters and published figures of an entry. [Log: 54 DEDUCED] -/
def entryLearned (k : Kind) (b : List Byte) : Vec :=
  match k with
  | .physics => [(fieldU b 8 2 : Rat) / 100000, (fieldU b 10 2 : Rat) / 100000, (fieldU b 12 2 : Rat) / 100000, (fieldU b 14 2 : Rat) / 10000]
  | .ecm => [(fieldU b 8 4 : Rat) * 36 / 10, (fieldU b 14 2 : Rat) / 10000]

/-- Deviations of the learned parameters. [Log: 54 DEDUCED] -/
def entryDevs (k : Kind) (b : List Byte) : Vec :=
  match k with
  | .physics => (List.range 4).map (fun j => sigValue (fieldU b (16 + j) 1))
  | .ecm => [sigValue (fieldU b 16 1) * ((fieldU b 8 4 : Rat) * 36 / 10), sigValue (fieldU b 19 1)]

/-- A cell restored from its entry: `exact` says that the digest matched, so that h is kept. [Log: 54 DEDUCED] -/
def restoreCell (img : Image) (b : List Byte) (exact_ : Bool) (dq varQ : Rat) (stamp : Nat) (known : Bool) : Cell :=
  let k := imgKind img
  let lrn := entryLearned k b
  let qPub : Rat := (fieldU b 20 4 : Rat) * 36 / 10
  let q0 : Rat := match k with | .physics => (fieldU b 24 4 : Rat) / 10 | .ecm => 0
  let p : CellPar := { img, q0, q100 := q0 + qPub }
  let tk : Rat := 29815 / 100
  let full : Rat := match k with | .physics => p.full | .ecm => at_ lrn 0
  let soc : Rat := (fieldU b 0 3 : Rat) / 1000000 + (if full = 0 then 0 else dq / full)
  let kept := selfDischargeMax img * (30 * 86400) * full
  let sig0 : Rat := (fieldU b 4 2 : Rat) / 100000
  let sigma := sqrtR (sig0 * sig0 + (if full = 0 then 0 else (varQ + kept * kept) / (full * full)))
  let eq := equilibrium p k lrn soc tk
  let hAt : Nat := match k with | .physics => 10 | .ecm => 3
  let h : Rat := (fieldS b 3 1 : Rat) / 127
  let x := laneVec (clipState img k (if exact_ then eq.set hAt h else eq))
  let lrnCov := diag ((entryDevs k b).map (fun d => d * d))
  let cov := rebuiltCov (dynamicDevs p k lrn lrnCov soc sigma) lrnCov
  let f : Filter := { kind := k, x := x, root := laneMat (rootOf cov) }
  { Cell.fresh with
    filter := some f, prevRoot := f.root, qPub := qPub, q0 := q0, q100 := q0 + qPub, pubCount := fieldU b 6 2, tPending := true
    lliPub := match k with | .physics => (fieldU b 28 2 : Rat) / 10000 | .ecm => 0
    lamPePub := match k with | .physics => (fieldU b 30 1 : Rat) / 1000 | .ecm => 0
    lamNePub := match k with | .physics => (fieldU b 31 1 : Rat) / 1000 | .ecm => 0
    restored := some (stamp, known) }

/-- The cell of a position at a start: from the newest set if its digest, or its CHEM_ID and KIND, match; otherwise
without a state (R245, R247). [Log: 54 DEDUCED] -/
def cellAtStart (s : State) (g : Nat) : Cell :=
  let n := cellStr g
  let slot := (s.strCfg n).cellType
  match s.nvm.set, s.strImage n with
  | some c, some img =>
    match mapGet c.entries g with
    | some b =>
      let same := c.digests.getD slot [] = fit 32 (imgDigest img)
      let chem := c.chems.getD slot 0 = imgChem img && c.kinds.getD slot 0xFF = fieldU img.bytes 6 1
      if same || chem then
        match s.nvm.urgent with
        | some r =>
          let a := if urgentNewer r c then setAdvance r c n (s.strCfg n) else (0, 0)
          restoreCell img b same a.1 a.2 r.tWrite (!r.unsync)
        | none => restoreCell img b same 0 0 c.time (!c.unsync)
      else Cell.fresh
    | none => Cell.fresh
  | _, _ => Cell.fresh

/-- Every position inside the masks at a start, under the configuration and the images that the start has put in force. [Log: 54 DEDUCED] -/
def restoreCells (s : State) : State :=
  { s with est := { s.est with live := s.cfg.live, images := s.cfg.images, cells := (usedCells s).map (fun g => (g, cellAtStart s g)) } }

/-- The refined table at a start (R87, R103). -/
def restoreTuning (s : State) : State :=
  match s.nvm.tune with
  | some l => { s with tun := { s.tun with units := s.tun.units.zipIdx.map (fun e => { e.1 with refined := l.getD e.2 e.1.refined }) } }
  | none => s

/-- The saved registers at a start (R447, R541, R548, R560). -/
def loadSaved (s : State) : State :=
  let s := match s.nvm.saved.sys with
    | some l => { s with
        met := { s.met with owPeriod := l.getD 0 0, i100 := BitVec.ofNat 9 (l.getD 1 0) }
        thm := { s.thm with warnThr := toS 16 (l.getD 2 0), orderThr := toS 16 (l.getD 3 0) }
        pwr := { s.pwr with warnThr := l.getD 4 0, resume := l.getD 5 0 = 1 }
        nvm := { s.nvm with life := l.getD 6 0 } }
    | none => s
  let s := match s.nvm.saved.ptp with
    | some l =>
      let dom (d : Nat) (x : PtpDom) : PtpDom :=
        { x with num := l.getD (4 + 4 * d) 0, transport := l.getD (5 + 4 * d) 0, delayP2p := l.getD (6 + 4 * d) 0 = 1, profile := l.getD (7 + 4 * d) 0 }
      let port (i : Nat) (x : PtpPort) : PtpPort :=
        { x with macLo := BitVec.ofNat 32 (l.getD (12 + 5 * i) 0), macHi := l.getD (13 + 5 * i) 0, ipv4 := BitVec.ofNat 32 (l.getD (14 + 5 * i) 0),
                 latRx := l.getD (15 + 5 * i) 0, latTx := l.getD (16 + 5 * i) 0 }
      { s with ptp := { s.ptp with
          enA := l.getD 0 0 = 1, enB := l.getD 1 0 = 1, portMap := l.getD 2 0, pdStep := l.getD 3 0
          doms := s.ptp.doms.zipIdx.map (fun (e : PtpDom × Nat) => dom e.2 e.1), ports := s.ptp.ports.zipIdx.map (fun (e : PtpPort × Nat) => port e.2 e.1) } }
    | none => { s with ptp := { s.ptp with ports := s.ptp.ports.zipIdx.map (fun (e : PtpPort × Nat) =>
        { e.1 with macLo := (Config.factoryMac e.2).setWidth 32, macHi := (Config.factoryMac e.2).toNat / two32 }) } }
  match s.nvm.saved.leg with
  | some v => { s with leg := { s.leg with page0 := v / 2048 % 4, pecReq := v.testBit 10, en := v.testBit 9, addr := v % 128 } }
  | none => s

end Sys2Proof.Machine
end

