-- ==== Sys2Proof/Machine/Power.lean ====
section
/-! DEFINITION. Power: boot (R481 to R484, R494), resets (R479, R480), HOLD (R474 to R477), the orderly stop (R464, R465), the
crystal (R577), FW_UPDATE and SHUTDOWN (R411, R412, R495). -/

namespace Sys2Proof.Machine

/-! ### Firmware banks (R494, R522) -/

/-- The bank holds an image that verifies at this start; after SEAL, a signed one. [Log: 58 DEDUCED] -/
def bankVerifies (r : BootReport) (s : State) (b : Bool) : Bool :=
  let k := s.bankOf b
  k.state != .empty && !r.badBanks.contains (bit b 0) && (!s.sec.sealed || k.keyId = 0x10)

/-- Every model lane in service, every fast converter in service, or the flash failed step 4 (R482). [Log: 58 DEDUCED] -/
def bootLost (r : BootReport) (s : State) : Bool :=
  let bad (t i : Nat) : Bool := r.failed.contains { target := t, index := i }
  ((List.range 64).filter (fun i => s.diag.lanes.getLsbD i)).all (bad 3) ||
    ((List.range 2).filter (fun i => !s.diag.retF.getLsbD i)).all (bad 1) || r.failed.any (fun u => u.target == 5)

/-- The bank runs; a change of boot bank is logged (R512). [Log: 58 DEDUCED] -/
def runBank (b trial fallback : Bool) (s : State) : State :=
  let changed := b != s.pwr.runB
  let s := { s with pwr := { s.pwr with runB := b, trial := trial, fallback := fallback } }
  if changed then logAdd 0x45 0xFF 0 (openInfo 0x45) s else s

/-- The bank that is PENDING, if one is. [Log: 58 DEDUCED] -/
def pendingBank (s : State) : Option Bool :=
  if s.pwr.bankA.state == .pending then some false else if s.pwr.bankB.state == .pending then some true else none

/-- Step 3 of R481: a PENDING bank is tried once, otherwise the CONFIRMED bank runs, and the other one where it does not
verify; `none` where neither verifies. [Log: 58 DEDUCED] -/
def selectBank (r : BootReport) (wdog : Bool) (s : State) : Option State :=
  let ok := bankVerifies r s
  match pendingBank s with
  | some b =>
    if s.pwr.trial || !ok b || bootLost r s then
      let fb := !s.pwr.trial || wdog
      let s := s.setBank b .valid
      if ok (!b) then some (runBank (!b) false fb s) else if ok b then some (runBank b false fb s) else none
    else some (runBank b true false s)
  | none =>
    let b := s.pwr.bankB.state == .confirmed
    if ok b then some (runBank b false false s) else if ok (!b) then some (runBank (!b) false true s) else none

/-! ### Boot (R481 to R484) -/

/-- PWR_RST_CAUSE for a cause (R480, R496). -/
def ResetCause.bit : ResetCause → Nat
  | .powerOn => 0 | .porst => 1 | .brownout => 2 | .wdog => 3 | .fwRestart => 5 | .holdReset => 6

/-- Step 1: the ROM starts, with VAUX as it is measured. [Log: 57 DEDUCED] -/
def bootStart (mv : Nat) (s : State) : State :=
  let cause : BitVec 7 := setBit (setBit 0 s.pwr.nextCause.bit true) 4 s.pwr.nextHard
  let s := { s with
    pwr := { s.pwr with state := .boot, started := true, porstLow := false, rstCause := cause, nextHard := false, vauxMv := mv, vcoreMv := 800, floorMv := 800 }
    thm := { s.thm with hardSeen := s.pwr.nextHard }
    sys := { s.sys with bootCount := sat32 (s.sys.bootCount + 1) }
    hif := { s.hif with linkUp := !s.hif.perst } }
  logAdd 0x40 0xFF 0 cause.toNat s

/-- Step 2: TIME64 counts from 0 in FREE. -/
def bootClock (s : State) : State := { s with clk := { Clock.reset with running := true } }

/-- A unit is out of service. [Log: 59 DEDUCED] -/
def markRetired (u : UnitId) (s : State) : State :=
  let d := s.diag
  { s with diag :=
      match u.target with
      | 0 => { d with retQ := setBit d.retQ u.index true }
      | 1 => { d with retF := setBit d.retF u.index true }
      | 2 => { d with retRope := setBit d.retRope u.index true }
      | 3 => { d with lanes := setBit d.lanes u.index false }
      | 4 => { d with retBanks := setBit d.retBanks u.index true }
      | _ => d }

/-- The flash is read: its two-copy stores and the journal. -/
def bootRead (r : BootReport) (s : State) : State := scanJournal r.badSecs (readCopies r.badCopies s)

/-- Retired units stay retired; the banks that remain serve the real-time structures, then workspace, then as the spare
(R506, R508). [Log: 13 DEDUCED, 59 DEDUCED] -/
def bootRetired (s : State) : State :=
  let s := s.nvm.saved.retired.foldl (fun s u => markRetired u s) s
  let up := (List.range 16).filter (fun b => !s.diag.retBanks.getLsbD b)
  { s with diag := { s.diag with work := (up.drop 11).take 4, spare := up[15]? } }

/-- The start is held in BOOT with FAULT_N asserted. [Log: 59 DEDUCED] -/
def bootFails (s : State) : State := { s with pwr := { s.pwr with bootFail := true } }

/-- Step 5: what the flash holds is read. [Log: 23 DEDUCED, 53 DEDUCED, 57 DEDUCED] -/
def bootLoad (r : BootReport) (s : State) : State :=
  let s := loadSaved s
  let s := { s with
    cfg := { s.cfg with live := s.cfg.stored.getD ConfigBlock.template, block := s.cfg.stored, images := s.cfg.committed }
    tun := { s.tun with rrefCorr := (s.cfg.stored.getD ConfigBlock.template).glob.rrefCorr }
    nvm := { s.nvm with setTorn := s.nvm.tornSet, urgTorn := s.nvm.tornUrg, tornSet := false, tornUrg := false }
    diag := { s.diag with journalStopped := decide (128 - badSectors s.nvm.secs < 70) }
    sec := { s.sec with rngOk := r.rngOk }
    leg := { s.leg with page := s.leg.page0 }
    pwr := { s.pwr with loaded := true, paused := decide (r.vauxMv < 9000) } }
  resetDom 1 (resetDom 0 (restoreCells (restoreCounters (restoreTuning s))))

/-- Steps 6 and 7: measurement start, the register stores that were asked for in BOOT (R566), and the tie-in of every enabled
rope. [Log: 55 DEDUCED, 57 DEDUCED] -/
def bootFinish (s : State) : State :=
  let s := doSaves (settleWork (startMeasurement (enterPower .run { s with pwr := { s.pwr with paused := false } })))
  (List.range 8).foldl (fun s n => if s.enabled n then tieBegin n 1 s else s) s

/-- Step 4: units in service that failed file a report, and so does the flash on an uncorrectable ECC error (R499). [Log: 57 DEDUCED, 59 DEDUCED] -/
def bootReports (r : BootReport) (s : State) : State :=
  let s := (r.failed.filter (fun u => !s.retired u)).foldl (fun s u => fileReport u s) s
  if r.flashEcc then fileReport { target := 5, index := 0 } s else s

/-- What step 4 finds in the boot that goes on: a trial bank that failed it has given way to the other bank, with which the
ROM boots again (R494). [Log: 58 DEDUCED] -/
def finalReport (r : BootReport) (old s : State) : BootReport :=
  match pendingBank old with
  | some b => if !old.pwr.trial && bankVerifies r old b && s.pwr.runB != b then { r with failed := r.failedAgain } else r
  | none => r

/-- POWER_GOOD: the boot runs to measurement start, or to the pause before step 6, or is held in BOOT. [Log: 8 DEDUCED, 57 DEDUCED] -/
def execPowerGood (r : BootReport) (s : State) : Out :=
  if s.pwr.started || s.pwr.hardLatch then .next s
  else
    let wdog := s.pwr.nextCause == .wdog
    let old := bootRetired (bootRead r (bootClock (bootStart r.vauxMv s)))
    match selectBank r wdog old with
    | none => .next (bootFails old)
    | some s =>
      let s := { s with pwr := { s.pwr with vrefth := true } }
      let r := finalReport r old s
      let s := bootReports r s
      if bootLost r s then .next (bootFails s)
      else
        let s := bootLoad r s
        .next (if s.pwr.paused then s else bootFinish s)

/-- BOOT_RESUME: VAUX has held at or above 9.0 V (R483). A HOLD that came before step 6 ends with it, in BOOT (R472, R498);
a start that has failed stays there. [Log: 57 DEDUCED, 60 DEDUCED] -/
def execBootResume (s : State) : Out :=
  let held := s.pwr.state == .hold && s.pwr.holdFrom == .boot
  if !held && (s.pwr.state != .boot || !s.pwr.paused) then .next s
  else
    let s := { s with pwr := { s.pwr with vauxMv := min 0xFFFF (9000 + Config.vauxReading s.free) }, free := s.free + 1 }
    let s := if held then leaveHold (enterPower .boot s) else s
    .next (if s.pwr.paused && !s.pwr.bootFail then bootFinish s else s)

/-- BOOT_XTAL_TIMEOUT: power-good came and the crystal did not start; step 2 is never reached (R577). VAUX reads at least the
4.5 V below which the device is OFF. [Log: 20 DESIGN CHOICE, 57 DEDUCED] -/
def execBootXtalTimeout (s : State) : Out :=
  if s.pwr.started || s.pwr.hardLatch then .next s
  else .next { bootFails (bootStart (min 0xFFFF (4500 + Config.vauxReading s.free)) s) with free := s.free + 1 }

/-- FW_TRIAL_CONFIRM (R494). [Log: 59 DEDUCED] -/
def execFwTrialConfirm (s : State) : Out :=
  if s.live && s.pwr.trial then
    let s := s.setBank s.pwr.runB .confirmed
    let s := if (s.bankOf (!s.pwr.runB)).state == .empty then s else s.setBank (!s.pwr.runB) .valid
    .next { s with pwr := { s.pwr with trial := false } }
  else .next s

/-! ### Resets (R466, R479, R480) -/

/-- A start from OFF has not begun: what comes before it leaves its cause (R480). [Log: 60 DEDUCED] -/
def State.coldStart (s : State) : Bool := !s.pwr.started && s.pwr.nextCause == .powerOn && !s.pwr.hardLatch

/-- PORST_N_ASSERT: it ends a HARD latch; a start from OFF that has not begun keeps its cause. [Log: 60 DEDUCED] -/
def execPorstNAssert (s : State) : Out :=
  let hard := s.pwr.hardLatch
  let s := wholeReset (if s.coldStart then .powerOn else .porst) s
  .next { s with pwr := { s.pwr with porstLow := true, hardLatch := false, nextHard := s.pwr.nextHard || hard } }

/-- BROWN_OUT: VAUX below 4.5 V is OFF and ends a HARD latch; a rail out of regulation with VAUX above it is BROWNOUT, unless
a start from OFF has not begun. Frames from here to the first cairn are supply outages (R510). [Log: 43 DEDUCED, 60 DEDUCED] -/
def execBrownOut (vauxMv : Nat) (s : State) : Out :=
  let lost := vauxMv < 4500
  let ended := s.pwr.hardLatch && lost
  let s := wholeReset (if lost || s.coldStart then .powerOn else .brownout) s
  .next { s with pwr := { s.pwr with hardLatch := s.pwr.hardLatch && !lost, nextHard := s.pwr.nextHard || ended }
                 diag := { s.diag with supplyOut := true } }

/-- WATCHDOG_RESET. Only PORST_N leaves HALT (R412, R465). -/
def execWatchdogReset (s : State) : Out :=
  if s.pwr.started && s.pwr.state != .halt then .next (resetFromHold .wdog s) else .next s

/-- HARD_CUT: VCORE goes at once and stays away until PORST_N or the loss of VAUX. [Log: 60 DEDUCED] -/
def execHardCut (s : State) : Out :=
  let s := wholeReset s.pwr.nextCause s
  .next { s with pwr := { s.pwr with hardLatch := true } }

/-! ### Targeted self-tests across HOLD and the stop (R515) -/

/-- The stop ends every self-test without a classification; commands that wait for one end with ABORTED. [Log: 61 DEDUCED] -/
def stopTests (s : State) : State :=
  let cmds := s.diag.units.flatMap (·.cmds)
  let s := { s with diag := { s.diag with units := s.diag.units.map (fun d => { d with testing := false, running := false, report := false, cmds := [] })
                                          copying := none } }
  cmds.foldl (fun s c => complete (if c.2 then 0x61 else 0x32) c.1 stAborted [] s) s

/-! ### The orderly stop (R463 to R465, R468) -/

/-- The stop begins. `committed` says that a HOLD commit counts as its urgent record. [Log: 29 DEDUCED, 61 DEDUCED] -/
def orderlyStop (cause : Nat) (sub : Option Submission) (committed : Bool) (s : State) : State :=
  let logging := s.logPaging
  let s := enterPower .stopping { s with pwr := { s.pwr with stopSub := sub }, thm := { s.thm with orderly := true } }
  let s := abortJobs (raise 49 cause (writeStatus s))
  let s := stopTests (dropSaves (cutJobs logging s))
  let busy := s.nvm.tail || !s.nvm.jobs.isEmpty
  if committed then stopRopes { s with pwr := { s.pwr with stopStep := .ropes } }
  else if busy then { s with pwr := { s.pwr with stopStep := .pageProgram } }
  else beginUrgent 2 none { s with pwr := { s.pwr with stopStep := .urgent } }

/-- Outputs in HALT (R465); tuning accumulations are lost (R113). [Log: 61 DEDUCED] -/
def haltPins (s : State) : State :=
  { s with
    sar := { s.sar with pin := false, pinMin := false }
    tim := { s.tim with cmps := s.tim.cmps.map (fun c => { c with active := false }), ppsOut := false }
    cairn := { s.cairn with alive := false }
    tun := { s.tun with units := s.tun.units.map TunUnit.loseAcc }
    rope := { s.rope with strs := s.rope.strs.map (fun r => { r with txN := none, txF := none, silent := true }) }
    ptp := { s.ptp with ports := s.ptp.ports.map (fun p => { p with lastTx := [] }) }
    frm := { s.frm with measuring := false } }

/-- BLEED_OPEN_WAIT_END: SHUTDOWN completes, the outputs take their HALT states, DEV_STATE becomes HALT (R412, R464). [Log: 61 DEDUCED] -/
def execBleedOpenWaitEnd (s : State) : Out :=
  if s.pwr.state == .stopping && s.pwr.stopStep == .bleed then
    let s := completeOpt 0x7F s.pwr.stopSub stOK [] s
    let s := enterPower .halt (haltPins { s with pwr := { s.pwr with stopStep := .none, stopSub := none } })
    .next (writeStatus s)
  else .next s

/-- SHUTDOWN. [Log: 61 DEDUCED] -/
def execShutdown (sub : Submission) (s : State) : Out :=
  runCmd 0x7F sub [(sub.formOk [(0, 4)] && sub.noBuf && sub.pU 0 4 == 0x53544F50, stBadField), (s.accepts 0x7F, stBusy)]
    (orderlyStop 1 (some sub) false) s

/-- XTAL_LOST: metrology stops at once, code 0x49 is logged and the orderly stop begins, after a HOLD commit that is in
progress (R577, R584); in BOOT too, once step 5 has passed. A start that has failed stays as it is. [Log: 60 DEDUCED] -/
def execXtalLost (s : State) : Out :=
  if s.pwr.xtalLost || !s.clk.running then .next s
  else
    let s := logAdd 0x49 0xFF 0 (openInfo 0x49) { s with pwr := { s.pwr with xtalLost := true } }
    match s.pwr.state with
    | .run | .lean => .next (orderlyStop 2 none false s)
    | .hold =>
      .next (if s.pwr.holdFrom == .boot then (if s.pwr.loaded && !s.pwr.bootFail then orderlyStop 2 none false (leaveHold s) else s)
        else if s.pwr.holdDone then orderlyStop 2 none false (leaveHold s) else s)
    | .boot => .next (if s.pwr.loaded && !s.pwr.bootFail then orderlyStop 2 none false s else s)
    | .stopping | .halt | .off => .next s

/-! ### VAUX and HOLD (R474 to R477, R498) -/

/-- VAUX_WARNING: VAUX has stayed below PWR_VAUX_WARN for 1 ms (R474). [Log: 60 DEDUCED] -/
def execVauxWarning (mv : Nat) (s : State) : Out :=
  let s := { s with pwr := { s.pwr with vauxMv := mv } }
  if s.pwr.started && s.pwr.warnArmed && mv < s.pwr.warnThr then
    .next (raise 50 0 { s with pwr := { s.pwr with warnArmed := false } })
  else .next s

/-- VAUX_WARNING_REARM: VAUX has stayed above PWR_VAUX_WARN + 500 mV for 1 s (R474). [Log: 60 DEDUCED] -/
def execVauxWarningRearm (mv : Nat) (s : State) : Out :=
  let s := { s with pwr := { s.pwr with vauxMv := mv } }
  if s.pwr.warnThr + 500 < mv then .next { s with pwr := { s.pwr with warnArmed := true } } else .next s

/-- Frames whose cairn is not being written get none; they count as supply outages (R476, R510). [Log: 26 DEDUCED, 43 DEDUCED] -/
def holdFrames (s : State) : State :=
  let keep (f : FrameRec) : Bool := s.cairn.writing == some f.epoch
  let n := (s.frm.frames.filter (fun f => !keep f && !f.ended)).length
  { s with frm := { s.frm with frames := s.frm.frames.filter keep, endUnknown := true }
           est := { s.est with todo := [], heldSince := true }
           diag := { s.diag with outSupply := sat32 (s.diag.outSupply + n), supplyOut := true } }

/-- The sweep and BAL frames stop, those that wait and those in flight (R476). -/
def holdRopes (s : State) : State :=
  let keep (u : TxnUse) : Bool := match u with | .sweep _ | .bal => false | _ => true
  { s with rope := { s.rope with strs := s.rope.strs.map (fun r =>
      { r with sweep := none, balTodo := [], inflight := r.inflight.filter (fun t => keep t.use), txnWait := r.txnWait.filter (fun w => keep w.2.2.1) }) } }

/-- Accumulations are lost and self-tests abandoned, to be filed again (R113, R515). -/
def holdTests (s : State) : State :=
  { s with tun := { s.tun with units := s.tun.units.map TunUnit.loseAcc }
           diag := { s.diag with
             units := s.diag.units.map (fun d => { d with running := false }), copying := none
             spare := (match s.diag.copying with
               | some b => if (s.unitDiag { target := 4, index := b }).running then some b else s.diag.spare
               | none => s.diag.spare) } }

/-- The entry to HOLD is counted and logged (R472, R496, R512). -/
def countHold (s : State) : State :=
  logAdd 0x46 0xFF 0 (openInfo 0x46) { s with pwr := { s.pwr with
    holdFrom := s.pwr.state, holdCnt := wrap32 (s.pwr.holdCnt + 1), holdDone := false } }

/-- HOLD_ENTRY: VAUX below 8.0 V (R472), from RUN and LEAN with the commit, from BOOT before step 6 without one, the start
paused (R483, R498); a stop that runs goes on (R468). [Log: 43 DEDUCED, 60 DEDUCED] -/
def execHoldEntry (mv : Nat) (s : State) : Out :=
  let s := { s with pwr := { s.pwr with vauxMv := mv } }
  if 8000 ≤ mv then .next s
  else if s.live then
    let logging := s.logPaging
    let s := timeHold (sendSafe (holdRopes (authHold (countHold s))))
    .next (beginUrgent 1 none (cutJobs logging (dealLanes (holdTests (holdFrames (enterPower .hold s))))))
  else if s.pwr.state == .boot && s.pwr.started then
    .next (enterPower .hold (countHold { s with pwr := { s.pwr with paused := s.pwr.paused || s.pwr.loaded }
                                                diag := { s.diag with supplyOut := true } }))
  else .next s

/-- HOLD_COMMIT_DONE: EV51 and the status block (R475). [Log: 53 DEDUCED, 60 DEDUCED] -/
def execHoldCommitDone (s : State) : Out :=
  if s.pwr.state == .hold && !s.pwr.holdDone && s.pwr.holdFrom != .boot then
    let s := flushAll (urgentsDone s)
    let s := writeStatus (raise 51 0 { s with pwr := { s.pwr with holdDone := true } })
    .next (restartIf (if s.pwr.xtalLost then orderlyStop 2 none true (leaveHold s) else s))
  else .next s

/-- HOLD_RETURN: with VAUX at or above 9.0 V and RESUME the device goes on in the state that it left; without it, it resets (R477). [Log: 60 DEDUCED] -/
def execHoldReturn (mv : Nat) (s : State) : Out :=
  let s := { s with pwr := { s.pwr with vauxMv := mv } }
  if s.pwr.state == .hold && s.pwr.holdDone && 9000 ≤ mv then
    if s.pwr.resume then
      let s := leaveHold (settleWork (enterPower s.pwr.holdFrom { s with pwr := { s.pwr with holdDone := false } }))
      .next ((List.range 8).foldl (fun s n => authResume n s) (doSaves s))
    else .next (resetFromHold .holdReset s)
  else .next s

/-! ### FW_UPDATE (R411, R495) -/

/-- A firmware write is under way. [Log: 62 DEDUCED] -/
def State.fwBusy (s : State) : Bool := s.nvm.jobs.any (fun j => match j.what with | .firmware _ => true | _ => false)

/-- ACTIVATE: the inactive bank boots at the next reset. [Log: 62 DEDUCED] -/
def activate (s : State) : State :=
  let s := dropPending s
  if s.inactive.state == .valid then s.setBank (!s.pwr.runB) .pending else s

/-- FW_UPDATE. [Log: 62 DEDUCED] -/
def execFwUpdate (sub : Submission) (buf : FwRead) (s : State) : Out :=
  let a := sub.pU 0 1
  let img := bufBytes sub buf.data
  let buffer := if a = 0 then sub.hasBuf (decide (sub.bufLen ≤ 393216)) else sub.noBuf
  runCmd 0x7A sub
    ([(sub.formOk [(0, 1)] && a < 3 && buffer, stBadField), (s.accepts 0x7A, stBusy)] ++
     (if a = 0 then [(!s.fwBusy, stBusy), bufRead buf.data, (buf.framed && decide (72 ≤ sub.bufLen), stBadField)] ++ sigChecks s .firmware img
      else [(s.inactive.state != .empty && !s.fwBusy, stBadState)]))
    (fun s =>
      if a = 0 then settle (addJob (.firmware img) (pagesFor sub.bufLen) (some sub) s)
      else if a = 1 then let s := activate s; complete 0x7A sub stOK (fwResult s.inactive.version s) s
      else beginUrgent 2 (some sub) (activate s)) s

end Sys2Proof.Machine
end

