-- ==== Sys2Proof/Machine/HostIf.lean ====
section
/-! DEFINITION. The host interface (R338 to R376): resets of it, rings, doorbell reads, fetch and arbitration, duplicates,
the start of commands, event entries, MSI-X, the sample mirror, the status block. -/

namespace Sys2Proof.Machine

/-! ### Resets of the host interface (R340, R484) -/

/-- Jobs end with ABORTED and write no results; what waits for them ends with them (R340). [Log: 65 DEDUCED] -/
def dropJobs (s : State) : State :=
  let jobs := s.trv.jobs
  let s := { s with trv := { s.trv with jobs := [], turn := none } }
  settleWork (jobs.foldl (fun s j => j.aborts.foldl (fun s a => complete 0x21 a stOK [] s) 
    (let s := complete 0x20 j.sub stAborted (jobResult j) s
     if j.running then raise 35 j.desc.jobId s else s)) s)

/-- PERST#, a function level reset and a link-down event: the HIF and EVT blocks and the MSI-X structures take their reset
values, commands that have started keep their table entries until they end and lose their completions, and a cairn in progress can no
longer complete (R337). [Log: 41 DEDUCED, 63 DEDUCED] -/
def hostReset (s : State) : State :=
  let s := { s with
    hif := { Hif.reset with
      table := (s.hif.table.filter (fun e => e.started && !s.hif.held.any (fun d => d.opcode == e.opcode && d.sub == e.sub))).map
        (fun e => { e with orphan := true })
      linkUp := s.hif.linkUp, perst := s.hif.perst, heartbeat := s.hif.heartbeat, readData := s.hif.readData, beatTick := s.clk.ticks }
    evt := Evt.reset
    cairn := { s.cairn with cut := s.cairn.writing.isSome }
    sar := { s.sar with mirror := false } }
  dropJobs s

/-- PERST. -/
def execPerst (s : State) : Out :=
  let s := hostReset s
  .next { s with hif := { s.hif with linkUp := false, perst := true } }

/-- FUNCTION_LEVEL_RESET. [Log: 63 DEDUCED] -/
def execFunctionLevelReset (s : State) : Out := .next (hostReset s)

/-- LINK_DOWN. [Log: 63 DEDUCED] -/
def execLinkDown (s : State) : Out :=
  let s := hostReset s
  .next { s with hif := { s.hif with linkUp := false } }

/-- PERST_RELEASE: the link trains, once power-good has come. [Log: 12 DEDUCED, 63 DEDUCED] -/
def execPerstRelease (s : State) : Out := .next { s with hif := { s.hif with perst := false, linkUp := s.pwr.started } }

/-- BAR0_MISALIGNED_ACCESS: a write is discarded, a read returns all ones (R339). -/
def execBar0MisalignedAccess (isWrite : Bool) (s : State) : Out :=
  let s := hifErr 8 s
  .next { s with hif := { s.hif with readData := if isWrite then s.hif.readData else 0xFFFFFFFF#32 } }

/-! ### Rings (R345, R346, R374) -/

/-- A fetch under way for SQn is given up with its reservation. [Log: 64 DEDUCED] -/
def dropFetch (n : Nat) (s : State) : State :=
  if s.hif.fetching == some n then { s with hif := { s.hif with fetching := none, reserved := s.hif.reserved.modify n (· - 1) } } else s

/-- EN clears. -/
def ringOff (n : Nat) (s : State) : State :=
  let s := s.modRing n (fun r => { r with en := false })
  let s := if n < 8 then dropFetch (n % 4) s else s
  let noDups (q : Nat) (s : State) : State := { s with hif := { s.hif with dups := s.hif.dups.filter (fun d => d.sq != q) } }
  if n < 4 then noDups n { s with hif := { s.hif with startHead := s.hif.startHead.set n false } }
  else if n < 8 then
    let q := n - 4
    noDups q { s with hif := { s.hif with
      table := s.hif.table.map (fun e => if e.sub.sq = q then { e with orphan := true } else e)
      reserved := s.hif.reserved.set q 0, stalled := s.hif.stalled.set q false } }
  else if n = 8 then { s with evt := { s.evt with queue := [] } }
  else if n = 9 then { s with sar := { s.sar with mirror := false } }
  else s

/-- EN is set: refused while an address of the blocks is 0 or with a SIZE outside 4 to 12, otherwise both indexes start at
0, the first pass has phase 1 and an error is over (R344, R345, R349). -/
def ringOn (n : Nat) (s : State) : State :=
  let z := (s.ring n).size
  if s.dbAddr = 0 || s.stAddr = 0 || z < 4 || 12 < z then hifErr 1 s
  else s.modRing n (fun r => { r with en := true, err := false, errBit := false, mine := 0, theirs := 0, phase := true })

/-- A write of HIF_RING_CTRL of the selected ring. [Log: 64 DEDUCED] -/
def writeRingCtrl (v : Reg) (s : State) : State :=
  let n := s.hif.ringSel
  if 12 ≤ n then s
  else
    let w := v.toNat
    let r := s.ring n
    let s := s.modRing n (fun r => { r with
      errBit := r.errBit && !(r.hot.clears s.clk.ticks v).getLsbD 2, vec := if 4 ≤ n && n < 8 then w / 256 % 16 else r.vec, size := if r.en then r.size else w / 16 % 16 })
    if v.getLsbD 0 then (if r.en then s else ringOn n s) else (if r.en then ringOff n s else s)

/-- A BAR0 access that arrives shows that the link is up, which it can be in a device that has started, outside PERST#, and not
before VCORE returns after a HARD cut (R340, R584). [Log: 12 DEDUCED, 63 DEDUCED] -/
def linkSeen (s : State) : State :=
  if s.pwr.started && !s.pwr.hardLatch && !s.hif.perst then { s with hif := { s.hif with linkUp := true } } else s

/-- RING_ENABLE and RING_DISABLE: the value written. -/
def execRingEnable (v : Reg) (s : State) : Out := .next (writeRingCtrl v (linkSeen s))
def execRingDisable (v : Reg) (s : State) : Out := .next (writeRingCtrl v (linkSeen s))

/-! ### Slots and stalls (R356, R358) -/

/-- A slot of CQn can be reserved. -/
def slotFree (s : State) (n : Nat) : Bool :=
  let r := s.ring (4 + n)
  decide (r.used + s.hif.reserved.getD n 0 < r.len - 1)

/-- SQn has a submission that is not being fetched yet and, but for the CQ slot, could be as far as its rings go. [Log: 64 DEDUCED] -/
def sqWaiting (s : State) (n : Nat) : Bool :=
  let q := s.ring n
  let c := s.ring (4 + n)
  q.en && c.en && !q.err && !c.err && (if s.hif.fetching == some n then (q.mine + 1) % q.len else q.mine) != q.theirs

/-- EV54 once at the start of each stall. [Log: 64 DEDUCED] -/
def judgeStalls (s : State) : State :=
  (List.range 4).foldl (fun s n =>
    let now := sqWaiting s n && !slotFree s n
    let was := s.hif.stalled.getD n false
    let s := { s with hif := { s.hif with stalled := s.hif.stalled.set n now } }
    if now && !was then raise 54 n s else s) s

/-! ### The doorbell block (R347 to R349, R370) -/

/-- The index of ring r in the block. -/
def doorbellIndex (b : List Byte) (n : Nat) : Nat := fieldU b (2 * n) 2

/-- DOORBELL_POLL: a grid point. The block is read, and the status block written if a field of it has changed (R348,
R351). -/
def execDoorbellPoll (s : State) : Out :=
  if !s.hif.rings.any (·.en) || !s.hif.linkUp then .next s
  else
    let s := { s with hif := { s.hif with dbBusy := true } }
    .next (if statusFields s = s.hif.stLast then s else writeStatus s)

/-- One ring's index of a good read. -/
def takeIndex (b : List Byte) (s : State) (n : Nat) : State :=
  let r := s.ring n
  let i := doorbellIndex b n
  if !r.en then s
  else if r.len ≤ i then
    let s := s.modRing n (Ring.fail s.clk.ticks)
    let s := hifErr 2 s
    { s with hif := { s.hif with dbErrIdx := true } }
  else s.modRing n (fun r => { r with theirs := i })

/-- HOST_BEAT at a doorbell read (R370). [Log: 64 DEDUCED] -/
def judgeBeat (beat : Nat) (s : State) : State :=
  if beat != s.hif.beat then { s with hif := { s.hif with beat := beat, beatTick := s.clk.ticks, hostLate := false } }
  else if s.hif.hostWd != 0 && !s.hif.hostLate && s.hif.beatTick + msTicks s.hif.hostWd ≤ s.clk.ticks then
    raise 63 0 { s with hif := { s.hif with hostLate := true } }
  else s

/-- DOORBELL_READ_DONE; a read does not pass the posted writes before it (R348). -/
def execDoorbellReadDone (d : DmaRead) (s : State) : Out :=
  if !s.hif.dbBusy then .next s
  else match d with
    | none => .next { s with hif := { s.hif with dbBusy := false, dbErrRead := true } }
    | some b =>
      let s := drainWrites s
      let s := { s with hif := { s.hif with dbBusy := false, dbErrRead := false, dbErrIdx := false } }
      .next (judgeStalls (judgeBeat (fieldU b 24 4) ((List.range 12).foldl (takeIndex b) s)))

/-- STATUS_BLOCK_TIMER (R351). -/
def execStatusBlockTimer (s : State) : Out := .next (writeStatus s)

/-! ### Fetch and arbitration (R356 to R359) -/

/-- A TRAVERSE_START that the table has no room for stays in host memory (R359). [Log: 64 DEDUCED] -/
def startsHeld (s : State) (op : Nat) : Bool := op = 0x20 && 64 ≤ (s.hif.table.filter (fun e => e.opcode == 0x20)).length

/-- The submission at the head of SQn is fetchable. What its opcode is shows when its entry is read for the first time: a
TRAVERSE_START found there without room is put back and not read again before there is room. [Log: 64 DEDUCED] -/
def fetchable (s : State) (n : Nat) : Bool :=
  sqWaiting s n && slotFree s n && cmdsInTable s < (if n = 0 then 128 else 120) && !(s.hif.startHead.getD n false && startsHeld s 0x20)

/-- A weight or limit of HIF_ARB; 0 is taken as 1. -/
def arbField (s : State) (i : Nat) : Nat := max 1 (s.hif.arb.toNat / 256 ^ i % 256)

/-- STARVE, and the weight of SQn. [Log: 64 DEDUCED] -/
def starve (s : State) : Nat := arbField s 3
def weight (s : State) (n : Nat) : Nat := arbField s (n - 1)

/-- SQ1 to SQ3 in turn. -/
def nextTurn (n : Nat) : Nat := if n = 3 then 1 else n + 1

/-- Weighted round-robin: the SQ whose turn it is, or the next with a fetchable submission; the turn and the fetches made in
it after this one. The weight is the one that HIF_ARB holds at the fetch. -/
def roundRobin (s : State) : Nat → Nat → Nat → Option (Nat × Nat × Nat)
  | 0, _, _ => none
  | k + 1, n, used =>
    if fetchable s n && used < weight s n then
      if used + 1 < weight s n then some (n, n, used + 1) else some (n, nextTurn n, 0)
    else roundRobin s k (nextTurn n) 0

/-- The SQ fetched next: a starved one, SQ0, or the round-robin. [Log: 64 DEDUCED] -/
def chooseSq (s : State) : Option (Nat × Nat × Nat) :=
  match [1, 2, 3].find? (fun n => fetchable s n && starve s ≤ s.hif.passed.getD n 0) with
  | some n => some (n, s.hif.turn, s.hif.turnUsed)
  | none => if fetchable s 0 then some (0, s.hif.turn, s.hif.turnUsed) else roundRobin s 4 s.hif.turn s.hif.turnUsed

/-- Fetches that have passed each SQ over. [Log: 64 DEDUCED] -/
def passedOver (s : State) (n : Nat) : List Nat :=
  (List.range 4).map (fun m => if m = n || !fetchable s m then 0 else s.hif.passed.getD m 0 + 1)

/-- SUBMISSION_FETCH: a slot is reserved and the entry is read. -/
def execSubmissionFetch (s : State) : Out :=
  if s.hif.fetching.isSome then .next s
  else match chooseSq s with
    | none => .next (judgeStalls s)
    | some (n, turn, used) =>
      .next (judgeStalls { s with hif := { s.hif with
        fetching := some n, arbBack := (s.hif.turn, s.hif.turnUsed, s.hif.passed), turn, turnUsed := used, passed := passedOver s n, reserved := s.hif.reserved.modify n (· + 1) } })

/-! ### Entries (R352, R359, R362 to R364, R371) -/

def releaseSlot (n : Nat) (s : State) : State := { s with hif := { s.hif with reserved := s.hif.reserved.modify n (· - 1) } }

/-- EV55 and HIF_DUP_CNT. [Log: 65 DEDUCED] -/
def countDup (sub : Submission) (s : State) : State :=
  raise 55 sub.reqId { s with hif := { s.hif with dupCnt := wrap32 (s.hif.dupCnt + 1) } }

/-- A submission that is answered at once: its reservation goes with its completion. [Log: 65 DEDUCED] -/
def answerDup (op : Nat) (sub : Submission) (status orig : Nat) (result : List Byte) (s : State) : State :=
  postCompletion sub op status orig result false (releaseSlot sub.sq (countDup sub s))

/-- The command of the same SQ and REQ_ID that is still in the table. -/
def tableDup (s : State) (sub : Submission) : Option TableEntry :=
  s.hif.table.find? (fun e => e.sub.sq == sub.sq && e.sub.reqId == sub.reqId)

/-- A submission merges with a command in the table, and its reservation goes. Where that command's own completion was to be
discarded, the one that covers both submissions is posted, and it takes the reservation over (R364). [Log: 65 DEDUCED] -/
def mergeDup (e : TableEntry) (sub : Submission) (s : State) : State :=
  let s := { s with hif := { s.hif with table := s.hif.table.map (fun x => if x == e then { x with merged := true, orphan := false } else x) } }
  if e.orphan then s else releaseSlot sub.sq s

/-- The remembered completion of the same SQ and REQ_ID, the latest first. [Log: 65 DEDUCED] -/
def rememberedDup (s : State) (sub : Submission) : Option DupMem :=
  s.hif.dups.reverse.find? (fun d => d.sq == sub.sq && d.reqId == sub.reqId)

/-- A fetched entry is merged, answered as a duplicate, or takes a table entry. -/
def enterTable (op : Nat) (sub : Submission) (s : State) : State :=
  let enter (s : State) : State :=
    { s with hif := { s.hif with table := s.hif.table ++ [{ opcode := op, sub, started := false, merged := false, orphan := false }] } }
  if sub.reqId = 0 then enter s
  else match tableDup s sub with
    | some e =>
      if e.opcode = op then countDup sub (mergeDup e sub s)
      else answerDup op sub stBadField 0 [] s
    | none => match rememberedDup s sub with
      | some d => if d.opcode = op then answerDup op sub stDuplicate d.status d.result s else answerDup op sub stBadField 0 [] s
      | none => enter s

/-- An entry that is not admitted counts as not fetched: the turn of the round-robin is as before. -/
def putBack (n : Nat) (s : State) : State :=
  { s with hif := { s.hif with startHead := s.hif.startHead.set n true, turn := s.hif.arbBack.1, turnUsed := s.hif.arbBack.2.1, passed := s.hif.arbBack.2.2 } }

/-- SUBMISSION_FETCH_DONE; a fetch does not pass the posted writes before it (R348), and a reservation that it gives back may end
a stall (R358). -/
def execSubmissionFetchDone (d : DmaRead) (s : State) : Out :=
  match s.hif.fetching with
  | none => .next s
  | some n =>
    let s := { s with hif := { s.hif with fetching := none } }
    match d with
      | none =>
        let s := (releaseSlot n s).modRing n (Ring.fail s.clk.ticks)
        .next (judgeStalls (hifErr 4 s))
      | some b =>
        let s := drainWrites s
        let e := parseEntry n b
        if startsHeld s e.1 then .next (judgeStalls (putBack n (releaseSlot n s)))
        else .next (judgeStalls (enterTable e.1 e.2 ({ s with hif := { s.hif with startHead := s.hif.startHead.set n false } }.modRing n Ring.advance)))

/-! ### The start of commands (R360, R361, R379) -/

/-- The opcodes of R382. -/
def opcodes : List Nat :=
  [0x00, 0x01, 0x02, 0x03, 0x04, 0x05, 0x06, 0x10, 0x11, 0x12, 0x18, 0x19, 0x20, 0x21, 0x22, 0x28, 0x29, 0x2A, 0x30, 0x31, 0x32, 0x38,
   0x39, 0x3A, 0x3B, 0x40, 0x41, 0x48, 0x49, 0x50, 0x51, 0x58, 0x60, 0x61, 0x7A, 0x7F]

/-- The next command of SQn, with the commands of that SQ before it in the table. -/
def nextStart (n : Nat) : List TableEntry → List TableEntry → Option (TableEntry × List TableEntry)
  | _, [] => none
  | before, e :: r =>
    if e.sub.sq = n then (if e.started then nextStart n (before ++ [e]) r else some (e, before)) else nextStart n before r

/-- SFLAGS.BARRIER. -/
def Submission.barrier (sub : Submission) : Bool := sub.sflags.getLsbD 0

/-- The command may start: a barrier waits for every earlier command of its SQ, and every command for an earlier barrier. -/
def mayStart (e : TableEntry) (before : List TableEntry) : Bool :=
  if Submission.barrier e.sub then before.isEmpty else !before.any (fun b => Submission.barrier b.sub)

/-- The first entry that equals a given one is started. -/
def markStarted (e : TableEntry) : List TableEntry → List TableEntry
  | [] => []
  | x :: r => if x == e then { x with started := true } :: r else x :: markStarted e r

/-- COMMAND_START: the command begins to execute; an unknown opcode completes with BAD_OPCODE. What a known one does is the
command of its own. [Log: 5 DEDUCED] -/
def execCommandStart (sq : Nat) (s : State) : Out :=
  match nextStart sq [] s.hif.table with
  | none => .next s
  | some (e, before) =>
    if !mayStart e before then .next s
    else
      let s := { s with hif := { s.hif with table := markStarted e s.hif.table } }
      .next (if opcodes.contains e.opcode then s else complete e.opcode e.sub stBadOpcode [] s)

/-! ### Event entries and messages (R355, R366 to R369) -/

/-- The vector of an event. -/
def eventVec (s : State) (e : Nat) : Nat := (s.evt.map.getD (e / 8) 0).toNat / 16 ^ (e % 8) % 16

/-- An event entry. -/
def eventBytes (q : EvEntry) (vec : Nat) (phase : Bool) : List Byte :=
  [BitVec.ofNat 8 q.event, BitVec.ofNat 8 vec] ++ leBytes 2 q.count ++ leBytes 4 q.info ++ leBytes 8 q.time ++ leBytes 8 q.epoch ++
    leBytes 4 q.last ++ zeros 3 ++ [BitVec.ofNat 8 (bit phase 0)]

/-- EVENT_ENTRY_WRITE. [Log: 64 DEDUCED] -/
def execEventEntryWrite (s : State) : Out :=
  let r := s.ring 8
  match s.evt.queue with
  | [] => .next s
  | q :: rest =>
    if !r.en || r.err || r.full then .next s
    else
      let s := drainWrites s
      let r := s.ring 8
      let v := eventVec s q.event
      let s := postEntry 8 (eventBytes q v r.phase) { s with evt := { s.evt with queue := rest } }
      .next (if s.evt.mask.getLsbD q.event then s else signal v s)

/-- MSIX_MODERATION_TIMEOUT. -/
def execMsixModerationTimeout (vec : Nat) (s : State) : Out :=
  .next (if s.hif.unsig.getD vec 0 = 0 then s else sendMsg vec s)

/-- The MSI-X structures after a write of the host. -/
def msixWritten (w : MsixWrite) (s : State) : State :=
  { s with hif := match w with
    | .entry v a d m => { s.hif with vecMask := setBit s.hif.vecMask v m, msgAddr := s.hif.msgAddr.set v a, msgData := s.hif.msgData.set v d }
    | .control e m => { s.hif with msixEn := e, fnMask := m } }

/-- A message that waits in the PBA is sent once its vector is not masked (R369). -/
def sendPending (v : Nat) (s : State) : State := if s.hif.pba.getLsbD v && !s.vecMasked v then sendMsg v s else s

/-- MSIX_VECTOR_UNMASK: the write that unmasks vectors, of the table or of Message Control. [Log: 14 DESIGN CHOICE] -/
def execMsixVectorUnmask (w : MsixWrite) (s : State) : Out :=
  .next ((List.range 16).foldl (fun s v => sendPending v s) (msixWritten w s))

/-! ### The sample mirror (R139, R341) -/

/-- SMR_ENTRY_WRITE. -/
def execSmrEntryWrite (s : State) : Out :=
  let r := s.ring 9
  match s.sar.queue with
  | [] => .next s
  | e :: _ =>
    if !s.sar.mirror || !r.en || r.err || r.full then .next s
    else .next (postEntry 9 (leBytes 4 e.lo ++ leBytes 4 e.ts32) (queuePop (drainWrites s)))

end Sys2Proof.Machine
end

