-- ==== Sys2Proof/Machine/Regs.lean ====
section
/-! DEFINITION. BAR0 (R550 to R564): what every register reads, what a write does, and the reads with an effect. -/

namespace Sys2Proof.Machine

/-! ### What registers read -/

/-- The low and the high word of a 64-bit value. -/
def loW (n : Nat) : Nat := n % two32
def hiW (n : Nat) : Nat := n / two32 % two32

/-- SYS block (R558). [Log: 57 DEDUCED, 75 DEDUCED] -/
def readSys (s : State) (off : Nat) : Nat :=
  match off with
  | 0x00 => 0x64081E7B
  | 0x04 => 0x00010010
  | 0x08 => 0x08084008
  | 0x0C => bit (s.pwr.loaded && s.cfg.stored.isSome) 15 + bit s.frm.measuring 14 + bit s.cairn.alive 11 + bit (faultN s) 10 +
      bit s.unsync 9 + bit (s.pwr.loaded && s.sec.sealed) 8 + s.pwr.state.code
  | 0x10 => sysFault s
  | 0x14 => loW s.frm.epoch
  | 0x18 => s.sys.epochHi.toNat
  | 0x1C => if s.pwr.loaded then s.sys.bootCount else 0
  | 0x20 => wrap32 (s.clk.ticks / tickHz)
  | 0x24 => bit s.sys.save 0
  | 0x28 => s.sys.scratch.toNat
  | _ => 0

/-- A CQ is enabled and no slot of it can be reserved. -/
def cqStall (s : State) (n : Nat) : Bool := (s.ring (4 + n)).en && !slotFree s n

/-- HIF_RING_CTRL of a ring. -/
def ringCtrl (s : State) (n : Nat) : Nat :=
  let r := s.ring n
  256 * r.vec + 16 * r.size + bit r.errBit 2 + bit (r.en || (n < 4 && s.hif.table.any (fun e => e.sub.sq == n))) 1 + bit r.en 0

/-- HIF block (R374). -/
def readHif (s : State) (off : Nat) : Nat :=
  let n := s.hif.ringSel
  match off with
  | 0x400 => s.hif.dbLo.toNat
  | 0x404 => s.hif.dbHi.toNat
  | 0x408 => s.hif.stLo.toNat
  | 0x40C => s.hif.stHi.toNat
  | 0x410 => s.hif.poll
  | 0x414 => s.hif.arb.toNat
  | 0x418 => n
  | 0x41C => if n < 12 then (s.ring n).baseLo else 0
  | 0x420 => if n < 12 then (s.ring n).baseHi else 0
  | 0x424 => if n < 12 then ringCtrl s n else 0
  | 0x428 => s.hif.hostWd
  | 0x42C => ((List.range 4).map (fun n => bit (cqStall s n) (20 + n))).sum + bit s.hif.hostLate 18 + bit (dbErr s) 17 +
      bit (tableFull s) 16 + 4096 * jobsRunning s + cmdsInTable s
  | 0x430 => bit s.hif.errAlign 3 + bit s.hif.errFetch 2 + bit s.hif.errDbIdx 1 + bit s.hif.errCfg 0
  | 0x434 => s.hif.dupCnt
  | _ => 0

/-- EVT block (R375). -/
def readEvt (s : State) (off : Nat) : Nat :=
  match off with
  | 0x800 => loW s.evt.en.toNat
  | 0x804 => hiW s.evt.en.toNat
  | 0x808 => loW s.evt.pend.toNat
  | 0x80C => hiW s.evt.pend.toNat
  | 0x810 => loW s.evt.mask.toNat
  | 0x814 => hiW s.evt.mask.toNat
  | 0x880 => s.evt.queue.length
  | _ =>
    if 0x820 ≤ off && off < 0x840 then (s.evt.map.getD ((off - 0x820) / 4) 0).toNat
    else if 0x840 ≤ off && off < 0x880 then (s.evt.mod.getD ((off - 0x840) / 4) 0).toNat else 0

def TimeState.slewing (s : State) : Bool := s.tim.slewRate != 0

/-- TIM block (R447). -/
def readTim (s : State) (off : Nat) : Nat :=
  let u := s.cmp s.tim.cmpSel
  match off with
  | 0xC00 => loW s.now
  | 0xC04 => s.tim.nowHi.toNat
  | 0xC08 => s.tim.nowFrac.toNat
  | 0xC0C => s.ts32
  | 0xC10 => loW s.clk.inc.toNat
  | 0xC14 => hiW s.clk.inc.toNat
  | 0xC18 => bit s.tim.ppsLock 10 + 256 * (s.timeSrc % 4) + 16 * s.tim.lead.getD 3 + bit (TimeState.slewing s) 3 + bit s.tim.suspect 2 +
      bit s.holdover 1 + bit s.unsync 0
  | 0xC20 => s.tim.lat.toNat / two32 % two32
  | 0xC24 => s.tim.latHi.toNat
  | 0xC28 => s.tim.latFrac.toNat
  | 0xC2C => s.tim.cmpSel
  | 0xC30 => u.target.toNat
  | 0xC34 => u.period.toNat
  | 0xC38 => 65536 * u.pulse + bit u.fired 7 + bit u.pol 3 + bit u.outEn 2 + bit u.inj 1 + bit u.en 0
  | 0xC3C => 65536 * toU 16 s.tim.inDelay + bit s.tim.inPol 9 + s.tim.outWidth
  | 0xC40 => loW s.tim.ppsStamp.toNat
  | 0xC44 => s.tim.ppsHi.toNat
  | _ => 0

/-- PTP_DOM_STATUS.STATE. -/
def DomState.code : DomState → Nat
  | .disabled => 0 | .listening => 1 | .acquiring => 2 | .locked => 3 | .frozen => 4 | .asym => 5

/-- PTP block (R447). -/
def readPtp (s : State) (off : Nat) : Nat :=
  let x := s.dom s.ptp.domSel
  let p := s.port s.ptp.portSel
  match off with
  | 0x1000 => bit s.ptp.save 31 + bit s.ptp.enB 5 + bit s.ptp.enA 4 + s.ptp.portMap
  | 0x1004 => s.ptp.pdStep
  | 0x1008 => s.ptp.domSel
  | 0x100C => 2048 * x.profile + bit x.delayP2p 10 + 256 * x.transport + x.num
  | 0x1010 => 2 ^ 24 * toU 8 x.logSync + 256 * x.gmClass + bit (s.tim.lead == some s.ptp.domSel) 3 + x.state.code
  | 0x1014 => toU 32 (clampS 32 x.offset)
  | 0x1018 => x.pathNs
  | 0x101C => loW x.gmId.toNat
  | 0x1020 => s.ptp.gmHi.toNat
  | 0x1024 => x.syncCnt
  | 0x1040 => s.ptp.portSel
  | 0x1044 => p.macLo.toNat
  | 0x1048 => p.macHi
  | 0x104C => p.ipv4.toNat
  | 0x1050 => 65536 * p.latRx + p.latTx
  | 0x1054 => bit (s.pwr.loaded && Config.rmiiLink s.ptp.portSel s.clk.ticks) 0
  | 0x1058 => bit p.mdioGo 31 + p.mdio.toNat
  | 0x1060 => s.ptp.txSel
  | 0x1064 => ((s.port s.ptp.txSel).queue.head?.map (·.tag)).getD 0
  | 0x1068 => s.ptp.txLo.toNat
  | 0x106C => s.ptp.txHi.toNat
  | 0x1070 => s.ptp.txInfo.toNat
  | 0x1074 => (s.port s.ptp.txSel).ovf
  | 0x1080 => s.ptp.prxLo.toNat
  | 0x1084 => s.ptp.prxHi.toNat
  | _ => 0

/-- One bit for each port of R69. -/
def portBits (s : State) (f : OwPort → Bool) (at0 : Nat) : Nat := ((s.met.ports.zipIdx).map (fun e => bit (f e.1) (at0 + e.2))).sum

/-- NET, IN, OUT and UNC of the selected string as 64-bit codes. -/
def metNet (s : State) : Nat := let m := s.metStr s.met.sel; toU 64 (pubNet m.qIn m.qOut)
def metIn (s : State) : Nat := pubAcc (s.metStr s.met.sel).qIn
def metOut (s : State) : Nat := pubAcc (s.metStr s.met.sel).qOut
def metUnc (s : State) : Nat := let m := s.metStr s.met.sel; pubUnc m.uLin m.sN

/-- MET block (R75); the flags of MET_STATUS stand as the string's last update left them (R77). -/
def readMet (s : State) (off : Nat) : Nat :=
  let n := s.met.sel
  let m := s.metStr n
  match off with
  | 0x1400 => n
  | 0x1404 => bit m.wideOvr 10 + bit m.owSticky 9 + bit m.ovrSticky 8 + bit m.ref 7 + 32 * m.cntSrc + bit m.single 4 +
      bit m.wideLast 3 + bit m.ow 2 + bit m.ovrLast 1 + bit m.en 0
  | 0x1408 => toU 32 m.current
  | 0x140C => loW m.winNum
  | 0x1410 => loW (metNet s)
  | 0x1414 => s.met.netHi.toNat
  | 0x1418 => loW (metIn s)
  | 0x141C => s.met.inHi.toNat
  | 0x1420 => loW (metOut s)
  | 0x1424 => s.met.outHi.toNat
  | 0x1428 => loW (metUnc s)
  | 0x142C => s.met.uncHi.toNat
  | 0x1430 => wrap32 m.ovrCount
  | 0x1434 => 65536 * s.met.owPeriod + s.met.i100.toNat
  | 0x1438 => portBits s (·.lastFail) 16 + portBits s (·.isOpen) 0
  | 0x143C => s.met.winLen
  | _ => 0

/-- The word that SAR_Q_LO returns: the oldest entry, 0 when there is none or the mirror is on (R139). -/
def sarQLo (s : State) : Nat := if s.sar.mirror then 0 else (s.sar.queue.head?.map SarEntry.lo).getD 0

/-- SAR block (R152). -/
def readSar (s : State) (off : Nat) : Nat :=
  let c := s.sar.oc.getD s.sar.ocSel OcCfg.reset
  match off with
  | 0x1800 => bit (s.pwr.state == .lean) 8 + bit (s.fRetired 1) 5 + bit (s.fRetired 0) 4 + bit s.sar.mirror 0
  | 0x1804 => s.sar.queue.length
  | 0x1808 => s.sar.wm
  | 0x180C => s.sar.drop
  | 0x1810 => sarQLo s
  | 0x1814 => s.sar.qHi.toNat
  | 0x1818 => s.sar.ocSel
  | 0x181C => bit c.injEn 12 + bit c.pairEn 11 + bit c.latch 10 + 256 * c.dir + c.thr
  | 0x1820 => bit s.sar.pairMiss 17 + bit s.sar.pin 16 + 256 * s.sar.active.toNat + s.sar.trip.toNat
  | 0x1824 => bit s.sar.capture.isSome 24 + 65536 * s.sar.pairStr + s.sar.pairLen
  | 0x1828 => s.sar.tdac
  | 0x182C => loW s.sar.diagFail.toNat
  | 0x1830 => hiW s.sar.diagFail.toNat
  | _ => 0

/-- ROPE block (R192). -/
def readRope (s : State) (off : Nat) : Nat :=
  let r := s.ropeStr s.rope.sel
  match off with
  | 0x1C00 => s.rope.sel
  | 0x1C04 => 2 ^ 24 * r.tieResult.code + 65536 * r.count + bit r.tie.isSome 8 + bit r.dlyWarn 7 + bit r.unaddr 6 + bit r.fault 5 +
      bit (decide (3 ≤ r.belayRun)) 4 + bit r.tied 3 + r.mode.code
  | 0x1C08 => bit r.brkB.isSome 14 + 256 * r.brkB.getD 0 + bit r.brkA.isSome 6 + r.brkA.getD 0
  | 0x1C0C => r.faultMask.toNat
  | 0x1C10 => r.sticky.toNat
  | 0x1C14 => r.tRing % two16
  | 0x1C18 => r.crcCnt
  | 0x1C1C => r.retryCnt
  | 0x1C20 => r.failCnt
  | 0x1C24 => r.belayMiss
  | _ => 0

/-- A temperature in 0.01 °C as a 16-bit code, 0x8000 for none. -/
def tempCode (t : Option Int) : Nat := match t with | some v => toU 16 (clampI (-32768) 32767 v) | none => 0x8000

/-- THM block (R467). -/
def readThm (s : State) (off : Nat) : Nat :=
  let n := s.thm.sel
  let p := s.thm.pins.getD n PinState.reset
  let role := pinRole s.cfg.live n
  match off with
  | 0x2000 => n
  | 0x2004 => 65536 * tempCode p.measured + tempCode p.published
  | 0x2008 => p.raw
  | 0x200C => 65536 * (s.cfg.live.glob.pins.getD n ThPin.template).group + 4096 * role.2 + 256 * role.1 + bit p.nosub 5 + bit p.dev 4 +
      bit p.suspect 3 + bit p.shortRes 2 + bit p.openRes 1 + bit p.valid 0
  | 0x2010 => ((List.range 16).map (fun i => bit (s.thm.pins.getD i PinState.reset).suspect i)).sum
  | 0x2014 => s.thm.sticky.toNat
  | 0x2018 => 65536 * toU 16 s.thm.regB + toU 16 s.thm.regA
  | 0x201C => 32 * s.trv.halvings + bit s.thm.dieB.isNone 4 + bit s.thm.dieA.isNone 3 + bit s.thm.hardSeen 2 + bit s.thm.orderly 1 + bit s.thm.warn 0
  | 0x2020 => tempCode s.thm.peak
  | 0x2024 => toU 16 s.thm.warnThr
  | 0x2028 => toU 16 s.thm.orderThr
  | 0x202C => ((List.range 8).map (fun i => bit ((s.ropeStr i).mons.any (fun m => m.2.inputs.any (·.suspect))) i)).sum
  | _ => 0

def BankState.code : BankState → Nat
  | .empty => 0 | .valid => 1 | .pending => 2 | .confirmed => 3

/-- PWR block (R496). PWR_BOOT reads its reset value until step 3 of a start has read the banks (R557). [Log: 57 DEDUCED] -/
def readPwr (s : State) (off : Nat) : Nat :=
  match off with
  | 0x2400 => bit s.pwr.mode 0
  | 0x2404 => bit s.pwr.holdDone 9 + bit (s.pwr.started && decide (s.pwr.vauxMv < s.pwr.warnThr)) 8 + s.pwr.state.code
  | 0x2408 => s.pwr.vauxMv
  | 0x240C => 65536 * s.pwr.floorMv + s.pwr.vcoreMv
  | 0x2410 => s.pwr.warnThr
  | 0x2414 => bit s.pwr.resume 0
  | 0x2418 => s.pwr.holdCnt
  | 0x241C => s.pwr.rstCause.toNat
  | 0x2420 =>
    if s.pwr.started && s.clk.running then
      65536 * s.bank.version + 16 * s.pwr.bankB.state.code + 4 * s.pwr.bankA.state.code + bit s.pwr.fallback 1 + bit s.pwr.runB 0
    else 0
  | _ => 0

/-- Highest and mean sector wear of the selected region in 0.01 % of rated endurance. -/
def wearWord (s : State) : Nat :=
  let l := s.nvm.wear.getD s.nvm.wearSel []
  65536 * pubU 16 ((l.foldl max 0 : Nat) / 10) + pubU 16 ((l.sum : Rat) / max 1 l.length / 10)

/-- A program or an erase is in progress: a job, the last page of one that was cut off, a page of the event log, or an
erase in the background, which runs while the next sector of the journal may not be opened (R487). [Log: 52 DEDUCED, 54 DEDUCED] -/
def flashBusy (s : State) : Bool :=
  !s.nvm.jobs.isEmpty || s.nvm.tail || (s.live && (!s.nvm.logBuf.isEmpty || decide (erasedSectors s.nvm.secs < 3)))

/-- NVM block (R497). [Log: 54 DEDUCED] -/
def readNvm (s : State) (off : Nat) : Nat :=
  match off with
  | 0x2800 => s.nvm.life
  | 0x2804 => bit s.nvm.setTorn 4 + bit s.nvm.urgTorn 3 + bit (lifeExt s) 2 + bit (s.pwr.loaded && 2 ≤ erasedSectors s.nvm.secs) 1 +
      bit (flashBusy s) 0
  | 0x2808 => s.nvm.wearSel
  | 0x280C => wearWord s
  | 0x2810 => (s.nvm.urgent.map (·.seq)).getD 0
  | 0x2814 => if s.nvm.urgent.isSome then pubU 32 (((s.clk.ticks - s.nvm.urgTick : Nat) : Rat) / msTicks 10) else 0
  | 0x2818 => s.nvm.setSeq
  | 0x281C => badSectors s.nvm.secs
  | 0x2820 => s.nvm.errCnt
  | _ => 0

/-- A word of the selected key: a root slot, or the identity public key. -/
def keyWord (s : State) : Nat :=
  let k := if s.sec.keySel < 4 then (s.root s.sec.keySel).getD [] else if s.sec.keySel = 4 then fit 64 Config.identityKey else []
  fieldU k (4 * s.sec.word) 4

/-- SEC block (R532): values from OTP from step 5 of the boot on. -/
def readSec (s : State) (off : Nat) : Nat :=
  if !s.pwr.loaded then 0
  else match off with
  | 0x2C00 => bit s.sec.rngOk 9 + bit true 8 + 16 * rootMask s + bit s.sec.sealed 0
  | 0x2C04 => 16 * s.sec.keySel + s.sec.word
  | 0x2C08 => keyWord s
  | 0x2C0C => loW Config.serial.toNat
  | 0x2C10 => hiW Config.serial.toNat
  | 0x2C14 => ((List.range 8).map (fun n => bit (s.anyFail n) (8 + n) + bit (s.anyNone n) n)).sum
  | 0x2C18 => s.sec.authCnt
  | 0x2C1C => s.sec.failCnt
  | _ => 0

/-- LEG block (R548). -/
def readLeg (s : State) (off : Nat) : Nat :=
  match off with
  | 0x3000 => bit s.leg.save 31 + legCtrl s
  | 0x3004 => 256 * s.leg.lastCmd + bit s.leg.pecErr 4 + bit s.leg.badPage 3 + bit s.leg.wrBlock 2 + s.leg.page
  | 0x3008 => s.leg.frozenSel
  | 0x300C => 65536 * (s.leg.gauges.getD s.leg.frozenSel Gauge.reset).qual + frozenCap s s.leg.frozenSel
  | 0x3010 => s.leg.xfers
  | _ => 0

/-- The unit that DIAG_SEL names, if it names one. -/
def diagSelected (s : State) : Option UnitId :=
  let u : UnitId := { target := s.diag.sel / 256, index := s.diag.sel % 256 }
  if unitNamed u || u == rrefUnit then some u else none

/-- A unit is in service: a lane under test does no work and the contents of a bank under test stand in the spare; any
other unit under test stays in service (R503, R508). -/
def inService (s : State) (u : UnitId) : Bool :=
  !s.retired u && !(u.target == 3 && (s.unitDiag u).testing) && !(u.target == 4 && (s.unitDiag u).running)

/-- DIAG_UNIT of a unit. -/
def unitWord (s : State) (u : UnitId) : Nat :=
  let d := s.unitDiag u
  2 ^ 24 * min 0xFF d.transTotal + 65536 * min 2 d.trans1h + 16 * d.last + bit d.lastFault 3 + bit d.testing 2 + bit (s.retired u) 1 +
    bit (inService s u) 0

/-- Lanes in service, as a number (R514). -/
def lanesWord (s : State) : Nat := ((List.range 64).filter s.laneUp).foldl (fun n i => n + 2 ^ i) 0

/-- DIAG block (R514). -/
def readDiag (s : State) (off : Nat) : Nat :=
  match off with
  | 0x3400 => loW (lanesWord s)
  | 0x3404 => hiW (lanesWord s)
  | 0x3408 => 65536 * s.diag.retF.toNat + s.diag.retQ.toNat
  | 0x340C => s.diag.retRope.toNat
  | 0x3410 => 65536 * s.diag.spare.getD 0x1F + s.diag.retBanks.toNat
  | 0x3414 => s.diag.sel
  | 0x3418 => ((diagSelected s).map (unitWord s)).getD 0
  | 0x341C => ((diagSelected s).map (fun u => (s.unitDiag u).detail.toNat)).getD 0
  | 0x3420 => loW s.frm.frameCount
  | 0x3424 => s.diag.framesHi.toNat
  | 0x3428 => s.diag.outDev
  | 0x342C => s.diag.outHost
  | 0x3430 => s.diag.outSupply
  | 0x3434 => s.diag.eccCnt
  | _ => 0

/-- The value of the register at an offset, the block answering. [Log: 63 DEDUCED] -/
def rawReg (s : State) (off : Nat) : Nat :=
  match off / 1024 with
  | 0 => readSys s off | 1 => readHif s off | 2 => readEvt s off | 3 => readTim s off | 4 => readPtp s off | 5 => readMet s off
  | 6 => readSar s off | 7 => readRope s off | 8 => readThm s off | 9 => readPwr s off | 10 => readNvm s off | 11 => readSec s off
  | 12 => readLeg s off | 13 => readDiag s off | _ => 0

/-- The reset value of a register of a block that does not answer yet; DIAG_UNIT.IN_SERVICE resets to 0 (R514, R562). [Log: 11 PRESUMED, 57 DEDUCED] -/
def resetReg (off : Nat) : Nat := if off = 0x3418 then 0 else rawReg State.reset off

/-- What a read of BAR0 returns (R562, R564); offsets that the index does not list read 0. [Log: 6 DESIGN CHOICE, 63 DEDUCED] -/
def readReg (s : State) (off : Nat) : Reg := BitVec.ofNat 32 (if s.blockLive off then rawReg s off else resetReg off)

/-! ### BAR2: the MSI-X structures (R338) -/

/-- Message address, message data and vector control of a table entry, in words. -/
def msixWord (s : State) (v k : Nat) : Reg :=
  match k with
  | 0 => (s.hif.msgAddr.getD v 0).setWidth 32
  | 1 => (s.hif.msgAddr.getD v 0 >>> 32).setWidth 32
  | 2 => s.hif.msgData.getD v 0
  | _ => BitVec.ofNat 32 (bit (s.hif.vecMask.getLsbD v) 0)

/-- What a read of BAR2 returns: the table of 16 entries of 16 bytes at 0x0000, the PBA at 0x2000, and 0 elsewhere. The layout of
an entry is PCI Express's own. [Log: 14 DESIGN CHOICE] -/
def readBar2 (s : State) (off : Nat) : Reg :=
  if off < 0x100 then msixWord s (off / 16) (off % 16 / 4) else if off = 0x2000 then s.hif.pba.setWidth 32 else 0

/-! ### Reads with an effect (R555) -/

/-- The host receives the register's value, and the shadows take theirs while the block answers. [Log: 6 DESIGN CHOICE, 57 DEDUCED] -/
def readWith (off : Nat) (latch : State → State) (s : State) : State :=
  let v := readReg s off
  let s := if s.blockLive off then latch s else s
  { s with hif := { s.hif with readData := v } }

def reg32 (n : Nat) : Reg := BitVec.ofNat 32 n

/-- MET_LO_READ (R76). -/
def execMetLoRead (off : Nat) (s : State) : Out :=
  .next (readWith off (fun s =>
    if off = 0x1410 then { s with met := { s.met with netHi := reg32 (hiW (metNet s)) } }
    else if off = 0x1418 then { s with met := { s.met with inHi := reg32 (hiW (metIn s)) } }
    else if off = 0x1420 then { s with met := { s.met with outHi := reg32 (hiW (metOut s)) } }
    else if off = 0x1428 then { s with met := { s.met with uncHi := reg32 (hiW (metUnc s)) } } else s) s)

/-- TIM_NOW_LO_READ (R420). -/
def execTimNowLoRead (s : State) : Out :=
  .next (readWith 0xC00 (fun s => { s with tim := { s.tim with nowHi := reg32 (hiW s.now), nowFrac := reg32 (loW s.clk.time.toNat) } }) s)

/-- TIM_LAT_LO_READ. -/
def execTimLatLoRead (s : State) : Out :=
  .next (readWith 0xC20 (fun s => { s with tim := { s.tim with latHi := reg32 (hiW (s.tim.lat.toNat / two32)), latFrac := reg32 (loW s.tim.lat.toNat) } }) s)

/-- TIM_PPSIN_LO_READ. -/
def execTimPpsinLoRead (s : State) : Out :=
  .next (readWith 0xC40 (fun s => { s with tim := { s.tim with ppsHi := reg32 (hiW s.tim.ppsStamp.toNat) } }) s)

/-- PTP_DOM_GM_LO_READ. -/
def execPtpDomGmLoRead (s : State) : Out :=
  .next (readWith 0x101C (fun s => { s with ptp := { s.ptp with gmHi := reg32 (hiW (s.dom s.ptp.domSel).gmId.toNat) } }) s)

/-- SYS_EPOCH_LO_READ. -/
def execSysEpochLoRead (s : State) : Out :=
  .next (readWith 0x14 (fun s => { s with sys := { s.sys with epochHi := reg32 (hiW s.frm.epoch) } }) s)

/-- DIAG_FRAMES_LO_READ. -/
def execDiagFramesLoRead (s : State) : Out :=
  .next (readWith 0x3420 (fun s => { s with diag := { s.diag with framesHi := reg32 (hiW s.frm.frameCount) } }) s)

/-- SAR_Q_LO_READ: the oldest entry leaves the queue and its upper word is latched; nothing with the mirror on or the queue
empty (R139). -/
def execSarQLoRead (s : State) : Out :=
  .next (readWith 0x1810 (fun s => match s.sar.queue with
    | e :: _ => if s.sar.mirror then s else
        let s := queuePop s
        { s with sar := { s.sar with qHi := reg32 e.ts32 } }
    | [] => s) s)

/-! ### Writes -/

/-- The state that a meaning answers. -/
def stateOf (o : Out) (s : State) : State := match o with | .next t => t | _ => s

/-- A value that is taken only inside its range (R552). [Log: 49 DEDUCED] -/
def inRange (lo hi v old : Nat) : Nat := if lo ≤ v && v ≤ hi then v else old

/-- A field in which 0 is taken as 1. [Log: 63 DEDUCED] -/
def atLeast1 (n : Nat) : Nat := max 1 n

def writeSysB (off : Nat) (v : Reg) (s : State) : State :=
  if off = 0x28 then { s with sys := { s.sys with scratch := v } }
  else if off = 0x24 && v.getLsbD 0 then stateOf (execSysCtrlSave s) s else s

/-- Bytes of a word in which 0 is taken as 1. [Log: 63 DEDUCED] -/
def arbWord (v : Reg) : Reg :=
  let n := v.toNat
  reg32 (((List.range 4).map (fun i => atLeast1 (n / 256 ^ i % 256) * 256 ^ i)).sum)

def writeHif (off : Nat) (v : Reg) (s : State) : State :=
  let n := s.hif.ringSel
  let any := s.hif.rings.any (·.en)
  match off with
  | 0x400 => if any then s else { s with hif := { s.hif with dbLo := v &&& 0xFFFFFFC0#32 } }
  | 0x404 => if any then s else { s with hif := { s.hif with dbHi := v } }
  | 0x408 => if any then s else { s with hif := { s.hif with stLo := v &&& 0xFFFFFFC0#32 } }
  | 0x40C => if any then s else { s with hif := { s.hif with stHi := v } }
  | 0x410 => { s with hif := { s.hif with poll := inRange 1 10000 (v.toNat % 16384) s.hif.poll } }
  | 0x414 => { s with hif := { s.hif with arb := arbWord v } }
  | 0x418 => { s with hif := { s.hif with ringSel := v.toNat % 16 } }
  | 0x41C => if n < 12 then s.modRing n (fun r => if r.en then r else { r with baseLo := (v &&& 0xFFFFF000#32).toNat }) else s
  | 0x420 => if n < 12 then s.modRing n (fun r => if r.en then r else { r with baseHi := v.toNat }) else s
  | 0x424 => writeRingCtrl v s
  | 0x428 => { s with hif := { s.hif with hostWd := v.toNat % two16 } }
  | 0x430 =>
    let v := s.hif.hot.clears s.clk.ticks v
    { s with hif := { s.hif with errAlign := s.hif.errAlign && !v.getLsbD 3, errFetch := s.hif.errFetch && !v.getLsbD 2,
                                          errDbIdx := s.hif.errDbIdx && !v.getLsbD 1, errCfg := s.hif.errCfg && !v.getLsbD 0 } }
  | _ => s

/-- A 64-bit value with its low or its high word replaced. -/
def putLo (x : BitVec 64) (v : Reg) : BitVec 64 := (x &&& 0xFFFFFFFF00000000#64) ||| v.setWidth 64
def putHi (x : BitVec 64) (v : Reg) : BitVec 64 := (x &&& 0x00000000FFFFFFFF#64) ||| (v.setWidth 64 <<< 32)

def writeEvt (off : Nat) (v : Reg) (s : State) : State :=
  let e := s.evt
  let w : Evt := match off with
    | 0x800 => { e with en := putLo e.en v }
    | 0x804 => { e with en := putHi e.en v }
    | 0x808 => { e with pend := e.pend &&& ~~~((e.hot.clears s.clk.ticks v).setWidth 64) }
    | 0x80C => { e with pend := e.pend &&& ~~~((Hot.clears s.clk.ticks { e.hot with bits := e.hot.bits / two32 } v).setWidth 64 <<< 32) }
    | 0x810 => { e with mask := putLo e.mask v }
    | 0x814 => { e with mask := putHi e.mask v }
    | _ =>
      if 0x820 ≤ off && off < 0x840 then { e with map := e.map.set ((off - 0x820) / 4) v }
      else if 0x840 ≤ off && off < 0x880 then
        { e with mod := e.mod.set ((off - 0x840) / 4) (reg32 (65536 * atLeast1 (v.toNat / 65536 % 256) + v.toNat % two16)) }
      else e
  let s := { s with evt := w }
  let v := (off - 0x840) / 4
  if 0x840 ≤ off && off < 0x880 && s.hif.unsig.getD v 0 != 0 then moderate v s else s

/-- TIM_LATCH.CAPTURE (R420). -/
def captureTime (s : State) : State := { s with tim := { s.tim with lat := s.clk.time } }

def writeTim (off : Nat) (v : Reg) (s : State) : State :=
  let unit (f : CmpUnit → CmpUnit) : State := { s with tim := { s.tim with cmps := s.tim.cmps.modify s.tim.cmpSel f } }
  match off with
  | 0xC1C => if v.getLsbD 0 then captureTime s else s
  | 0xC2C => { s with tim := { s.tim with cmpSel := v.toNat % 4 } }
  | 0xC30 => unit (fun u => { u with target := v, stepped := false })
  | 0xC34 => unit (fun u => { u with period := v })
  | 0xC38 => unit (fun u => { u with pulse := atLeast1 (v.toNat / 65536), fired := u.fired && !(u.hot.clears s.clk.ticks v).getLsbD 7, pol := v.getLsbD 3,
                                     outEn := v.getLsbD 2, inj := v.getLsbD 1, en := v.getLsbD 0 })
  | 0xC3C => { s with tim := { s.tim with inDelay := toS 16 (v.toNat / 65536), inPol := v.getLsbD 9,
                                          outWidth := inRange 1 500 (v.toNat % 512) s.tim.outWidth } }
  | _ => s

/-- Log: 49 DEDUCED. -/
def writePtp (off : Nat) (v : Reg) (s : State) : State :=
  let prx := (s.ring 11).en
  match off with
  | 0x1000 => stateOf (execPtpCtrlSave v s) s
  | 0x1004 => { s with ptp := { s.ptp with pdStep := inRange 100 50000 (v.toNat % two16) s.ptp.pdStep } }
  | 0x1008 => { s with ptp := { s.ptp with domSel := v.toNat % 2 } }
  | 0x100C => setDomCfg v s
  | 0x1040 => { s with ptp := { s.ptp with portSel := v.toNat % 2 } }
  | 0x1044 => s.modPort s.ptp.portSel (fun p => { p with macLo := v })
  | 0x1048 => s.modPort s.ptp.portSel (fun p => { p with macHi := v.toNat % two16 })
  | 0x104C => s.modPort s.ptp.portSel (fun p => { p with ipv4 := v })
  | 0x1050 => s.modPort s.ptp.portSel (fun p => { p with latRx := v.toNat / 65536, latTx := v.toNat % two16 })
  | 0x1058 => stateOf (execPtpMdioGo v s) s
  | 0x1060 => { s with ptp := { s.ptp with txSel := v.toNat % 2 } }
  | 0x1080 => if prx then s else { s with ptp := { s.ptp with prxLo := v &&& 0xFFFFF000#32 } }
  | 0x1084 => if prx then s else { s with ptp := { s.ptp with prxHi := v } }
  | _ => s

def writeMet (off : Nat) (v : Reg) (s : State) : State :=
  match off with
  | 0x1400 => { s with met := { s.met with sel := v.toNat % 8 } }
  | 0x1404 => s.modMet s.met.sel (fun m =>
      let v := m.hot.clears s.clk.ticks v
      { m with owSticky := m.owSticky && !v.getLsbD 9, ovrSticky := m.ovrSticky && !v.getLsbD 8 })
  | 0x1434 => if s.sec.sealed then s
      else { s with met := { s.met with owPeriod := inRange 1 100 (v.toNat / 65536 % 256) s.met.owPeriod, i100 := BitVec.ofNat 9 v.toNat } }
  | _ => s

/-- Log: 49 DEDUCED. -/
def writeSar (off : Nat) (v : Reg) (s : State) : State :=
  let n := v.toNat
  match off with
  | 0x1800 => { s with sar := { s.sar with mirror := v.getLsbD 0 && (s.ring 9).en } }
  | 0x1808 => { s with sar := { s.sar with wm := inRange 0 256 (n % 512) s.sar.wm } }
  | 0x1818 => { s with sar := { s.sar with ocSel := n % 8 } }
  | 0x181C =>
    let c : OcCfg := { injEn := v.getLsbD 12, pairEn := v.getLsbD 11, latch := v.getLsbD 10, dir := n / 256 % 4, thr := n % 256 }
    ocPin { s with sar := { s.sar with oc := s.sar.oc.set s.sar.ocSel c } }
  | 0x1820 =>
    let v := s.sar.hot.clears s.clk.ticks v
    ocPin { s with sar := { s.sar with pairMiss := s.sar.pairMiss && !v.getLsbD 17, trip := s.sar.trip &&& ~~~(v.setWidth 8) } }
  | 0x1824 => { s with sar := { s.sar with pairLen := inRange 32 1024 (n % 2048) s.sar.pairLen } }
  | 0x1828 => { s with sar := { s.sar with tdac := n % 1024 } }
  | _ => s

def writeRope (off : Nat) (v : Reg) (s : State) : State :=
  match off with
  | 0x1C00 => { s with rope := { s.rope with sel := v.toNat % 8 } }
  | 0x1C10 => s.modRope s.rope.sel (fun r => { r with sticky := r.sticky &&& ~~~(r.hot.clears s.clk.ticks v) })
  | _ => s

/-- The die temperature that the thresholds judge (R460): the higher of the sensors in range. -/
def dieNow (s : State) : Option Int :=
  match s.thm.dieA, s.thm.dieB with
  | some a, some b => some (max a b)
  | some a, none => some a
  | none, b => b

/-- THM_DIE_PEAK.CLR. -/
def clearPeak (s : State) : State := { s with thm := { s.thm with peak := dieNow s } }

def writeThm (off : Nat) (v : Reg) (s : State) : State :=
  let t := toS 16 v.toNat
  match off with
  | 0x2000 => { s with thm := { s.thm with sel := v.toNat % 16 } }
  | 0x2014 => { s with thm := { s.thm with sticky := s.thm.sticky &&& ~~~((s.thm.hot.clears s.clk.ticks v).setWidth 16) } }
  | 0x201C => { s with thm := { s.thm with hardSeen := s.thm.hardSeen && !v.getLsbD 2 } }
  | 0x2020 => if v.getLsbD 31 then clearPeak s else s
  | 0x2024 => if s.sec.sealed || t < 8000 || 11500 < t then s else { s with thm := { s.thm with warnThr := t } }
  | 0x2028 => if s.sec.sealed || t < 11600 || 13000 < t || t < s.thm.warnThr + 500 then s else { s with thm := { s.thm with orderThr := t } }
  | _ => s

def writePwr (off : Nat) (v : Reg) (s : State) : State :=
  match off with
  | 0x2400 => stateOf (execPwrModeWrite v s) s
  | 0x2410 => if s.sec.sealed then s else { s with pwr := { s.pwr with warnThr := inRange 8200 20000 (v.toNat % two16) s.pwr.warnThr } }
  | 0x2414 => if s.sec.sealed then s else { s with pwr := { s.pwr with resume := v.getLsbD 0 } }
  | 0x241C => { s with pwr := { s.pwr with rstCause := s.pwr.rstCause &&& ~~~(BitVec.ofNat 7 v.toNat) } }
  | 0x2420 => { s with pwr := { s.pwr with fallback := s.pwr.fallback && !v.getLsbD 1 } }
  | _ => s

/-- Log: 63 DEDUCED. -/
def writeNvm (off : Nat) (v : Reg) (s : State) : State :=
  match off with
  | 0x2800 => if s.sec.sealed then s else { s with nvm := { s.nvm with life := inRange 0 2 (v.toNat % 4) s.nvm.life } }
  | 0x2804 => { s with nvm := { s.nvm with setTorn := s.nvm.setTorn && !v.getLsbD 4, urgTorn := s.nvm.urgTorn && !v.getLsbD 3 } }
  | 0x2808 => { s with nvm := { s.nvm with wearSel := inRange 0 6 (v.toNat % 8) s.nvm.wearSel } }
  | _ => s

def writeSec (off : Nat) (v : Reg) (s : State) : State :=
  if off = 0x2C04 then { s with sec := { s.sec with keySel := v.toNat / 16 % 8, word := v.toNat % 16 } } else s

def writeLeg (off : Nat) (v : Reg) (s : State) : State :=
  match off with
  | 0x3000 => stateOf (execLegCtrlSave v s) s
  | 0x3004 =>
    let v := s.leg.hot.clears s.clk.ticks v
    { s with leg := { s.leg with pecErr := s.leg.pecErr && !v.getLsbD 4, badPage := s.leg.badPage && !v.getLsbD 3,
                                           wrBlock := s.leg.wrBlock && !v.getLsbD 2 } }
  | 0x3008 => { s with leg := { s.leg with frozenSel := v.toNat % 4 } }
  | _ => s

def writeDiag (off : Nat) (v : Reg) (s : State) : State :=
  if off = 0x3414 then { s with diag := { s.diag with sel := v.toNat % two16 } } else s

/-- A write that takes effect, block by block. -/
def writeReg (off : Nat) (v : Reg) (s : State) : State :=
  match off / 1024 with
  | 0 => writeSysB off v s | 1 => writeHif off v s | 2 => writeEvt off v s | 3 => writeTim off v s | 4 => writePtp off v s
  | 5 => writeMet off v s | 6 => writeSar off v s | 7 => writeRope off v s | 8 => writeThm off v s | 9 => writePwr off v s
  | 10 => writeNvm off v s | 11 => writeSec off v s | 12 => writeLeg off v s | 13 => writeDiag off v s | _ => s

/-- REGISTER_WRITE (R552, R562, R563). -/
def execRegisterWrite (off : Nat) (v : Reg) (s : State) : Out :=
  let s := linkSeen s
  .next (if s.takesWrite off then writeReg off v s else s)

/-- TIM_LATCH_CAPTURE. -/
def execTimLatchCapture (s : State) : Out := .next (if s.takesWrite 0xC1C then captureTime s else s)

/-- THM_DIE_PEAK_CLR. -/
def execThmDiePeakClr (s : State) : Out := .next (if s.takesWrite 0x2020 then clearPeak s else s)

end Sys2Proof.Machine
end

