-- ==== Sys2Proof/Machine/Diag.lean ====
section
/-! DEFINITION. Housekeeping and the die's limits (R453 to R463), error reports, targeted self-tests, classification,
retirement and restoration (R403 to R405, R499 to R509). -/

namespace Sys2Proof.Machine

/-! ### Die temperature (R460, R461, R463) -/

/-- On entry to WARN the traverse share halves, the first interval of 10 s begins and EV48 is raised. [Log: 69 DEDUCED] -/
def enterWarn (s : State) : State :=
  raise 48 0 (settleWork { s with thm := { s.thm with warn := true, warnStart := dieNow s }, trv := { s.trv with halvings := 1 } })

/-- WARN ends: the share is whole again. [Log: 69 DEDUCED] -/
def leaveWarn (s : State) : State :=
  settleWork { s with thm := { s.thm with warn := false, warnOut := false, warnStart := none }, trv := { s.trv with halvings := 0 } }

/-- One period's run counts: at or above WARN, below WARN − 5 °C, at or above ORDERLY, and both sensors out of range. [Log: 69 DEDUCED] -/
def dieRuns (s : State) : State :=
  let t := dieNow s
  let ge (thr : Int) : Bool := t.any (fun x => decide (thr ≤ x))
  let cool := t.any (fun x => decide (x < s.thm.warnThr - 500))
  { s with thm := { s.thm with
      bothOut := if t.isNone then s.thm.bothOut + 1 else 0
      warnRun := if ge s.thm.warnThr then s.thm.warnRun + 1 else 0
      coolRun := if cool then s.thm.coolRun + 1 else 0
      orderRun := if ge s.thm.orderThr then s.thm.orderRun + 1 else 0 } }

/-- WARN after a period: three periods at or above its threshold, or 1 s without a sensor, enter it; 10 s below
WARN − 5 °C leave it, and a sensor that returns ends the WARN that the loss of both began. [Log: 69 DEDUCED] -/
def judgeWarn (s : State) : State :=
  if s.thm.warn then
    if s.thm.warnOut then (if (dieNow s).isSome then leaveWarn s else s)
    else if 100 ≤ s.thm.coolRun then leaveWarn s else s
  else if 3 ≤ s.thm.warnRun then enterWarn s
  else if 10 ≤ s.thm.bothOut then enterWarn { s with thm := { s.thm with warnOut := true } }
  else s

/-- The two die sensors' results of a period. -/
def enterDie (a b : Option Int) (s : State) : State :=
  let s := { s with thm := { s.thm with dieA := a, dieB := b, regA := a.getD s.thm.regA, regB := b.getD s.thm.regB } }
  let peak : Option Int := match s.thm.peak, dieNow s with
    | some p, some t => some (max p t)
    | some p, none => some p
    | none, t => t
  { s with thm := { s.thm with peak := peak } }

/-- The pins and the die sensors are judged on the conversions of a period. -/
def judgePeriodTemps (l : List HkAcc) (s : State) : State :=
  let a := dieResult l 0 s.thm.dieA
  let b := dieResult l 1 s.thm.dieB
  judgeWarn (dieRuns (enterDie a b (tuneTemperature a b (enterPins l s))))

/-- HOUSEKEEPING_PERIOD_END: the results of the period that has ended are formed from its conversions and judged (R453). [Log: 69 DEDUCED] -/
def execHousekeepingPeriodEnd (_ : Held) (s : State) : Out :=
  match s.sar.hkLatch with
  | none => .next s
  | some l =>
    let s := { s with sar := { s.sar with hkLatch := none } }
    if !s.live then .next s
    else
      let s := judgePeriodTemps l s
      .next (if 2 ≤ s.thm.orderRun then orderlyStop 0 none false s else s)

/-- TRAVERSE_SHARE_HALVING: an interval of 10 s of WARN ends; the share halves unless the die is cooler than at the
interval's start. [Log: 69 DEDUCED] -/
def execTraverseShareHalving (s : State) : Out :=
  if !s.thm.warn then .next s
  else
    let cooler : Bool := match dieNow s, s.thm.warnStart with
      | some t, some t0 => decide (t < t0)
      | _, _ => false
    .next (settleWork { s with thm := { s.thm with warnStart := dieNow s }
                               trv := { s.trv with halvings := if cooler then s.trv.halvings else min 5 (s.trv.halvings + 1) } })

/-! ### Units (R384, R404, R505) -/

/-- The last unit in service of its kind (R404). [Log: 67 DEDUCED] -/
def lastOfKind (u : UnitId) (s : State) : Bool :=
  match u.target with
  | 0 => s.diag.retQ.getLsbD (u.index ^^^ 1)
  | 1 => s.diag.retF.getLsbD (u.index ^^^ 1)
  | 2 => s.diag.retRope.getLsbD (u.index ^^^ 1)
  | 3 => s.lanesUp ≤ 1
  | _ => false

/-- Units of the same kind as R404 counts them. -/
def sameKind (u v : UnitId) : Bool :=
  u.target == v.target && (match u.target with | 0 | 2 => u.index / 2 == v.index / 2 | 1 | 3 => true | _ => u.index == v.index)

/-- A Q converter or a fast converter leaves service: its accumulations and results that wait are lost (R113). [Log: 67 DEDUCED] -/
def tuneOut (u : UnitId) (s : State) : State :=
  { s with tun := { s.tun with units := s.tun.units.zipIdx.map (fun (e : TunUnit × Nat) => if tunTarget e.2 == u then { e.1.loseAcc with accepted := none } else e.1) } }

/-- A fast converter leaves service: its run and a capture end, its housekeeping tasks and its pending triggers pass to the
other converter (R151, R153, R453). [Log: 67 DEDUCED] -/
def fastOut (c : Nat) (s : State) : State :=
  let run := (s.conv c).run
  let s := match (s.conv c).busy with | some b => abortConv c b s | none => s
  let tasks := (s.conv c).hkTasks
  let s := s.modConv c (fun k => { k with run := none, wideDue := [], hkDue := [], hkTasks := [] })
  let s := s.modConv (other c) (fun k => { k with hkTasks := k.hkTasks ++ tasks })
  let s := match run with | some r => runEnded r s | none => s
  sarKick (captureEnd s)

/-- A rope port leaves service: LINE from the other port, or DOWN without one; ROPE_BREAK stays as it was (R209, R505), and
a host frame for a monitor that is reached no more fails in its gap (R193). A tie-in in progress starts afresh with the port that remains. [Log: 67 DEDUCED] -/
def portOut (str : Nat) (e : RopeEnd) (s : State) : State :=
  let old := s.ropeStr str
  let a := if e == .N then 0 else old.anchorN
  let b := if e == .F then old.top + 1 else old.anchorF
  let s := if old.mode == .down then s else setMode str a b (modeOf old.top a b) old.brkA old.brkB s
  let s := s.modRope str (fun r => { r with locate := none, probeOut := false, throughRun := 0, ringNext := false, tieAgain := r.tieAgain || r.tie.isSome })
  ropeGap str (sweepPortOut str e s)

/-- Jobs beyond two for each workspace bank end with ABORTED, the most recently admitted first (R508). -/
def limitJobs (s : State) : State :=
  ((s.trv.jobs.filter (·.running)).drop (2 * s.diag.work.length)).foldl
    (fun s j => if j.endReason.isNone then endJob 4 j.simTime j s else s) s

/-- The place of a bank that leaves service is taken by the spare, then by a workspace bank; else the device stops (R508). A
copy to a spare that is taken away so ends, and the test behind it starts afresh. [Log: 13 DEDUCED, 67 DEDUCED] -/
def bankOut (b : Nat) (s : State) : State :=
  let d := s.diag
  if d.spare = some b then { s with diag := { d with spare := none, copying := none } }
  else if d.copying = some b && (s.unitDiag { target := 4, index := b }).running then { s with diag := { d with copying := none } }
  else
    let d := if d.copying = some b then { d with copying := none } else d
    match d.spare with
    | some p => { s with diag := { d with spare := none, copying := none, work := d.work.map (fun w => if w = b then p else w) } }
    | none =>
      if d.work.contains b then limitJobs { s with diag := { d with work := d.work.filter (· != b) } }
      else if d.work.isEmpty then orderlyStop 3 none false { s with diag := d }
      else limitJobs { s with diag := { d with work := d.work.dropLast } }

/-- A unit leaves service, is kept in the two-copy store, and EV60 is raised (R504, R506, R507). [Log: 67 DEDUCED] -/
def retireUnit (u : UnitId) (s : State) : State :=
  let s := markRetired u s
  let s := s.storeSaved (fun r => { r with retired := r.retired.filter (· != u) ++ [u] })
  let s := raise 60 (256 * u.target + u.index) s
  match u.target with
  | 0 => tuneOut u s
  | 1 => fastOut u.index (tuneOut u s)
  | 2 => portOut (u.index / 2) (if u.index % 2 = 0 then .N else .F) s
  | 3 => dealLanes s.judgePeriod
  | 4 => bankOut u.index s
  | _ => s

/-- A restored unit is in service with no TRANSIENT history; a bank serves as workspace, or as the spare (R405, R506). [Log: 67 DEDUCED, 68 DEDUCED] -/
def restoreUnit (u : UnitId) (s : State) : State :=
  let d := s.diag
  let d := match u.target with
    | 0 => { d with retQ := setBit d.retQ u.index false }
    | 1 => { d with retF := setBit d.retF u.index false }
    | 2 => { d with retRope := setBit d.retRope u.index false }
    | 3 => { d with lanes := setBit d.lanes u.index true }
    | 4 =>
      let d := { d with retBanks := setBit d.retBanks u.index false }
      if d.work.length < 4 then { d with work := d.work ++ [u.index] } else { d with spare := some u.index }
    | _ => d
  let d := { d with units := d.units.map (fun x =>
    if x.unit == u then { x with trans1h := 0, lastFault := false } else if sameKind x.unit u then { x with lastFault := false } else x) }
  refreshLane u (State.storeSaved (fun r => { r with retired := r.retired.filter (· != u) }) { s with diag := d })

/-! ### Classification (R504, R505) -/

/-- The report of the flash is classified: no sector is under suspicion any more. -/
def clearSuspect (s : State) : State := { s with nvm := { s.nvm with suspect := none } }

/-- A report's test found it LASTING. [Log: 67 DEDUCED, 68 DEDUCED] -/
def lasting (u : UnitId) (s : State) : State :=
  let s := raise 38 (256 * u.target + u.index) s
  let fault (s : State) : State := s.setUnitDiag { s.unitDiag u with lastFault := true }
  let last := lastOfKind u s
  match u.target with
  | 0 | 2 => retireUnit u (if last then fault s else s)
  | 1 | 3 => if last then fault s else retireUnit u s
  | 4 => retireUnit u s
  | 5 => match s.nvm.suspect with | some (5, i) => markBad i (clearSuspect s) | _ => clearSuspect s
  | _ => fault (suspendTuning { s with met := { s.met with refBackup := true, refRatio := true } })

/-- A report's test found it TRANSIENT. [Log: 68 DEDUCED] -/
def transient (u : UnitId) (s : State) : State :=
  let d := s.unitDiag u
  let s := if u.target = 5 then clearSuspect s else s
  raise 39 (256 * u.target + u.index) (s.setUnitDiag { d with transTotal := d.transTotal + 1, trans1h := d.trans1h + 1 })

/-! ### Self-tests (R502, R503, R508, R515) -/

/-- Some SRAM bank's test is under way. -/
def bankTesting (s : State) : Bool := s.diag.copying.isSome || s.diag.units.any (fun d => d.unit.target == 4 && d.running)

/-- The demand rule holds on the lanes that do work, in the period in force (R515). [Log: 66 DEDUCED] -/
def laneMayTest (s : State) : Bool := shiftFor s.frm.scheme.rate (demand s.cfg.live s.cfg.images) s.lanesFree ≤ s.frm.scheme.shift

/-- The slot in which a unit's test runs has come (R502): a Q converter's own rest; a gap in the rope schedule; the end of
a frame's real-time work; the flash free of operations. [Log: 66 DEDUCED] -/
def testSlot (u : UnitId) (s : State) : Bool :=
  match u.target with
  | 0 => s.resting u.index
  | 2 =>
    let r := s.ropeStr (u.index / 2)
    r.inflight.isEmpty && r.tie.isNone && !r.sweep.any (fun w => !w.done) && r.balTodo.isEmpty
  | 3 => s.estFrame.isNone
  | 5 => s.nvm.jobs.isEmpty && !s.nvm.tail
  | _ => true

/-- SELF_TEST_START. A bank's contents move to the spare first; a second bank, and a lane that the demand rule needs,
wait. [Log: 66 DEDUCED] -/
def execSelfTestStart (unit : UnitId) (s : State) : Out :=
  let d := s.unitDiag unit
  let run (s : State) : State := s.setUnitDiag { d with running := true }
  if !s.live || !d.testing || d.running || !testSlot unit s then .next s
  else match unit.target with
    | 3 => if s.retired unit || laneMayTest s then .next (run s) else .next s.judgePeriod
    | 4 =>
      if bankTesting s then .next s
      else if s.retired unit || s.diag.spare.isNone || s.diag.spare = some unit.index then .next (run s)
      else .next { s with diag := { s.diag with copying := some unit.index } }
    | _ => .next (run s)

/-- SRAM_BANK_COPY_DONE: the spare takes the bank's place and the March test runs. [Log: 66 DEDUCED] -/
def execSramBankCopyDone (bank : Nat) (s : State) : Out :=
  let d := s.unitDiag { target := 4, index := bank }
  if s.diag.copying = some bank && !d.running then
    match s.diag.spare with
    | some p =>
      let s := { s with diag := { s.diag with spare := none, work := s.diag.work.map (fun w => if w = bank then p else w) } }
      .next (s.setUnitDiag { d with running := true })
    | none => .next s
  else .next s

/-- RESULT of SELFTEST and RESTORE (R385). -/
def testResult (pass restored : Bool) (detail : BitVec 32) : List Byte :=
  [BitVec.ofNat 8 (bit pass 0), BitVec.ofNat 8 (bit restored 0), 0, 0] ++ leBytes 4 detail.toNat

/-- A command that waited for a test completes; RESTORE is logged as code 0x42. [Log: 66 DEDUCED] -/
def testCmdDone (u : UnitId) (pass restored : Bool) (detail : BitVec 32) (c : Submission × Bool) (s : State) : State :=
  if c.2 then complete 0x61 c.1 stOK (testResult pass restored detail) (logAdd 0x42 u.target u.index (openInfo 0x42) s)
  else complete 0x32 c.1 stOK (testResult pass false detail) s

/-- The first index at which a list fails a check. -/
def firstBad {α : Type} (ok : Nat → α → Bool) (l : List α) : Option Nat := (l.zipIdx.find? (fun e => !ok e.2 e.1)).map (·.2)

/-- The steps of a test in the order of R502's Test column, each with the index at which it failed, if it did. A Q
converter's points lie within 20 ppm of full scale under its coefficients in force, a fast converter's within ±8 LSB of
R144's codes, the loopback's edge within ±50 ns; the ratio of the RREF port is judged against R82's 2,000 ppm. [Log: 66 DEDUCED] -/
def testSteps (u : UnitId) (d : TestData) (s : State) : List (Option Nat) :=
  let flag (ok : Bool) : Option Nat := if ok then none else some 0
  match d with
  | .points raw rail =>
    let c := (s.tunUnit u.index).inForce
    [firstBad (fun i v => decide (absR (c.apply v - trueLevel s u.index i) ≤ fullScale u.index * 20 / 1000000)) raw,
     flag (rail.any (· ≤ 200000))]
  | .codes volts =>
    let ok (i : Nat) (v : Rat) : Bool :=
      let b : Conversion := { use := .hk (.tdac 2), chan := i / 3, start := 0, ts32 := 0, tdac := some (diagCode (i % 3)), lean := false }
      let raw := rawVolts b v
      let x := (s.tunUnit (sarUnit u.index (i / 3))).inForce.apply raw
      let code : Int := (sarCode (i / 3) x (railOf (i / 3) raw .within)).1
      decide (code - diagExpect (i % 3) ≤ 8 ∧ diagExpect (i % 3) - code ≤ 8)
    [(firstBad ok volts).map (· / 3)]
  | .loopback f ns => [flag (decide (-50 ≤ ns ∧ ns ≤ 50) && (f.bind rxFrame).any (·.crcOk))]
  | .vectors w replay => [w, flag replay]
  | .march a => [a]
  | .pages p => [p]
  | .port reps => [firstBad (fun _ e => e.1) reps, firstBad (fun _ (e : Bool × Rat) => decide (ratioDeparture e.2 ≤ 2000)) reps]

/-- DETAIL of a test: the failed steps in bits 7:0, the index of the first failure in bits 31:16 (R513). [Log: 66 DEDUCED] -/
def testDetail (l : List (Option Nat)) : BitVec 32 :=
  BitVec.ofNat 32 (((l.zipIdx.map (fun e => bit e.1.isSome e.2)).sum) + 65536 * ((l.find? (·.isSome)).getD none).getD 0)

/-- What a test found. -/
structure TestVerdict where
  unit   : UnitId
  pass   : Bool
  detail : BitVec 32
  deriving DecidableEq, Repr

/-- A test passes when none of its steps failed. -/
def verdict (r : TestReport) (s : State) : TestVerdict :=
  let l := testSteps r.unit r.data s
  { unit := r.unit, pass := l.all (·.isNone), detail := testDetail l }

/-- The test of a unit is over: its result is kept. -/
def testOver (r : TestVerdict) (s : State) : State :=
  let d := s.unitDiag r.unit
  refreshLane r.unit
    (s.setUnitDiag { d with testing := false, running := false, report := false, cmds := [], last := if r.pass then 1 else 2, detail := r.detail })

/-- A bank whose contents have moved becomes the new spare (R508). [Log: 67 DEDUCED] -/
def bankBack (b : Nat) (s : State) : State :=
  if s.diag.copying = some b then { s with diag := { s.diag with copying := none, spare := some b } } else s

/-- SELF_TEST_DONE. -/
def execSelfTestDone (r : TestReport) (s : State) : Out :=
  let d := s.unitDiag r.unit
  let r := verdict r s
  if !d.running || !s.live then .next s
  else
    let out := s.retired r.unit
    let judged := d.report && !out
    let isLasting := judged && (!r.pass || 2 ≤ d.trans1h)
    let s := logAdd 0x41 r.unit.target r.unit.index r.detail.toNat s
    let s := if isLasting then lasting r.unit s else if judged then transient r.unit s else s
    let s := testOver r (if r.unit.target == 4 then bankBack r.unit.index s else s)
    let back := out && r.pass && d.cmds.any (·.2)
    let s := if back then restoreUnit r.unit s else s
    let s := if r.unit.target == 3 then s.judgePeriod else s
    .next (d.cmds.foldl (fun s c => testCmdDone r.unit r.pass back r.detail c s) s)

/-- TRANSIENT_HISTORY_EXPIRY. -/
def execTransientHistoryExpiry (unit : UnitId) (s : State) : Out :=
  let d := s.unitDiag unit
  if d.trans1h = 0 then .next s else .next (s.setUnitDiag { d with trans1h := d.trans1h - 1 })

/-! ### SELFTEST, RETIRE, RESTORE (R403 to R405, R416) -/

/-- The test of a unit is asked for by a command; one that is pending or running serves it too. [Log: 66 DEDUCED] -/
def askTest (sub : Submission) (restore : Bool) (s : State) : State :=
  let d := s.unitDiag sub.unit
  refreshLane sub.unit (s.setUnitDiag { d with testing := true, cmds := d.cmds ++ [(sub, restore)] })

/-- SELFTEST. -/
def execSelftest (sub : Submission) (s : State) : Out :=
  runCmd 0x32 sub [(sub.formOk [(0, 1), (1, 1)] && sub.noBuf && unitNamed sub.unit, stBadField), (s.accepts 0x32, stBusy)]
    (askTest sub false) s

/-- A test that runs, or waits, on a unit that RETIRE names ends with PASS = 0. [Log: 66 DEDUCED] -/
def endTest (u : UnitId) (s : State) : State :=
  let d := s.unitDiag u
  if d.testing then
    d.cmds.foldl (fun s c => testCmdDone u false false 0 c s) (testOver { unit := u, pass := false, detail := 0 } (logAdd 0x41 u.target u.index 0 s))
  else s

/-- RETIRE. [Log: 66 DEDUCED] -/
def execRetire (sub : Submission) (s : State) : Out :=
  let u := sub.unit
  runCmd 0x60 sub
    [(sub.formOk [(0, 1), (1, 1)] && sub.noBuf && unitNamed u && u.target != 5, stBadField), (s.accepts 0x60, stBusy),
     (!s.retired u && !lastOfKind u s, stBadState)]
    (fun s => complete 0x60 sub stOK [] (endTest u (retireUnit u s))) s

/-- RESTORE. -/
def execRestore (sub : Submission) (s : State) : Out :=
  let u := sub.unit
  runCmd 0x61 sub
    [(sub.formOk [(0, 1), (1, 1)] && sub.noBuf && unitNamed u && u.target != 5, stBadField), (s.accepts 0x61, stBusy),
     (s.retired u, stBadState)]
    (askTest sub true) s

/-! ### SRAM errors (R499, R500) -/

/-- What the newest complete set gives a cell at run time: nothing where the flash meets an uncorrectable ECC error in it. [Log: 20 DESIGN CHOICE, 68 DEDUCED] -/
def cellFromSet (s : State) (g : Nat) : Cell := if Config.flashEcc s.free 0 then Cell.fresh else cellAtStart s g

/-- A cell's state is lost and restored under R492. Inside a frame, a cell that still awaits its measurement takes the
frame's time update afresh; one that has been updated already stands in the frame as published, and the restored state
follows it (R315, R325). [Log: 41 DEDUCED, 68 DEDUCED] -/
def loseCell (g : Nat) (s : State) : State :=
  let c := cellFromSet s g
  if (s.cell g).isNone then s
  else
    let s := if s.nvm.set.isSome then flashRead 1 s else s
    match s.estFrame with
    | some f =>
      if !f.timeDone then s.setCell g c
      else if s.est.todo.contains g then
        onEst (fun s => s.setCell g (cellTimeUpdate s f g c)) s
      else { s with est := { s.est with lost := mapSet s.est.lost g c } }
    | none => s.setCell g c

/-- What an uncorrectable error destroyed. [Log: 41 DEDUCED, 68 DEDUCED] -/
def eccLoss (p : EccPlace) (s : State) : State :=
  match p with
  | .cellState g => loseCell g s
  | .staging buf =>
    match s.frm.frames.find? (fun f => !f.ended && f.epoch % 3 == buf) with
    | some f => abandonCairn f.epoch false s
    | none => s
  | .workspace id =>
    match s.trv.jobs.find? (fun j => j.desc.jobId == id && j.running && j.endReason.isNone) with
    | some j => endJob 4 j.simTime j s
    | none => s
  | .other => s

/-- SRAM_ECC_ERROR: a corrected error is counted, the fourth within 1 s is reported; an uncorrectable one is reported. -/
def execSramEccError (bank : Nat) (correctable : Bool) (place : EccPlace) (s : State) : Out :=
  let u : UnitId := { target := 4, index := bank % 16 }
  if !s.pwr.started then .next s
  else if correctable then
    let recent := s.diag.eccLast.filter (fun e => s.clk.ticks ≤ e.2 + secTicks 1) ++ [(bank % 16, s.clk.ticks)]
    let s := { s with diag := { s.diag with eccCnt := wrap32 (s.diag.eccCnt + 1), eccLast := recent } }
    .next (if 4 ≤ (recent.filter (fun e => e.1 == bank % 16)).length then fileReport u s else s)
  else .next (fileReport u (eccLoss place s))

end Sys2Proof.Machine
end

