-- ==== Sys2Proof/Machine/Legacy.lean ====
section
/-! DEFINITION. The legacy window (R534 to R549): words, byte latches, writes, gauge commands. -/

namespace Sys2Proof.Machine

/-! ### Words (R537 to R540) -/

/-- The window answers its address (R536). -/
def State.legAnswers (s : State) : Bool := s.leg.en && s.frm.measuring && (s.live || s.pwr.state == .hold)

/-- Writes through the window are discarded (R544). [Log: 72 DEDUCED] -/
def legBlocked (s : State) : Bool := s.sec.sealed || (List.range 4).any (fun n => (s.ring n).en)

/-- What a page's words are made from: the page at the frame that completed last; `none` before one has. -/
structure LegView where
  none : Bool
  page : LegPage
  block : Bool

/-- Before the first frame every figure is 0, and DISABLED shows the configuration in force. [Log: 72 DEDUCED] -/
def legView (s : State) : LegView :=
  let n := s.leg.page
  { none := s.leg.frame.isEmpty, block := legBlocked s
    page := s.leg.frame.getD n { on := s.enabled n, blk := StrBlk.empty, cap := 0, design := 0, qual := 0, act := false } }

def LegView.on (v : LegView) : Bool := v.page.on
def LegView.blk (v : LegView) : StrBlk := v.page.blk

/-- VOLTAGE in 10 mV and CURRENT in 10 mA before saturation. -/
def LegView.volts (v : LegView) : Int := roundAway ((v.blk.stv : Rat) / 10)
def LegView.amps (v : LegView) : Int := roundAway ((v.blk.iWin : Rat) / 1000)

/-- STATUS of R540. [Log: 72 DEDUCED] -/
def LegView.status (v : LegView) : Nat :=
  let d := !v.none && v.on
  bit (d && v.blk.iWin < 0) 0 + bit (d && 1000000 ≤ v.blk.socMean) 1 + bit v.page.act 2 + bit (d && v.blk.nStale != 0) 3 +
    bit (!v.none && v.blk.sflags.getLsbD 7) 4 + bit (!v.on) 5 + bit v.none 6 + bit v.block 7 +
    bit (d && (v.amps < -32768 || 32767 < v.amps)) 8 + bit (d && 65535 < v.volts) 9

/-- A time in minutes. -/
def legMinutes (sec : Nat) : Nat := if sec = 0xFFFFFFFF then 0xFFFF else min 0xFFFF (sec / 60)

/-- Words that a disabled string, or a window with no frame yet, reads as 0. [Log: 72 DEDUCED] -/
def legData (v : LegView) (code : Nat) : Nat :=
  if v.none || !v.on then 0
  else match code with
    | 0x04 => min 0xFFFF v.volts.toNat
    | 0x05 => toU 16 (clampI (-32768) 32767 v.amps)
    | 0x06 => pubU 16 (((v.blk.tHot : Rat) + 27315) / 10)
    | 0x08 => min 0xFFFF (v.blk.socMean / 10000)
    | 0x09 => min 0xFFFF (v.page.cap * v.blk.socMean / 1000000)
    | 0x0C => legMinutes v.blk.tte
    | 0x0D => legMinutes v.blk.ttf
    | _ => 0

/-- The word of a command code on the page in force (R539). [Log: 72 DEDUCED] -/
def legWord (s : State) (code : Nat) : Nat :=
  let v := legView s
  match code with
  | 0x00 => 0x1100
  | 0x01 => (if s.pwr.runB then s.pwr.bankB else s.pwr.bankA).version % 65536
  | 0x02 => v.status
  | 0x0A => v.page.cap
  | 0x0B => v.page.design
  | 0x0E => if v.on then v.page.qual else 0
  | 0x21 => s.leg.gaugeCmd
  | 0x70 => s.leg.page
  | c => legData v c

/-! ### A transaction (R543, R547) -/

/-- A transaction to the window: it is counted, disarms the window and, after 1 s without one or where its write is
discarded, raises EV56 with the command code, bit 8 for a write and bit 9 for a discarded one. [Log: 73 DEDUCED] -/
def legXfer (code : Nat) (write discarded acked : Bool) (s : State) : State :=
  let first := s.leg.lastTick.all (fun t => decide (secTicks 1 ≤ s.clk.ticks - t))
  let s := { s with leg := { s.leg with xfers := wrap32 (s.leg.xfers + 1), lastCmd := code % 256, lastTick := some s.clk.ticks, armed := false, acked := acked } }
  if first || discarded then raise 56 (code % 256 + bit write 8 + bit discarded 9) s else s

/-- A bit of LEG_STATUS is set. -/
def legHot (k : Nat) (s : State) : State := { s with leg := { s.leg with hot := s.leg.hot.mark s.clk.ticks (2 ^ k) } }

/-- The master finds no device at the address. [Log: 73 DEDUCED] -/
def legSilent (s : State) : State := { s with leg := { s.leg with acked := false } }

/-- PEC of a read: address with W, code, address with R, data (R535). -/
def readPec (s : State) (code : Nat) (data : List Byte) : Byte :=
  pec ([BitVec.ofNat 8 (2 * s.leg.addr), BitVec.ofNat 8 code, BitVec.ofNat 8 (2 * s.leg.addr + 1)] ++ data)

/-- PEC of a write. -/
def writePec (s : State) (code : Nat) (data : List Byte) : Byte :=
  pec ([BitVec.ofNat 8 (2 * s.leg.addr), BitVec.ofNat 8 code] ++ data)

/-- Log: 73 DEDUCED. -/
def legReturn (code : Nat) (bytes : List Byte) (s : State) : State :=
  legXfer code false false true { s with leg := { s.leg with data := leNat bytes, pec := readPec s code bytes } }

/-- SMBUS_READ_WORD. -/
def execSmbusReadWord (code : Nat) (s : State) : Out :=
  if s.legAnswers then .next (legReturn code (leBytes 2 (if code < 128 then legWord s code else 0)) s) else .next (legSilent s)

/-- SMBUS_READ_BYTE (R545). -/
def execSmbusReadByte (code : Nat) (s : State) : Out :=
  if !s.legAnswers then .next (legSilent s)
  else
    let key := 128 * s.leg.page + code % 128
    if code < 128 then
      let w := legWord s code
      .next (legReturn code (leBytes 1 w) { s with leg := { s.leg with latches := mapSet s.leg.latches key (w / 256) } })
    else .next (legReturn code (leBytes 1 ((mapGet s.leg.latches key).getD 0)) s)

/-! ### Writes (R535, R537, R543, R544) -/

/-- GAUGE_RESET: frozen capacity, the discharge in progress and QUAL_COUNT of the page's string. -/
def gaugeReset (s : State) : State :=
  let n := s.leg.page
  setFrozen n (designCap s n) { s with leg := { s.leg with gauges := s.leg.gauges.modify n (fun g => { g with active := false, qual := 0 }) } }

/-- A write that is discarded. [Log: 73 DEDUCED] -/
def legDiscard (code : Nat) (s : State) : State := legXfer code true true true s

/-- PAGE. -/
def writePage (v : Nat) (s : State) : State :=
  if v < 4 then legXfer 0x70 true false true { s with leg := { s.leg with page := v } }
  else legDiscard 0x70 (legHot 3 { s with leg := { s.leg with badPage := true } })

/-- GAUGE_KEY: the key arms the window. -/
def writeKey (v : Nat) (s : State) : State :=
  let s := legXfer 0x20 true false true s
  { s with leg := { s.leg with armed := decide (v = 0xC3A5) } }

/-- GAUGE_CMD, in an armed window. [Log: 73 DEDUCED] -/
def writeGauge (v : Nat) (s : State) : State :=
  if s.leg.armed && v = 3 then legXfer 0x21 true false true (gaugeReset { s with leg := { s.leg with gaugeCmd := 3 } })
  else if s.leg.armed && v = 0 then legXfer 0x21 true false true { s with leg := { s.leg with gaugeCmd := 0 } }
  else legDiscard 0x21 s

/-- A write's PEC and R544, then its effect. [Log: 73 DEDUCED] -/
def legWrite (w : SmbusWrite) (bytes : List Byte) (act : State → State) (s : State) : Out :=
  if !s.legAnswers then .next (legSilent s)
  else if w.pec.any (fun p => p != writePec s w.code bytes) then
    .next (legXfer w.code true true false (legHot 4 { s with leg := { s.leg with pecErr := true } }))
  else if s.leg.pecReq && w.pec.isNone then .next (legDiscard w.code s)
  else if legBlocked s then .next (legDiscard w.code (legHot 2 { s with leg := { s.leg with wrBlock := true } }))
  else .next (act s)

/-- The effect of a Write Word that is not blocked. [Log: 73 DEDUCED] -/
def wordEffect (code v : Nat) (s : State) : State :=
  match code with
  | 0x20 => writeKey v s
  | 0x21 => writeGauge v s
  | 0x70 => writePage v s
  | c => legDiscard c s

/-- SMBUS_WRITE_WORD. -/
def execSmbusWriteWord (w : SmbusWrite) (s : State) : Out :=
  legWrite w (leBytes 2 w.data) (wordEffect w.code (w.data % 65536)) s

/-- SMBUS_WRITE_BYTE (R546). -/
def execSmbusWriteByte (w : SmbusWrite) (s : State) : Out :=
  legWrite w (leBytes 1 w.data) (if w.code = 0x70 then writePage (w.data % 256) else legDiscard w.code) s

/-- SMBUS_UNSUPPORTED_PROTOCOL: NACKed at the command byte (R534). [Log: 73 DEDUCED] -/
def execSmbusUnsupportedProtocol (code : Nat) (s : State) : Out :=
  if s.legAnswers then .next (legXfer code false false false s) else .next (legSilent s)

/-- SMBUS_BUS_TIMEOUT: an abandoned transaction is released; it was one to the window. [Log: 73 DEDUCED] -/
def execSmbusBusTimeout (s : State) : Out :=
  if s.legAnswers then .next { s with leg := { s.leg with xfers := wrap32 (s.leg.xfers + 1), armed := false, acked := false } }
  else .next (legSilent s)

/-- GAUGE_KEY_EXPIRY (R543). -/
def execGaugeKeyExpiry (s : State) : Out := .next { s with leg := { s.leg with armed := false } }

/-- The Write Word that carries a gauge command, with its PEC. -/
def gaugeWord (v : Nat) (s : State) : Out :=
  execSmbusWriteWord { code := 0x21, data := v, pec := some (writePec s 0x21 (leBytes 2 v)) } s

/-- GAUGE_RESET. [Log: 73 DEDUCED] -/
def execGaugeReset (s : State) : Out := gaugeWord 3 s

/-- GAUGE_NOP. [Log: 73 DEDUCED] -/
def execGaugeNop (s : State) : Out := gaugeWord 0 s

end Sys2Proof.Machine
end

