-- ==== Sys2Proof/Machine/Dispatch.lean ====
section
/-! DEFINITION. One arm per command: the call of its meaning. -/

namespace Sys2Proof.Machine

/-- The effect of a command on everything but the queue of waiting commands. -/
def exec (i : Instr) (s : State) : Host.Outcome State Fault Refusal :=
  match i with
  | .powerGood r => Sys2Proof.Machine.execPowerGood r s
  | .bootResume => Sys2Proof.Machine.execBootResume s
  | .bootXtalTimeout => Sys2Proof.Machine.execBootXtalTimeout s
  | .porstNAssert => Sys2Proof.Machine.execPorstNAssert s
  | .brownOut vauxMv => Sys2Proof.Machine.execBrownOut vauxMv s
  | .watchdogReset => Sys2Proof.Machine.execWatchdogReset s
  | .hardCut => Sys2Proof.Machine.execHardCut s
  | .xtalLost => Sys2Proof.Machine.execXtalLost s
  | .vauxWarning mv => Sys2Proof.Machine.execVauxWarning mv s
  | .holdEntry mv => Sys2Proof.Machine.execHoldEntry mv s
  | .holdCommitDone => Sys2Proof.Machine.execHoldCommitDone s
  | .holdReturn mv => Sys2Proof.Machine.execHoldReturn mv s
  | .fwTrialConfirm => Sys2Proof.Machine.execFwTrialConfirm s
  | .pwrModeWrite v => Sys2Proof.Machine.execPwrModeWrite v s
  | .windowBoundary edge => Sys2Proof.Machine.execWindowBoundary edge s
  | .windowChargeEntry str count ovr => Sys2Proof.Machine.execWindowChargeEntry str count ovr s
  | .tuningSlotEnd unit volts => Sys2Proof.Machine.execTuningSlotEnd unit volts s
  | .tuningFitDone unit => Sys2Proof.Machine.execTuningFitDone unit s
  | .openWireSlot port failed => Sys2Proof.Machine.execOpenWireSlot port failed s
  | .rrefRatioCheck ratio => Sys2Proof.Machine.execRrefRatioCheck ratio s
  | .sarRoundStart => Sys2Proof.Machine.execSarRoundStart s
  | .sarConversionEnd conv volts rail => Sys2Proof.Machine.execSarConversionEnd conv volts rail s
  | .housekeepingPeriodEnd sums => Sys2Proof.Machine.execHousekeepingPeriodEnd sums s
  | .tdacDiagnosis f0 f1 => Sys2Proof.Machine.execTdacDiagnosis f0 f1 s
  | .tdacCheck seen => Sys2Proof.Machine.execTdacCheck seen s
  | .ocTrip x => Sys2Proof.Machine.execOcTrip x s
  | .ocRelease x => Sys2Proof.Machine.execOcRelease x s
  | .ocTripNMinEnd => Sys2Proof.Machine.execOcTripNMinEnd s
  | .lineZeroCrossing => Sys2Proof.Machine.execLineZeroCrossing s
  | .lineCrossingTimeout => Sys2Proof.Machine.execLineCrossingTimeout s
  | .startSync => Sys2Proof.Machine.execStartSync s
  | .endSync => Sys2Proof.Machine.execEndSync s
  | .sampleInstant => Sys2Proof.Machine.execSampleInstant s
  | .sweepStart => Sys2Proof.Machine.execSweepStart s
  | .ropeRespReceived f => Sys2Proof.Machine.execRopeRespReceived f s
  | .ropeAttemptTimeout str fromEnd addr seq => Sys2Proof.Machine.execRopeAttemptTimeout str fromEnd addr seq s
  | .belaySend str => Sys2Proof.Machine.execBelaySend str s
  | .reachProbe str => Sys2Proof.Machine.execReachProbe str s
  | .throughProbe str => Sys2Proof.Machine.execThroughProbe str s
  | .belayReturned t => Sys2Proof.Machine.execBelayReturned t s
  | .belayNotReturned str fromEnd => Sys2Proof.Machine.execBelayNotReturned str fromEnd s
  | .faultNMinEnd => Sys2Proof.Machine.execFaultNMinEnd s
  | .tieFrameArrived str bytes extraBits delayNs => Sys2Proof.Machine.execTieFrameArrived str bytes extraBits delayNs s
  | .tieFrameTimeout str => Sys2Proof.Machine.execTieFrameTimeout str s
  | .timeUpdateDone => Sys2Proof.Machine.execTimeUpdateDone s
  | .measurementUpdateDone d => Sys2Proof.Machine.execMeasurementUpdateDone d s
  | .cairnBegin => Sys2Proof.Machine.execCairnBegin s
  | .cairnComplete => Sys2Proof.Machine.execCairnComplete s
  | .cairnDeadline writesHeld => Sys2Proof.Machine.execCairnDeadline writesHeld s
  | .aliveToggle => Sys2Proof.Machine.execAliveToggle s
  | .statusBlockTimer => Sys2Proof.Machine.execStatusBlockTimer s
  | .doorbellPoll => Sys2Proof.Machine.execDoorbellPoll s
  | .doorbellReadDone d => Sys2Proof.Machine.execDoorbellReadDone d s
  | .submissionFetch => Sys2Proof.Machine.execSubmissionFetch s
  | .submissionFetchDone d => Sys2Proof.Machine.execSubmissionFetchDone d s
  | .commandStart sq => Sys2Proof.Machine.execCommandStart sq s
  | .eventEntryWrite => Sys2Proof.Machine.execEventEntryWrite s
  | .msixModerationTimeout vec => Sys2Proof.Machine.execMsixModerationTimeout vec s
  | .msixVectorUnmask w => Sys2Proof.Machine.execMsixVectorUnmask w s
  | .smrEntryWrite => Sys2Proof.Machine.execSmrEntryWrite s
  | .ptxFetch d => Sys2Proof.Machine.execPtxFetch d s
  | .ptpFrameTransmitted port tag stampNs => Sys2Proof.Machine.execPtpFrameTransmitted port tag stampNs s
  | .perst => Sys2Proof.Machine.execPerst s
  | .functionLevelReset => Sys2Proof.Machine.execFunctionLevelReset s
  | .linkDown => Sys2Proof.Machine.execLinkDown s
  | .bar0MisalignedAccess isWrite => Sys2Proof.Machine.execBar0MisalignedAccess isWrite s
  | .registerWrite off v => Sys2Proof.Machine.execRegisterWrite off v s
  | .ringEnable v => Sys2Proof.Machine.execRingEnable v s
  | .ringDisable v => Sys2Proof.Machine.execRingDisable v s
  | .metLoRead off => Sys2Proof.Machine.execMetLoRead off s
  | .timNowLoRead => Sys2Proof.Machine.execTimNowLoRead s
  | .timLatLoRead => Sys2Proof.Machine.execTimLatLoRead s
  | .timPpsinLoRead => Sys2Proof.Machine.execTimPpsinLoRead s
  | .ptpDomGmLoRead => Sys2Proof.Machine.execPtpDomGmLoRead s
  | .sysEpochLoRead => Sys2Proof.Machine.execSysEpochLoRead s
  | .diagFramesLoRead => Sys2Proof.Machine.execDiagFramesLoRead s
  | .sarQLoRead => Sys2Proof.Machine.execSarQLoRead s
  | .ptpTxtsTagRead => Sys2Proof.Machine.execPtpTxtsTagRead s
  | .timLatchCapture => Sys2Proof.Machine.execTimLatchCapture s
  | .thmDiePeakClr => Sys2Proof.Machine.execThmDiePeakClr s
  | .sysCtrlSave => Sys2Proof.Machine.execSysCtrlSave s
  | .ptpCtrlSave v => Sys2Proof.Machine.execPtpCtrlSave v s
  | .legCtrlSave v => Sys2Proof.Machine.execLegCtrlSave v s
  | .ptpDomainReconfigure off v => Sys2Proof.Machine.execPtpDomainReconfigure off v s
  | .ptpMdioGo v => Sys2Proof.Machine.execPtpMdioGo v s
  | .mdioAccessDone x => Sys2Proof.Machine.execMdioAccessDone x s
  | .time64Second => Sys2Proof.Machine.execTime64Second s
  | .ppsOutPulseEnd => Sys2Proof.Machine.execPpsOutPulseEnd s
  | .cmpFire unit => Sys2Proof.Machine.execCmpFire unit s
  | .trigOutPulseEnd unit => Sys2Proof.Machine.execTrigOutPulseEnd unit s
  | .ppsInEdge => Sys2Proof.Machine.execPpsInEdge s
  | .ppsLoss => Sys2Proof.Machine.execPpsLoss s
  | .xoCorrectionUpdate => Sys2Proof.Machine.execXoCorrectionUpdate s
  | .ptpSyncReceived m => Sys2Proof.Machine.execPtpSyncReceived m s
  | .ptpFollowUpReceived h originNs corrNs => Sys2Proof.Machine.execPtpFollowUpReceived h originNs corrNs s
  | .ptpDelayRespReceived h recvNs => Sys2Proof.Machine.execPtpDelayRespReceived h recvNs s
  | .ptpPdelayReqReceived h x => Sys2Proof.Machine.execPtpPdelayReqReceived h x s
  | .ptpPdelayRespReceived h twoStep rxNs recvNs corrNs => Sys2Proof.Machine.execPtpPdelayRespReceived h twoStep rxNs recvNs corrNs s
  | .ptpPdelayRespFollowUpReceived h originNs corrNs => Sys2Proof.Machine.execPtpPdelayRespFollowUpReceived h originNs corrNs s
  | .ptpAnnounceReceived m => Sys2Proof.Machine.execPtpAnnounceReceived m s
  | .arpRequestReceived port target => Sys2Proof.Machine.execArpRequestReceived port target s
  | .ethernetFrameDiscarded port => Sys2Proof.Machine.execEthernetFrameDiscarded port s
  | .prxFrameReceived f => Sys2Proof.Machine.execPrxFrameReceived f s
  | .ptpDelayReqSend r => Sys2Proof.Machine.execPtpDelayReqSend r s
  | .ptpSyncTimeout dom => Sys2Proof.Machine.execPtpSyncTimeout dom s
  | .ptpAnnounceTimeout dom => Sys2Proof.Machine.execPtpAnnounceTimeout dom s
  | .ptpFreezeEnd dom offset path => Sys2Proof.Machine.execPtpFreezeEnd dom offset path s
  | .ptpPathDelayStable dom path offset => Sys2Proof.Machine.execPtpPathDelayStable dom path offset s
  | .hostServoTimeout => Sys2Proof.Machine.execHostServoTimeout s
  | .urgentRecordTimer => Sys2Proof.Machine.execUrgentRecordTimer s
  | .fullSetTimer => Sys2Proof.Machine.execFullSetTimer s
  | .nvmPageProgrammed ok => Sys2Proof.Machine.execNvmPageProgrammed ok s
  | .nvmSectorErased e ok => Sys2Proof.Machine.execNvmSectorErased e ok s
  | .selfTestStart unit => Sys2Proof.Machine.execSelfTestStart unit s
  | .selfTestDone r => Sys2Proof.Machine.execSelfTestDone r s
  | .sramEccError bank correctable place => Sys2Proof.Machine.execSramEccError bank correctable place s
  | .sramBankCopyDone bank => Sys2Proof.Machine.execSramBankCopyDone bank s
  | .laneChunkTimeout lane => Sys2Proof.Machine.execLaneChunkTimeout lane s
  | .traverseAdmission profile ambient => Sys2Proof.Machine.execTraverseAdmission profile ambient s
  | .traverseChunkEnd jobId lane residueOk last => Sys2Proof.Machine.execTraverseChunkEnd jobId lane residueOk last s
  | .traverseResultsDone jobId writes => Sys2Proof.Machine.execTraverseResultsDone jobId writes s
  | .traverseWallTimeout jobId => Sys2Proof.Machine.execTraverseWallTimeout jobId s
  | .traverseShareHalving => Sys2Proof.Machine.execTraverseShareHalving s
  | .authFetchTimer str mon => Sys2Proof.Machine.execAuthFetchTimer str mon s
  | .authVerifyDone str mon => Sys2Proof.Machine.execAuthVerifyDone str mon s
  | .authRenewTimer str mon => Sys2Proof.Machine.execAuthRenewTimer str mon s
  | .authRetryTimer str mon => Sys2Proof.Machine.execAuthRetryTimer str mon s
  | .balOverrideExpiry str => Sys2Proof.Machine.execBalOverrideExpiry str s
  | .smbusReadWord code => Sys2Proof.Machine.execSmbusReadWord code s
  | .smbusWriteWord w => Sys2Proof.Machine.execSmbusWriteWord w s
  | .smbusReadByte code => Sys2Proof.Machine.execSmbusReadByte code s
  | .smbusWriteByte w => Sys2Proof.Machine.execSmbusWriteByte w s
  | .smbusUnsupportedProtocol code => Sys2Proof.Machine.execSmbusUnsupportedProtocol code s
  | .smbusBusTimeout => Sys2Proof.Machine.execSmbusBusTimeout s
  | .gaugeKeyExpiry => Sys2Proof.Machine.execGaugeKeyExpiry s
  | .gaugeReset => Sys2Proof.Machine.execGaugeReset s
  | .gaugeNop => Sys2Proof.Machine.execGaugeNop s
  | .nop sub => Sys2Proof.Machine.execNop sub s
  | .identify sub => Sys2Proof.Machine.execIdentify sub s
  | .configLoad sub buf => Sys2Proof.Machine.execConfigLoad sub buf s
  | .configRead sub => Sys2Proof.Machine.execConfigRead sub s
  | .paramLoad sub buf => Sys2Proof.Machine.execParamLoad sub buf s
  | .paramCommit sub => Sys2Proof.Machine.execParamCommit sub s
  | .paramRead sub => Sys2Proof.Machine.execParamRead sub s
  | .ropeTieIn sub => Sys2Proof.Machine.execRopeTieIn sub s
  | .ropeRaw sub buf => Sys2Proof.Machine.execRopeRaw sub buf s
  | .ropeMapRead sub => Sys2Proof.Machine.execRopeMapRead sub s
  | .balPolicy sub => Sys2Proof.Machine.execBalPolicy sub s
  | .balOverride sub buf => Sys2Proof.Machine.execBalOverride sub buf s
  | .traverseStart sub buf => Sys2Proof.Machine.execTraverseStart sub buf s
  | .traverseAbort sub => Sys2Proof.Machine.execTraverseAbort sub s
  | .traverseStatus sub => Sys2Proof.Machine.execTraverseStatus sub s
  | .cairnSetup sub => Sys2Proof.Machine.execCairnSetup sub s
  | .stateRead sub => Sys2Proof.Machine.execStateRead sub s
  | .stateWrite sub buf => Sys2Proof.Machine.execStateWrite sub buf s
  | .tuneNow sub => Sys2Proof.Machine.execTuneNow sub s
  | .tuneRead sub => Sys2Proof.Machine.execTuneRead sub s
  | .selftest sub => Sys2Proof.Machine.execSelftest sub s
  | .authChallenge sub => Sys2Proof.Machine.execAuthChallenge sub s
  | .keyInstall sub buf => Sys2Proof.Machine.execKeyInstall sub buf s
  | .sealDevice sub => Sys2Proof.Machine.execSealDevice sub s
  | .attest sub => Sys2Proof.Machine.execAttest sub s
  | .nvmCheckpoint sub => Sys2Proof.Machine.execNvmCheckpoint sub s
  | .logRead sub => Sys2Proof.Machine.execLogRead sub s
  | .timeSet sub => Sys2Proof.Machine.execTimeSet sub s
  | .timeStatus sub => Sys2Proof.Machine.execTimeStatus sub s
  | .sarSeqSet sub buf => Sys2Proof.Machine.execSarSeqSet sub buf s
  | .sarInject sub => Sys2Proof.Machine.execSarInject sub s
  | .limitSet sub buf => Sys2Proof.Machine.execLimitSet sub buf s
  | .retire sub => Sys2Proof.Machine.execRetire sub s
  | .restore sub => Sys2Proof.Machine.execRestore sub s
  | .fwUpdate sub buf => Sys2Proof.Machine.execFwUpdate sub buf s
  | .shutdown sub => Sys2Proof.Machine.execShutdown sub s
  | .sweepDeadline => Sys2Proof.Machine.execSweepDeadline s
  | .tuneNowTimeout => Sys2Proof.Machine.execTuneNowTimeout s
  | .setAtPpsTimeout => Sys2Proof.Machine.execSetAtPpsTimeout s
  | .authSignatureTimeout str mon => Sys2Proof.Machine.execAuthSignatureTimeout str mon s
  | .slewEnd => Sys2Proof.Machine.execSlewEnd s
  | .vauxWarningRearm mv => Sys2Proof.Machine.execVauxWarningRearm mv s
  | .perstRelease => Sys2Proof.Machine.execPerstRelease s
  | .bleedOpenWaitEnd => Sys2Proof.Machine.execBleedOpenWaitEnd s
  | .transientHistoryExpiry unit => Sys2Proof.Machine.execTransientHistoryExpiry unit s

end Sys2Proof.Machine
end

