-- ==== Sys2Proof/Machine/Step.lean ====
section
/-! DEFINITION. One step: the command at the front of the queue, or, on an empty queue, one tick of the timebase. -/

namespace Sys2Proof.Machine

/-- The front command acts on the state with the queue's rest; with nothing waiting, one tick passes, and the
conversions of the fast converters that it makes due begin (log 1). -/
def step (s : State) : Host.Outcome State Fault Refusal :=
  match s.pending with
  | c :: rest => exec c { s with pending := rest }
  | [] => .next (idle s)

/-- The command that a word spells goes to the front of the queue; a word that spells none changes nothing. [Log: 1 DESIGN CHOICE, 8 DEDUCED] -/
def State.withFetchWord (s : State) (nbits w : Nat) : State :=
  match Sys2Proof.decodeTableWord nbits w with
  | some c => { s with pending := c :: s.pending }
  | none => s

end Sys2Proof.Machine
end

