-- ==== Sys2Proof/Machine/Pins.lean ====
section
/-! DEFINITION. The device's output pins as State has them (R465, R559, R581). -/

namespace Sys2Proof.Machine

/-- What the output pins show. FAULT_N and OC_TRIP_N: asserted; ALIVE, PPS_OUT and TRIG_OUT0 to 3: high; each rope port, VREFTH
and RMIIp_REFCLK: driven; LEG_SDA: may be driven; PET: not in electrical idle; RMII: TXD and TXEN of the port may leave low;
MDC: may leave low; MDIO: may be driven; SW: switching. -/
structure PinView where
  faultN  : Bool
  ocTripN : Bool
  alive   : Bool
  ppsOut  : Bool
  trigOut : List Bool
  ropeN   : List Bool
  ropeF   : List Bool
  vrefth  : Bool
  refclk  : Bool
  legSda  : Bool
  pet     : Bool
  rmii    : List Bool
  mdc     : Bool
  mdio    : Bool
  sw      : Bool
  deriving DecidableEq, Repr

/-- The always-on domain holds the pins: PORST_N low, a HARD cut, and until step 1 of a start (R581). -/
def pinsHeld (s : State) : Bool := s.pwr.porstLow || s.pwr.hardLatch || !s.pwr.started

/-- The pins in reset (R559, R581); `buck` says whether the buck has started (R568). -/
def PinView.held (buck : Bool) : PinView :=
  { faultN := true, ocTripN := false, alive := false, ppsOut := false, trigOut := List.replicate 4 false, ropeN := List.replicate 8 false
    ropeF := List.replicate 8 false, vrefth := false, refclk := false, legSda := false
    pet := false, rmii := [false, false], mdc := false, mdio := false, sw := buck }

/-- A rope port is driven from the rope's first tie-in to its silence (R189, R465, R581). -/
def ropeDriven (s : State) (e : RopeEnd) (n : Nat) : Bool := s.enabled n && s.portUp n e && !(s.ropeStr n).silent

/-- The pins (R149, R336, R422, R425, R465, R536, R559, R581). -/
def pins (s : State) : PinView :=
  if pinsHeld s then PinView.held (Config.buckOn s.free)
  else
    { faultN := faultN s, ocTripN := s.sar.pin, alive := s.cairn.alive, ppsOut := s.tim.ppsOut, trigOut := s.tim.cmps.map CmpUnit.level
      ropeN := (List.range 8).map (ropeDriven s .N), ropeF := (List.range 8).map (ropeDriven s .F)
      vrefth := s.pwr.vrefth, refclk := s.clk.running, legSda := s.legAnswers, pet := s.hif.linkUp
      rmii := (List.range 2).map (fun p => s.rmiiUp p && s.pwr.state != .halt)
      mdc := s.ptp.ports.any (·.mdioGo), mdio := s.ptp.ports.any (fun p => p.mdioGo), sw := true }

end Sys2Proof.Machine
end

