-- ==== Sys2Proof/Safety.lean ====
section
/-! DEFINITION. What counts as a safe run: no step of it stops, and every state on it keeps the shape that the spec's
structures have. -/

namespace Sys2Proof.Machine

/-- A step that answers a next state. -/
def Completes (s : State) : Prop := ∃ t, step s = .next t

/-- The run of `k` steps answers a next state. -/
def RunsFor (k : Nat) (s : State) : Prop := ∃ t, Sys2Proof.core.run k s = .next t

/-- Every block of `t` has its reset values; OTP, the stored configuration, the banks' contents, the boot count, the state of PERST# and
what R480 and R510 count from one start to the next are those of `s` or of the reset itself (R479, R480, R557). -/
def BlocksReset (s t : State) : Prop :=
  t.clk = Clock.reset ∧ t.frm = FrameState.reset ∧ t.met = Met.reset ∧ t.tun = Tun.reset ∧ t.sar = Sar.reset ∧ t.rope = RopeState.reset ∧
  t.est = Est.reset ∧ t.trv = Trv.reset ∧ t.evt = Evt.reset ∧ t.cairn = Cairn.reset ∧ t.tim = Tim.reset ∧ t.ptp = Ptp.reset ∧
  t.thm = Thm.reset ∧ t.leg = Leg.reset ∧
  t.hif = { Hif.reset with perst := s.hif.perst } ∧ t.sys = { Sys.reset with bootCount := s.sys.bootCount } ∧
  t.diag = { Diag.reset with supplyOut := t.diag.supplyOut } ∧ t.sec = { Sec.reset with sealed := s.sec.sealed, slots := s.sec.slots } ∧
  t.cfg = { Cfg.reset with stored := s.cfg.stored, storedOld := t.cfg.storedOld, committed := t.cfg.committed, dirOld := t.cfg.dirOld } ∧
  t.nvm.life = Nvm.reset.life ∧ t.nvm.errCnt = 0 ∧ t.nvm.jobs = [] ∧ t.nvm.saves = [] ∧ t.nvm.logBuf = [] ∧
  t.pwr = { Pwr.reset with nextCause := t.pwr.nextCause, nextHard := t.pwr.nextHard, porstLow := t.pwr.porstLow, hardLatch := t.pwr.hardLatch,
                           bankA := s.pwr.bankA, bankB := s.pwr.bankB, runB := s.pwr.runB, trial := s.pwr.trial }

end Sys2Proof.Machine
end

