-- ==== Sys2Proof/Certificates/Slice0/Obligations.lean ====
section
/-! DEFINITION. What is claimed of the model, for the provers: one proposition per claim. -/

open Sys2Proof Sys2Proof.Machine

/-! ### The queue, the tick and the whole machine -/

/-- A step runs exec of the command at the front of the queue, on the state with the queue's rest (the block's own rule,
log 1). -/
def Obligations.StepRunsFrontCommand : Prop :=
  ∀ (c : Instr) (rest : List Instr) (s : State), s.pending = c :: rest → step s = exec c { s with pending := rest }

/-- With nothing waiting, a step is one tick of the timebase, the model's choice of log 1: the tick counter counts, TIME64
advances by TIM_INC with its fraction (R417, R418), stamps that found their queue full on the tick that ends are dropped
(log 50), and idle fast converters take up what has fallen due; before the timebase runs nothing counts. While metrology does
not run, or both converters are busy or retired, nothing but those drops and the timebase changes. -/
def Obligations.IdleStepIsOneTick : Prop :=
  ∀ s : State, s.pending = [] →
    (∃ t, step s = .next t ∧ t.pending = [] ∧
      (s.clk.running = true → t.clk = { s.clk with ticks := s.clk.ticks + 1, time := s.clk.time + s.clk.inc.setWidth 96 }) ∧
      (s.clk.running = false → t.clk = s.clk) ∧
      ((s.port 0).late = none → (s.port 1).late = none → t.ptp = s.ptp) ∧
      t = { s with clk := t.clk, sar := t.sar, hif := t.hif, evt := t.evt, ptp := t.ptp, hostMem := t.hostMem }) ∧
    (s.metering = false ∨ (∀ c, c < 2 → (s.conv c).busy.isSome = true ∨ s.fRetired c = true) →
      step s = .next (tick (dropLate 1 (dropLate 0 s))))

/-- Every step answers a next state: no command of the table stops the model, in any state (log 3). -/
def Obligations.EveryStepCompletes : Prop := ∀ s : State, Completes s

/-- No command touches the queue of waiting commands. -/
def Obligations.QueueOnlyLosesItsFront : Prop :=
  ∀ (c : Instr) (s t : State), exec c s = .next t → t.pending = s.pending

/-- SEAL cannot be undone, and a written root key slot keeps its key, over every step from every state (R406, R407). -/
def Obligations.SealAndRootKeysStay : Prop :=
  ∀ s t : State, step s = .next t →
    (s.sec.sealed = true → t.sec.sealed = true) ∧
    (∀ (i : Nat) (k : List Byte), s.sec.slots[i]? = some (some k) → t.sec.slots[i]? = some (some k))

/-- Host memory keeps its canonical form over every step from every state in which it has it (log 4 declares the form). -/
def Obligations.HostMemoryStaysCanonical : Prop :=
  ∀ s t : State, Memory.wf s.hostMem = true → step s = .next t → Memory.wf t.hostMem = true

/-- What one posted write leaves: the bytes written inside it, every other byte as before, and the canonical form (log 4). After
reset host memory lists nothing, its form holds, the queue is empty and no free value has been drawn. -/
def Obligations.PostedWriteReadsBack : Prop :=
  (State.reset.hostMem = [] ∧ Memory.wf State.reset.hostMem = true ∧ State.reset.pending = [] ∧ State.reset.free = 0) ∧
  (∀ (m : List Host.Cell) (a : Nat) (l : List Byte), Memory.wf m = true →
      Memory.wf (Memory.write m a l) = true ∧
      (∀ i : Nat, i < l.length → Memory.read (Memory.write m a l) (a + i) = l.getD i 0) ∧
      (∀ b : Nat, b < a ∨ a + l.length ≤ b → Memory.read (Memory.write m a l) b = Memory.read m b))

/-! ### Registers (R552, R558, R562 to R564) -/

/-- Before step 5 of the boot a block that is not live reads its reset values (R562). -/
def Obligations.BlocksNotLiveReadReset : Prop :=
  ∀ (s : State) (off : Nat), s.blockLive off = false → readReg s off = BitVec.ofNat 32 (resetReg off)

/-- Reset values of the registers of R558, R374, R375, R467, R496, R497, R514 and R548, read through BAR0. -/
def Obligations.ResetRegisterValues : Prop :=
  ∀ e ∈ ([(0x0, 0x64081E7B), (0x4, 0x00010010), (0x8, 0x08084008), (0x10, 0), (0x14, 0), (0x18, 0), (0x1C, 0), (0x24, 0), (0x28, 0),
          (0x400, 0), (0x40C, 0), (0x418, 0), (0x430, 0), (0x800, 0xFFFFFFFF), (0x804, 0xFFFFFFFF), (0x808, 0), (0x810, 0xFFFFFFFF),
          (0x2000, 0), (0x2004, 0x80008000), (0x2010, 0), (0x2014, 0), (0x201C, 0), (0x2024, 0x2CEC), (0x2028, 0x32C8),
          (0x2410, 0x2260), (0x2800, 0), (0x3004, 0), (0x3010, 0), (0x3400, 0xFFFFFFFF), (0x3404, 0xFFFFFFFF), (0x3408, 0), (0x340C, 0),
          (0x3410, 0x000F0000), (0x3414, 0), (0x3418, 0), (0x341C, 0), (0x3428, 0), (0x342C, 0), (0x3430, 0), (0x3434, 0)] : List (Nat × Nat)),
    readReg State.reset e.1 = BitVec.ofNat 32 e.2

/-- REGISTER_WRITE: a write that arrives shows the link up, in a device that may have one (logs 12 and 63); one that takes effect sets SYS_SCRATCH, the WARN threshold in
its range while the part is not sealed; a 1 written to a pending bit clears it unless the event came on the same tick; a write
that a block ignores changes nothing else (R552, R553, R558, R562, R563, R467). -/
def Obligations.RegisterWriteTakesEffect : Prop :=
  ∀ (v : Reg) (s : State),
    (s.takesWrite 0x28 = true → ∃ t, exec (.registerWrite 0x28 v) s = .next t ∧ t = { s with sys := { s.sys with scratch := v }, hif := t.hif } ∧
      t.hif = (linkSeen s).hif ∧ readReg t 0x28 = v) ∧
    (s.takesWrite 0x2024 = true → s.sec.sealed = false → 8000 ≤ toS 16 v.toNat → toS 16 v.toNat ≤ 11500 →
      ∃ t, exec (.registerWrite 0x2024 v) s = .next t ∧ t = { s with thm := { s.thm with warnThr := toS 16 v.toNat }, hif := t.hif } ∧
        t.hif = (linkSeen s).hif) ∧
    (s.takesWrite 0x2024 = true → (s.sec.sealed = true ∨ toS 16 v.toNat < 8000 ∨ 11500 < toS 16 v.toNat) →
      exec (.registerWrite 0x2024 v) s = .next (linkSeen s)) ∧
    (s.takesWrite 0x808 = true → ∃ t, exec (.registerWrite 0x808 v) s = .next t ∧ t = { s with evt := { s.evt with pend := t.evt.pend }, hif := t.hif } ∧
      t.hif = (linkSeen s).hif ∧ (∀ i, i < 64 → t.evt.pend.getLsbD i = (s.evt.pend.getLsbD i &&
        !(decide (i < 32) && v.getLsbD i && !(decide (s.evt.hot.tick = s.clk.ticks) && s.evt.hot.bits.testBit i))))) ∧
    (∀ off : Nat, s.takesWrite off = false → exec (.registerWrite off v) s = .next (linkSeen s)) ∧
    (linkSeen s).hif.linkUp = (s.hif.linkUp || (s.pwr.started && !s.pwr.hardLatch && !s.hif.perst)) ∧
    linkSeen s = { s with hif := { s.hif with linkUp := (linkSeen s).hif.linkUp } }

/-- Every latching register read returns the low word and, in a live block, fills its shadow with the rest of the same value
(R76, R420, R447, R555): NET, IN, OUT and UNC of the string selected, TIME64 with its fraction, the latched time with its
fraction, the last PPS_IN stamp, the grandmaster's identity, the epoch and the frame count; nothing but the shadow and the
returned word changes. -/
def Obligations.LatchingReadsAreOneValue : Prop :=
  ∀ s : State,
    (s.blockLive 0x1410 = true → ∃ t, exec (.metLoRead 0x1410) s = .next t ∧ t.hif.readData = readReg s 0x1410 ∧ readReg t 0x1414 = reg32 (hiW (metNet s)) ∧
      t = { s with met := { s.met with netHi := t.met.netHi }, hif := { s.hif with readData := t.hif.readData } }) ∧
    (s.blockLive 0x1418 = true → ∃ t, exec (.metLoRead 0x1418) s = .next t ∧ t.hif.readData = reg32 (loW (metIn s)) ∧ readReg t 0x141C = reg32 (hiW (metIn s)) ∧
      t = { s with met := { s.met with inHi := t.met.inHi }, hif := { s.hif with readData := t.hif.readData } }) ∧
    (s.blockLive 0x1420 = true → ∃ t, exec (.metLoRead 0x1420) s = .next t ∧ t.hif.readData = reg32 (loW (metOut s)) ∧ readReg t 0x1424 = reg32 (hiW (metOut s)) ∧
      t = { s with met := { s.met with outHi := t.met.outHi }, hif := { s.hif with readData := t.hif.readData } }) ∧
    (s.blockLive 0x1428 = true → ∃ t, exec (.metLoRead 0x1428) s = .next t ∧ t.hif.readData = reg32 (loW (metUnc s)) ∧ readReg t 0x142C = reg32 (hiW (metUnc s)) ∧
      t = { s with met := { s.met with uncHi := t.met.uncHi }, hif := { s.hif with readData := t.hif.readData } }) ∧
    (s.blockLive 0xC00 = true → ∃ t, exec .timNowLoRead s = .next t ∧ t.hif.readData = reg32 (loW s.now) ∧ readReg t 0xC04 = reg32 (hiW s.now) ∧
      readReg t 0xC08 = reg32 (loW s.clk.time.toNat) ∧
      t = { s with tim := { s.tim with nowHi := t.tim.nowHi, nowFrac := t.tim.nowFrac }, hif := { s.hif with readData := t.hif.readData } }) ∧
    (s.blockLive 0xC20 = true → ∃ t, exec .timLatLoRead s = .next t ∧ t.hif.readData = reg32 (loW (s.tim.lat.toNat / two32)) ∧
      readReg t 0xC24 = reg32 (hiW (s.tim.lat.toNat / two32)) ∧ readReg t 0xC28 = reg32 (loW s.tim.lat.toNat) ∧
      t = { s with tim := { s.tim with latHi := t.tim.latHi, latFrac := t.tim.latFrac }, hif := { s.hif with readData := t.hif.readData } }) ∧
    (s.blockLive 0xC40 = true → ∃ t, exec .timPpsinLoRead s = .next t ∧ t.hif.readData = reg32 (loW s.tim.ppsStamp.toNat) ∧
      readReg t 0xC44 = reg32 (hiW s.tim.ppsStamp.toNat) ∧
      t = { s with tim := { s.tim with ppsHi := t.tim.ppsHi }, hif := { s.hif with readData := t.hif.readData } }) ∧
    (s.blockLive 0x101C = true → ∃ t, exec .ptpDomGmLoRead s = .next t ∧ t.hif.readData = reg32 (loW (s.dom s.ptp.domSel).gmId.toNat) ∧
      readReg t 0x1020 = reg32 (hiW (s.dom s.ptp.domSel).gmId.toNat) ∧
      t = { s with ptp := { s.ptp with gmHi := t.ptp.gmHi }, hif := { s.hif with readData := t.hif.readData } }) ∧
    (∃ t, exec .sysEpochLoRead s = .next t ∧ t.hif.readData = reg32 (loW s.frm.epoch) ∧ t.sys.epochHi = reg32 (hiW s.frm.epoch) ∧
      t = { s with sys := { s.sys with epochHi := t.sys.epochHi }, hif := { s.hif with readData := t.hif.readData } }) ∧
    (s.blockLive 0x3420 = true → ∃ t, exec .diagFramesLoRead s = .next t ∧ t.hif.readData = reg32 (loW s.frm.frameCount) ∧
      t.diag.framesHi = reg32 (hiW s.frm.frameCount) ∧
      t = { s with diag := { s.diag with framesHi := t.diag.framesHi }, hif := { s.hif with readData := t.hif.readData } })

/-- A BAR0 access that is not one aligned word is answered with all ones, or discarded, and sets ERR_ALIGN (R339). -/
def Obligations.MisalignedAccessSetsErrAlign : Prop :=
  ∀ s : State,
    exec (.bar0MisalignedAccess true) s = .next { s with hif := { s.hif with errAlign := true, hot := s.hif.hot.mark s.clk.ticks 8 } } ∧
    exec (.bar0MisalignedAccess false) s =
      .next { s with hif := { s.hif with errAlign := true, hot := s.hif.hot.mark s.clk.ticks 8, readData := 0xFFFFFFFF#32 } }

/-! ### Power, boot and resets (chapter 15) -/

/-- POWER_GOOD with a confirmed bank that verifies, no unit failing step 4 and VAUX at 9.0 V or more brings the device to RUN
with measurement started; the start is counted and its cause is in PWR_RST_CAUSE (R480 to R484, R494). -/
def Obligations.PowerGoodReachesRun : Prop :=
  ∀ (s : State) (mv : Nat), s.pwr.started = false → s.pwr.hardLatch = false → s.pwr.bootFail = false → s.sec.sealed = false →
    s.pwr.bankA.state = .confirmed → s.pwr.bankB.state = .empty → 9000 ≤ mv →
    bootLost { failed := [], badBanks := [], rngOk := true, vauxMv := mv } (bootRetired (bootClock (bootStart mv s))) = false →
    ∃ t, exec (.powerGood { failed := [], badBanks := [], rngOk := true, vauxMv := mv }) s = .next t ∧
      t.pwr.state = .run ∧ t.pwr.started = true ∧ t.pwr.loaded = true ∧ t.pwr.paused = false ∧ t.pwr.bootFail = false ∧ t.pwr.runB = false ∧ t.pwr.vauxMv = mv ∧
      t.frm.measuring = true ∧ t.sys.bootCount = sat32 (s.sys.bootCount + 1) ∧ t.pwr.rstCause.getLsbD s.pwr.nextCause.bit = true

/-- A start below 9.0 V is paused before step 6, and BOOT_RESUME brings it to RUN, out of a HOLD entered meanwhile too (R472,
R483, R498); a crystal that does not start holds the device in BOOT with FAULT_N asserted and the clock as it was (R482, R559,
R577). -/
def Obligations.PausedAndFailedStarts : Prop :=
  ∀ s : State,
    ((s.pwr.state = .boot ∨ (s.pwr.state = .hold ∧ s.pwr.holdFrom = .boot)) → s.pwr.paused = true → s.pwr.bootFail = false →
      ∃ t, exec .bootResume s = .next t ∧ t.pwr.state = .run ∧ t.pwr.paused = false ∧ t.frm.measuring = true ∧ t.frm.win = 0 ∧
        9000 ≤ t.pwr.vauxMv) ∧
    (s.pwr.started = false → s.pwr.hardLatch = false →
      ∃ t, exec .bootXtalTimeout s = .next t ∧ t.pwr.state = .boot ∧ t.pwr.bootFail = true ∧ faultN t = true ∧ t.clk = s.clk ∧
        4500 ≤ t.pwr.vauxMv ∧ t.sys.bootCount = sat32 (s.sys.bootCount + 1))

/-- Every whole-device reset of R479 returns each block to its reset values (R557), keeps OTP, the boot count and what the flash holds, and
leaves the device not started until the next power-good (R466, R480), its pins as R581 has them in reset: PORST_N, BROWN_OUT, a HARD cut,
the watchdog, HOLD_RETURN without RESUME (R477) and the restart that follows the record of ACTIVATE_RESTART (R411). The flash is: the
stored configuration, the newest urgent record and set, the sectors and their wear, the saved registers, and the log ring where no record
waits (log 34). In a HARD latch no power-good starts the device, and PORST_N ends the latch, so that the next start carries HARD. HALT is
left by PORST_N and not by the watchdog (R412). -/
def Obligations.WholeDeviceResets : Prop :=
  (∀ (s : State) (mv : Nat) (c : Instr),
      (c = .porstNAssert ∨ c = .brownOut mv ∨ c = .hardCut ∨ (c = .watchdogReset ∧ s.pwr.started = true ∧ s.pwr.state ≠ .halt) ∨
        (c = .holdReturn mv ∧ s.pwr.state = .hold ∧ s.pwr.holdDone = true ∧ s.pwr.resume = false ∧ 9000 ≤ mv)) →
      ∃ t, exec c s = .next t ∧ BlocksReset s t ∧ t.nvm.urgent = s.nvm.urgent ∧ t.nvm.set = s.nvm.set ∧ t.nvm.saved = s.nvm.saved ∧
        (s.nvm.logBuf = [] → s.pwr.state ≠ .hold → t.nvm.logRing = s.nvm.logRing) ∧
        t.nvm.secs = s.nvm.secs ∧ t.nvm.wear = s.nvm.wear ∧ t.hostMem = s.hostMem ∧ t.pending = s.pending ∧
        (c = .watchdogReset → t.pwr.nextCause = .wdog) ∧ (c = .hardCut → t.pwr.hardLatch = true) ∧ (c = .brownOut mv → t.diag.supplyOut = true) ∧
        (c = .holdReturn mv → t.pwr.nextCause = .holdReset) ∧
        (c = .porstNAssert → t.pwr.porstLow = true ∧ t.pwr.hardLatch = false) ∧ pins t = PinView.held (Config.buckOn t.free)) ∧
  (∀ (s : State) (j : NvmJob) (u : UrgentRec) (sub : Submission), s.live = true → s.nvm.tail = false → s.nvm.jobs = [j] → j.begun = true → j.left ≤ 1 →
      j.what = .urgent 2 (some u) → u.kind = 2 → j.sub = some sub → s.nvm.jCur.isSome = true → s.nvm.jPos < 16 →
      ∃ t, exec (.nvmPageProgrammed true) s = .next t ∧ BlocksReset s t ∧ t.nvm.urgent = some u ∧ t.nvm.set = s.nvm.set ∧ t.nvm.saved = s.nvm.saved ∧
        t.nvm.secs = s.nvm.secs ∧ t.nvm.wear = s.nvm.wear ∧ t.pwr.nextCause = .fwRestart ∧ pins t = PinView.held (Config.buckOn t.free)) ∧
  (∀ s : State, s.pwr.state = .halt → exec .watchdogReset s = .next s) ∧
  (∀ (s : State) (r : BootReport), s.pwr.hardLatch = true →
      exec (.powerGood r) s = .next s ∧
      (∃ t, exec .porstNAssert s = .next t ∧ t.pwr.hardLatch = false ∧ t.pwr.nextHard = true))

/-- The orderly stop that SHUTDOWN or the loss of the crystal begins, the latter also in a start that waits behind step 5: STOPPING,
self-tests ended, register stores abandoned (R412, R464, R515, R577; logs 55, 60 and 61). -/
def Obligations.OrderlyStopBegins : Prop :=
  ∀ (s : State) (sub : Submission),
    (s.live = true → s.cmdWaits 0x7F sub = false → sub.formOk [(0, 4)] = true → sub.noBuf = true → sub.pU 0 4 = 0x53544F50 →
      ∃ t, exec (.shutdown sub) s = .next t ∧ t.pwr.state = .stopping ∧ t.thm.orderly = true ∧ t.pwr.stopSub = some sub ∧
        t.sys.save = false ∧ t.ptp.save = false ∧ t.leg.save = false ∧ t.nvm.saves = [] ∧ (∀ d ∈ t.diag.units, d.testing = false)) ∧
    (s.live = true ∨ ((s.pwr.state = .boot ∨ (s.pwr.state = .hold ∧ s.pwr.holdFrom = .boot)) ∧ s.pwr.loaded = true ∧ s.pwr.bootFail = false) →
      s.pwr.xtalLost = false → s.clk.running = true →
      ∃ t, exec .xtalLost s = .next t ∧ t.pwr.state = .stopping ∧ t.pwr.xtalLost = true ∧ t.thm.orderly = true ∧ t.metering = false ∧ t.nvm.saves = []) ∧
    (s.pwr.state = .boot → (s.pwr.loaded = false ∨ s.pwr.bootFail = true) → s.pwr.xtalLost = false → s.clk.running = true →
      ∃ t, exec .xtalLost s = .next t ∧ t.pwr = { s.pwr with xtalLost := true } ∧ t = { s with pwr := t.pwr, nvm := t.nvm })

/-- The end of the wait for the bleed switches: HALT, its pins (R465), FAULT_N asserted, SHUTDOWN in HALT completes with BUSY (R380, R464);
and HALT is left by PORST_N, by the loss of a rail and by a HARD cut alone: no other command changes it (R412, R468; log 60). -/
def Obligations.BleedWaitEndsInHalt : Prop :=
  (∀ (s : State) (sub : Submission),
    (s.pwr.state = .stopping → s.pwr.stopStep = .bleed →
      ∃ t, exec .bleedOpenWaitEnd s = .next t ∧ t.pwr.state = .halt ∧ t.pwr.vcoreMv = 650 ∧ t.cairn.alive = false ∧ t.tim.ppsOut = false ∧
        t.sar.pin = false ∧ t.tim.cmps.all (fun c => !c.active) = true ∧ t.frm.measuring = false ∧ faultN t = true ∧
        (pinsHeld s = false → pins t = { PinView.held true with
          trigOut := s.tim.cmps.map (·.pol), vrefth := s.pwr.vrefth, refclk := s.clk.running, pet := s.hif.linkUp,
          mdc := s.ptp.ports.any (·.mdioGo), mdio := s.ptp.ports.any (·.mdioGo) })) ∧
    (s.pwr.state = .halt → s.cmdWaits 0x7F sub = false → sub.formOk [(0, 4)] = true → sub.noBuf = true → sub.pU 0 4 = 0x53544F50 →
      exec (.shutdown sub) s = .next (complete 0x7F sub stBusy [] s))) ∧
  (∀ (c : Instr) (s t : State), s.pwr.state = .halt → s.pwr.started = true → c ≠ .porstNAssert → (∀ mv, c ≠ .brownOut mv) → c ≠ .hardCut →
    exec c s = .next t → t.pwr.state = .halt)

/-- The VAUX warning raises EV50 once, on a supply below PWR_VAUX_WARN; it can act again only after VAUX_WARNING_REARM on a
supply more than 500 mV above it (R474). PWR_STATUS.VAUX_WARN says whether VAUX is below the threshold (R496). -/
def Obligations.VauxWarningActsOnce : Prop :=
  ∀ (s : State) (mv : Nat),
    (s.pwr.started = true → s.pwr.warnArmed = true → mv < s.pwr.warnThr →
      ∃ t, exec (.vauxWarning mv) s = .next t ∧ t.pwr = { s.pwr with vauxMv := mv, warnArmed := false } ∧
        t.evt = (raise 50 0 s).evt ∧ (s.evt.en.getLsbD 50 = true → t.evt.pend.getLsbD 50 = true) ∧
        (readReg t 0x2404).getLsbD 8 = true ∧ t = { s with pwr := t.pwr, evt := t.evt }) ∧
    (s.pwr.started = false ∨ s.pwr.warnArmed = false ∨ s.pwr.warnThr ≤ mv →
      exec (.vauxWarning mv) s = .next { s with pwr := { s.pwr with vauxMv := mv } }) ∧
    (s.pwr.warnThr + 500 < mv →
      ∃ t, exec (.vauxWarningRearm mv) s = .next t ∧ t = { s with pwr := { s.pwr with vauxMv := mv, warnArmed := true } } ∧
        (readReg t 0x2404).getLsbD 8 = false) ∧
    (mv ≤ s.pwr.warnThr + 500 → exec (.vauxWarningRearm mv) s = .next { s with pwr := { s.pwr with vauxMv := mv } })

/-- Entry to HOLD below 8.0 V: from RUN or LEAN the state to return to is kept, the entry counted, an urgent record queued,
the sweep and the updates left undone, and the windows run on (R474 to R476); from BOOT nothing is committed and the start
waits (R472, R498). The HOLD commit leaves no flash job, marks HOLD done and, with RESUME and 9.0 V, the return goes to the
state left; without RESUME the device resets with cause HOLD_RESET (R475, R477). -/
def Obligations.HoldKeepsWindowsAndReturns : Prop :=
  (∀ (s : State) (mv : Nat),
      (s.live = true → mv < 8000 →
        ∃ t, exec (.holdEntry mv) s = .next t ∧ t.pwr.state = .hold ∧ t.pwr.holdFrom = s.pwr.state ∧ t.pwr.holdCnt = wrap32 (s.pwr.holdCnt + 1) ∧
          t.pwr.holdDone = false ∧ t.pwr.vauxMv = mv ∧ t.est.todo = [] ∧ t.met = s.met ∧ t.frm.win = s.frm.win ∧ t.frm.winStart = s.frm.winStart ∧
          (∃ j ∈ t.nvm.jobs, ∃ r, j.what = .urgent 1 r) ∧ t.diag.supplyOut = true ∧
          (∀ n, n < 8 → (t.ropeStr n).sweep = none ∧ (t.ropeStr n).balTodo = [])) ∧
      (s.pwr.state = .boot → s.pwr.started = true → mv < 8000 →
        ∃ t, exec (.holdEntry mv) s = .next t ∧ t.pwr.state = .hold ∧ t.pwr.holdFrom = .boot ∧ t.pwr.holdCnt = wrap32 (s.pwr.holdCnt + 1) ∧
          t.nvm.jobs = s.nvm.jobs ∧ (s.pwr.loaded = true → t.pwr.paused = true) ∧
          t = { s with pwr := t.pwr, nvm := t.nvm, diag := { s.diag with supplyOut := true }, free := t.free }) ∧
      (8000 ≤ mv → exec (.holdEntry mv) s = .next { s with pwr := { s.pwr with vauxMv := mv } })) ∧
  (∀ (s : State) (mv : Nat), s.pwr.state = .hold →
      (s.pwr.holdDone = false → s.pwr.holdFrom ≠ .boot → s.pwr.xtalLost = false → s.pwr.restart = false → (∀ j ∈ s.nvm.jobs, j.sub = none) →
        ∃ t, exec .holdCommitDone s = .next t ∧ t.pwr.state = .hold ∧ t.pwr.holdDone = true ∧ t.nvm.jobs = [] ∧
          (s.evt.en.getLsbD 51 = true → t.evt.pend.getLsbD 51 = true)) ∧
      (s.pwr.holdDone = true ∨ s.pwr.holdFrom = .boot → exec .holdCommitDone s = .next s) ∧
      (s.pwr.holdDone = true → s.pwr.resume = true → 9000 ≤ mv →
        ∃ t, exec (.holdReturn mv) s = .next t ∧ t.pwr.state = s.pwr.holdFrom ∧ t.pwr.holdDone = false ∧ t.pwr.vauxMv = mv) ∧
      (s.pwr.holdDone = true → s.pwr.resume = false → 9000 ≤ mv →
        ∃ t, exec (.holdReturn mv) s = .next t ∧ t.pwr.started = false ∧ t.pwr.nextCause = .holdReset ∧ t.frm = FrameState.reset) ∧
      (s.pwr.holdDone = false ∨ mv < 9000 → exec (.holdReturn mv) s = .next { s with pwr := { s.pwr with vauxMv := mv } }))

/-- A trial bank that has run its 60 s becomes CONFIRMED and the other, if it holds an image, VALID (R494). FW_UPDATE: WRITE
queues the image's pages, and empties the inactive bank as its write begins, at once on a flash that is free; ACTIVATE makes a
VALID inactive bank PENDING; ACTIVATE_RESTART does so and queues the urgent record before the reset; without an image in the
inactive bank, or during a WRITE, either is refused with BAD_STATE (R411, R495; that the bank is emptied as the write begins and not
before, logs 53 and 62). -/
def Obligations.FirmwareBanks : Prop :=
  (∀ s : State, s.live = true → s.pwr.trial = true →
      ∃ t, exec .fwTrialConfirm s = .next t ∧ t.pwr.trial = false ∧ (t.bankOf s.pwr.runB).state = .confirmed ∧
        ((s.bankOf (!s.pwr.runB)).state = .empty → t.bankOf (!s.pwr.runB) = s.bankOf (!s.pwr.runB)) ∧
        ((s.bankOf (!s.pwr.runB)).state ≠ .empty → (t.bankOf (!s.pwr.runB)).state = .valid) ∧ t = { s with pwr := t.pwr }) ∧
  (∀ s : State, s.live = false ∨ s.pwr.trial = false → exec .fwTrialConfirm s = .next s) ∧
  (∀ (s : State) (sub : Submission) (buf : FwRead), s.live = true → s.cmdWaits 0x7A sub = false → sub.formOk [(0, 1)] = true →
      (sub.pU 0 1 = 0 → s.fwBusy = false → sub.hasBuf true = true → 72 ≤ sub.bufLen → sub.bufLen ≤ 393216 → buf.data.isSome = true →
        buf.framed = true → (sigChecks s .firmware (bufBytes sub buf.data)).all (fun c => c.1) = true →
        ∃ t, exec (.fwUpdate sub buf) s = .next t ∧ t.fwBusy = true ∧ (∃ j ∈ t.nvm.jobs, j.sub = some sub) ∧
          (s.nvm.jobs = [] → s.nvm.tail = false → t.inactive.state = .empty) ∧
          (s.nvm.tail = true → t.inactive = s.inactive)) ∧
      (sub.pU 0 1 = 1 → s.fwBusy = false → sub.noBuf = true → s.inactive.state = .valid → (s.bankOf s.pwr.runB).state ≠ .pending →
        ∃ t, exec (.fwUpdate sub buf) s = .next t ∧ t.inactive.state = .pending ∧ (t.bankOf s.pwr.runB) = s.bankOf s.pwr.runB) ∧
      (sub.pU 0 1 = 2 → s.fwBusy = false → sub.noBuf = true → s.inactive.state = .valid →
        ∃ t, exec (.fwUpdate sub buf) s = .next t ∧ t.inactive.state = .pending ∧ (∃ j ∈ t.nvm.jobs, j.sub = some sub)) ∧
      (1 ≤ sub.pU 0 1 → sub.pU 0 1 < 3 → sub.noBuf = true → (s.inactive.state = .empty ∨ s.fwBusy = true) →
        exec (.fwUpdate sub buf) s = .next (complete 0x7A sub stBadState [] s)))

/-! ### Windows and frames (chapter 1) -/

/-- WINDOW_BOUNDARY while windows count, at the tick on which the window in progress ends: it ends there for every string and
the next number begins there, its end planned anew (R12, R14, R15, R46); the backup reference lasts while a declaration or the
ratio's condition asks for it (R73, R82); at any other tick it changes nothing. -/
def Obligations.WindowBoundaryOpensTheNext : Prop :=
  ∀ s : State, s.metering = true →
    (endsIn 0 s = true →
      ∃ t, exec (.windowBoundary ⟨⟩) s = .next t ∧ t.frm.win = s.frm.win + 1 ∧ t.frm.winStart = s.clk.ticks ∧ t.frm.frozen = false ∧
        t.frm.winTime = (if t.frm.scheme.fixed then (gridNow t.frm.scheme s).getD s.now else s.now) ∧
        t.met.winLen = wrap32 (s.clk.ticks - s.frm.winStart) ∧ t.clk = s.clk ∧ t.met.refBackup = (s.met.refBackup && (s.rrefOpen || s.met.refRatio)) ∧
        (∀ n, n < 8 → n < s.met.strs.length → (s.metStr n).snap.enabled = true → (t.metStr n).waiting.length = (s.metStr n).waiting.length + 1)) ∧
    (endsIn 0 s = false → exec (.windowBoundary ⟨⟩) s = .next s)

/-- START_SYNC, 500 µs ahead of the first window that starts at or after the nominal instant, freezes that window's start,
assigns the next epoch and sends START from both ports of every enabled rope; in HOLD the epoch counts and no frame is
estimated (R18 to R20, R24, R194, R195, R476). -/
def Obligations.StartSyncAssignsTheEpoch : Prop :=
  ∀ s : State, s.metering = true → s.frozenNext = false → frameAhead s = true →
    (s.live = true → ∃ t, exec .startSync s = .next t ∧ t.frm.epoch = s.frm.epoch + 1 ∧ t.frozenNext = true ∧
      t.frm.frozen = true ∧ t.frm.winEnd = s.clk.ticks + 120000 ∧ t.frm.win = s.frm.win ∧
      t.frm.nextNominal = nominalThen s ∧ t.frm.frameCount = wrap64 (s.frm.frameCount + 1) ∧ t.est = s.est ∧ t.met = s.met ∧ t.hostMem = s.hostMem ∧
      (∀ n, n < 8 → n < s.rope.strs.length → s.enabled n = true → s.portUp n .N = true → (s.ropeStr n).silent = false →
        ∃ f, (t.ropeStr n).txN = some f ∧ f.typ = tSync ∧ f.addr = 0 ∧ f.payload.take 4 = ([0, BitVec.ofNat 8 (bit (s.gateOff n) 0)] ++ leBytes 2 ((s.frm.epoch + 1) % 65536))) ∧
      (∀ n, n < 8 → n < s.rope.strs.length → s.enabled n = true → s.portUp n .F = true → (s.ropeStr n).silent = false →
        ∃ f, (t.ropeStr n).txF = some f ∧ f.typ = tSync ∧ f.addr = 0 ∧ f.payload.take 4 = ([0, BitVec.ofNat 8 (bit (s.gateOff n) 0)] ++ leBytes 2 ((s.frm.epoch + 1) % 65536)))) ∧
    (s.pwr.state = .hold → ∃ t, exec .startSync s = .next t ∧ t.frm.epoch = s.frm.epoch + 1 ∧ t.frm.frames = s.frm.frames ∧
      t.frm.nextNominal = nominalThen s ∧ t.diag.outSupply = sat32 (s.diag.outSupply + 1) ∧ t = { s with frm := t.frm, diag := t.diag })

/-- The sample instant and END SYNC of a frame: the frame is sampled at its window's start with the TIME64 of that boundary
and the time flags of that instant; what takes force there governs its window (R337, R394), and no change whose START SYNC has
been sent waits any longer; END SYNC freezes the end boundary 500 µs ahead, sends END
with its SPAN, and leaves the counters and the windows as they are (R19, R20, R21, R22, R194, R195, R427). -/
def Obligations.SampleInstantStampsTheFrame : Prop :=
  ∀ (s : State) (f : FrameRec), s.live = true →
    (s.frm.frames.find? (fun f => f.win == s.frm.win && !f.sampled) = some f →
      ∃ t, exec .sampleInstant s = .next t ∧ t.frm.win = s.frm.win ∧ t.clk = s.clk ∧
        (∀ n, n < 8 → n < s.met.strs.length → (t.metStr n).qIn = (s.metStr n).qIn ∧ (t.metStr n).qOut = (s.metStr n).qOut ∧
          (t.metStr n).snap.enabled = t.enabled n ∧ (t.metStr n).snap.legMilli = (t.strCfg n).shuntLegR ∧
          (t.metStr n).snap.gainUnc = (t.strCfg n).extGainUnc) ∧ (∀ w ∈ t.cfg.waiting, w.synced = false) ∧
        (∃ g ∈ t.frm.frames, g.epoch = f.epoch) ∧
        (∀ g ∈ t.frm.frames, g.epoch = f.epoch → g.sampled = true ∧ g.tSample = s.frm.winTime ∧ g.startTick = s.frm.winStart ∧
          g.unsync = t.unsync ∧ g.locked = !t.unsync ∧ g.suspect = t.tim.suspect)) ∧
    (s.frm.frames.find? (fun f => f.win == s.frm.win && f.sampled && !f.endSynced && !f.closed) = some f → endsIn syncLead s = true →
      ∃ t, exec .endSync s = .next t ∧ t.frm.win = s.frm.win ∧ t.frm.frozen = true ∧ t.frm.winEnd = s.clk.ticks + 120000 ∧
        t.frm.frames = s.frm.frames.map (fun g => if g.epoch == f.epoch then { g with endSynced := true } else g) ∧ t.met = s.met ∧
        t.frm.endUnknown = decide (endSpan s = 0xFFFF) ∧ t = { s with frm := t.frm, rope := t.rope } ∧
        (∀ n, n < 8 → n < s.rope.strs.length → s.enabled n = true → s.portUp n .N = true → (s.ropeStr n).silent = false →
          ∃ x, (t.ropeStr n).txN = some x ∧ x.typ = tSync ∧ x.addr = 0 ∧ x.payload = syncPayload 1 (s.gateOff n) f.epoch (endSpan s)) ∧
        (∀ n, n < 8 → n < s.rope.strs.length → s.enabled n = true → s.portUp n .F = true → (s.ropeStr n).silent = false →
          ∃ x, (t.ropeStr n).txF = some x ∧ x.typ = tSync ∧ x.addr = 0 ∧ x.payload = syncPayload 1 (s.gateOff n) f.epoch (endSpan s)))

/-- Line crossings (R14, R16): a crossing becomes the last one; three predicted periods without one lose the lock, once,
with EV61 in LINE mode, and the windows from the one in progress on run held; the first crossing after that only sets the
reference. -/
def Obligations.LineCrossings : Prop :=
  ∀ s : State,
    (∃ t, exec .lineZeroCrossing s = .next t ∧ t.frm.line.lastCross = some s.clk.ticks ∧ t.frm.win = s.frm.win ∧ t.met = s.met) ∧
    (s.frm.line.lastCross = none →
      ∃ t, exec .lineZeroCrossing s = .next t ∧ t.frm.line = { s.frm.line with lastCross := some s.clk.ticks } ∧
        t = { s with frm := { s.frm with line := t.frm.line, winEnd := t.frm.winEnd, winEndNs := t.frm.winEndNs, held := t.frm.held } }) ∧
    (crossingLate s = true →
      ∃ t, exec .lineCrossingTimeout s = .next t ∧ t.frm.line.lost = true ∧ t.frm.line.lastCross = none ∧ t.frm.line.goodTicks = 0 ∧
        (s.frm.line.lost = true → t.evt = s.evt) ∧
        (s.frm.line.lost = false → t.frm.held = true ∧ t.frm.winEnd = max s.frm.winEnd s.clk.ticks) ∧
        (s.frm.line.lost = false → s.frm.scheme.fixed = false → s.frm.measuring = true → s.evt.en.getLsbD 61 = true → t.evt.pend.getLsbD 61 = true) ∧
        t = { s with frm := t.frm, evt := t.evt, nvm := t.nvm }) ∧
    (crossingLate s = false → exec .lineCrossingTimeout s = .next s)

/-- A write of PWR_MODE is kept, and a change of rate is ordered as a re-anchoring at the first boundary no earlier than 1 ms
later (R38, R39, R473); a write of the mode in force orders nothing. -/
def Obligations.PowerModeReanchors : Prop :=
  ∀ (s : State) (v : Reg), s.takesWrite 0x2400 = true →
    (s.nextScheme.lean = v.getLsbD 0 → exec (.pwrModeWrite v) s = .next { s with pwr := { s.pwr with mode := v.getLsbD 0 } }) ∧
    (s.nextScheme.lean ≠ v.getLsbD 0 →
      ∃ t, exec (.pwrModeWrite v) s = .next t ∧ t.pwr = { s.pwr with mode := v.getLsbD 0 } ∧ t.nextScheme.lean = v.getLsbD 0 ∧
        (∃ r : Reanchor, t.frm = { s.frm with reanchors := s.frm.reanchors ++ [r] } ∧ r.earliest = s.clk.ticks + 240000 ∧ r.lean = some (v.getLsbD 0)) ∧
        t = { s with pwr := t.pwr, frm := t.frm })

/-! ### Charge metrology (chapter 2) -/

/-- The charge of a closed window enters its string's counters exactly once: a positive charge IN, a negative one OUT, both
bounds added, its flags with them, and no other string's counters move (R54, R55, R58, R77). A window treated as open holds the counters and adds the
string's largest current over the window to U_lin, with the share of its saturated wide-path samples (R63, R72). -/
def Obligations.WindowChargeEntersOnce : Prop :=
  (∀ (s : State) (str : Nat) (count : BitVec 44) (ovr : Bool) (w : OpenWin) (rest : List OpenWin),
      str < s.met.strs.length → (s.metStr str).waiting = w :: rest →
      ∃ t, exec (.windowChargeEntry str count ovr) s = .next t ∧ (t.metStr str).waiting = rest ∧
        (t.metStr str).qIn = (if 0 < (chargeOf s str w count ovr).q then addAcc (s.metStr str).qIn (chargeOf s str w count ovr).q else (s.metStr str).qIn) ∧
        (t.metStr str).qOut = (if (chargeOf s str w count ovr).q < 0 then addAcc (s.metStr str).qOut (-(chargeOf s str w count ovr).q) else (s.metStr str).qOut) ∧
        (t.metStr str).uLin = (s.metStr str).uLin + (chargeOf s str w count ovr).uLin ∧
        (t.metStr str).sN = (s.metStr str).sN + (chargeOf s str w count ovr).sN ∧
        (t.metStr str).owSticky = ((s.metStr str).owSticky || w.owDecl) ∧ (t.metStr str).ow = w.asOpen ∧ (t.metStr str).ref = w.backup ∧
        (t.metStr str).ovrCount = (if ovr then wrap32 ((s.metStr str).ovrCount + 1) else (s.metStr str).ovrCount) ∧
        (∀ n, n ≠ str → t.metStr n = s.metStr n) ∧ t = { s with met := t.met, diag := t.diag, evt := t.evt, nvm := t.nvm }) ∧
  (∀ (s : State) (str : Nat) (count : BitVec 44) (ovr : Bool) (w : OpenWin) (rest : List OpenWin),
      str < s.met.strs.length → (s.metStr str).waiting = w :: rest → w.asOpen = true →
      ∃ t, exec (.windowChargeEntry str count ovr) s = .next t ∧ (t.metStr str).qIn = (s.metStr str).qIn ∧ (t.metStr str).qOut = (s.metStr str).qOut ∧
        (t.metStr str).current = 0 ∧ (t.metStr str).uLin = (s.metStr str).uLin + micro (w.snap.iMax * secs w.len) +
          (if s.noWide str then 0 else micro ((4 / 10) * (windowWide s str w).2.1 / w.shunt)) ∧
        (t.metStr str).wideOvr = (!s.noWide str && (windowWide s str w).2.2)) ∧
  (∀ (s : State) (str : Nat) (count : BitVec 44) (ovr : Bool), (s.metStr str).waiting = [] → exec (.windowChargeEntry str count ovr) s = .next s)

/-- An open-wire test in its slot (R69, R74) changes no other port and no counter; a second failed one in a row declares
the port open (R71), which MET_STATUS shows with the window's update (R77); a shunt port then files a report for a converter of
its pair, and the RREF port takes the backup reference and suspends tuning (R72, R73, R93, R114). RREF_RATIO_CHECK counts seconds above 2,000 ppm and below 1,500 ppm; the tenth above files one report for the RREF
port, and the tenth below ends the condition (R82); the backup reference itself ends at a window start. -/
def Obligations.OpenPortsAndTheReference : Prop :=
  (∀ (s : State) (port : Nat), port < 8 → owSlotNow s port = true → port < s.met.ports.length →
      (∀ failed : Bool, ∃ t, exec (.openWireSlot port failed) s = .next t ∧ (t.met.ports.getD port OwPort.reset).lastFail = failed ∧
        (∀ p, p ≠ port → t.met.ports.getD p OwPort.reset = s.met.ports.getD p OwPort.reset) ∧
        (∀ n, (t.metStr n).qIn = (s.metStr n).qIn ∧ (t.metStr n).qOut = (s.metStr n).qOut)) ∧
      ((s.met.ports.getD port OwPort.reset).fails = 1 → (s.met.ports.getD port OwPort.reset).isOpen = false →
        ∃ t, exec (.openWireSlot port true) s = .next t ∧ (t.met.ports.getD port OwPort.reset).isOpen = true ∧
          (port < s.met.strs.length → (t.metStr port).owDecl = true ∧ (t.metStr port).owSticky = (s.metStr port).owSticky) ∧
          (s.retired { target := 0, index := 2 * port } = false → (t.unitDiag { target := 0, index := 2 * port }).testing = true))) ∧
  (∀ (s : State), owSlotNow s 8 = true → 8 < s.met.ports.length → s.clk.ticks < turnTick s →
      (∀ failed : Bool, ∃ t, exec (.openWireSlot 8 failed) s = .next t ∧ (t.met.ports.getD 8 OwPort.reset).lastFail = failed ∧
        (∀ p, p ≠ 8 → t.met.ports.getD p OwPort.reset = s.met.ports.getD p OwPort.reset) ∧ (∀ n, t.metStr n = s.metStr n)) ∧
      ((s.met.ports.getD 8 OwPort.reset).fails = 1 → (s.met.ports.getD 8 OwPort.reset).isOpen = false →
        ∃ t, exec (.openWireSlot 8 true) s = .next t ∧ (t.met.ports.getD 8 OwPort.reset).isOpen = true ∧ t.met.refBackup = true ∧
          (t.unitDiag rrefUnit).lastFault = true ∧
          (∀ u, u < s.tun.units.length → (t.tunUnit u).accepted = none ∧ (t.tunUnit u).done = none ∧ (isQ u = true → (t.tunUnit u).point = (s.tunUnit u).mark.point)))) ∧
  (∀ (s : State) (port : Nat) (failed : Bool), port < 8 → owSlotNow s port = false → exec (.openWireSlot port failed) s = .next s) ∧
  (∀ (s : State) (q : Rat), s.tuningRuns = true →
      (∃ t, exec (.rrefRatioCheck q) s = .next t ∧ t.tun.ratioBad = (if 2000 < ratioDeparture q then s.tun.ratioBad + 1 else 0) ∧
        t.tun.ratioGood = (if ratioDeparture q < 1500 then s.tun.ratioGood + 1 else 0) ∧ t = { s with tun := t.tun, met := t.met, diag := t.diag }) ∧
      (2000 < ratioDeparture q → s.tun.ratioBad = 9 → s.tun.ratioFiled = false →
        ∃ t, exec (.rrefRatioCheck q) s = .next t ∧ (t.unitDiag rrefUnit).testing = true ∧ t.tun.ratioFiled = true) ∧
      (ratioDeparture q < 1500 → s.tun.ratioGood = 9 → s.tun.ratioFiled = true →
        ∃ t, exec (.rrefRatioCheck q) s = .next t ∧ t.tun.ratioFiled = false ∧ t.met.refRatio = false ∧ t.met.refBackup = s.met.refBackup))

/-! ### Tuning (chapter 3) -/

/-- A tuning slot of a resting Q converter that tunes counts at the rotation's point in that unit alone, the rotation moves
on, and the thousandth completes the accumulation; one of a unit that is suspended or retired changes nothing (R91 to R94,
R113). A finished accumulation is fitted and either accepted, to take force later, with no consecutive rejection left, or
rejected with EV37 and a count; the coefficients in force do not move, and the third rejection running files a report (R95 to
R98). -/
def Obligations.TuningSlotsAndFits : Prop :=
  (∀ (s : State) (u : Nat) (v : Rat),
      (isQ u = true → s.tuning u = true → s.resting u = true → slotEnds s (s.metStr (u / 2)).owTest = true →
        (s.tunUnit u).slotTick ≠ some s.clk.ticks → (s.metStr (u / 2)).discard ≠ some u → rrefSlot s = false → u < s.tun.units.length →
        ∃ t, exec (.tuningSlotEnd u v) s = .next t ∧ t = { s with tun := t.tun } ∧ (∀ k, k ≠ u → t.tunUnit k = s.tunUnit k) ∧
          (t.tunUnit u).refined = (s.tunUnit u).refined ∧ (t.tunUnit u).inForce = (s.tunUnit u).inForce ∧
          (t.tunUnit u).point = ((s.tunUnit u).point + 1) % 5 ∧ (t.tunUnit u).slotTick = some s.clk.ticks ∧
          ((s.tunUnit u).slots + 1 < 1000 → (t.tunUnit u).slots = (s.tunUnit u).slots + 1 ∧ (t.tunUnit u).done = (s.tunUnit u).done ∧
            (t.tunUnit u).acc = (s.tunUnit u).acc.modify (s.tunUnit u).point (fun a => { n := a.n + 1, sum := a.sum + v })) ∧
          (1000 ≤ (s.tunUnit u).slots + 1 → (t.tunUnit u).slots = 0 ∧ (t.tunUnit u).acc = List.replicate 5 PointAcc.zero ∧
            ((s.tunUnit u).slots ≠ 0 →
              max (s.tunUnit u).maxT s.tun.dieT - min (s.tunUnit u).minT s.tun.dieT ≤ 200 → ∃ d, (t.tunUnit u).done = some d ∧
                d.slots = (s.tunUnit u).slots + 1 ∧ d.sumT = (s.tunUnit u).sumT + s.tun.dieT))) ∧
      (s.tuning u = false → exec (.tuningSlotEnd u v) s = .next s)) ∧
  (∀ (s : State) (u : Nat) (d : Accumulation) (c : Coef) (rej : Nat), s.tuning u = true → (s.tunUnit u).done = some d → u < s.tun.units.length →
      c = coefOfQuad (quadFit (accPoints s u d)).1 (quadFit (accPoints s u d)).2.1 (quadFit (accPoints s u d)).2.2 →
      rej = failedLimits u (s.tunUnit u) c (fitError c (accPoints s u d)) ((d.sumT : Rat) / (d.slots : Nat)) →
      (rej = 0 → ∃ t r, exec (.tuningFitDone u) s = .next t ∧ (t.tunUnit u).accepted = some r ∧ r.coef = c ∧ r.tick = s.clk.ticks ∧
        (t.tunUnit u).done = none ∧ (t.tunUnit u).rejConsec = 0 ∧ (t.tunUnit u).rejTotal = (s.tunUnit u).rejTotal ∧
        (t.tunUnit u).inForce = (s.tunUnit u).inForce ∧ (∀ k, k ≠ u → t.tunUnit k = s.tunUnit k) ∧ t.evt = s.evt) ∧
      (rej ≠ 0 → ∃ t, exec (.tuningFitDone u) s = .next t ∧ (t.tunUnit u).accepted = (s.tunUnit u).accepted ∧ (t.tunUnit u).done = none ∧
        (t.tunUnit u).rejTotal = min 0xFFFF ((s.tunUnit u).rejTotal + 1) ∧ (t.tunUnit u).rejConsec = ((s.tunUnit u).rejConsec + 1) % 3 ∧
        (t.tunUnit u).lastRej = BitVec.ofNat 4 rej ∧ (t.tunUnit u).inForce = (s.tunUnit u).inForce ∧ (∀ k, k ≠ u → t.tunUnit k = s.tunUnit k) ∧
        (s.evt.en.getLsbD 37 = true → t.evt.pend.getLsbD 37 = true) ∧
        ((s.tunUnit u).rejConsec = 2 → s.retired (tunTarget u) = false → (t.unitDiag (tunTarget u)).testing = true)))

/-- TUNE_NOW discards the accumulations of the named units and waits for a result of each; with RESET_REFINED their refined
tables are the factory's and their live corrections 0; its timeout completes the oldest one whose time is over with TIMEOUT and
the masks reached (R109 to R112). -/
def Obligations.TuneNowWaits : Prop :=
  ∀ (s : State) (sub : Submission),
    (s.live = true → s.cmdWaits 0x30 sub = false → sub.formOk [(0, 8), (8, 1)] = true → sub.noBuf = true → sub.pU 0 8 < 2 ^ 34 → sub.pU 0 8 ≠ 0 → sub.pU 8 1 < 2 →
      (maskUnits (BitVec.ofNat 64 (sub.pU 0 8))).all (fun u => !s.retired (tunTarget u)) = true → s.rrefOpen = false →
      (∀ w ∈ s.tun.waits, w.mask &&& ~~~(w.accepted ||| w.rejected) ≠ 0) →
      ∃ t, exec (.tuneNow sub) s = .next t ∧ t = { s with tun := t.tun } ∧
        (∃ w, t.tun.waits = s.tun.waits ++ [w] ∧ w.sub = sub ∧ w.mask = BitVec.ofNat 64 (sub.pU 0 8) ∧ w.accepted = 0 ∧ w.rejected = 0) ∧
        (∀ u ∈ maskUnits (BitVec.ofNat 64 (sub.pU 0 8)), u < s.tun.units.length → (t.tunUnit u).slots = 0 ∧ (t.tunUnit u).done = none ∧
          (sub.pU 8 1 = 0 → (t.tunUnit u).refined = (s.tunUnit u).refined ∧ (t.tunUnit u).live = (s.tunUnit u).live) ∧
          (sub.pU 8 1 = 1 → (t.tunUnit u).refined = (List.range 5).map (Coef.factory u) ∧ (t.tunUnit u).live = Coef.zero)) ∧
        (∀ u, u ∉ maskUnits (BitVec.ofNat 64 (sub.pU 0 8)) → t.tunUnit u = s.tunUnit u)) ∧
    (∀ w, s.tun.waits.find? (fun w => w.deadline ≤ s.clk.ticks) = some w →
      exec .tuneNowTimeout s = .next (complete 0x30 w.sub stTimeout (leBytes 8 w.accepted.toNat ++ leBytes 8 w.rejected.toNat)
        { s with tun := { s.tun with waits := s.tun.waits.erase w } })) ∧
    ((∀ w ∈ s.tun.waits, s.clk.ticks < w.deadline) → exec .tuneNowTimeout s = .next s)

/-! ### Fast converters (chapter 4) -/

/-- A round starts every 24,000 ticks from measurement start and has their number, and a regular list that SAR_SEQ_SET left
waiting takes force (R119, R125). SAR_SEQ_SET of a well-formed list waits for that; SAR_INJECT while both converters run
injected conversions makes HOST pending on the converters it names and waits (R127, R130, R133); a paired capture names its
string (R134). -/
def Obligations.SarRoundsAndLists : Prop :=
  ∀ s : State,
    (s.metering = true → (s.clk.ticks - s.frm.measStart) % 24000 = 0 → (s.sar.roundOn = false ∨ s.sar.roundStart < s.clk.ticks) →
      ∃ t, exec .sarRoundStart s = .next t ∧ t.sar.roundStart = s.clk.ticks ∧ t.sar.roundOn = true ∧
        t.sar.round = (s.clk.ticks - s.frm.measStart) / 24000 ∧
        (∀ c l, (s.conv c).newReg = some l → (t.conv c).regular = l ∧ (t.conv c).newReg = none) ∧ t.sar.queue = s.sar.queue ∧
        t = { s with sar := t.sar, hif := t.hif, evt := t.evt, hostMem := t.hostMem }) ∧
    ((s.metering = false ∨ (s.clk.ticks - s.frm.measStart) % 24000 ≠ 0) → exec .sarRoundStart s = .next s) ∧
    (∀ (sub : Submission) (buf : DmaRead), s.live = true → s.cmdWaits 0x50 sub = false → sub.formOk [(0, 1), (1, 1), (2, 1)] = true → 1 ≤ sub.pU 0 1 → sub.pU 0 1 < 4 →
      sub.pU 1 1 = 0 → sub.pU 2 1 ≤ 32 → sub.pU 2 1 ≠ 0 → sub.hasBuf (sub.bufLen == 4 * sub.pU 2 1) = true → buf.isSome = true →
      (parseSeq (bufBytes sub buf) (sub.pU 2 1)).all (seqEntryOk false) = true →
      ∃ t, exec (.sarSeqSet sub buf) s = .next t ∧ t = { s with sar := t.sar } ∧ t.sar.seqWaits = s.sar.seqWaits ++ [sub] ∧ t.sar.queue = s.sar.queue ∧
        (∀ c, c < 2 → c < s.sar.convs.length → (sub.pU 0 1).testBit c = true →
          (t.conv c).newReg = some ((parseSeq (bufBytes sub buf) (sub.pU 2 1)).map toEntry) ∧ (t.conv c).regular = (s.conv c).regular)) ∧
    (∀ sub : Submission, s.live = true → s.cmdWaits 0x51 sub = false → sub.formOk [(0, 1), (1, 1), (2, 1)] = true → sub.noBuf = true → sub.pU 0 1 < 4 → sub.pU 0 1 ≠ 0 →
      sub.pU 1 1 = 0 → sub.pU 2 1 < 8 → s.diag.retF = 0 →
      (∀ c, c < 2 → (s.conv c).busy.isSome = true ∧ (s.conv c).run.isSome = true) →
      ∃ t, exec (.sarInject sub) s = .next t ∧ t = { s with sar := t.sar } ∧
        t.sar.waits = s.sar.waits ++ [{ sub, f0 := if (sub.pU 0 1).testBit 0 then .pending else .ended,
                                        f1 := if (sub.pU 0 1).testBit 1 then .pending else .ended, pair := false, count := 0 }] ∧
        (∀ c, c < 2 → (sub.pU 0 1).testBit c = true → Trig.host ∈ (t.conv c).pend)) ∧
    (∀ sub : Submission, s.live = true → s.cmdWaits 0x51 sub = false → sub.formOk [(0, 1), (1, 1), (2, 1)] = true → sub.noBuf = true → sub.pU 0 1 = 0 →
      sub.pU 1 1 = 1 → sub.pU 2 1 < 8 → s.enabled (sub.pU 2 1) = true → s.fBoth = true → s.sar.capture = none →
      ∃ t, exec (.sarInject sub) s = .next t ∧ t.sar.pairStr = sub.pU 2 1 ∧ t.sar.capture.isSome = true ∧ t.sar.queue = s.sar.queue)

/-- The result queue (R137 to R140): a regular conversion that ends, 1 µs or in LEAN 4 µs after its start, adds its entry
while fewer than 256 wait, and is counted as dropped when the queue is full; a wide-path conversion enters its string's samples
and not the queue; a read of the queue's low word takes the oldest entry and latches its time; with the mirror on,
SMR_ENTRY_WRITE writes the oldest entry to its ring instead. -/
def Obligations.ResultQueueKeepsOrder : Prop :=
  ∀ (s : State) (c : Nat) (volts : Rat) (rail : Rail),
    ((s.conv c).busy = none → exec (.sarConversionEnd c volts rail) s = .next s) ∧
    (∀ b, (s.conv c).busy = some b → s.clk.ticks < b.start + (if b.lean then 960 else 240) → exec (.sarConversionEnd c volts rail) s = .next s) ∧
    (∀ (b : Conversion) (i l g : Nat) (v : Rat) (k : Nat × Bool × Bool), (s.conv c).busy = some b → b.use = .regular i l g →
      b.start + (if b.lean then 960 else 240) ≤ s.clk.ticks → v = (s.tunUnit (sarUnit c b.chan)).inForce.apply (rawVolts b volts) →
      k = sarCode b.chan v (railOf b.chan (rawVolts b volts) rail) →
      (s.sar.queue.length < 256 →
        ∃ t, exec (.sarConversionEnd c volts rail) s = .next t ∧ t.sar.drop = s.sar.drop ∧
          t.sar.queue = s.sar.queue ++ [{ ts32 := b.ts32, entry := i, trig := 0, nbr := (nbrOf (s.conv c) b).1, unr := k.2.2, ovr := k.2.1,
                                          inj := false, conv := c, chan := b.chan, code := k.1 }] ∧
          t = { s with sar := t.sar, hif := t.hif, evt := t.evt, hostMem := t.hostMem }) ∧
      (256 ≤ s.sar.queue.length →
        ∃ t, exec (.sarConversionEnd c volts rail) s = .next t ∧ t.sar.drop = wrap32 (s.sar.drop + 1) ∧ t.sar.queue = s.sar.queue)) ∧
    (∀ (b : Conversion) (n at_ : Nat), (s.conv c).busy = some b → b.use = .wide n at_ → b.start + (if b.lean then 960 else 240) ≤ s.clk.ticks →
      n < s.met.strs.length → (s.metStr n).snap.enabled = true → (nbrOf (s.conv c) b).1 = false →
      ∃ t x, exec (.sarConversionEnd c volts rail) s = .next t ∧ t.sar.queue = s.sar.queue ∧ (t.metStr n).wide = (s.metStr n).wide ++ [x] ∧
        x.tick = at_ ∧ x.conv = c ∧ x.raw = rawVolts b volts ∧ x.nbr = false) ∧
    (∀ e rest, s.sar.queue = e :: rest → s.sar.mirror = false → s.blockLive 0x1810 = true →
      ∃ t, exec .sarQLoRead s = .next t ∧ t.sar.queue = rest ∧ t.sar.qHi = reg32 e.ts32 ∧ t.hif.readData = readReg s 0x1810 ∧
        t = { s with sar := { s.sar with queue := rest, qHi := t.sar.qHi, dropArmed := true }, hif := { s.hif with readData := t.hif.readData } }) ∧
    (∀ e rest, s.sar.queue = e :: rest → s.sar.mirror = true → (s.ring 9).en = true → (s.ring 9).err = false → (s.ring 9).full = false →
      9 < s.hif.rings.length →
      ∃ t, exec .smrEntryWrite s = .next t ∧ t.sar.queue = rest ∧ t.ring 9 = (s.ring 9).advance ∧
        t.hostMem = Memory.write s.hostMem ((s.ring 9).base + 8 * (s.ring 9).mine) (leBytes 4 e.lo ++ leBytes 4 e.ts32) ∧
        t = { s with sar := { s.sar with queue := rest, dropArmed := true }, hif := { s.hif with rings := t.hif.rings }, hostMem := t.hostMem })

/-- Three detector samples in a row above the threshold in the direction of an enabled comparator set TRIP and ACTIVE of its
string and assert OC_TRIP_N; three below 98 % of it clear ACTIVE only, and the pin stays for a latched trip and for its 100 µs
(R147 to R150); a capture that runs already leaves PAIR_MISS (R136). Test-DAC diagnosis (R144 to R146): a channel that fails on
both converters in two diagnoses running is marked, a test DAC outside 2 mV suspends the diagnosis, and a suspended one judges
nothing. -/
def Obligations.OvercurrentAndDiagnosis : Prop :=
  (∀ (s : State) (n : Nat) (v0 v1 v2 : Rat), n < 8 →
      ((∀ v ∈ [v0, v1, v2], ∃ x, ocLevel s n (s.sar.oc.getD n OcCfg.reset) v = some x ∧ ocThreshold n (s.sar.oc.getD n OcCfg.reset) < x) →
        (s.live = true ∨ s.pwr.state = .hold) → s.sar.active.getLsbD n = false →
        ∃ t, exec (.ocTrip ⟨n, v0, v1, v2⟩) s = .next t ∧ t.sar.trip = setBit s.sar.trip n true ∧ t.sar.active = setBit s.sar.active n true ∧ t.sar.pin = true ∧
          ((s.sar.oc.getD n OcCfg.reset).pairEn = true → s.fBoth = true → s.sar.capture = none → t.sar.pairStr = n) ∧
          ((s.sar.oc.getD n OcCfg.reset).pairEn = true → s.fBoth = true → s.sar.capture.isSome = true → t.sar.pairMiss = true) ∧
          t = { s with sar := t.sar, hif := t.hif, evt := t.evt, hostMem := t.hostMem }) ∧
      ((s.sar.oc.getD n OcCfg.reset).dir = 0 → exec (.ocTrip ⟨n, v0, v1, v2⟩) s = .next s) ∧
      ((∀ v ∈ [v0, v1, v2], ∀ x, ocLevel s n (s.sar.oc.getD n OcCfg.reset) v = some x → x < ocThreshold n (s.sar.oc.getD n OcCfg.reset) * (98 / 100)) →
        ∃ t, exec (.ocRelease ⟨n, v0, v1, v2⟩) s = .next t ∧ t.sar.active = setBit s.sar.active n false ∧ t.sar.trip = s.sar.trip ∧
          t.sar.pin = (ocHeld t || s.sar.pinMin) ∧ t = { s with sar := t.sar }) ∧
      exec .ocTripNMinEnd s = .next { s with sar := { s.sar with pinMin := false, pin := ocHeld s } }) ∧
  (∀ (s : State) (a b : BitVec 40), a = s.sar.diagAcc.getD 0 0 → b = s.sar.diagAcc.getD 1 0 →
      (s.sar.tdacSeen ≠ [] → ∃ t, exec (.tdacCheck ⟨⟩) s = .next t ∧
        (t.sar.tdacOut = true ↔ ∃ e ∈ s.sar.tdacSeen, 2 / 1000 < absR (e.2 - checkVolts e.1)) ∧
        t = { s with sar := { s.sar with tdacOut := t.sar.tdacOut, tdacSeen := [] } }) ∧
      (s.sar.tdacSeen = [] → exec (.tdacCheck ⟨⟩) s = .next s) ∧
      ((s.sar.tdacOut = true ∨ s.tuningRuns = false) → exec (.tdacDiagnosis ⟨⟩ ⟨⟩) s = .next { s with sar := { s.sar with diagAcc := [0, 0] } }) ∧
      (s.sar.tdacOut = false → s.tuningRuns = true →
        ∃ t, exec (.tdacDiagnosis ⟨⟩ ⟨⟩) s = .next t ∧ t.sar.diagPrev = a &&& b ∧
          (∀ c, c < 40 → a.getLsbD c = true → b.getLsbD c = true → s.sar.diagPrev.getLsbD c = true → t.sar.diagFail.getLsbD c = true) ∧
          (∀ c, c < 40 → t.sar.diagFail.getLsbD c = (s.sar.diagFail.getLsbD c || (a.getLsbD c && b.getLsbD c && s.sar.diagPrev.getLsbD c))) ∧
          t = { s with sar := { s.sar with diagAcc := [0, 0], diagPrev := t.sar.diagPrev, diagFail := t.sar.diagFail }, diag := t.diag, evt := t.evt, nvm := t.nvm }))

/-! ### Temperature (chapter 14) -/

/-- A housekeeping period forms both sensors' results; the higher of those in range is judged, and the third period running in which it
is at or above WARN enters WARN, as does the tenth without either sensor (R453, R460, R461; log 69). A WARN interval halves the share
unless the die has cooled (R461). A clear of the peak takes the present die temperature (R467). -/
def Obligations.DieTemperatureWarns : Prop :=
  ∀ s : State,
    (∀ (l : List HkAcc) (a b : Option Int), s.live = true → s.sar.hkLatch = some l → a = dieResult l 0 s.thm.dieA → b = dieResult l 1 s.thm.dieB →
      ∃ t, exec (.housekeepingPeriodEnd ⟨⟩) s = .next t ∧ t.thm.dieA = a ∧ t.thm.dieB = b ∧ t.sar.hkLatch = none ∧
        t.thm.regA = a.getD s.thm.regA ∧ t.thm.regB = b.getD s.thm.regB ∧ t.thm.pins = judgePins s l ∧
        (∀ x, dieNow { s with thm := { s.thm with dieA := a, dieB := b } } = some x → s.thm.warn = false → s.thm.warnThr ≤ x →
          (s.thm.warnRun = 2 → t.thm.warn = true) ∧ (s.thm.warnRun < 2 → t.thm.warn = false ∧ t.thm.warnRun = s.thm.warnRun + 1)) ∧
        (∀ x, dieNow { s with thm := { s.thm with dieA := a, dieB := b } } = some x → x < s.thm.warnThr → s.thm.warn = false →
          t.thm.warn = false ∧ t.thm.warnRun = 0) ∧
        (a = none → b = none → s.thm.warn = false → s.thm.bothOut = 9 → t.thm.warn = true ∧ t.thm.warnOut = true)) ∧
    (s.sar.hkLatch = none → exec (.housekeepingPeriodEnd ⟨⟩) s = .next s) ∧
    (s.thm.warn = true → ∃ t, exec .traverseShareHalving s = .next t ∧ t.thm.warnStart = dieNow s ∧
      (∀ x x0, dieNow s = some x → s.thm.warnStart = some x0 → t.trv.halvings = if x < x0 then s.trv.halvings else min 5 (s.trv.halvings + 1)) ∧
      t = { s with thm := { s.thm with warnStart := t.thm.warnStart }, trv := { s.trv with halvings := t.trv.halvings, lanes := t.trv.lanes, turn := t.trv.turn },
                   pwr := { s.pwr with vcoreMv := t.pwr.vcoreMv, floorMv := t.pwr.floorMv }, free := t.free }) ∧
    (s.takesWrite 0x2020 = true → exec .thmDiePeakClr s = .next { s with thm := { s.thm with peak := dieNow s } })

/-! ### Rope link, sweep and balancing (chapters 5 and 6) -/

/-- The sweep of a frame begins once, 20 µs after its window closed, on every enabled rope that is not DOWN nor tying in, and
15 ms after the close its deadline ends it with no READ left (R201, R203). -/
def Obligations.SweepsBeginAndEnd : Prop :=
  ∀ s : State,
    (∀ f, s.sweepFrame = some f → s.live = true → f.closeTick + 4800 ≤ s.clk.ticks →
      ∃ t, exec .sweepStart s = .next t ∧ t.frm = { s.frm with frames := t.frm.frames } ∧
        t.frm.frames.map (·.epoch) = s.frm.frames.map (·.epoch) ∧ (∀ g ∈ t.frm.frames, g.epoch = f.epoch → g.swept = true) ∧
        (∀ n, n < 8 → n < s.rope.strs.length → s.enabled n = true → (s.ropeStr n).mode ≠ .down → (s.ropeStr n).tie = none →
          (t.ropeStr n).sweep.map (·.epoch) = some f.epoch)) ∧
    ((s.sweepFrame = none ∨ s.live = false) → exec .sweepStart s = .next s) ∧
    (∀ f, s.sweepFrame = some f → s.clk.ticks < f.closeTick + 4800 → exec .sweepStart s = .next s) ∧
    (∃ t, exec .sweepDeadline s = .next t ∧ t.frm.win = s.frm.win ∧ t.cfg = s.cfg ∧
      (∀ n w f, n < 8 → n < s.rope.strs.length → (s.ropeStr n).sweep = some w → w.done = false → f ∈ s.frm.frames → f.epoch = w.epoch →
        f.closeTick + 3600000 ≤ s.clk.ticks →
        ∃ v, (t.ropeStr n).sweep = some v ∧ v.epoch = w.epoch ∧ v.done = true ∧ v.todoN = [] ∧ v.todoF = [] ∧
          (∀ x ∈ (t.ropeStr n).inflight, x.use ≠ .sweep w.epoch)))

/-- An attempt that fails, by its timeout, a bad CRC or a BUSY, is sent again from its port, the same frame with its SEQ, and counted as a
retry while fewer than three have failed; the third failure counts, and the transaction is no longer in flight, whatever it served
(R167, R169); a frame that matches no transaction has no effect but the count of its bad CRC, one
outside 4 to 68 bytes none at all, and the RESP of a BAL makes its duties the acknowledged ones (R159, R163, R168, R192,
R222). -/
def Obligations.AttemptsRetryAndEnd : Prop :=
  ∀ (s : State) (str addr seq : Nat) (e : RopeEnd) (x : Txn),
    (findTxn s str e addr seq = some x → x.attempts < 3 → s.stops = false →
      ∃ t, exec (.ropeAttemptTimeout str e addr seq) s = .next t ∧ t = { s with rope := t.rope } ∧
        (t.ropeStr str).retryCnt = wrap32 ((s.ropeStr str).retryCnt + 1) ∧ (t.ropeStr str).failCnt = (s.ropeStr str).failCnt ∧
        { x with attempts := x.attempts + 1 } ∈ (t.ropeStr str).inflight ∧
        (s.portUp str e = true → (s.ropeStr str).silent = false →
          (match e with | .N => (t.ropeStr str).txN | .F => (t.ropeStr str).txF) = some x.frame)) ∧
    (findTxn s str e addr seq = some x → 3 ≤ x.attempts →
      ∃ t, exec (.ropeAttemptTimeout str e addr seq) s = .next t ∧ (t.ropeStr str).failCnt = wrap32 ((s.ropeStr str).failCnt + 1) ∧
        (t.ropeStr str).inflight.count x + 1 ≤ (s.ropeStr str).inflight.count x ∧
        (x.use = .bal → (t.mon str x.addr).map (·.ackFailed) = (s.mon str x.addr).map (fun _ => true))) ∧
    (findTxn s str e addr seq = none → exec (.ropeAttemptTimeout str e addr seq) s = .next s) ∧
    (∀ f : RespFrame, rxFrame f.frame = none → exec (.ropeRespReceived f) s = .next s) ∧
    (∀ (f : RespFrame) (y : RxRope), rxFrame f.frame = some y → f.str = str → f.fromEnd = e → y.addr = addr → y.seq = seq →
      (y.crcOk = true → findTxn s str e addr seq = none → exec (.ropeRespReceived f) s = .next s) ∧
      (y.crcOk = false → findTxn s str e addr seq = none →
        exec (.ropeRespReceived f) s = .next (s.modRope str (fun r => { r with crcCnt := wrap32 (r.crcCnt + 1) }))) ∧
      (y.crcOk = false → findTxn s str e addr seq = some x → x.attempts < 3 → s.stops = false →
        ∃ t, exec (.ropeRespReceived f) s = .next t ∧ t = { s with rope := t.rope } ∧
          (t.ropeStr str).crcCnt = wrap32 ((s.ropeStr str).crcCnt + 1) ∧ (t.ropeStr str).retryCnt = wrap32 ((s.ropeStr str).retryCnt + 1) ∧
          { x with attempts := x.attempts + 1 } ∈ (t.ropeStr str).inflight ∧
          (s.portUp str e = true → (s.ropeStr str).silent = false →
            (match e with | .N => (t.ropeStr str).txN | .F => (t.ropeStr str).txF) = some x.frame)) ∧
      (y.crcOk = true → y.typ = tResp → y.payload ≠ [] → fieldU y.payload 0 1 = 4 → findTxn s str e addr seq = some x → x.attempts < 3 → s.stops = false →
        ∃ t, exec (.ropeRespReceived f) s = .next t ∧ t = { s with rope := t.rope } ∧
          (t.ropeStr str).retryCnt = wrap32 ((s.ropeStr str).retryCnt + 1) ∧ { x with attempts := x.attempts + 1 } ∈ (t.ropeStr str).inflight ∧
          (s.portUp str e = true → (s.ropeStr str).silent = false →
            (match e with | .N => (t.ropeStr str).txN | .F => (t.ropeStr str).txF) = some x.frame)) ∧
      ((y.crcOk = false ∨ (y.typ = tResp ∧ y.payload ≠ [] ∧ fieldU y.payload 0 1 = 4)) → findTxn s str e addr seq = some x → 3 ≤ x.attempts →
        ∃ t, exec (.ropeRespReceived f) s = .next t ∧ (t.ropeStr str).failCnt = wrap32 ((s.ropeStr str).failCnt + 1) ∧
          (t.ropeStr str).inflight.count x + 1 ≤ (s.ropeStr str).inflight.count x) ∧
      (y.crcOk = true → y.typ = tResp → y.payload ≠ [] → fieldU y.payload 0 1 = 0 → findTxn s str e addr seq = some x → x.use = .bal →
        ∃ t, exec (.ropeRespReceived f) s = .next t ∧ (t.mon str addr).map (·.ack) = (s.mon str addr).map (·.sent) ∧
          (t.ropeStr str).failCnt = (s.ropeStr str).failCnt))

/-- The belay tone (R181 to R187, R208): sent with its counter from the ends of the mode; its return keeps the run, the mask
and the fault of its end, a fault that is new raises the string's event and the pin; what does not return is counted, and the
third in a row in RING starts the location of a break; a reach probe goes out in SPLIT, a through-probe in SPLIT and LINE,
none in RING. The SEQ of a BELAY to an anchor, the monitor that a reach probe addresses, and fault and miss counts for each end are the
model's own, log 31. -/
def Obligations.BelayToneAndProbes : Prop :=
  ∀ (s : State) (n : Nat) (r : RopeStr), n < 8 → n < s.rope.strs.length → r = s.ropeStr n →
    (s.enabled n = true → r.sounds = true →
      ∃ t, exec (.belaySend n) s = .next t ∧ t = { s with rope := t.rope } ∧ (∀ k, k ≠ n → t.ropeStr k = s.ropeStr k) ∧
        (r.mode = .ring → s.portUp n .N = true → (t.ropeStr n).belayCnt = (r.belayCnt + 1) % 65536 ∧
          (t.ropeStr n).txN = some { typ := tBelay, addr := 0, seq := r.nextSeq .N 0, payload := leBytes 2 r.belayCnt ++ zeros 5 }) ∧
        (r.mode = .split → s.portUp n .N = true → s.portUp n .F = true → (t.ropeStr n).belayCnt = (r.belayCnt + 2) % 65536 ∧
          (t.ropeStr n).txN = some { typ := tBelay, addr := r.anchorN, seq := r.nextSeq .N 0, payload := leBytes 2 r.belayCnt ++ zeros 5 } ∧
          (t.ropeStr n).txF = some { typ := tBelay, addr := r.anchorF, seq := r.nextSeq .F 0, payload := leBytes 2 ((r.belayCnt + 1) % 65536) ++ zeros 5 })) ∧
    (s.enabled n = false ∨ r.sounds = false → exec (.belaySend n) s = .next s) ∧
    (r.mode = .split → r.tie = none → r.locate = none → r.silent = false → s.live = true → r.inflight = [] → r.balTodo = [] → r.sweep = none →
      r.probeTodo = [] → r.probedN = none → r.safe = none → r.anchorN + 1 < r.anchorF → r.anchorN + 1 ≤ r.top →
      ∃ t, exec (.reachProbe n) s = .next t ∧ t = { s with rope := t.rope } ∧
        (∃ x ∈ (t.ropeStr n).inflight, x.fromEnd = .N ∧ x.addr = r.anchorN + 1 ∧ x.use = .reach) ∧
        (∀ k, k ≠ n → t.ropeStr k = s.ropeStr k)) ∧
    ((r.mode = .split ∨ r.mode = .line) → s.portUp n .N = true → s.portUp n .F = true → r.silent = false → s.enabled n = true →
      ∃ t, exec (.throughProbe n) s = .next t ∧ t = { s with rope := t.rope } ∧ (t.ropeStr n).probeOut = true ∧
        (t.ropeStr n).throughRun = (if r.probeOut then 0 else r.throughRun) ∧ (t.ropeStr n).belayCnt = (r.belayCnt + 1) % 65536 ∧
        (t.ropeStr n).txN = some { typ := tBelay, addr := 0, seq := r.nextSeq .N 0, payload := leBytes 2 r.belayCnt ++ zeros 5 }) ∧
    (r.mode = .ring → exec (.throughProbe n) s = .next s ∧ exec (.reachProbe n) s = .next s) ∧
    (∀ (b : BelayTone) (x : RxRope), b.str = n → rxFrame b.frame = some x →
      (x.crcOk = false → exec (.belayReturned b) s = .next (s.modRope n (fun r => { r with crcCnt := wrap32 (r.crcCnt + 1) }))) ∧
      (x.crcOk = true → (x.typ = tBelay ∨ x.typ = tFault) → x.payload.length = 7 → x.addr = 0 → b.port = .F →
        ((r.mode = .split ∨ r.mode = .line) → r.probeOut = true →
          ∃ t, exec (.belayReturned b) s = .next t ∧ (t.ropeStr n).probeOut = false ∧ (t.ropeStr n).throughRun = r.throughRun + 1 ∧
            t = { s with rope := t.rope }) ∧
        (∀ mask : BitVec 32, r.mode = .ring → r.silent = false → mask = BitVec.ofNat 32 (fieldU x.payload 2 4) →
          ∃ t, exec (.belayReturned b) s = .next t ∧ (t.ropeStr n).belayRun = min 3 (r.belayRun + 1) ∧ (t.ropeStr n).missN = 0 ∧
            (t.ropeStr n).fault = decide (x.typ = tFault) ∧ (t.ropeStr n).faultMask = (if x.typ = tFault then mask else 0) ∧
            t = { s with rope := t.rope, evt := t.evt } ∧ (x.typ = tBelay → t.evt = s.evt) ∧
            (x.typ = tFault → r.faultN = false →
              t.rope.toneHeld = true ∧ (t.ropeStr n).sticky = r.sticky ||| mask ∧
              (s.evt.en.getLsbD (8 + n) = true → t.evt.pend.getLsbD (8 + n) = true))))) ∧
    (∀ e : RopeEnd, ∃ t, exec (.belayNotReturned n e) s = .next t ∧ (t.ropeStr n).belayMiss = wrap32 (r.belayMiss + 1) ∧
      (t.ropeStr n).belayRun = 0 ∧ t = { s with rope := t.rope, free := t.free } ∧
      (r.mode = .ring → r.missN = 2 → e = .N → r.locate = none → r.tie = none → r.sweep = none → (t.ropeStr n).locate.isSome = true)) ∧
    exec .faultNMinEnd s = .next { s with rope := { s.rope with toneMin := false, toneHeld := s.rope.strs.any RopeStr.toned } }

/-- A tie-in goes from step to step (R173, R174): RELEASE at the other port or its timeout leads to RELEASE from F; ASSIGN
within MON_EXPECT leads to COUNT with the ring's delay; an ASSIGN lost on the first attempt starts the tie-in again. A SAFE
from N that has run its time is followed by SAFE from F (R165). -/
def Obligations.TieInSteps : Prop :=
  ∀ (s : State) (str : Nat), s.stops = false →
    (∀ x : TieIn, (s.ropeStr str).tie = some x →
      (x.step = .releaseN →
        (∀ (f : LineFrame) (y : RxRope) (d : Rat), rxFrame f = some y → y.crcOk = true → y.typ = tTie → fieldU y.payload 0 1 = 1 →
          ∃ t, exec (.tieFrameArrived str f.bytes f.extraBits d) s = .next t ∧ t = { s with rope := t.rope } ∧
            (t.ropeStr str).tie = some { x with step := .releaseF } ∧
            (s.portUp str .F = true → (s.ropeStr str).silent = false →
              (t.ropeStr str).txF = some { typ := tTie, addr := 0, seq := (s.ropeStr str).nextSeq .F 0, payload := [1] })) ∧
        (∃ t, exec (.tieFrameTimeout str) s = .next t ∧ t = { s with rope := t.rope } ∧ (t.ropeStr str).tie = some { x with step := .releaseF })) ∧
      (x.step = .assign → ∀ (f : LineFrame) (y : RxRope) (d : Rat), rxFrame f = some y → y.crcOk = true → y.typ = tTie →
        fieldU y.payload 0 1 = 2 → (fieldU y.payload 2 1).testBit 0 = false → fieldU y.payload 1 1 - 1 ≤ s.expect str →
        ∃ t, exec (.tieFrameArrived str f.bytes f.extraBits d) s = .next t ∧ t = { s with rope := t.rope } ∧
          (t.ropeStr str).tie = some { x with step := .count, n := fieldU y.payload 1 1 - 1 } ∧ (t.ropeStr str).tRing = pubU 16 (d / 50)) ∧
      (x.step = .assign → x.attempt < 2 →
        ∃ t, exec (.tieFrameTimeout str) s = .next t ∧ t = { s with rope := t.rope } ∧ (t.ropeStr str).tie = some (TieIn.start 2) ∧
          (t.ropeStr str).mons = [])) ∧
    ((s.ropeStr str).tie = none → (s.ropeStr str).safe = some .fromN → s.portUp str .F = true → (s.ropeStr str).silent = false →
      ∃ t, exec (.tieFrameTimeout str) s = .next t ∧ t = { s with rope := t.rope } ∧ (t.ropeStr str).safe = some .fromF ∧
        (t.ropeStr str).txF = some { typ := tTie, addr := 0, seq := (s.ropeStr str).nextSeq .F 0, payload := [5] })

/-- ROPE_TIE_IN starts the tie-in of every rope it names and waits for them; ROPE_RAW during a tie-in waits in its rope's
queue, and a WRITE after SEAL is answered with SEALED (R179, R190, R191, R400). -/
def Obligations.RopeCommandsWait : Prop :=
  ∀ (s : State) (sub : Submission) (buf : DmaRead), s.live = true →
    (s.cmdWaits 0x10 sub = false → sub.formOk [(0, 1)] = true → sub.noBuf = true → sub.pU 0 1 ≠ 0 → (∀ n ∈ maskStrs (sub.pU 0 1), s.enabled n = true ∧ (s.ropeStr n).tie = none) →
      ∃ t, exec (.ropeTieIn sub) s = .next t ∧ t = { s with rope := t.rope } ∧
        t.rope.tieCmds = s.rope.tieCmds ++ [(sub, BitVec.ofNat 8 (sub.pU 0 1))] ∧
        (∀ n ∈ maskStrs (sub.pU 0 1), n < s.rope.strs.length → (t.ropeStr n).tie = some (TieIn.start 1) ∧ (t.ropeStr n).mons = []) ∧
        (∀ n, n ∉ maskStrs (sub.pU 0 1) → t.ropeStr n = s.ropeStr n)) ∧
    (s.cmdWaits 0x11 sub = false → sub.formOk [(0, 1), (1, 1), (2, 1), (8, 8)] = true → sub.hasBuf true = true → sub.pU 0 1 < 8 → 1 ≤ sub.pU 2 1 → sub.pU 2 1 ≤ 32 →
      sub.pU 8 8 ≠ 0 → sub.pU 8 8 % 8 = 0 → buf.isSome = true → (s.ropeStr (sub.pU 0 1)).tie.isSome = true →
      (sub.pU 1 1 = 1 → sub.bufLen = 3 → 1 ≤ fieldU (bufBytes sub buf) 2 1 → fieldU (bufBytes sub buf) 2 1 ≤ 60 →
        exec (.ropeRaw sub buf) s = .next (s.modRope (sub.pU 0 1) (fun r => { r with rawQueue := r.rawQueue ++ [(sub, bufBytes sub buf)] }))) ∧
      (sub.pU 1 1 = 2 → s.sec.sealed = false → 3 ≤ sub.bufLen → sub.bufLen ≤ 62 → 0x80 ≤ fieldU (bufBytes sub buf) 0 1 →
        exec (.ropeRaw sub buf) s = .next (s.modRope (sub.pU 0 1) (fun r => { r with rawQueue := r.rawQueue ++ [(sub, bufBytes sub buf)] }))) ∧
      (sub.pU 1 1 = 2 → s.sec.sealed = true → 3 ≤ sub.bufLen → sub.bufLen ≤ 62 →
        exec (.ropeRaw sub buf) s = .next (complete 0x11 sub stSealed [] s)))

/-! ### Estimation and cairns (chapters 7, 8 and 10) -/

/-- The time update of a frame is done once, when its inputs are there, for every cell inside the masks of the configuration
that governs the frame; each measurement update whose pages are settled gives its cell the state and the record that its page,
its time update and the frame's current lead to, and takes it off the list that is left; a lane whose result failed its residue
check is reported, and its work replayed (R23, R27, R225, R231, R394, R499, R500). -/
def Obligations.FrameUpdatesRunOnce : Prop :=
  ∀ (s : State) (f : FrameRec), s.estFrame = some f → s.live = true →
    (∀ a : State, f.timeDone = false → frameReady s f = true → a = adoptFrame f (judgeBare f.epoch s) →
      ∃ t, exec .timeUpdateDone s = .next t ∧ t.est.todo = usedCells { a with cfg := { a.cfg with live := a.est.live, images := a.est.images } } ∧
      (∀ g ∈ t.frm.frames, g.epoch = f.epoch → g.timeDone = true) ∧ t.frm.win = s.frm.win ∧ t.hostMem = s.hostMem ∧ t.cfg = s.cfg) ∧
    ((f.timeDone = true ∨ frameReady s f = false) → exec .timeUpdateDone s = .next s) ∧
    (∀ (g : Nat) (l : List Nat), f.timeDone = true → s.est.todo.contains g = true → cellSettled s f g = true →
      ∃ t, exec (.measurementUpdateDone ⟨g, l⟩) s = .next t ∧ t.est.todo = s.est.todo.filter (· != g) ∧
        (∀ i ∈ l, s.retired { target := 3, index := i } = false → (t.unitDiag { target := 3, index := i }).testing = true) ∧ t.frm.win = s.frm.win ∧ t.hostMem = s.hostMem ∧
        t.cfg = s.cfg ∧ (s.est.lost = [] → ∀ k, k ≠ g → cellStr k ≠ cellStr g → mapGet t.est.cells k = mapGet s.est.cells k)) ∧
    (∀ (g k span : Nat) (img : Image) (a : State), f.timeDone = true → s.est.todo.contains g = true → cellSettled s f g = true →
      k ∈ s.est.todo → k ≠ g → cellStr k = cellStr g → f.epoch % 3 < s.est.staging.length → span = spanTicksOf (s.metStr (cellStr g)).frmSpan →
      a = judgeInputs (cellStr g) (cellMon g) f.epoch span { s with cfg := { s.cfg with live := s.est.live, images := s.est.images } } →
      a.strImage (cellStr g) = some img →
      ∃ t, exec (.measurementUpdateDone ⟨g, []⟩) s = .next t ∧
        t.cell g = some (updateCell a f g (frameAdvance s f) span img ((s.cell g).getD Cell.fresh)).1 ∧
        mapGet (stagingOf t f.epoch).recs g = some (updateCell a f g (frameAdvance s f) span img ((s.cell g).getD Cell.fresh)).1.record) ∧
    (∀ g, (s.est.todo.contains g = false ∨ cellSettled s f g = false) → exec (.measurementUpdateDone ⟨g, []⟩) s = .next s)

/-- A cairn begins once its frame's sweeps are over (R210), in the slot that R318's rule gives, under a setup that waited, with
BUSY in its header; it completes with
its epoch as the latest and its frame as the traverse seed (R317, R330, R334); one that is not complete at its deadline, the
close of frame k+3, is abandoned and counted under its cause (R28, R331, R510; log 43); before that nothing is, and after it none
begins or completes. How much of the body is posted by then is a free value (logs 20 and 41). ALIVE toggles while the last cairn is
younger than 2 s or three periods, but in HALT (R336, R465; log 41). -/
def Obligations.CairnsCompleteOrAreAbandoned : Prop :=
  ∀ s : State,
    (∀ f, s.cairnFrame = some f → s.cairn.writing = none → f.updated = true → sweepsOver s f = true → noSlots s.slotsNext = false → s.hif.linkUp = true → cairnLate s f = false →
      ∃ t, exec .cairnBegin s = .next t ∧ t.cairn.writing = some f.epoch ∧ t.cairn.newSlots = none ∧ t.cairn.slots = s.slotsNext ∧
        t.cairn.writeSlot = nextSlot (takeSlots s).cairn.lb (takeSlots s).cairn.lc ∧ t.cairn.lb = some t.cairn.writeSlot ∧
        t.cairn.writeAddr = s.slotsNext.getD t.cairn.writeSlot 0 ∧ t.cairn.cut = false ∧
        t.hostMem = Memory.write (Memory.write s.hostMem t.cairn.writeAddr (headerBytes (takeSlots s).draw.2 f (cairnStaging s f.epoch f.modes) true))
          (t.cairn.writeAddr + 64) ((bodyBytes (cairnStaging s f.epoch f.modes)).take (Config.bodyPosted s.free)) ∧
        t = { s with cairn := t.cairn, hostMem := t.hostMem, free := t.free }) ∧
    (∀ f k, s.hif.writesHeld = false → s.cairnFrame = some f → s.cairn.writing = some k → s.cairn.cut = false → s.hif.linkUp = true → cairnLate s f = false →
      ∃ t, exec .cairnComplete s = .next t ∧ t.cairn.latestEpoch = k ∧ t.cairn.latestSlot = some s.cairn.writeSlot ∧ t.cairn.writing = none ∧
        t.cairn.lc = some s.cairn.writeSlot ∧ t.est.seed = cairnStaging s k f.modes ∧ t.diag.supplyOut = (s.diag.supplyOut && s.pwr.state == .hold) ∧
        (s.evt.en.getLsbD 32 = true → t.evt.pend.getLsbD 32 = true) ∧
        (s.stAddr = 0 → t.hostMem = Memory.write (Memory.write (Memory.write s.hostMem (s.cairn.writeAddr + 64) (bodyBytes (cairnStaging s k f.modes)))
          (s.cairn.writeAddr + 133248) (trailerBytes k (s.cairn.header ++ bodyBytes (cairnStaging s k f.modes)))) (s.cairn.writeAddr + 8) (leBytes 8 k)) ∧
        t = { s with cairn := t.cairn, est := t.est, diag := t.diag, frm := t.frm, evt := t.evt, hif := t.hif, hostMem := t.hostMem }) ∧
    (∀ f held, s.cairnFrame = some f → cairnLate s f = true → noSlots s.slotsNext = false → s.pwr.state ≠ .hold →
      ∃ t, exec (.cairnDeadline held) s = .next t ∧ t.cairn.skipped = wrap32 (s.cairn.skipped + 1) ∧ f.epoch ∈ t.cairn.abandoned ∧
        t.diag.outSupply = (if s.diag.supplyOut then sat32 (s.diag.outSupply + 1) else s.diag.outSupply) ∧
        t.diag.outHost = (if !s.diag.supplyOut && (!s.hif.linkUp || held) then sat32 (s.diag.outHost + 1) else s.diag.outHost) ∧
        t.diag.outDev = (if !s.diag.supplyOut && s.hif.linkUp && !held then sat32 (s.diag.outDev + 1) else s.diag.outDev) ∧
        (s.evt.en.getLsbD 33 = true → t.evt.pend.getLsbD 33 = true) ∧ t.hif.writesHeld = held ∧
        t = { s with cairn := t.cairn, diag := t.diag, frm := t.frm, evt := t.evt, hif := t.hif, hostMem := t.hostMem }) ∧
    (∀ f held, s.cairnFrame = some f → cairnLate s f = false → exec (.cairnDeadline held) s = .next s) ∧
    (∀ f, s.cairnFrame = some f → cairnLate s f = true → exec .cairnBegin s = .next s ∧ exec .cairnComplete s = .next s) ∧
    (s.pwr.state = .halt → exec .aliveToggle s = .next s) ∧
    (∀ t0, s.pwr.state ≠ .halt → s.cairn.lastDone = some t0 →
      exec .aliveToggle s = .next (if s.clk.ticks - t0 ≤ max (secTicks 2) (3 * (s.frm.scheme.periodNs * 24 / 100))
        then { s with cairn := { s.cairn with alive := !s.cairn.alive } } else s)) ∧
    (s.cairn.lastDone = none → exec .aliveToggle s = .next s)

/-! ### Host rings (chapter 11) -/

/-- PERST#, a function level reset and a loss of the link clear the interface, the events and the jobs, EV35 naming those that
ran (R310), and leave started commands without a completion; the ring at HIF_RING_SEL is enabled only with both block addresses and a legal SIZE, from
index 0 and phase 1 with no error, and a ring switched off keeps nothing of its kind (R340, R344 to R346, R484). -/
def Obligations.LinkResetsAndRings : Prop :=
  ∀ s : State,
    (∀ c : Instr, c = .perst ∨ c = .functionLevelReset ∨ c = .linkDown →
      ∃ t, exec c s = .next t ∧ t.evt = { Evt.reset with pend := t.evt.pend, hot := t.evt.hot } ∧ (∀ i, i ≠ 35 → t.evt.pend.getLsbD i = false) ∧
        (t.evt.pend.getLsbD 35 = true ↔ ∃ j ∈ s.trv.jobs, j.running = true) ∧ t.hif.rings = Hif.reset.rings ∧ (∀ e ∈ t.hif.table, e.orphan = true ∧ e.started = true) ∧
        t.hif.linkUp = (if c = .functionLevelReset then s.hif.linkUp else false) ∧ t.trv.jobs = [] ∧ t.pwr.state = s.pwr.state ∧
        t = { s with hif := t.hif, evt := t.evt, sar := { s.sar with mirror := false }, cairn := { s.cairn with cut := s.cairn.writing.isSome },
                     trv := t.trv, pwr := t.pwr, free := t.free }) ∧
    exec .perstRelease s = .next { s with hif := { s.hif with perst := false, linkUp := s.pwr.started } } ∧
    (∀ (v : Reg) (n : Nat), s.hif.ringSel = n → n < 12 → n < s.hif.rings.length →
      (v.getLsbD 0 = true → (s.ring n).en = false → s.dbAddr ≠ 0 → s.stAddr ≠ 0 → 4 ≤ v.toNat / 16 % 16 → v.toNat / 16 % 16 ≤ 12 →
        ∃ t, exec (.ringEnable v) s = .next t ∧ (t.ring n).en = true ∧ (t.ring n).mine = 0 ∧ (t.ring n).theirs = 0 ∧ (t.ring n).phase = true ∧
          (t.ring n).err = false ∧ (t.ring n).errBit = false ∧ (t.ring n).size = v.toNat / 16 % 16 ∧ (∀ k, k ≠ n → t.ring k = s.ring k) ∧
          t = { s with hif := t.hif }) ∧
      (v.getLsbD 0 = true → (s.ring n).en = false → (s.dbAddr = 0 ∨ s.stAddr = 0 ∨ v.toNat / 16 % 16 < 4 ∨ 12 < v.toNat / 16 % 16) →
        ∃ t, exec (.ringEnable v) s = .next t ∧ (t.ring n).en = false ∧ t.hif.errCfg = true ∧ t = { s with hif := t.hif }) ∧
      (v.getLsbD 0 = false → (s.ring n).en = true →
        ∃ t, exec (.ringDisable v) s = .next t ∧ (t.ring n).en = false ∧ (∀ k, k ≠ n → t.ring k = s.ring k) ∧
          (n < 4 → ∀ d ∈ t.hif.dups, d.sq ≠ n) ∧ (4 ≤ n → n < 8 → ∀ e ∈ t.hif.table, e.sub.sq = n - 4 → e.orphan = true) ∧
          (n < 8 → t.hif.fetching ≠ some (n % 4)) ∧
          (n = 8 → t.evt.queue = []) ∧ (n = 9 → t.sar.mirror = false) ∧ t = { s with hif := t.hif, evt := t.evt, sar := t.sar }))

/-- The doorbell and status blocks (R347 to R351, R371): the status block is one posted write with the next heartbeat while
its address is set and the link is up; a poll reads the doorbell block while a ring is enabled; a good read gives every
enabled ring its index, an index outside the ring stops it, and a failed read sets DB_ERR. -/
def Obligations.DoorbellAndStatusBlocks : Prop :=
  ∀ s : State,
    (s.hif.writesHeld = true → exec .statusBlockTimer s = .next { s with hif := { s.hif with stWait := true } }) ∧
    (s.hif.writesHeld = false → s.stAddr ≠ 0 → s.hif.linkUp = true →
      ∃ t, exec .statusBlockTimer s = .next t ∧ t.hif.heartbeat = wrap32 (s.hif.heartbeat + 1) ∧
        t.hostMem = Memory.write s.hostMem s.stAddr (statusBytes s (wrap32 (s.hif.heartbeat + 1))) ∧
        t = { s with hif := { s.hif with heartbeat := t.hif.heartbeat, stLast := statusFields s }, hostMem := t.hostMem }) ∧
    (s.hif.writesHeld = false → s.stAddr = 0 ∨ s.hif.linkUp = false → exec .statusBlockTimer s = .next s) ∧
    (s.hif.rings.any (·.en) = true → s.hif.linkUp = true →
      ∃ t, exec .doorbellPoll s = .next t ∧ t.hif.dbBusy = true ∧
        (statusFields s = s.hif.stLast → t = { s with hif := { s.hif with dbBusy := true } })) ∧
    (s.hif.rings.any (·.en) = false → exec .doorbellPoll s = .next s) ∧
    (s.hif.dbBusy = true → exec (.doorbellReadDone none) s = .next { s with hif := { s.hif with dbBusy := false, dbErrRead := true } }) ∧
    (∀ b : List Byte, s.hif.dbBusy = true →
      ∃ t, exec (.doorbellReadDone (some b)) s = .next t ∧ t.hif.dbBusy = false ∧ t.hif.dbErrRead = false ∧
        (∀ n, n < 12 → (s.ring n).en = true → doorbellIndex b n < (s.ring n).len → (t.ring n).theirs = doorbellIndex b n ∧ (t.ring n).err = (s.ring n).err) ∧
        (∀ n, n < 12 → (s.ring n).en = true → (s.ring n).len ≤ doorbellIndex b n → (t.ring n).err = true ∧ t.hif.errDbIdx = true ∧ t.hif.dbErrIdx = true) ∧
        (∀ n, (s.ring n).en = false → t.ring n = s.ring n) ∧ t.hif.writesHeld = false ∧
        (s.hif.writesHeld = false → t = { s with hif := t.hif, evt := t.evt }) ∧ t = { s with hif := t.hif, evt := t.evt, hostMem := t.hostMem })

/-- Fetch and start (R352, R356 to R361, R371, R379): the fetch reserves a completion slot of the queue that arbitration
gives, SQ0 before the others unless one is starved; an entry without REQ_ID joins the table and the ring advances, but a
TRAVERSE_START beyond 64 stays where it is; a failed
read stops the ring; a command starts when no barrier holds it, and an unknown opcode completes with BAD_OPCODE. -/
def Obligations.FetchAndStart : Prop :=
  ∀ s : State,
    (∀ n turn left, s.hif.fetching = none → chooseSq s = some (n, turn, left) →
      ∃ t, exec .submissionFetch s = .next t ∧ t.hif.fetching = some n ∧ t.hif.reserved = s.hif.reserved.modify n (· + 1) ∧
        t.hif.rings = s.hif.rings ∧ t = { s with hif := t.hif, evt := t.evt }) ∧
    (s.hif.fetching = none → fetchable s 0 = true → (∀ n, 1 ≤ n → n ≤ 3 → s.hif.passed.getD n 0 < starve s) →
      ∃ t, exec .submissionFetch s = .next t ∧ t.hif.fetching = some 0) ∧
    (s.hif.fetching.isSome = true → exec .submissionFetch s = .next s) ∧
    (∀ n b, s.hif.fetching = some n → n < s.hif.rings.length → s.hif.writesHeld = false →
      ((parseEntry n b).2.reqId = 0 → startsHeld s (parseEntry n b).1 = false →
        ∃ t, exec (.submissionFetchDone (some b)) s = .next t ∧ t.hif.fetching = none ∧ t.ring n = (s.ring n).advance ∧
          t.hif.table = s.hif.table ++ [{ opcode := (parseEntry n b).1, sub := (parseEntry n b).2, started := false, merged := false, orphan := false }] ∧
          t = { s with hif := { s.hif with fetching := none, rings := t.hif.rings, table := t.hif.table, startHead := t.hif.startHead, stalled := t.hif.stalled }, evt := t.evt }) ∧
      (startsHeld s (parseEntry n b).1 = true →
        ∃ t, exec (.submissionFetchDone (some b)) s = .next t ∧ t.hif.fetching = none ∧ t.hif.rings = s.hif.rings ∧ t.hif.table = s.hif.table ∧
          t.hif.reserved = s.hif.reserved.modify n (· - 1) ∧ t = { s with hif := t.hif, evt := t.evt }) ∧
      (∃ t, exec (.submissionFetchDone none) s = .next t ∧ t.hif.fetching = none ∧ (t.ring n).err = true ∧ (t.ring n).errBit = true ∧ t.hif.errFetch = true ∧
        t.hif.reserved = s.hif.reserved.modify n (· - 1) ∧ t.hif.table = s.hif.table ∧ t = { s with hif := t.hif, evt := t.evt })) ∧
    (∀ sq e before, nextStart sq [] s.hif.table = some (e, before) →
      (mayStart e before = true → opcodes.contains e.opcode = true →
        exec (.commandStart sq) s = .next { s with hif := { s.hif with
          table := markStarted e s.hif.table } }) ∧
      (mayStart e before = true → opcodes.contains e.opcode = false →
        exec (.commandStart sq) s = .next (complete e.opcode e.sub stBadOpcode [] { s with hif := { s.hif with
          table := markStarted e s.hif.table } })) ∧
      (mayStart e before = false → exec (.commandStart sq) s = .next s))

/-- The oldest event entry is one posted write of its ring, and a masked event sends no message (R355, R365, R366);
a moderated vector sends what waits (R368); a write of the MSI-X structures that unmasks a vector sends the message that its PBA
bit holds, and one that leaves it masked sends nothing (R338, R369). -/
def Obligations.EventsAndMessages : Prop :=
  ∀ s : State,
    (∀ q rest, s.hif.writesHeld = false → s.evt.queue = q :: rest → (s.ring 8).en = true → (s.ring 8).err = false → (s.ring 8).full = false →
      ∃ t, exec .eventEntryWrite s = .next t ∧ t.evt = { s.evt with queue := rest } ∧ t.ring 8 = (s.ring 8).advance ∧
        t.hostMem = Memory.write s.hostMem ((s.ring 8).base + 32 * (s.ring 8).mine) (eventBytes q (eventVec s q.event) (s.ring 8).phase) ∧
        (s.evt.mask.getLsbD q.event = true → t.hif.msgs = s.hif.msgs ∧ t.hif.pba = s.hif.pba) ∧
        t = { s with evt := t.evt, hif := t.hif, hostMem := t.hostMem }) ∧
    (s.evt.queue = [] → exec .eventEntryWrite s = .next s) ∧
    (∀ v, s.hif.unsig.getD v 0 = 0 → exec (.msixModerationTimeout v) s = .next s) ∧
    (∀ v, s.hif.unsig.getD v 0 ≠ 0 → s.vecMasked v = false →
      ∃ t, exec (.msixModerationTimeout v) s = .next t ∧ t.hif.msgs = s.hif.msgs.modify v (fun n => wrap32 (n + 1)) ∧
        t.hif.unsig = s.hif.unsig.set v 0 ∧ t = { s with hif := t.hif }) ∧
    (∀ (v : Nat) (a : BitVec 64) (d : Reg) (m : Bool), v < 16 → (∀ k, k < 16 → k ≠ v → s.hif.pba.getLsbD k = true → s.hif.vecMask.getLsbD k = true) →
      ∃ t, exec (.msixVectorUnmask (.entry v a d m)) s = .next t ∧ t.hif.vecMask.getLsbD v = m ∧
        (∀ k, k ≠ v → t.hif.vecMask.getLsbD k = s.hif.vecMask.getLsbD k ∧ t.hif.pba.getLsbD k = s.hif.pba.getLsbD k) ∧
        t.hif.msgAddr = s.hif.msgAddr.set v a ∧ t.hif.msgData = s.hif.msgData.set v d ∧
        (m = false → s.hif.msixEn = true → s.hif.fnMask = false → t.hif.pba.getLsbD v = false ∧
          t.hif.msgs = (if s.hif.pba.getLsbD v then s.hif.msgs.modify v (fun n => wrap32 (n + 1)) else s.hif.msgs)) ∧
        (m = true ∨ s.hif.msixEn = false ∨ s.hif.fnMask = true → t.hif.msgs = s.hif.msgs ∧ t.hif.pba = s.hif.pba) ∧
        (v < s.hif.msgAddr.length → readBar2 t (16 * v) = a.setWidth 32 ∧ readBar2 t (16 * v + 4) = (a >>> 32).setWidth 32) ∧
        (v < s.hif.msgData.length → readBar2 t (16 * v + 8) = d) ∧
        readBar2 t (16 * v + 12) = BitVec.ofNat 32 (bit m 0) ∧ readBar2 t 0x2000 = t.hif.pba.setWidth 32 ∧ t = { s with hif := t.hif }) ∧
    (∀ e f : Bool, ∃ t, exec (.msixVectorUnmask (.control e f)) s = .next t ∧ t.hif.msixEn = e ∧ t.hif.fnMask = f ∧ t.hif.vecMask = s.hif.vecMask ∧
      (e = false ∨ f = true → t.hif.msgs = s.hif.msgs ∧ t.hif.pba = s.hif.pba) ∧
      (e = true → f = false → ∀ k, k < 16 → s.hif.vecMask.getLsbD k = false → t.hif.pba.getLsbD k = false) ∧ t = { s with hif := t.hif })

/-! ### Time and PTP (chapter 13) -/

/-- Captures and outputs (R420 to R425, R465): CAPTURE takes the whole time; PPS_OUT rises each second but in HALT and before the timebase runs (R581, log 57); an armed
unit that is reached fires, a one-shot disarms, a periodic one adds its period, and a pulse ends. -/
def Obligations.CapturesAndOutputs : Prop :=
  ∀ (s : State) (n : Nat),
    (s.takesWrite 0xC1C = true → exec .timLatchCapture s = .next { s with tim := { s.tim with lat := s.clk.time } }) ∧
    (s.pwr.state ≠ .halt → s.clk.running = true → exec .time64Second s = .next { s with tim := { s.tim with ppsOut := true } }) ∧
    (s.pwr.state = .halt ∨ s.clk.running = false → exec .time64Second s = .next s) ∧
    exec .ppsOutPulseEnd s = .next { s with tim := { s.tim with ppsOut := false } } ∧
    ((s.cmp n).en = true → n < 4 → s.pwr.state ≠ .halt → tsReached s.ts32 (s.cmp n).target.toNat = true →
      ∃ t, exec (.cmpFire n) s = .next t ∧ t.tim = { s.tim with cmps := s.tim.cmps.set n ((s.cmp n).fire s.ts32 s.clk.ticks) } ∧
        ((s.cmp n).inj = false → t = { s with tim := t.tim }) ∧
        t = { s with tim := t.tim, sar := t.sar, hif := t.hif, evt := t.evt, hostMem := t.hostMem }) ∧
    ((s.cmp n).en = false ∨ tsReached s.ts32 (s.cmp n).target.toNat = false → exec (.cmpFire n) s = .next s) ∧
    ((s.cmp n).period = 0 → ((s.cmp n).fire s.ts32 s.clk.ticks).en = false ∧ ((s.cmp n).fire s.ts32 s.clk.ticks).target = (s.cmp n).target) ∧
    ((s.cmp n).period ≠ 0 → (s.cmp n).stepped = false →
      ((s.cmp n).fire s.ts32 s.clk.ticks).en = true ∧ ((s.cmp n).fire s.ts32 s.clk.ticks).target = (s.cmp n).target + (s.cmp n).period) ∧
    exec (.trigOutPulseEnd n) s = .next { s with tim := { s.tim with cmps := s.tim.cmps.modify n (fun u => { u with active := false }) } }

/-- Steering of TIME64 (R413, R418, R426, R429 to R431, R441 to R443): crystal compensation outside LOCKED, the end of a
slew, the losses of PPS and of the host servo, an edge that SET_AT_PPS waits for, and TIME_SET of each mode. That every SET_AT_PPS
which waits completes at the edge, the one started last giving the time, and that IN_DELAY is added to its VALUE, is log 44. -/
def Obligations.TimeIsSteered : Prop :=
  ∀ s : State,
    (s.tim.state = .locked → exec .xoCorrectionUpdate s = .next s) ∧
    (s.tim.state = .free → ∃ t, exec .xoCorrectionUpdate s = .next t ∧ t.tim.freq = -(xoError s.cfg.live.glob.xo s.tun.dieT) ∧
      t.clk.inc = timInc (t.tim.freq + (s.tim.slewRate : Rat)) ∧ t = { s with clk := { s.clk with inc := t.clk.inc }, tim := { s.tim with freq := t.tim.freq } }) ∧
    (s.tim.state = .hold → ∃ t, exec .xoCorrectionUpdate s = .next t ∧
      t.tim.freq = s.tim.holdFreq - (xoError s.cfg.live.glob.xo s.tun.dieT - xoError s.cfg.live.glob.xo s.tim.holdT) ∧
      t.clk.inc = timInc (t.tim.freq + (s.tim.slewRate : Rat))) ∧
    (∃ t, exec .slewEnd s = .next t ∧ t.tim.slewRate = 0 ∧ t.tim.slew = 0 ∧ t.clk.inc = timInc s.tim.freq ∧ t.clk.time = s.clk.time) ∧
    (s.timeSrc = 2 → ∃ t, exec .ppsLoss s = .next t ∧ t.tim.ppsLock = false ∧ (s.tim.state = .locked → t.tim.state = .hold) ∧
      (s.tim.state ≠ .locked → t.tim.state = s.tim.state)) ∧
    (s.timeSrc ≠ 2 → exec .ppsLoss s = .next s) ∧
    (s.timeSrc = 1 → s.tim.state = .locked → ∃ t, exec .hostServoTimeout s = .next t ∧ t.tim.state = .hold ∧ t.tim.holdTick = s.clk.ticks ∧
      t.tim.slewRate = 0) ∧
    (s.timeSrc ≠ 1 → exec .hostServoTimeout s = .next s) ∧
    (s.pwr.state ≠ .halt → s.tim.setAtPps = [] → s.timeSrc ≠ 2 →
      exec .ppsInEdge s = .next { s with tim := { s.tim with ppsStamp := BitVec.ofNat 64 (edgeTime s) } }) ∧
    (∀ e, s.pwr.state ≠ .halt → s.tim.setAtPps.getLast? = some e →
      ∃ t, exec .ppsInEdge s = .next t ∧ t.tim.setAtPps = [] ∧ t.tim.ppsSet = true ∧ t.tim.ppsStamp = BitVec.ofNat 64 (edgeTime s) ∧
        t.clk.time = (s.setTime ((e.2 : Int) + s.tim.inDelay) false).clk.time) ∧
    (∀ e r, s.tim.setAtPps = e :: r → exec .setAtPpsTimeout s = .next (complete 0x48 e.1 stTimeout [] { s with tim := { s.tim with setAtPps := r } })) ∧
    (∀ sub : Submission, s.live = true → s.cmdWaits 0x48 sub = false → sub.formOk [(0, 1), (8, 8), (16, 4)] = true → sub.noBuf = true →
      (sub.pU 0 1 = 0 → s.timeSrc = 1 ∨ s.timeSrc = 2 →
        exec (.timeSet sub) s = .next { s with tim := { s.tim with setAtPps := s.tim.setAtPps ++ [(sub, sub.pU 8 8)] } }) ∧
      (sub.pU 0 1 = 1 → s.timeSrc = 1 ∨ s.timeSrc = 3 →
        ∃ t, exec (.timeSet sub) s = .next t ∧ t.clk.time = (s.setTime (sub.pU 8 8 : Nat) false).clk.time ∧
          t.frm.reanchors.length = s.frm.reanchors.length + 1) ∧
      (sub.pU 0 1 = 2 → s.timeSrc = 1 → sub.pS 8 8 ≠ 0 →
        ∃ t, exec (.timeSet sub) s = .next t ∧ t.clk.time = (s.setTime ((s.now : Int) + sub.pS 8 8) true).clk.time ∧
          t.frm.reanchors.length = s.frm.reanchors.length + 1) ∧
      (sub.pU 0 1 = 3 → s.timeSrc = 1 → (sub.pS 8 8).natAbs ≤ 10000000 →
        ∃ t, exec (.timeSet sub) s = .next t ∧ t.tim.slew = sub.pS 8 8 ∧ t.tim.slewRate = (sub.pS 8 8).sign * 50000000 ∧ t.clk.time = s.clk.time ∧
          t.frm.reanchors = s.frm.reanchors) ∧
      (sub.pU 0 1 = 4 → s.timeSrc = 1 → (sub.pS 16 4).natAbs ≤ 100000000 →
        ∃ t, exec (.timeSet sub) s = .next t ∧ t.tim.freq = ((sub.pS 16 4 : Int) : Rat) ∧ t.clk.inc = timInc (t.tim.freq + (s.tim.slewRate : Rat)) ∧
          t.clk.time = s.clk.time) ∧
      (s.timeSrc = 0 → sub.pU 0 1 ≤ 2 → exec (.timeSet sub) s = .next (complete 0x48 sub stBadState [] s)))

/-- PTP measurements (R432 to R439): a Sync or its Follow_Up from the domain's master counts once, one at an
interval that is not supported not at all (log 48); the eighth good one in a row locks the domain, which takes a lead that is
free, A before B on one tick (R435; log 47); the first path
delay is taken as it is, a later one inside PD_STEP is filtered, the second outlier running freezes the domain; the end of the
freeze judges the new path against the other domain, or, where that one is not LOCKED, makes the time suspect (R438, R439; that
of two frozen domains the one that does not lead becomes ASYM, R448, and one whose device is FREE too, is log 47); 60 s of a stable path
lock the domain again; without PTP no message changes anything. The filters are free values of Config (log 19), the
delay formulas themselves IEEE 1588's (log 48). -/
def Obligations.PtpMeasurements : Prop :=
  ∀ (s : State) (d : Nat), d < 2 →
    (∀ m : PtpSync, s.slaveOf m.head = some d → (m.logSync < -4 ∨ 1 < m.logSync) → exec (.ptpSyncReceived m) s = .next s) ∧
    (∀ m : PtpSync, s.slaveOf m.head = some d → -4 ≤ m.logSync → m.logSync ≤ 1 →
      (m.twoStep = true → ∃ t, exec (.ptpSyncReceived m) s = .next t ∧
        (t.dom d).waitSync = some (m.head.seqId, m.rxNs - (s.port (s.domPort d)).latRx) ∧ (t.dom d).syncCnt = (s.dom d).syncCnt ∧ t = { s with ptp := t.ptp }) ∧
      (m.twoStep = false → ∀ o : Int, o = syncOffset ((s.dom d).path.getD 0) (m.rxNs - (s.port (s.domPort d)).latRx) m.originNs →
        ∃ t, exec (.ptpSyncReceived m) s = .next t ∧ (t.dom d).syncCnt = wrap32 ((s.dom d).syncCnt + 1) ∧
        (t.dom d).logSync = m.logSync ∧ ((s.dom d).state = .frozen → (t.dom d).offset = (s.dom d).offset ∧ t = { s with ptp := t.ptp }) ∧
        ((s.dom d).state = .acquiring → (s.dom d).goodSyncs < 7 → t = { s with ptp := t.ptp } ∧ (t.dom d).offset = o) ∧
        ((s.dom d).state = .acquiring → (s.dom d).goodSyncs = 7 → (Config.ptpResidual (s.dom d).offset o (Config.ptpFreq (s.dom d).freq o)).natAbs ≤ 1000 →
          (t.dom d).state = .locked ∧
          ((s.tim.lead = none ∨ (d = 0 ∧ s.tim.lead = some 1 ∧ ∃ x, s.tim.tookLead = some (s.clk.ticks, x))) →
            t.tim.lead = some d ∧ t.tim.state = .locked ∧ t.tim.suspect = false) ∧
          (s.tim.lead = none → o.natAbs ≤ 10000 → t.clk.time = s.clk.time) ∧
          (s.tim.lead = none → 10000 < o.natAbs → t.clk.time = (s.setTime ((s.now : Int) + o) true).clk.time)))) ∧
    (∀ (h : PtpHead) (rx o c : Int), s.slaveOf h = some d → (s.dom d).waitSync = some (h.seqId, rx) →
      ∃ t, exec (.ptpFollowUpReceived h o c) s = .next t ∧ (t.dom d).syncCnt = wrap32 ((s.dom d).syncCnt + 1) ∧ (t.dom d).waitSync = none ∧
        (t.dom d).sync = some (rx, o + c)) ∧
    (∀ (h : PtpHead) (tx rx o recv x : Int), s.slaveOf h = some d → (s.dom d).reqTx = some (h.seqId, tx) → (s.dom d).sync = some (rx, o) →
      (s.dom d).p2p = false → (s.dom d).state ≠ .frozen → x = half ((rx - o) + (recv - tx)) →
      ((s.dom d).path = none → ∃ t, exec (.ptpDelayRespReceived h recv) s = .next t ∧ (t.dom d).path = some x ∧ (t.dom d).reqTx = none ∧ t = { s with ptp := t.ptp }) ∧
      (∀ p, (s.dom d).path = some p → (x - p).natAbs ≤ s.ptp.pdStep →
        ∃ t, exec (.ptpDelayRespReceived h recv) s = .next t ∧ (t.dom d).path = some (Config.ptpPath p x) ∧ (t.dom d).outliers = 0 ∧ t = { s with ptp := t.ptp }) ∧
      (∀ p, (s.dom d).path = some p → s.ptp.pdStep < (x - p).natAbs → (s.dom d).outliers = 0 →
        ∃ t, exec (.ptpDelayRespReceived h recv) s = .next t ∧ (t.dom d).path = some p ∧ (t.dom d).outliers = 1 ∧ (t.dom d).state = (s.dom d).state) ∧
      (∀ p, (s.dom d).path = some p → s.ptp.pdStep < (x - p).natAbs → (s.dom d).outliers = 1 →
        ∃ t, exec (.ptpDelayRespReceived h recv) s = .next t ∧ (t.dom d).state = .frozen ∧ (t.dom d).path = some p ∧ (t.dom d).newPath = some x ∧
          (s.evt.en.getLsbD 41 = true → t.evt.pend.getLsbD 41 = true))) ∧
    (∀ (h : PtpHead) (tx rx recv corr round o c : Int), s.peerOf h = some d → (s.dom d).reqTx = some (h.seqId, tx) → (s.dom d).state ≠ .frozen →
      round = rx - (s.port (s.domPort d)).latRx - tx - corr →
      (∃ t, exec (.ptpPdelayRespReceived h true rx recv corr) s = .next t ∧ (t.dom d).waitPd = some (h.seqId, round + recv) ∧ t = { s with ptp := t.ptp }) ∧
      ((s.dom d).path = none →
        ∃ t, exec (.ptpPdelayRespReceived h false rx recv corr) s = .next t ∧ (t.dom d).path = some (half round) ∧ (t.dom d).reqTx = none ∧ t = { s with ptp := t.ptp }) ∧
      ((s.dom d).path = none → (s.dom d).waitPd = some (h.seqId, round) →
        ∃ t, exec (.ptpPdelayRespFollowUpReceived h o c) s = .next t ∧ (t.dom d).path = some (half (round - o - c)) ∧ (t.dom d).waitPd = none)) ∧
    (∀ p : Int, s.ptpOn = true → (s.dom d).state = .frozen → p = (s.dom d).newPath.getD ((s.dom d).path.getD 0) →
      ((s.dom d).stab = none →
        ((s.dom (otherDom d)).state = .locked →
          (((s.dom d).offsetWith p - (s.dom (otherDom d)).offset - (s.dom d).d0).natAbs ≤ 1000 → s.tie d = none → s.tim.lead = some (otherDom d) →
            ∃ t, exec (.ptpFreezeEnd d ⟨⟩ ⟨⟩) s = .next t ∧ (t.dom d).state = .locked ∧ (t.dom d).path = some p ∧ (t.dom d).offset = (s.dom d).offsetWith p ∧
              t = { s with ptp := t.ptp }) ∧
          (1000 < ((s.dom d).offsetWith p - (s.dom (otherDom d)).offset - (s.dom d).d0).natAbs →
            ∃ t, exec (.ptpFreezeEnd d ⟨⟩ ⟨⟩) s = .next t ∧ (t.dom d).state = .asym ∧ (t.dom d).path = some p ∧ (t.dom d).offset = (s.dom d).offsetWith p ∧
              (s.tim.lead ≠ some d → t = { s with ptp := t.ptp }) ∧
              (s.tim.lead = some d → t.tim.lead = some (otherDom d) ∧ t.tim.state = .locked ∧ t.clk.time = s.clk.time ∧
                (s.evt.en.getLsbD 40 = true → t.evt.pend.getLsbD 40 = true)))) ∧
        ((s.dom (otherDom d)).state ≠ .locked →
          (s.tim.state = .free ∨ ((s.dom (otherDom d)).state = .frozen ∧ s.tim.lead = some (otherDom d)) →
            ∃ t, exec (.ptpFreezeEnd d ⟨⟩ ⟨⟩) s = .next t ∧ (t.dom d).state = .asym ∧ (t.dom d).offset = (s.dom d).offsetWith p ∧ (t.dom d).path = some p ∧
              t = { s with ptp := t.ptp }) ∧
          (s.tim.state ≠ .free → ¬((s.dom (otherDom d)).state = .frozen ∧ s.tim.lead = some (otherDom d)) →
            ∃ t, exec (.ptpFreezeEnd d ⟨⟩ ⟨⟩) s = .next t ∧ t.tim.suspect = true ∧ t.tim.state = .hold ∧ (t.dom d).state = .frozen ∧
              (t.dom d).stab.isSome = true ∧ (s.evt.en.getLsbD 42 = true → t.evt.pend.getLsbD 42 = true)))) ∧
      ((s.dom d).stab.isSome = true → exec (.ptpFreezeEnd d ⟨⟩ ⟨⟩) s = .next s)) ∧
    ((s.dom d).state ≠ .frozen → exec (.ptpFreezeEnd d ⟨⟩ ⟨⟩) s = .next s) ∧
    (s.ptpOn = true → s.pathStable d = true → (s.dom d).state = .asym → s.tim.lead = some (otherDom d) → s.tie d = none →
      ∃ t, exec (.ptpPathDelayStable d ⟨⟩ ⟨⟩) s = .next t ∧ (t.dom d).state = .locked ∧ (t.dom d).path = (s.dom d).path ∧
        (t.dom d).offset = (s.dom d).offset ∧ t = { s with ptp := t.ptp }) ∧
    (∀ p : Int, s.ptpOn = true → s.pathStable d = true → (s.dom d).state = .frozen → p = (s.dom d).newPath.getD ((s.dom d).path.getD 0) →
      s.tim.suspect = true → (s.tim.lead = none ∨ s.tim.lead = some d) →
      ∃ t, exec (.ptpPathDelayStable d ⟨⟩ ⟨⟩) s = .next t ∧ (t.dom d).state = .locked ∧ (t.dom d).path = some p ∧ (t.dom d).offset = (s.dom d).offsetWith p ∧
        t.tim.lead = some d ∧ t.tim.state = .locked ∧ t.tim.suspect = false ∧ t.clk.time = s.clk.time) ∧
    (s.pathStable d = false → exec (.ptpPathDelayStable d ⟨⟩ ⟨⟩) s = .next s) ∧
    (s.ptpOn = false → ∀ (m : PtpSync) (a : PtpAnnounce) (h : PtpHead) (x y z : Int) (b : Bool) (w : PdelayStamps),
      exec (.ptpSyncReceived m) s = .next s ∧ exec (.ptpFollowUpReceived h x y) s = .next s ∧ exec (.ptpDelayRespReceived h x) s = .next s ∧
      exec (.ptpPdelayRespReceived h b x y z) s = .next s ∧ exec (.ptpPdelayRespFollowUpReceived h x y) s = .next s ∧ exec (.ptpPdelayReqReceived h w) s = .next s ∧
      exec (.ptpAnnounceReceived a) s = .next s ∧ exec (.ptpSyncTimeout d) s = .next s ∧ exec (.ptpDelayReqSend ⟨d, x⟩) s = .next s)

/-- Masters and messages (R432, R433, R436): an Announce joins the senders of the domain that hears it and the best becomes the
master; a sender that falls silent leaves; three intervals without Sync end the lock of a domain, an ASYM one staying so (log 47), and if
it led, the other LOCKED domain leads at once with EV40, or, where its Syncs have stopped too, the device holds with no EV40
(R436, R448; log 47); requests go out with their sequence number
and their stamped egress on a port whose link has started (R581), Pdelay_Req and ARP requests are answered, UDP ones under a PTP_IPV4
(R447), and a discarded frame changes nothing. The order of masters and the bodies of the answers are IEEE 1588's (log 48). -/
def Obligations.PtpMastersAndMessages : Prop :=
  ∀ (s : State) (d p : Nat), d < 2 →
    (∀ m : PtpAnnounce, s.domOf m.head = some d → d < s.ptp.doms.length →
      ∃ t, exec (.ptpAnnounceReceived m) s = .next t ∧
        (t.dom d).masters = (s.dom d).masters.filter (fun k => k.id != m.head.sender) ++ [masterOf m] ∧
        (t.dom d).master = bestMaster ((s.dom d).masters.filter (fun k => k.id != m.head.sender) ++ [masterOf m]) ∧
        ((s.dom d).master = none → (s.dom d).state = .listening → (t.dom d).state = .acquiring)) ∧
    (∀ m : PtpAnnounce, s.domOf m.head = none → exec (.ptpAnnounceReceived m) s = .next s) ∧
    (∀ m, s.ptpOn = true → (s.dom d).master = some m →
      ∃ t, exec (.ptpAnnounceTimeout d) s = .next t ∧ (t.dom d).masters = (s.dom d).masters.filter (fun k => k.id != m.id) ∧
        (t.dom d).master = bestMaster ((s.dom d).masters.filter (fun k => k.id != m.id))) ∧
    (s.ptpOn = true → (s.dom d).tracking = true →
      ∃ t, exec (.ptpSyncTimeout d) s = .next t ∧ (t.dom d).state = (if (s.dom d).state = .asym ∧ (s.dom d).path.isSome = true then .asym else if (s.dom d).master.isSome then .acquiring else .listening) ∧
        (t.dom d).goodSyncs = 0 ∧ (s.tim.lead ≠ some d → t = { s with ptp := t.ptp }) ∧
        (s.tim.lead = some d → (s.dom (otherDom d)).state = .locked → s.syncsGone (otherDom d) = false →
          t.tim.lead = some (otherDom d) ∧ t.tim.state = .locked ∧ t.clk.time = s.clk.time ∧ (s.evt.en.getLsbD 40 = true → t.evt.pend.getLsbD 40 = true)) ∧
        (s.tim.lead = some d → s.tim.state = .locked → ((s.dom (otherDom d)).state ≠ .locked ∨ s.syncsGone (otherDom d) = true) →
          t.tim.lead = none ∧ t.tim.state = .hold ∧ t.evt.pend.getLsbD 40 = s.evt.pend.getLsbD 40 ∧
          (s.evt.en.getLsbD 42 = true → t.evt.pend.getLsbD 42 = true))) ∧
    (∀ tx : Int, s.ptpOn = true → (s.dom d).tracking = true → s.domCarried d = true → s.domPort d < s.ptp.ports.length →
      ∃ t, exec (.ptpDelayReqSend ⟨d, tx⟩) s = .next t ∧ (t.dom d).seqTx = ((s.dom d).seqTx + 1) % two16 ∧
        (t.dom d).reqTx = some ((s.dom d).seqTx, tx + (s.port (s.domPort d)).latTx) ∧
        (t.port (s.domPort d)).lastTx = (if s.rmiiUp (s.domPort d) then
          [{ kind := if (s.dom d).p2p then 2 else 1, dest := ptpDest (s.dom d).udp (s.dom d).p2p true, body := leBytes 2 (s.dom d).seqTx }] else []) ∧
        t = { s with ptp := t.ptp }) ∧
    (∀ (h : PtpHead) (w : PdelayStamps), s.ptpOn = true → s.domEnabled d = true → s.domPort d = h.port → (s.dom d).p2p = true → s.domCarried d = true →
      h.port < s.ptp.ports.length → (h.udp = false ∨ (s.port h.port).ipv4 ≠ 0) →
      ∃ t, exec (.ptpPdelayReqReceived h w) s = .next t ∧ t = { s with ptp := t.ptp } ∧
        (t.port h.port).lastTx = (if s.rmiiUp h.port then
          [{ kind := 3, dest := ptpDest h.udp true true, body := leBytes 2 h.seqId ++ sBytes 8 (w.rxNs - (s.port h.port).latRx) },
           { kind := 5, dest := ptpDest h.udp true false, body := leBytes 2 h.seqId ++ sBytes 8 (w.txNs + (s.port h.port).latTx) }] else [])) ∧
    (∀ (h : PtpHead) (w : PdelayStamps), h.udp = true → (s.port h.port).ipv4 = 0 → exec (.ptpPdelayReqReceived h w) s = .next s) ∧
    (s.live = true → p < 2 → p < s.ptp.ports.length → (s.port p).ipv4.toNat ≠ 0 →
      ∃ t, exec (.arpRequestReceived p (s.port p).ipv4.toNat) s = .next t ∧
        (t.port p).lastTx = (if s.rmiiUp p then [{ kind := 0, dest := .inFrame, body := leBytes 4 (s.port p).ipv4.toNat }] else []) ∧ t = { s with ptp := t.ptp }) ∧
    (∀ a, (s.port p).ipv4.toNat ≠ a → exec (.arpRequestReceived p a) s = .next s) ∧
    exec (.ethernetFrameDiscarded p) s = .next s

/-- Frames of the host and the PTP registers (R371, R436, R442, R444 to R448): a received frame is written before its entry;
a PTX entry of 14 to 256 bytes leaves as one frame with its check sequence, any other as none, and a failed read stops the ring;
the stamp of a frame that asked for one joins its port's queue of sixteen under that frame's TAG; one that finds sixteen waits for a
TAG read on its tick, after whose pop it is queued, and is counted and dropped as the tick ends (log 50); a read of an empty queue leaves the
latched time (log 50); MDIO holds one access of each port, whose fields a write replaces though GO stays (R552; log 63);
writes of PTP_CTRL, PORT_MAP 3 aside (log 49), and of PTP_DOM_CFG take their fields, and SAVE keeps them at once in RUN and LEAN (log 55). -/
def Obligations.FramesStampsAndPtpRegisters : Prop :=
  ∀ (s : State) (p : Nat),
    (∀ f : RxFrame, f.port < 2 → s.timeSrc = 1 → s.pwr.state ≠ .hold → s.pwr.state ≠ .halt → (s.ring 11).en = true → (s.ring 11).err = false →
      (s.ring 11).full = false →
      ∃ t, exec (.prxFrameReceived f) s = .next t ∧ t.ring 11 = (s.ring 11).advance ∧
        t.hostMem = Memory.write (Memory.write s.hostMem (s.ptp.prxHi.toNat * two32 + s.ptp.prxLo.toNat + 256 * (s.ring 11).mine) (f.bytes.take 256))
          ((s.ring 11).base + 32 * (s.ring 11).mine) (prxEntry f (f.rxNs - (s.port f.port).latRx) (s.ring 11).phase) ∧
        t = { s with hif := { s.hif with rings := t.hif.rings }, evt := t.evt, hostMem := t.hostMem }) ∧
    (∀ f : RxFrame, (s.ring 11).en = false → exec (.prxFrameReceived f) s = .next s) ∧
    (∀ b : List Byte, (s.ring 10).en = true → (s.ring 10).err = false → (s.ring 10).mine ≠ (s.ring 10).theirs → 14 ≤ fieldU b 8 2 → fieldU b 8 2 ≤ 256 →
      fieldU b 10 1 < 2 → fieldU b 10 1 < s.ptp.ports.length → s.pwr.state ≠ .hold → s.pwr.state ≠ .halt →
      ∃ t, exec (.ptxFetch (some b)) s = .next t ∧ t.ring 10 = (s.ring 10).advance ∧
        (t.port (fieldU b 10 1)).lastTx =
          (if s.rmiiUp (fieldU b 10 1) then [{ kind := 4, dest := .inFrame, body := ptxFrame (fieldU b 8 2) (b.drop 32) }] else []) ∧
        (t.port (fieldU b 10 1)).stampFor = (s.port (fieldU b 10 1)).stampFor ++ (if fieldU b 11 1 % 2 = 1 then [fieldU b 12 4] else []) ∧
        t = { s with hif := { s.hif with rings := t.hif.rings }, ptp := t.ptp }) ∧
    (∀ b : List Byte, (s.ring 10).en = true → (s.ring 10).err = false → (s.ring 10).mine ≠ (s.ring 10).theirs →
      (fieldU b 8 2 < 14 ∨ 256 < fieldU b 8 2 ∨ 2 ≤ fieldU b 10 1) → exec (.ptxFetch (some b)) s = .next (s.modRing 10 Ring.advance)) ∧
    ((s.ring 10).en = true → (s.ring 10).err = false → (s.ring 10).mine ≠ (s.ring 10).theirs →
      ∃ t, exec (.ptxFetch none) s = .next t ∧ (t.ring 10).err = true ∧ t.hif.errFetch = true ∧ t = { s with hif := t.hif }) ∧
    (∀ (tag : Nat) (r : List Nat) (ns : Int), (s.port p).stampFor = tag :: r →
      ((s.port p).queue.length < 16 → (s.port p).late = none → ∃ t, exec (.ptpFrameTransmitted p ⟨⟩ ns) s = .next t ∧ (t.port p).stampFor = r ∧
        (t.port p).queue = (s.port p).queue ++ [{ tag, time := toU 64 (ns + (s.port p).latTx), port := p, tick := s.clk.ticks }] ∧
        (t.port p).ovf = (s.port p).ovf ∧ (s.evt.en.getLsbD 44 = true → t.evt.pend.getLsbD 44 = true) ∧ t = { s with ptp := t.ptp, evt := t.evt }) ∧
      (16 ≤ (s.port p).queue.length → ∃ t, exec (.ptpFrameTransmitted p ⟨⟩ ns) s = .next t ∧ (t.port p).stampFor = r ∧
        (t.port p).queue = (s.port p).queue ∧
        (t.port p).late = some { tag, time := toU 64 (ns + (s.port p).latTx), port := p, tick := s.clk.ticks } ∧
        (t.port p).ovf = (if (s.port p).late.isSome then wrap32 ((s.port p).ovf + 1) else (s.port p).ovf) ∧ t = { s with ptp := t.ptp, evt := t.evt })) ∧
    (p < 2 → s.pending = [] → (s.port p).late.isSome = true →
      ∃ t, step s = .next t ∧ (t.port p).late = none ∧ (t.port p).ovf = wrap32 ((s.port p).ovf + 1) ∧ (t.port p).queue = (s.port p).queue ∧
        ((s.port p).ovfArmed = true → s.evt.en.getLsbD 43 = true → t.evt.pend.getLsbD 43 = true)) ∧
    (∀ ns : Int, (s.port p).stampFor = [] → exec (.ptpFrameTransmitted p ⟨⟩ ns) s = .next s) ∧
    (∀ e r, s.blockLive 0x1064 = true → (s.port s.ptp.txSel).queue = e :: r → (∀ x ∈ e :: r, x.tick ≠ s.clk.ticks) →
      ∃ t, exec .ptpTxtsTagRead s = .next t ∧ t.hif.readData = BitVec.ofNat 32 e.tag ∧ (t.port s.ptp.txSel).queue = r ++ (s.port s.ptp.txSel).late.toList ∧
        t.ptp.txLo = BitVec.ofNat 32 e.time ∧ t.ptp.txHi = BitVec.ofNat 32 (e.time / two32) ∧ (t.port s.ptp.txSel).late = none ∧
        (t.port s.ptp.txSel).ovf = (s.port s.ptp.txSel).ovf ∧
        t = { s with ptp := t.ptp, evt := t.evt, hif := { s.hif with readData := t.hif.readData } }) ∧
    ((s.port s.ptp.txSel).queue = [] → s.blockLive 0x1064 = true →
      exec .ptpTxtsTagRead s = .next { s with ptp := { s.ptp with txInfo := 0 }, hif := { s.hif with readData := 0 } }) ∧
    (∀ v : Reg, s.takesWrite 0x1058 = true → s.ptp.portSel < s.ptp.ports.length →
      ∃ t, exec (.ptpMdioGo v) s = .next t ∧ (t.port s.ptp.portSel).mdioGo = ((s.port s.ptp.portSel).mdioGo || v.getLsbD 31) ∧
        (t.port s.ptp.portSel).mdio = v &&& 0x7E1FFFFF#32 ∧
        (t.port s.ptp.portSel).mdioWr = (if (s.port s.ptp.portSel).mdioGo then (s.port s.ptp.portSel).mdioWr else v.getLsbD 30) ∧
        (∀ k, k ≠ s.ptp.portSel → t.port k = s.port k) ∧ t = { s with ptp := t.ptp }) ∧
    (∀ v : Reg, s.takesWrite 0x1058 = false → exec (.ptpMdioGo v) s = .next s) ∧
    (∀ x : MdioAnswer, (s.port x.port).mdioGo = true → ∃ t, exec (.mdioAccessDone x) s = .next t ∧ (t.port x.port).mdioGo = false ∧
      ((s.port x.port).mdioWr = true → (t.port x.port).mdio = (s.port x.port).mdio) ∧
      ((s.port x.port).mdioWr = false → (t.port x.port).mdio = ((s.port x.port).mdio &&& 0xFFFF0000#32) ||| BitVec.ofNat 32 (x.data % two16)) ∧
      (∀ k, k ≠ x.port → t.port k = s.port k) ∧ t = { s with ptp := t.ptp }) ∧
    (∀ x : MdioAnswer, (s.port x.port).mdioGo = false → exec (.mdioAccessDone x) s = .next s) ∧
    (∀ v : Reg, s.takesWrite 0x100C = true → s.ptp.domSel < s.ptp.doms.length →
      ∃ t, exec (.ptpDomainReconfigure 0x100C v) s = .next t ∧ (t.dom s.ptp.domSel).num = v.toNat % 256 ∧
        (t.dom s.ptp.domSel).delayP2p = v.getLsbD 10 ∧ (v.toNat % 256 ≠ (s.dom s.ptp.domSel).num → (t.dom s.ptp.domSel).state =
          (if s.domEnabled s.ptp.domSel then .listening else .disabled))) ∧
    (∀ v : Reg, s.takesWrite 0x1000 = true →
      (∃ t, exec (.ptpDomainReconfigure 0x1000 v) s = .next t ∧ t.ptp.enA = v.getLsbD 4 ∧ t.ptp.enB = v.getLsbD 5 ∧
        t.ptp.portMap = (if v.toNat % 4 < 3 then v.toNat % 4 else s.ptp.portMap)) ∧
      (∃ t, exec (.ptpCtrlSave v) s = .next t ∧ t.ptp.enA = v.getLsbD 4 ∧ t.ptp.enB = v.getLsbD 5 ∧
        (v.getLsbD 31 = true → s.live = true → t.nvm.saved.ptp = some (ptpValues t)) ∧ (v.getLsbD 31 = false → t.nvm.saved = s.nvm.saved)))

/-! ### Flash and saved registers (chapter 15, chapter 19) -/

/-- The timers queue their record or set, which begins with the content of that moment when nothing is before it, a set under the CRC of
its commit page; a page that ends goes into the sector in use and leaves one fewer of its job, and a page of the journal waits while no
sector may be opened (two erased ones stay ahead, log 52); the last page of a record makes it the newest; a failed page is counted,
reported and tried again, behind a job of a better rank (log 52), and the third failure ends the job, PARAM_COMMIT's with every slot as it
was (R398); the page of a write that was cut off, or of the log (log 34), still ends; with no write a page of the log is written while its ring has
room (log 34); an erase that the flash makes (log 52) is counted for its sector, any other one is none; the saves store what their
registers hold, at once in RUN and LEAN and on the return of HOLD or the end of BOOT (log 55) (R447, R475, R485 to R490, R497, R512, R560). -/
def Obligations.FlashJobsAndSaves : Prop :=
  (∀ s : State, s.live = true →
    (∃ t, exec .urgentRecordTimer s = .next t ∧ (∃ j ∈ t.nvm.jobs, ∃ r, j.what = .urgent 0 r) ∧
      (s.nvm.jobs = [] → s.nvm.tail = false →
        t.nvm.jobs = [{ what := .urgent 0 (some (makeUrgent 0 s)), left := 2, sub := none, begun := true, secs := [], tries := 0 }] ∧
        t.nvm.urgSeq = wrap32 (s.nvm.urgSeq + 1)) ∧
      (s.nvm.jobs.head?.all (·.begun) = true → (∀ j ∈ s.nvm.jobs, j ∈ t.nvm.jobs) ∧ t = { s with nvm := t.nvm })) ∧
    (s.diag.journalStopped = false → ∃ t, exec .fullSetTimer s = .next t ∧ (∃ j ∈ t.nvm.jobs, ∃ c, j.what = .set c) ∧
      (s.nvm.jobs = [] → s.nvm.tail = false →
        t.nvm.jobs = [{ what := .set (some (sealSet (makeSet s))), left := 514, sub := none, begun := true, secs := [], tries := 0 }] ∧
        t.nvm.setNext = wrap32 (s.nvm.setNext + 1) ∧ t.tun.dirty = false) ∧
      (s.nvm.jobs.head?.all (·.begun) = true → (∀ j ∈ s.nvm.jobs, j ∈ t.nvm.jobs) ∧
        t = { s with nvm := t.nvm, tun := { s.tun with dirty := t.tun.dirty } })) ∧
    (s.diag.journalStopped = true → exec .fullSetTimer s = .next s) ∧
    (∀ j r, s.nvm.jobs = j :: r → s.nvm.tail = false → s.pwr.restart = false →
      (1 < j.what.rank ∨ (s.nvm.jCur.isSome = true ∧ s.nvm.jPos < 16) →
        (j.begun = true → 2 ≤ j.left → (∀ k ∈ r, j.what.rank ≤ k.what.rank) →
          ∃ t l, exec (.nvmPageProgrammed true) s = .next t ∧ t.nvm.jobs = { j with left := j.left - 1, secs := l, tries := 0 } :: r ∧
            t.nvm.errCnt = s.nvm.errCnt ∧ (∀ i ∈ j.secs, i ∈ l) ∧
            (j.what.rank ≤ 1 → t.nvm.jPos = s.nvm.jPos + 1 ∧ ∀ i, s.nvm.jCur = some i → i ∈ l) ∧ t = { s with nvm := t.nvm }) ∧
        (∀ u, r = [] → j.left ≤ 1 → j.what = .urgent 0 (some u) → u.kind = 0 → j.sub = none →
          ∃ t, exec (.nvmPageProgrammed true) s = .next t ∧ t.nvm.jobs = [] ∧ t.nvm.urgent = some u ∧ t.nvm.urgTick = s.clk.ticks ∧
            t = { s with nvm := t.nvm }) ∧
        (j.begun = true → j.tries < 2 →
          ∃ t l, exec (.nvmPageProgrammed false) s = .next t ∧ t.nvm.jobs.length = s.nvm.jobs.length ∧ t.nvm.errCnt = wrap32 (s.nvm.errCnt + 1) ∧
            { j with tries := j.tries + 1, secs := l } ∈ t.nvm.jobs ∧ (t.unitDiag { target := 5, index := 0 }).testing = true ∧
            (j.what.rank ≤ 1 → t.nvm.suspect = s.nvm.jCur.map (fun i => (5, i))) ∧
            (∀ k, k ∈ r → k.what.rank < j.what.rank → ∃ k', t.nvm.jobs.head? = some k' ∧ k'.what.rank < j.what.rank)) ∧
        (1 < j.what.rank → 2 ≤ j.tries →
          ∃ t, exec (.nvmPageProgrammed false) s = .next t ∧ t.nvm.jobs.length = r.length ∧ t.nvm.errCnt = wrap32 (s.nvm.errCnt + 1) ∧
            t.cfg.committed = s.cfg.committed ∧ (s.evt.en.getLsbD 47 = true → t.evt.pend.getLsbD 47 = true))) ∧
      (j.what.rank ≤ 1 → s.nvm.jCur = none ∨ 16 ≤ s.nvm.jPos → s.sectorReady = false ∨ freshSectors s = [] →
        ∀ ok : Bool, exec (.nvmPageProgrammed ok) s = .next s)) ∧
    (s.nvm.jobs = [] → s.pwr.restart = false →
      (s.nvm.tail = true → s.nvm.tailLog = false →
        exec (.nvmPageProgrammed true) s = .next { s with nvm := { s.nvm with tail := false, tailLog := false } } ∧
        (∃ t, exec (.nvmPageProgrammed false) s = .next t ∧ t.nvm.tail = false ∧ t.nvm.errCnt = wrap32 (s.nvm.errCnt + 1))) ∧
      (s.nvm.tail = true → s.nvm.tailLog = true →
        exec (.nvmPageProgrammed true) s = .next (flushLog { s with nvm := { s.nvm with tail := false, tailLog := false } })) ∧
      (s.nvm.tail = false → s.nvm.logBuf ≠ [] → s.logFull = false →
        exec (.nvmPageProgrammed true) s = .next (flushLog s) ∧
        (∃ t, exec (.nvmPageProgrammed false) s = .next t ∧ t.nvm.logBuf = s.nvm.logBuf ∧ t.nvm.logRing = s.nvm.logRing ++ tornPage s.nvm.logBuf ∧
          t.nvm.errCnt = wrap32 (s.nvm.errCnt + 1))) ∧
      (s.nvm.tail = false → (s.nvm.logBuf = [] ∨ s.logFull = true) → ∀ ok : Bool, exec (.nvmPageProgrammed ok) s = .next s)) ∧
    (∀ e : SectorId,
      (s.mayErase e = true →
        (∃ t, exec (.nvmSectorErased e true) s = .next t ∧ t.nvm.wear = s.nvm.wear.modify e.region (fun l => l.modify e.sector (· + 1)) ∧
          t.nvm.jobs = s.nvm.jobs ∧
          (e.region = 5 → t.nvm.secs = s.nvm.secs.set e.sector { erased := true, bad := false, seq := 0 }) ∧ (e.region ≠ 5 → t.nvm.secs = s.nvm.secs) ∧
          t.nvm.logRing = (if e.region = 6 then s.nvm.logRing.drop 128 else s.nvm.logRing)) ∧
        (∃ t, exec (.nvmSectorErased e false) s = .next t ∧ t.nvm.errCnt = wrap32 (s.nvm.errCnt + 1) ∧ t.nvm.wear = s.nvm.wear ∧
          t.nvm.suspect = some (e.region, e.sector))) ∧
      (s.mayErase e = false → ∀ ok : Bool, exec (.nvmSectorErased e ok) s = .next s) ∧
      (e.region = 5 → (s.sectorHeld e.sector = true ∨ ∃ j r p, s.nvm.jobs = j :: r ∧ placePage j s = some p) →
        ∀ ok : Bool, exec (.nvmSectorErased e ok) s = .next s)) ∧
    (s.sec.sealed = false → s.takesWrite 0x24 = true → ∃ t, exec .sysCtrlSave s = .next t ∧ t.nvm.saved.sys = some (sysValues s) ∧ t.sys.save = false) ∧
    (s.sec.sealed = true → exec .sysCtrlSave s = .next s) ∧
    (∀ v : Reg, s.takesWrite 0x3000 = true →
      ∃ t, exec (.legCtrlSave v) s = .next t ∧ (s.sec.sealed = true → legCtrl t = legCtrl s) ∧
        (s.sec.sealed = false → t.leg.page0 = v.toNat / 2048 % 4 ∧ t.leg.pecReq = v.getLsbD 10 ∧ t.leg.en = v.getLsbD 9) ∧
        (v.getLsbD 31 = true → t.nvm.saved.leg = some (legCtrl t)) ∧ (v.getLsbD 31 = false → t.nvm = s.nvm))) ∧
  (∀ (s : State) (v : Reg), s.pwr.state = .hold ∨ s.pwr.state = .boot →
    (s.sec.sealed = false → s.takesWrite 0x24 = true →
      ∃ t, exec .sysCtrlSave s = .next t ∧ t.sys.save = true ∧ t.nvm.saves = s.nvm.saves ++ [.sys] ∧ t.nvm.saved = s.nvm.saved) ∧
    (s.takesWrite 0x3000 = true → v.getLsbD 31 = true →
      ∃ t, exec (.legCtrlSave v) s = .next t ∧ t.leg.save = true ∧ t.nvm.saves = s.nvm.saves ++ [.leg (legCtrl t)] ∧ t.nvm.saved = s.nvm.saved))

/-! ### Self-tests, classification, SRAM (chapter 16) -/

/-- Reports, tests and their results (R384, R385, R403 to R405, R499 to R509, R515): an overdue chunk reports its lane and
leaves it; a test that is due runs in its slot; its result is kept, and a reported Q converter that fails leaves service when
its twin remains; SELFTEST and RESTORE wait for a test, RETIRE takes the unit out of service; corrected errors are counted; a
copied bank is replaced by the spare and tested. -/
def Obligations.TestsAndRetirement : Prop :=
  ∀ s : State,
    (∀ lane, lane < 64 → s.trv.lanes.getD lane .idle ≠ .idle → s.retired { target := 3, index := lane } = false →
      ∃ t, exec (.laneChunkTimeout lane) s = .next t ∧ (t.unitDiag { target := 3, index := lane }).testing = true ∧
        (t.unitDiag { target := 3, index := lane }).report = true ∧
        t = { s with diag := t.diag, trv := t.trv, pwr := t.pwr, free := t.free, hif := t.hif, hostMem := t.hostMem }) ∧
    (∀ lane, s.trv.lanes.getD lane .idle = .idle → exec (.laneChunkTimeout lane) s = .next s) ∧
    (∀ u : UnitId, u.target ≠ 4 → s.live = true → (s.unitDiag u).testing = true → (s.unitDiag u).running = false → testSlot u s = true →
      (u.target = 3 → s.retired u = true ∨ laneMayTest s = true) →
      ∃ t, exec (.selfTestStart u) s = .next t ∧ (t.unitDiag u).running = true ∧ t = { s with diag := t.diag }) ∧
    (∀ (u : UnitId) (p : Nat), u.target = 4 → s.live = true → (s.unitDiag u).testing = true → (s.unitDiag u).running = false → bankTesting s = false →
      s.retired u = false → s.diag.spare = some p → p ≠ u.index →
      exec (.selfTestStart u) s = .next { s with diag := { s.diag with copying := some u.index } }) ∧
    (∀ u : UnitId, (s.unitDiag u).testing = false ∨ testSlot u s = false → exec (.selfTestStart u) s = .next s) ∧
    (∀ b p, s.diag.copying = some b → (s.unitDiag { target := 4, index := b }).running = false → s.diag.spare = some p →
      ∃ t, exec (.sramBankCopyDone b) s = .next t ∧ t.diag.spare = none ∧ t.diag.work = s.diag.work.map (fun w => if w = b then p else w) ∧
        (t.unitDiag { target := 4, index := b }).running = true ∧ t = { s with diag := t.diag }) ∧
    (∀ r : TestReport, s.live = true → (s.unitDiag r.unit).running = true →
      ((s.unitDiag r.unit).report = false → s.retired r.unit = false →
        ∃ t, exec (.selfTestDone r) s = .next t ∧ (t.unitDiag r.unit).running = false ∧ (t.unitDiag r.unit).testing = false ∧
          (t.unitDiag r.unit).last = (if (verdict r s).pass then 1 else 2) ∧ (t.unitDiag r.unit).detail = (verdict r s).detail ∧
          t.diag.retQ = s.diag.retQ) ∧
      ((s.unitDiag r.unit).report = true → (verdict r s).pass = false → r.unit.target = 0 → r.unit.index < 16 → s.retired r.unit = false →
        lastOfKind r.unit s = false → ∃ t, exec (.selfTestDone r) s = .next t ∧ t.retired r.unit = true ∧ r.unit ∈ t.nvm.saved.retired)) ∧
    (∀ sub : Submission, s.live = true → sub.formOk [(0, 1), (1, 1)] = true → sub.noBuf = true → unitNamed sub.unit = true →
      (s.cmdWaits 0x32 sub = false → ∃ t, exec (.selftest sub) s = .next t ∧ (t.unitDiag sub.unit).testing = true ∧
        (t.unitDiag sub.unit).cmds = (s.unitDiag sub.unit).cmds ++ [(sub, false)] ∧ t = { s with diag := t.diag, trv := t.trv }) ∧
      (s.cmdWaits 0x61 sub = false → sub.unit.target ≠ 5 → s.retired sub.unit = true →
        ∃ t, exec (.restore sub) s = .next t ∧ (t.unitDiag sub.unit).testing = true ∧
          (t.unitDiag sub.unit).cmds = (s.unitDiag sub.unit).cmds ++ [(sub, true)] ∧ t = { s with diag := t.diag, trv := t.trv }) ∧
      (s.cmdWaits 0x60 sub = false → sub.unit.target ≠ 5 → s.retired sub.unit = false → lastOfKind sub.unit s = false →
        ∃ t, exec (.retire sub) s = .next t ∧ t.retired sub.unit = true ∧ sub.unit ∈ t.nvm.saved.retired) ∧
      (s.cmdWaits 0x60 sub = false → sub.unit.target ≠ 5 → s.retired sub.unit = false → lastOfKind sub.unit s = true →
        exec (.retire sub) s = .next (complete 0x60 sub stBadState [] s))) ∧
    (∀ (bank : Nat) (p : EccPlace), s.pwr.started = true →
      (∃ t, exec (.sramEccError bank true p) s = .next t ∧ t.diag.eccCnt = wrap32 (s.diag.eccCnt + 1) ∧ t = { s with diag := t.diag }) ∧
      exec (.sramEccError bank false .other) s = .next (fileReport { target := 4, index := bank % 16 } s)) ∧
    (∀ u : UnitId, (s.unitDiag u).trans1h ≠ 0 →
      ∃ t, exec (.transientHistoryExpiry u) s = .next t ∧ (t.unitDiag u).trans1h = (s.unitDiag u).trans1h - 1 ∧ t = { s with diag := t.diag })

/-! ### Traverse (chapter 9) -/

/-- The life of a job (R289 to R294, R297, R304, R305, R310, R311, R314): queued by a START that passes its checks, running
from its admission with the seed of the last cairn, one step at a time on the lanes that hold its chunks, ended by its wall
limit or an ABORT at the end of its chunk, and completed when its results have been written. An ABORT of a job that holds no chunk ends
it at once, and commands that wait for its abort end with BAD_STATE at its wall limit (log 40); the power manager's choice of VCORE
follows the work (log 56). -/
def Obligations.TraverseJobLife : Prop :=
  ∀ s : State,
    (∀ (sub : Submission) (buf : DmaRead), s.pwr.state = .run → s.cmdWaits 0x20 sub = false → s.cairn.lastDone.isSome = true → s.diag.work ≠ [] → sub.formOk [] = true →
      sub.hasBuf (sub.bufLen == 64) = true → buf.isSome = true → jobFieldsOk s (bufBytes sub buf) = true →
      ∃ t, exec (.traverseStart sub buf) s = .next t ∧ (∃ j, t.trv.jobs = s.trv.jobs ++ [j] ∧ j.sub = sub ∧ j.desc = parseJob (bufBytes sub buf) ∧
        j.running = false ∧ j.endReason = none) ∧ t = { s with trv := t.trv, pwr := t.pwr, free := t.free }) ∧
    (∀ j (profile ambient : DmaRead), (queuedJobs s).head? = some j → jobsRunning s < 2 * s.diag.work.length →
      (profile = none → exec (.traverseAdmission profile ambient) s =
        .next (settleVcore (complete 0x20 j.sub stDmaError (jobResult j) (dropJob j.desc.jobId s)))) ∧
      (profile.isSome = true → (j.desc.ambTrace = true → ambient.isSome = true) →
        (slices j.desc.nSteps 36 (profile.getD [])).all (profOk j.desc) = true →
        (slices j.desc.nAmb 8 (ambient.getD [])).all (fun b => fieldU b 6 2 == 0) = true →
        ambRising ((slices j.desc.nAmb 8 (ambient.getD [])).map (fun b => (fieldU b 0 4, fieldS b 4 2))) = true →
        ∃ t, exec (.traverseAdmission profile ambient) s = .next t ∧ (∃ k ∈ t.trv.jobs, k.desc = j.desc ∧ k.running = true ∧
          k.startEpoch = s.est.seed.epoch ∧ k.admitTick = s.clk.ticks) ∧
          t = { s with trv := t.trv, hostMem := t.hostMem, pwr := t.pwr, free := t.free })) ∧
    (∀ id lane j, s.trv.jobs.find? (fun j => j.desc.jobId == id && j.running && j.endReason.isNone) = some j →
      (s.trv.lanes.getD lane .idle = .chunk id →
        exec (.traverseChunkEnd id lane false true) s =
          .next (settleWork (abortIdle id (fileReport { target := 3, index := lane } (freeLane lane s)))) ∧
        exec (.traverseChunkEnd id lane true false) s = .next (settleWork (abortAtChunk id (freeLane lane s))) ∧
        (j.aborts = [] → ∃ t, exec (.traverseChunkEnd id lane true true) s = .next t ∧ t = settleWork (jobStep j (freeLane lane s)) ∧
          (∃ k ∈ t.trv.jobs, k.desc.jobId = id ∧ k.steps = j.steps + 1) ∧
          t = { s with trv := t.trv, hostMem := t.hostMem, pwr := t.pwr, free := t.free })) ∧
      (j.desc.maxWall ≠ 0 → j.admitTick + j.desc.maxWall * 24000000 < s.clk.ticks →
        ∃ t, exec (.traverseWallTimeout id) s = .next t ∧ (∃ k ∈ t.trv.jobs, k.desc.jobId = id ∧ k.endReason = some 5 ∧ k.endTime = j.simTime ∧ k.aborts = []) ∧
          t = { s with trv := t.trv, hostMem := t.hostMem, hif := t.hif, pwr := t.pwr, free := t.free })) ∧
    (∀ id lane ok last, s.trv.lanes.getD lane .idle ≠ .chunk id → exec (.traverseChunkEnd id lane ok last) s = .next s) ∧
    (∀ id j r, s.trv.jobs.find? (fun j => j.desc.jobId == id && j.endReason.isSome) = some j → j.endReason = some r → j.running = true → j.aborts = [] →
      exec (.traverseResultsDone id ⟨true, true⟩) s =
        .next (settleVcore (raise (if r ≤ 3 then 34 else 35) id
          (complete 0x20 j.sub (endStatus r) (jobResult j) (dropJob id (s.dma j.desc.resAddr (resultsBlock s j)))))) ∧
      exec (.traverseResultsDone id ⟨false, true⟩) s =
        .next (settleVcore (raise 35 id (complete 0x20 j.sub stDmaError (jobResult j) (dropJob id (s.dma j.desc.resAddr (resultsBlock s j))))))) ∧
    (∀ (sub : Submission) (j : Job), s.live = true → s.cmdWaits 0x21 sub = false → sub.formOk [(0, 2)] = true → sub.noBuf = true →
      s.trv.jobs.find? (fun j => j.desc.jobId == sub.pU 0 2 && j.endReason.isNone) = some j →
      (j.running = false → exec (.traverseAbort sub) s = .next (settleVcore (abortQueued { j with aborts := j.aborts ++ [sub] } s))) ∧
      (j.running = true → chunkHeld (sub.pU 0 2) s = true →
        exec (.traverseAbort sub) s = .next (putJob { j with aborts := j.aborts ++ [sub] } s)) ∧
      (j.running = true → chunkHeld (sub.pU 0 2) s = false →
        exec (.traverseAbort sub) s = .next (endJob 4 j.simTime { j with aborts := j.aborts ++ [sub] } s)))

/-! ### Authentication and sealing (chapter 17) -/

/-- Module authentication (R525 to R527): both signature parts are fetched while they are missing, at one step of the timer (log 32), a
verified certificate is
challenged, a failed one and a signature that does not come end in AUTH_FAIL, a signature decides, and renewal and retry begin
again with the identity page. AUTH_CHALLENGE waits for what it names (R408). -/
def Obligations.ModulesAreAuthenticated : Prop :=
  ∀ (s : State) (str m : Nat) (x : Mon), s.mon str m = some x →
    (x.authStep = .challenged → x.sigR = none → x.sigS = none →
      exec (.authFetchTimer str m) s = .next (ropeGap str (s.modRope str (fun r => { r with authTodo := r.authTodo ++ [(m, .fetch 0), (m, .fetch 1)] })))) ∧
    (x.authStep ≠ .challenged → exec (.authFetchTimer str m) s = .next s ∧ exec (.authSignatureTimeout str m) s = .next s) ∧
    (x.authStep = .certVerify →
      ∃ t, exec (.authVerifyDone str m) s = .next t ∧
        (sigValid ((s.root (fieldU x.cert 1 1)).getD []) (Config.sha256 (x.cert.take 80)) ((x.cert.drop 80).take 64) = true →
          (t.mon str m).map (·.authStep) = some .challenged ∧ t.sec = s.sec) ∧
        (sigValid ((s.root (fieldU x.cert 1 1)).getD []) (Config.sha256 (x.cert.take 80)) ((x.cert.drop 80).take 64) = false →
          (t.mon str m).map (·.authNext) = some (some .fail) ∧ t.sec.failCnt = wrap32 (s.sec.failCnt + 1))) ∧
    (x.authStep = .sigVerify →
      ∃ t, exec (.authVerifyDone str m) s = .next t ∧ (t.mon str m).map (·.authStep) = some .idle ∧ t.sec.authCnt = wrap32 (s.sec.authCnt + 1) ∧
        (t.mon str m).map (·.authNext) = some (some (if sigValid ((x.cert.drop 16).take 64) (Config.sha256 (challengeMessage x)) (x.sigR.getD [] ++ x.sigS.getD [])
          then .ok else .fail))) ∧
    (x.authStep = .challenged →
      ∃ t, exec (.authSignatureTimeout str m) s = .next t ∧ (t.mon str m).map (·.authNext) = some (some .fail) ∧
        (t.mon str m).map (·.authStep) = some .idle ∧ t.sec.failCnt = wrap32 (s.sec.failCnt + 1) ∧ t.sec.authCnt = wrap32 (s.sec.authCnt + 1)) ∧
    (s.enabled str = true → s.reachable str m = true → x.authStep = .idle → s.live = true →
      (x.authHad = true → ∃ t, exec (.authRenewTimer str m) s = .next t ∧ (t.mon str m).map (·.authStep) = some .reading ∧ t.sec = s.sec) ∧
      (x.authDue = true → ∃ t, exec (.authRetryTimer str m) s = .next t ∧ (t.mon str m).map (·.authStep) = some .reading ∧
        (t.mon str m).map (·.authDue) = some false ∧ t.sec = s.sec) ∧
      (x.authDue = false → exec (.authRetryTimer str m) s = .next s)) ∧
    (∀ sub : Submission, s.live = true → s.cmdWaits 0x38 sub = false → sub.formOk [(0, 1), (1, 1)] = true → sub.noBuf = true → sub.pU 0 1 = str → str < 8 → sub.pU 1 1 ≤ 32 →
      s.enabled str = true → (∀ k ∈ authNamed s str (sub.pU 1 1), s.reachable str k = true) → maskOf (authNamed s str (sub.pU 1 1)) ≠ 0 →
      ∃ t, exec (.authChallenge sub) s = .next t ∧ t.sec = s.sec ∧
        (∃ w ∈ t.rope.authWaits, w.sub = sub ∧ w.str = str ∧ w.open_ = maskOf (authNamed s str (sub.pU 1 1))))

/-- Keys, sealing and attestation (R335, R406, R407, R519, R522): a key of a point on the curve enters an empty slot whose
programming succeeds, and no slot where it fails (log 75); SEAL seals once and keeps what it locks; after SEAL neither is accepted; ATTEST signs a kept digest. -/
def Obligations.KeysSealAndAttest : Prop :=
  ∀ (s : State) (sub : Submission) (buf : DmaRead), s.live = true →
    (s.cmdWaits 0x39 sub = false → sub.formOk [(0, 1)] = true → sub.hasBuf (sub.bufLen == 64) = true → sub.pU 0 1 < 4 →
      (s.sec.sealed = true → exec (.keyInstall sub buf) s = .next (complete 0x39 sub stSealed [] s)) ∧
      (s.sec.sealed = false → (s.root (sub.pU 0 1)).isSome = true → exec (.keyInstall sub buf) s = .next (complete 0x39 sub stBadState [] s)) ∧
      (s.sec.sealed = false → s.root (sub.pU 0 1) = none → buf.isSome = true →
        ∃ t, exec (.keyInstall sub buf) s = .next t ∧ t.sec.sealed = false ∧
          (Config.onCurve (bufBytes sub buf) = false → t = complete 0x39 sub stBadField [] s) ∧
          (Config.onCurve (bufBytes sub buf) = true → t.sec.slots =
            (if Config.otpFails s.free then s.sec.slots else s.sec.slots.set (sub.pU 0 1) (some (bufBytes sub buf)))))) ∧
    (s.cmdWaits 0x3A sub = false → sub.formOk [(0, 4)] = true → sub.noBuf = true → sub.pU 0 4 = 0x5345414C →
      (s.sec.sealed = true → exec (.sealDevice sub) s = .next (complete 0x3A sub stSealed [] s)) ∧
      (s.sec.sealed = false → sealReady s = false → exec (.sealDevice sub) s = .next (complete 0x3A sub stBadState [] s)) ∧
      (s.sec.sealed = false → sealReady s = true →
        ∃ t, exec (.sealDevice sub) s = .next t ∧ t.sec = { s.sec with sealed := true } ∧ t.nvm.saved.sys = some (sysValues s) ∧
          t.nvm.saved.leg = some (legCtrl s) ∧ t = { s with sec := t.sec, cfg := t.cfg, nvm := t.nvm, hif := t.hif, hostMem := t.hostMem })) ∧
    (∀ d, s.cmdWaits 0x3B sub = false → sub.formOk [(0, 8), (8, 16)] = true → sub.hasBuf (64 ≤ sub.bufLen : Bool) = true →
      s.cairn.digests.find? (fun d => d.epoch == sub.pU 0 8) = some d →
      exec (.attest sub) s = .next (complete 0x3B sub stOK (leBytes 8 (sub.pU 0 8) ++ leBytes 8 d.tSample)
        (s.dma sub.bufAddr (fit 64 (Config.ecdsaSign (Config.sha256 ((fit 32 d.digest ++ leBytes 8 (sub.pU 0 8) ++ leBytes 8 d.tSample ++
          (fit 40 sub.param).drop 8).take 64)))))))

/-! ### The legacy window (chapter 18) -/

/-- The window (R534 to R547): it answers a word read with the page's word and its PEC and latches the high byte of a byte read;
a read, an unsupported protocol and a bus timeout are counted and disarm, the last two without an event of their own, and a bad PEC counts
before R544's discard (log 73); a write with a good PEC has the effect of its code, one with a bad PEC or a blocked
one is discarded and flagged; the key arms, and only an armed window takes GAUGE_CMD. -/
def Obligations.LegacyWindow : Prop :=
  ∀ s : State,
    (s.legAnswers = false → ∀ (c : Nat) (w : SmbusWrite),
      exec (.smbusReadWord c) s = .next (legSilent s) ∧ exec (.smbusReadByte c) s = .next (legSilent s) ∧ exec (.smbusWriteWord w) s = .next (legSilent s) ∧
      exec (.smbusWriteByte w) s = .next (legSilent s) ∧ exec (.smbusUnsupportedProtocol c) s = .next (legSilent s) ∧
      exec .smbusBusTimeout s = .next (legSilent s)) ∧
    exec .gaugeKeyExpiry s = .next { s with leg := { s.leg with armed := false } } ∧
    (s.legAnswers = true →
      (∀ c, c < 128 →
        (∃ t, exec (.smbusReadWord c) s = .next t ∧ t.leg.data = leNat (leBytes 2 (legWord s c)) ∧ t.leg.pec = readPec s c (leBytes 2 (legWord s c)) ∧
          t.leg.acked = true ∧ t.leg.armed = false ∧ t.leg.xfers = wrap32 (s.leg.xfers + 1) ∧ t.leg.page = s.leg.page ∧ t.leg.gauges = s.leg.gauges ∧
          t = { s with leg := t.leg, evt := t.evt }) ∧
        (∃ t, exec (.smbusReadByte c) s = .next t ∧ t.leg.data = leNat (leBytes 1 (legWord s c)) ∧
          mapGet t.leg.latches (128 * s.leg.page + c) = some (legWord s c / 256) ∧ t.leg.xfers = wrap32 (s.leg.xfers + 1))) ∧
      (∃ t, exec .smbusBusTimeout s = .next t ∧ t.leg.xfers = wrap32 (s.leg.xfers + 1) ∧ t.leg.armed = false ∧ t.leg.acked = false ∧ t = { s with leg := t.leg }) ∧
      (∀ c, ∃ t, exec (.smbusUnsupportedProtocol c) s = .next t ∧ t.leg.acked = false ∧ t.leg.armed = false ∧ t.leg.xfers = wrap32 (s.leg.xfers + 1) ∧
        t.leg.page = s.leg.page ∧ t = { s with leg := t.leg, evt := t.evt }) ∧
      (∀ w : SmbusWrite, legBlocked s = false → w.pec = some (writePec s w.code (leBytes 2 w.data)) ∨ (w.pec = none ∧ s.leg.pecReq = false) →
        exec (.smbusWriteWord w) s = .next (wordEffect w.code (w.data % 65536) s)) ∧
      (∀ w : SmbusWrite, legBlocked s = false → w.code = 0x70 → w.data < 4 → w.pec = some (writePec s w.code (leBytes 1 w.data)) →
        ∃ t, exec (.smbusWriteByte w) s = .next t ∧ t.leg.page = w.data ∧ t.leg.acked = true ∧ t.leg.gauges = s.leg.gauges) ∧
      (∀ (w : SmbusWrite) (p : Byte), w.pec = some p → p ≠ writePec s w.code (leBytes 2 w.data) →
        ∃ t, exec (.smbusWriteWord w) s = .next t ∧ t.leg.pecErr = true ∧ t.leg.acked = false ∧ t.leg.page = s.leg.page ∧ t.leg.gauges = s.leg.gauges ∧
          t.nvm = s.nvm) ∧
      (∀ w : SmbusWrite, legBlocked s = true → w.pec = some (writePec s w.code (leBytes 2 w.data)) →
        ∃ t, exec (.smbusWriteWord w) s = .next t ∧ t.leg.wrBlock = true ∧ t.leg.page = s.leg.page ∧ t.leg.gauges = s.leg.gauges ∧ t.nvm = s.nvm) ∧
      (legBlocked s = false → s.leg.armed = true →
        (∃ t, exec .gaugeReset s = .next t ∧ t.leg.gaugeCmd = 3 ∧ t.leg.armed = false ∧ (t.leg.gauges.getD s.leg.page Gauge.reset).qual = 0 ∧
          (t.leg.gauges.getD s.leg.page Gauge.reset).active = false) ∧
        (∃ t, exec .gaugeNop s = .next t ∧ t.leg.gaugeCmd = 0 ∧ t.leg.armed = false ∧ t.leg.gauges = s.leg.gauges)) ∧
      (legBlocked s = false → s.leg.armed = false →
        ∃ t, exec .gaugeReset s = .next t ∧ t.leg.gaugeCmd = s.leg.gaugeCmd ∧ t.leg.gauges = s.leg.gauges ∧ t.nvm = s.nvm)) ∧
    (∀ v, (writeKey v s).leg.armed = decide (v = 0xC3A5) ∧ (v < 4 → (writePage v s).leg.page = v) ∧
      (4 ≤ v → (writePage v s).leg.page = s.leg.page ∧ (writePage v s).leg.badPage = true))

/-! ### Commands (chapter 12) -/

/-- A command that only reads completes with OK and writes nothing but its buffer, where its form is good and what it names
exists: NOP, IDENTIFY, CONFIG_READ, PARAM_READ, ROPE_MAP_READ, STATE_READ, TUNE_READ, TIME_STATUS, LOG_READ and TRAVERSE_STATUS (R110,
R180, R312, R382, R387, R396, R399, R402, R410, R414). Records that wait are found with those in flash (log 34), STATE_READ before the first
cairn finds none (log 42), and a read of the flash may meet an uncorrectable error (R499; log 20). -/
def Obligations.ReadingCommands : Prop :=
  ∀ (s : State) (sub : Submission),
    (s.cmdWaits 0x00 sub = false → s.accepts 0x00 = true → sub.formOk [] = true → sub.noBuf = true → exec (.nop sub) s = .next (complete 0x00 sub stOK [] s)) ∧
    (s.cmdWaits 0x01 sub = false → s.accepts 0x01 = true → sub.formOk [] = true → sub.hasBuf (128 ≤ sub.bufLen : Bool) = true →
      exec (.identify sub) s = .next (complete 0x01 sub stOK [] (s.dma sub.bufAddr (identifyBytes s)))) ∧
    (s.live = true →
      (∀ b, s.cmdWaits 0x03 sub = false → sub.formOk [(0, 1)] = true → sub.pU 0 1 < 3 → sourceBlock s (sub.pU 0 1) = some b → sub.hasBuf (blockLen b ≤ sub.bufLen : Bool) = true →
        exec (.configRead sub) s = .next (complete 0x03 sub stOK (leBytes 4 (blockLen b) ++ leBytes 4 b.configId) ((if sub.pU 0 1 = 1 then flashRead 1 s else s).dma sub.bufAddr (blockBytes b)))) ∧
      (∀ i, s.cmdWaits 0x06 sub = false → sub.formOk [(0, 1), (1, 1)] = true → sub.pU 0 1 < 8 → sub.pU 1 1 = 0 → sub.hasBuf (96 ≤ sub.bufLen : Bool) = true →
        s.image (sub.pU 0 1) = some i → exec (.paramRead sub) s =
          .next (complete 0x06 sub stOK (leBytes 4 (i.bytes.take 64 ++ fit 32 (imgDigest i)).length ++ leBytes 1 1)
            (s.dma sub.bufAddr (i.bytes.take 64 ++ fit 32 (imgDigest i))))) ∧
      (∀ i, s.cmdWaits 0x06 sub = false → sub.formOk [(0, 1), (1, 1)] = true → sub.pU 0 1 < 8 → sub.pU 1 1 = 3 → s.cfg.pending.getD (sub.pU 0 1) none = some i →
        sub.hasBuf (imgLen i ≤ sub.bufLen : Bool) = true →
        exec (.paramRead sub) s = .next (complete 0x06 sub stOK (leBytes 4 i.bytes.length ++ leBytes 1 1) (s.dma sub.bufAddr i.bytes))) ∧
      (s.cmdWaits 0x12 sub = false → sub.formOk [(0, 1)] = true → sub.hasBuf (1040 ≤ sub.bufLen : Bool) = true → sub.pU 0 1 < 8 →
        exec (.ropeMapRead sub) s = .next (complete 0x12 sub stOK [] (s.dma sub.bufAddr (ropeMap s (sub.pU 0 1))))) ∧
      (s.cmdWaits 0x29 sub = false → sub.formOk [(0, 2), (2, 2)] = true → 1 ≤ sub.pU 2 2 → sub.pU 0 2 + sub.pU 2 2 ≤ 4096 → sub.hasBuf (16 + 144 * sub.pU 2 2 ≤ sub.bufLen : Bool) = true →
        exec (.stateRead sub) s = .next (complete 0x29 sub stOK (leBytes 8 s.est.seed.epoch)
          (s.dma sub.bufAddr (leBytes 8 s.est.seed.epoch ++ leBytes 2 (sub.pU 2 2) ++ zeros 6 ++
            ((List.range (sub.pU 2 2)).map (· + sub.pU 0 2)).flatMap (stateRecord s.est.seed))))) ∧
      (s.cmdWaits 0x31 sub = false → sub.formOk [] = true → sub.hasBuf (1088 ≤ sub.bufLen : Bool) = true →
        exec (.tuneRead sub) s = .next (complete 0x31 sub stOK [] (s.dma sub.bufAddr ((List.range 34).flatMap (tuneRecord s))))) ∧
      (s.cmdWaits 0x49 sub = false → sub.formOk [] = true → sub.hasBuf (64 ≤ sub.bufLen : Bool) = true →
        exec (.timeStatus sub) s = .next (complete 0x49 sub stOK [] (s.dma sub.bufAddr (timeStatusBytes s)))) ∧
      (s.cmdWaits 0x41 sub = false → sub.formOk [(0, 4)] = true → sub.hasBuf (32 ≤ sub.bufLen && sub.bufLen % 32 == 0) = true →
        ∀ l, ((logFound s).filter (fun r => sub.pU 0 4 ≤ r.seq)).take (sub.bufLen / 32) = l →
          exec (.logRead sub) s = .next (complete 0x41 sub stOK (leBytes 4 l.length ++ leBytes 4 ((l.head?.map (·.seq)).getD 0) ++ leBytes 4 s.nvm.logSeq)
            ((flashRead s.nvm.logRing.length s).dma sub.bufAddr (l.flatMap logBytes)))) ∧
      (s.cmdWaits 0x22 sub = false → sub.formOk [] = true → sub.bufLen % 16 = 0 → sub.bufLen = 0 ∨ sub.hasBuf true = true →
        exec (.traverseStatus sub) s = .next (complete 0x22 sub stOK [BitVec.ofNat 8 (statusRecords s).length]
          (s.dma sub.bufAddr (((statusRecords s).take (sub.bufLen / 16)).flatten)))))

/-- A command that sets something (R214, R280, R287, R317, R393 to R401, R409, R416): what waits for a sample instant joins the
changes that wait, in order; a configuration that passes its checks is the one in force, or with COMMIT is first written to
flash and in force when its pages are (log 28), as PARAM_COMMIT and NVM_CHECKPOINT write theirs; a loaded image is pending; the override's
expiry removes it. Which sample instant a change waits for is log 27. -/
def Obligations.SettingCommands : Prop :=
  ∀ (s : State) (sub : Submission) (buf : DmaRead), s.live = true →
    (s.cmdWaits 0x18 sub = false → sub.formOk [(0, 22)] = true → sub.noBuf = true → sub.pU 0 1 < 8 → balanceOk (policyOf sub (s.strCfg (sub.pU 0 1))) = true →
      exec (.balPolicy sub) s = .next (complete 0x18 sub stOK [] (awaitInstant (.balPolicy (sub.pU 0 1) (policyOf sub (s.strCfg (sub.pU 0 1)))) s))) ∧
    (s.cmdWaits 0x19 sub = false → sub.formOk [(0, 1), (1, 1), (2, 2)] = true → sub.pU 0 1 < 8 → sub.pU 1 1 < 4 → s.enabled (sub.pU 0 1) = true →
      (sub.pU 2 2 = 0 → sub.noBuf = true → exec (.balOverride sub buf) s =
        .next (complete 0x19 sub stOK [] (awaitInstant (.override (sub.pU 0 1) (bufBytes sub buf) (BitVec.ofNat 8 (sub.pU 1 1)) false) s))) ∧
      (1 ≤ sub.pU 2 2 → sub.pU 2 2 ≤ 3600 → sub.hasBuf (sub.bufLen == 512) = true → buf.isSome = true → (bufBytes sub buf).all overrideByteOk = true →
        (sub.pU 1 1).testBit 0 = true ∨ (List.range 512).any (forcedPair (bufBytes sub buf)) = false →
        exec (.balOverride sub buf) s =
          .next (complete 0x19 sub stOK [] (awaitInstant (.override (sub.pU 0 1) (bufBytes sub buf) (BitVec.ofNat 8 (sub.pU 1 1)) true) s)))) ∧
    (∀ n, exec (.balOverrideExpiry n) s = .next (s.modLim n (fun l => { l with override := none, ovFlags := 0 }))) ∧
    (s.cmdWaits 0x58 sub = false → sub.formOk [] = true → sub.hasBuf (sub.bufLen == 128) = true → buf.isSome = true →
      exec (.limitSet sub buf) s = .next (complete 0x58 sub stOK (leBytes 4 (wrap32 (s.cfg.takeNext + 1))) (awaitInstant (.caps (parseCaps (bufBytes sub buf))) s))) ∧
    (s.cmdWaits 0x2A sub = false → sub.formOk [] = true → sub.hasBuf (sub.bufLen % 24 == 0 && within sub.bufLen 24 98304) = true → buf.isSome = true →
      ((swRecords (bufBytes sub buf)).map (fun b => fieldU b 0 2)).Nodup → (swRecords (bufBytes sub buf)).all (swRecordOk s) = true →
      exec (.stateWrite sub buf) s =
        .next (complete 0x2A sub stOK (leBytes 4 (wrap32 (s.cfg.takeNext + 1))) (awaitInstant (.states (swRecords (bufBytes sub buf))) s))) ∧
    (∀ l, l = [sub.pU 0 8, sub.pU 8 8, sub.pU 16 8] → s.cmdWaits 0x28 sub = false → sub.formOk [(0, 24)] = true → sub.noBuf = true → l.all (· % 4096 == 0) = true →
      (noSlots l = true ∨ (l.all (· + cairnLen ≤ two64) && apart (sub.pU 0 8) (sub.pU 8 8) && apart (sub.pU 8 8) (sub.pU 16 8) && apart (sub.pU 0 8) (sub.pU 16 8)) = true) →
      exec (.cairnSetup sub) s = .next (complete 0x28 sub stOK [] { s with cairn := { s.cairn with newSlots := some l } })) ∧
    (∀ b, b = parseBlock (bufBytes sub buf) → s.cmdWaits 0x02 sub = false → sub.formOk [(0, 1)] = true → sub.hasBuf (sub.bufLen == 2624 || sub.bufLen == 2696) = true → buf.isSome = true →
      blockFraming (bufBytes sub buf) sub.bufLen = true → (b.signed = false → s.sec.sealed = false) →
      (b.signed = true → (judgeSig s .config (bufBytes sub buf)) = some true) → blockFieldsOk s (bufBytes sub buf) = true →
      (sub.pU 0 1 = 0 → ∃ t, exec (.configLoad sub buf) s = .next t ∧ t = configForce sub b s ∧ t.cfg.block = some b ∧ t.cfg.stored = s.cfg.stored ∧
        t.cfg.takeNext = wrap32 (s.cfg.takeNext + 1)) ∧
      (sub.pU 0 1 = 1 → ∃ t, exec (.configLoad sub buf) s = .next t ∧ (∃ j ∈ t.nvm.jobs, j.what = .config b ∧ j.sub = some sub) ∧
        t = { s with nvm := t.nvm, cfg := { s.cfg with dirOld := t.cfg.dirOld } })) ∧
    (s.cmdWaits 0x04 sub = false → sub.formOk [(0, 1)] = true → sub.hasBuf (within sub.bufLen 136 65536) = true → sub.pU 0 1 < 8 → buf.isSome = true →
      imgFraming (bufBytes sub buf) sub.bufLen = true → (sigChecks s .image (bufBytes sub buf)).all (fun c => c.1) = true →
      ∃ t, exec (.paramLoad sub buf) s = .next t ∧ (imgFieldsOk { bytes := bufBytes sub buf } = false → t = complete 0x04 sub stBadField [] s) ∧
        (imgFieldsOk { bytes := bufBytes sub buf } = true → t.cfg = { s.cfg with pending := s.cfg.pending.set (sub.pU 0 1) (some { bytes := bufBytes sub buf }) })) ∧
    (s.cmdWaits 0x05 sub = false → sub.formOk [(0, 1)] = true → sub.noBuf = true → sub.pU 0 1 ≠ 0 → (namedPending s (sub.pU 0 1)).all (fun e => e.2.isSome) = true →
      ∃ t, exec (.paramCommit sub) s = .next t ∧ (∃ j ∈ t.nvm.jobs, j.sub = some sub ∧ j.what.rank = 2) ∧
        t = { s with nvm := t.nvm, cfg := { s.cfg with dirOld := t.cfg.dirOld } }) ∧
    (s.cmdWaits 0x40 sub = false → sub.formOk [(0, 1)] = true → sub.noBuf = true →
      (sub.pU 0 1 = 0 → ∃ t, exec (.nvmCheckpoint sub) s = .next t ∧ (∃ j ∈ t.nvm.jobs, j.sub = some sub ∧ ∃ r, j.what = .urgent 3 r) ∧
        (s.nvm.jobs = [] → s.nvm.tail = false →
          t.nvm.jobs = [{ what := .urgent 3 (some (makeUrgent 3 s)), left := 2, sub := some sub, begun := true, secs := [], tries := 0 }]) ∧
        (s.nvm.jobs.head?.all (·.begun) = true → t = { s with nvm := t.nvm })) ∧
      (sub.pU 0 1 = 1 → s.diag.journalStopped = false →
        ∃ t, exec (.nvmCheckpoint sub) s = .next t ∧ (∃ j ∈ t.nvm.jobs, j.sub = some sub ∧ ∃ c, j.what = .set c) ∧
          (s.nvm.jobs = [] → s.nvm.tail = false →
            t.nvm.jobs = [{ what := .set (some (sealSet (makeSet s))), left := 514, sub := some sub, begun := true, secs := [], tries := 0 }]) ∧
          (s.nvm.jobs.head?.all (·.begun) = true → t = { s with nvm := t.nvm, tun := { s.tun with dirty := t.tun.dirty } })) ∧
      (sub.pU 0 1 = 1 → s.diag.journalStopped = true → exec (.nvmCheckpoint sub) s = .next (complete 0x40 sub stNvmError [] s)))

/-! ### Rules stated whole -/

/-- R545: a byte read returns the low byte and latches the high byte of the same word for its page and no other; the code with
bit 7 set returns the latch; latches are 0 after a whole-device reset, whichever command brings it. -/
def Obligations.ByteReadsLatchTheHighByte : Prop :=
  ∀ (s : State) (c : Nat), c < 128 →
    (s.legAnswers = true →
      (∃ t, exec (.smbusReadByte c) s = .next t ∧ t.leg.data = legWord s c % 256 ∧
        mapGet t.leg.latches (128 * s.leg.page + c) = some (legWord s c / 256) ∧
        (∀ k, k ≠ 128 * s.leg.page + c → mapGet t.leg.latches k = mapGet s.leg.latches k)) ∧
      (∃ t, exec (.smbusReadByte (c + 128)) s = .next t ∧ t.leg.data = (mapGet s.leg.latches (128 * s.leg.page + c)).getD 0 % 256 ∧
        t.leg.latches = s.leg.latches)) ∧
    (∀ (i : Instr) (mv : Nat), (i = .porstNAssert ∨ i = .brownOut mv ∨ i = .hardCut ∨ (i = .watchdogReset ∧ s.pwr.started = true ∧ s.pwr.state ≠ .halt) ∨
        (i = .holdReturn mv ∧ s.pwr.state = .hold ∧ s.pwr.holdDone = true ∧ s.pwr.resume = false ∧ 9000 ≤ mv)) →
      ∃ t, exec i s = .next t ∧ t.leg.latches = [] ∧ ∀ k, (mapGet t.leg.latches k).getD 0 = 0) ∧ State.reset.leg.latches = []

/-- R421: TS32 is TIME64 bits [39:8] and wraps every 2^40 ns; the comparison is the sign of the difference modulo 2^32, and it
is right for instants less than 2^31 units apart. -/
def Obligations.TimestampsCompare : Prop :=
  (∀ s : State, s.ts32 = ((BitVec.ofNat 64 s.now).extractLsb' 8 32).toNat) ∧
  (∀ n : Nat, (n + 2 ^ 40) / 256 % two32 = n / 256 % two32) ∧
  (∀ a b : Nat, tsReached a b = decide (0 ≤ toS 32 (toU 32 ((a : Int) - (b : Int))))) ∧
  (∀ x y : Nat, x < y + 2 ^ 31 → y < x + 2 ^ 31 → tsReached (x % two32) (y % two32) = decide (y ≤ x))

/-- R365: an event whose EN bit is set sets its PEND bit and, with the EQ enabled, queues an entry, or counts in the one that is
queued; an event whose EN bit is clear is not recorded. -/
def Obligations.EventsAreRecordedOnce : Prop :=
  ∀ (s : State) (e info : Nat),
    (s.evt.en.getLsbD e = true →
      (raise e info s).evt.pend = s.evt.pend ||| (1#64 <<< e) ∧
      ((s.ring 8).en = true → (∀ q ∈ s.evt.queue, q.event ≠ e) →
        (raise e info s).evt.queue = s.evt.queue ++ [{ event := e, count := 1, info, time := s.now, epoch := s.frm.epoch, last := info }]) ∧
      ((s.ring 8).en = true → (∃ q ∈ s.evt.queue, q.event = e) →
        (raise e info s).evt.queue =
          s.evt.queue.map (fun q => if q.event == e then { q with count := min 0xFFFF (q.count + 1), last := info } else q)) ∧
      ((s.ring 8).en = false → (raise e info s).evt.queue = s.evt.queue)) ∧
    (s.evt.en.getLsbD e = false → (raise e info s).evt = s.evt)
end

