-- ==== Sys2Proof/Laws/State.lean ====
section
/-! SUPPORT. What an update of State leaves alone, field by field, and what it reads back. -/

namespace Sys2Proof.Machine

/-- States with equal fields are equal. -/
theorem State.ext_fields {s t : State}
    (eclk : s.clk = t.clk)
    (efrm : s.frm = t.frm)
    (emet : s.met = t.met)
    (etun : s.tun = t.tun)
    (esar : s.sar = t.sar)
    (erope : s.rope = t.rope)
    (ecfg : s.cfg = t.cfg)
    (eest : s.est = t.est)
    (etrv : s.trv = t.trv)
    (ehif : s.hif = t.hif)
    (eevt : s.evt = t.evt)
    (ecairn : s.cairn = t.cairn)
    (etim : s.tim = t.tim)
    (eptp : s.ptp = t.ptp)
    (ethm : s.thm = t.thm)
    (epwr : s.pwr = t.pwr)
    (envm : s.nvm = t.nvm)
    (ediag : s.diag = t.diag)
    (esec : s.sec = t.sec)
    (eleg : s.leg = t.leg)
    (esys : s.sys = t.sys)
    (ehostMem : s.hostMem = t.hostMem)
    (efree : s.free = t.free)
    (epending : s.pending = t.pending)
    : s = t := by
  cases s; cases t; simp_all

section
variable (s : State)

theorem State.withClk_frm (c : Clock) : ({ s with clk := c } : State).frm = s.frm := rfl
theorem State.withClk_met (c : Clock) : ({ s with clk := c } : State).met = s.met := rfl
theorem State.withClk_tun (c : Clock) : ({ s with clk := c } : State).tun = s.tun := rfl
theorem State.withClk_sar (c : Clock) : ({ s with clk := c } : State).sar = s.sar := rfl
theorem State.withClk_rope (c : Clock) : ({ s with clk := c } : State).rope = s.rope := rfl
theorem State.withClk_cfg (c : Clock) : ({ s with clk := c } : State).cfg = s.cfg := rfl
theorem State.withClk_est (c : Clock) : ({ s with clk := c } : State).est = s.est := rfl
theorem State.withClk_trv (c : Clock) : ({ s with clk := c } : State).trv = s.trv := rfl
theorem State.withClk_hif (c : Clock) : ({ s with clk := c } : State).hif = s.hif := rfl
theorem State.withClk_evt (c : Clock) : ({ s with clk := c } : State).evt = s.evt := rfl
theorem State.withClk_cairn (c : Clock) : ({ s with clk := c } : State).cairn = s.cairn := rfl
theorem State.withClk_tim (c : Clock) : ({ s with clk := c } : State).tim = s.tim := rfl
theorem State.withClk_ptp (c : Clock) : ({ s with clk := c } : State).ptp = s.ptp := rfl
theorem State.withClk_thm (c : Clock) : ({ s with clk := c } : State).thm = s.thm := rfl
theorem State.withClk_pwr (c : Clock) : ({ s with clk := c } : State).pwr = s.pwr := rfl
theorem State.withClk_nvm (c : Clock) : ({ s with clk := c } : State).nvm = s.nvm := rfl
theorem State.withClk_diag (c : Clock) : ({ s with clk := c } : State).diag = s.diag := rfl
theorem State.withClk_sec (c : Clock) : ({ s with clk := c } : State).sec = s.sec := rfl
theorem State.withClk_leg (c : Clock) : ({ s with clk := c } : State).leg = s.leg := rfl
theorem State.withClk_sys (c : Clock) : ({ s with clk := c } : State).sys = s.sys := rfl
theorem State.withClk_hostMem (c : Clock) : ({ s with clk := c } : State).hostMem = s.hostMem := rfl
theorem State.withClk_free (c : Clock) : ({ s with clk := c } : State).free = s.free := rfl
theorem State.withClk_pending (c : Clock) : ({ s with clk := c } : State).pending = s.pending := rfl

@[simp] theorem State.modMet_clk (n : Nat) (f : MetStr → MetStr) : (s.modMet n f).clk = s.clk := rfl
@[simp] theorem State.modMet_frm (n : Nat) (f : MetStr → MetStr) : (s.modMet n f).frm = s.frm := rfl
@[simp] theorem State.modMet_tun (n : Nat) (f : MetStr → MetStr) : (s.modMet n f).tun = s.tun := rfl
@[simp] theorem State.modMet_sar (n : Nat) (f : MetStr → MetStr) : (s.modMet n f).sar = s.sar := rfl
@[simp] theorem State.modMet_rope (n : Nat) (f : MetStr → MetStr) : (s.modMet n f).rope = s.rope := rfl
@[simp] theorem State.modMet_cfg (n : Nat) (f : MetStr → MetStr) : (s.modMet n f).cfg = s.cfg := rfl
@[simp] theorem State.modMet_est (n : Nat) (f : MetStr → MetStr) : (s.modMet n f).est = s.est := rfl
@[simp] theorem State.modMet_trv (n : Nat) (f : MetStr → MetStr) : (s.modMet n f).trv = s.trv := rfl
@[simp] theorem State.modMet_hif (n : Nat) (f : MetStr → MetStr) : (s.modMet n f).hif = s.hif := rfl
@[simp] theorem State.modMet_evt (n : Nat) (f : MetStr → MetStr) : (s.modMet n f).evt = s.evt := rfl
@[simp] theorem State.modMet_cairn (n : Nat) (f : MetStr → MetStr) : (s.modMet n f).cairn = s.cairn := rfl
@[simp] theorem State.modMet_tim (n : Nat) (f : MetStr → MetStr) : (s.modMet n f).tim = s.tim := rfl
@[simp] theorem State.modMet_ptp (n : Nat) (f : MetStr → MetStr) : (s.modMet n f).ptp = s.ptp := rfl
@[simp] theorem State.modMet_thm (n : Nat) (f : MetStr → MetStr) : (s.modMet n f).thm = s.thm := rfl
@[simp] theorem State.modMet_pwr (n : Nat) (f : MetStr → MetStr) : (s.modMet n f).pwr = s.pwr := rfl
@[simp] theorem State.modMet_nvm (n : Nat) (f : MetStr → MetStr) : (s.modMet n f).nvm = s.nvm := rfl
@[simp] theorem State.modMet_diag (n : Nat) (f : MetStr → MetStr) : (s.modMet n f).diag = s.diag := rfl
@[simp] theorem State.modMet_sec (n : Nat) (f : MetStr → MetStr) : (s.modMet n f).sec = s.sec := rfl
@[simp] theorem State.modMet_leg (n : Nat) (f : MetStr → MetStr) : (s.modMet n f).leg = s.leg := rfl
@[simp] theorem State.modMet_sys (n : Nat) (f : MetStr → MetStr) : (s.modMet n f).sys = s.sys := rfl
@[simp] theorem State.modMet_hostMem (n : Nat) (f : MetStr → MetStr) : (s.modMet n f).hostMem = s.hostMem := rfl
@[simp] theorem State.modMet_free (n : Nat) (f : MetStr → MetStr) : (s.modMet n f).free = s.free := rfl
@[simp] theorem State.modMet_pending (n : Nat) (f : MetStr → MetStr) : (s.modMet n f).pending = s.pending := rfl

@[simp] theorem State.modRope_clk (n : Nat) (f : RopeStr → RopeStr) : (s.modRope n f).clk = s.clk := rfl
@[simp] theorem State.modRope_frm (n : Nat) (f : RopeStr → RopeStr) : (s.modRope n f).frm = s.frm := rfl
@[simp] theorem State.modRope_met (n : Nat) (f : RopeStr → RopeStr) : (s.modRope n f).met = s.met := rfl
@[simp] theorem State.modRope_tun (n : Nat) (f : RopeStr → RopeStr) : (s.modRope n f).tun = s.tun := rfl
@[simp] theorem State.modRope_sar (n : Nat) (f : RopeStr → RopeStr) : (s.modRope n f).sar = s.sar := rfl
@[simp] theorem State.modRope_cfg (n : Nat) (f : RopeStr → RopeStr) : (s.modRope n f).cfg = s.cfg := rfl
@[simp] theorem State.modRope_est (n : Nat) (f : RopeStr → RopeStr) : (s.modRope n f).est = s.est := rfl
@[simp] theorem State.modRope_trv (n : Nat) (f : RopeStr → RopeStr) : (s.modRope n f).trv = s.trv := rfl
@[simp] theorem State.modRope_hif (n : Nat) (f : RopeStr → RopeStr) : (s.modRope n f).hif = s.hif := rfl
@[simp] theorem State.modRope_evt (n : Nat) (f : RopeStr → RopeStr) : (s.modRope n f).evt = s.evt := rfl
@[simp] theorem State.modRope_cairn (n : Nat) (f : RopeStr → RopeStr) : (s.modRope n f).cairn = s.cairn := rfl
@[simp] theorem State.modRope_tim (n : Nat) (f : RopeStr → RopeStr) : (s.modRope n f).tim = s.tim := rfl
@[simp] theorem State.modRope_ptp (n : Nat) (f : RopeStr → RopeStr) : (s.modRope n f).ptp = s.ptp := rfl
@[simp] theorem State.modRope_thm (n : Nat) (f : RopeStr → RopeStr) : (s.modRope n f).thm = s.thm := rfl
@[simp] theorem State.modRope_pwr (n : Nat) (f : RopeStr → RopeStr) : (s.modRope n f).pwr = s.pwr := rfl
@[simp] theorem State.modRope_nvm (n : Nat) (f : RopeStr → RopeStr) : (s.modRope n f).nvm = s.nvm := rfl
@[simp] theorem State.modRope_diag (n : Nat) (f : RopeStr → RopeStr) : (s.modRope n f).diag = s.diag := rfl
@[simp] theorem State.modRope_sec (n : Nat) (f : RopeStr → RopeStr) : (s.modRope n f).sec = s.sec := rfl
@[simp] theorem State.modRope_leg (n : Nat) (f : RopeStr → RopeStr) : (s.modRope n f).leg = s.leg := rfl
@[simp] theorem State.modRope_sys (n : Nat) (f : RopeStr → RopeStr) : (s.modRope n f).sys = s.sys := rfl
@[simp] theorem State.modRope_hostMem (n : Nat) (f : RopeStr → RopeStr) : (s.modRope n f).hostMem = s.hostMem := rfl
@[simp] theorem State.modRope_free (n : Nat) (f : RopeStr → RopeStr) : (s.modRope n f).free = s.free := rfl
@[simp] theorem State.modRope_pending (n : Nat) (f : RopeStr → RopeStr) : (s.modRope n f).pending = s.pending := rfl

@[simp] theorem State.modTun_clk (n : Nat) (f : TunUnit → TunUnit) : (s.modTun n f).clk = s.clk := rfl
@[simp] theorem State.modTun_frm (n : Nat) (f : TunUnit → TunUnit) : (s.modTun n f).frm = s.frm := rfl
@[simp] theorem State.modTun_met (n : Nat) (f : TunUnit → TunUnit) : (s.modTun n f).met = s.met := rfl
@[simp] theorem State.modTun_sar (n : Nat) (f : TunUnit → TunUnit) : (s.modTun n f).sar = s.sar := rfl
@[simp] theorem State.modTun_rope (n : Nat) (f : TunUnit → TunUnit) : (s.modTun n f).rope = s.rope := rfl
@[simp] theorem State.modTun_cfg (n : Nat) (f : TunUnit → TunUnit) : (s.modTun n f).cfg = s.cfg := rfl
@[simp] theorem State.modTun_est (n : Nat) (f : TunUnit → TunUnit) : (s.modTun n f).est = s.est := rfl
@[simp] theorem State.modTun_trv (n : Nat) (f : TunUnit → TunUnit) : (s.modTun n f).trv = s.trv := rfl
@[simp] theorem State.modTun_hif (n : Nat) (f : TunUnit → TunUnit) : (s.modTun n f).hif = s.hif := rfl
@[simp] theorem State.modTun_evt (n : Nat) (f : TunUnit → TunUnit) : (s.modTun n f).evt = s.evt := rfl
@[simp] theorem State.modTun_cairn (n : Nat) (f : TunUnit → TunUnit) : (s.modTun n f).cairn = s.cairn := rfl
@[simp] theorem State.modTun_tim (n : Nat) (f : TunUnit → TunUnit) : (s.modTun n f).tim = s.tim := rfl
@[simp] theorem State.modTun_ptp (n : Nat) (f : TunUnit → TunUnit) : (s.modTun n f).ptp = s.ptp := rfl
@[simp] theorem State.modTun_thm (n : Nat) (f : TunUnit → TunUnit) : (s.modTun n f).thm = s.thm := rfl
@[simp] theorem State.modTun_pwr (n : Nat) (f : TunUnit → TunUnit) : (s.modTun n f).pwr = s.pwr := rfl
@[simp] theorem State.modTun_nvm (n : Nat) (f : TunUnit → TunUnit) : (s.modTun n f).nvm = s.nvm := rfl
@[simp] theorem State.modTun_diag (n : Nat) (f : TunUnit → TunUnit) : (s.modTun n f).diag = s.diag := rfl
@[simp] theorem State.modTun_sec (n : Nat) (f : TunUnit → TunUnit) : (s.modTun n f).sec = s.sec := rfl
@[simp] theorem State.modTun_leg (n : Nat) (f : TunUnit → TunUnit) : (s.modTun n f).leg = s.leg := rfl
@[simp] theorem State.modTun_sys (n : Nat) (f : TunUnit → TunUnit) : (s.modTun n f).sys = s.sys := rfl
@[simp] theorem State.modTun_hostMem (n : Nat) (f : TunUnit → TunUnit) : (s.modTun n f).hostMem = s.hostMem := rfl
@[simp] theorem State.modTun_free (n : Nat) (f : TunUnit → TunUnit) : (s.modTun n f).free = s.free := rfl
@[simp] theorem State.modTun_pending (n : Nat) (f : TunUnit → TunUnit) : (s.modTun n f).pending = s.pending := rfl

@[simp] theorem State.modConv_clk (n : Nat) (f : SarConv → SarConv) : (s.modConv n f).clk = s.clk := rfl
@[simp] theorem State.modConv_frm (n : Nat) (f : SarConv → SarConv) : (s.modConv n f).frm = s.frm := rfl
@[simp] theorem State.modConv_met (n : Nat) (f : SarConv → SarConv) : (s.modConv n f).met = s.met := rfl
@[simp] theorem State.modConv_tun (n : Nat) (f : SarConv → SarConv) : (s.modConv n f).tun = s.tun := rfl
@[simp] theorem State.modConv_rope (n : Nat) (f : SarConv → SarConv) : (s.modConv n f).rope = s.rope := rfl
@[simp] theorem State.modConv_cfg (n : Nat) (f : SarConv → SarConv) : (s.modConv n f).cfg = s.cfg := rfl
@[simp] theorem State.modConv_est (n : Nat) (f : SarConv → SarConv) : (s.modConv n f).est = s.est := rfl
@[simp] theorem State.modConv_trv (n : Nat) (f : SarConv → SarConv) : (s.modConv n f).trv = s.trv := rfl
@[simp] theorem State.modConv_hif (n : Nat) (f : SarConv → SarConv) : (s.modConv n f).hif = s.hif := rfl
@[simp] theorem State.modConv_evt (n : Nat) (f : SarConv → SarConv) : (s.modConv n f).evt = s.evt := rfl
@[simp] theorem State.modConv_cairn (n : Nat) (f : SarConv → SarConv) : (s.modConv n f).cairn = s.cairn := rfl
@[simp] theorem State.modConv_tim (n : Nat) (f : SarConv → SarConv) : (s.modConv n f).tim = s.tim := rfl
@[simp] theorem State.modConv_ptp (n : Nat) (f : SarConv → SarConv) : (s.modConv n f).ptp = s.ptp := rfl
@[simp] theorem State.modConv_thm (n : Nat) (f : SarConv → SarConv) : (s.modConv n f).thm = s.thm := rfl
@[simp] theorem State.modConv_pwr (n : Nat) (f : SarConv → SarConv) : (s.modConv n f).pwr = s.pwr := rfl
@[simp] theorem State.modConv_nvm (n : Nat) (f : SarConv → SarConv) : (s.modConv n f).nvm = s.nvm := rfl
@[simp] theorem State.modConv_diag (n : Nat) (f : SarConv → SarConv) : (s.modConv n f).diag = s.diag := rfl
@[simp] theorem State.modConv_sec (n : Nat) (f : SarConv → SarConv) : (s.modConv n f).sec = s.sec := rfl
@[simp] theorem State.modConv_leg (n : Nat) (f : SarConv → SarConv) : (s.modConv n f).leg = s.leg := rfl
@[simp] theorem State.modConv_sys (n : Nat) (f : SarConv → SarConv) : (s.modConv n f).sys = s.sys := rfl
@[simp] theorem State.modConv_hostMem (n : Nat) (f : SarConv → SarConv) : (s.modConv n f).hostMem = s.hostMem := rfl
@[simp] theorem State.modConv_free (n : Nat) (f : SarConv → SarConv) : (s.modConv n f).free = s.free := rfl
@[simp] theorem State.modConv_pending (n : Nat) (f : SarConv → SarConv) : (s.modConv n f).pending = s.pending := rfl

@[simp] theorem State.modLim_clk (n : Nat) (f : StrLim → StrLim) : (s.modLim n f).clk = s.clk := rfl
@[simp] theorem State.modLim_frm (n : Nat) (f : StrLim → StrLim) : (s.modLim n f).frm = s.frm := rfl
@[simp] theorem State.modLim_met (n : Nat) (f : StrLim → StrLim) : (s.modLim n f).met = s.met := rfl
@[simp] theorem State.modLim_tun (n : Nat) (f : StrLim → StrLim) : (s.modLim n f).tun = s.tun := rfl
@[simp] theorem State.modLim_sar (n : Nat) (f : StrLim → StrLim) : (s.modLim n f).sar = s.sar := rfl
@[simp] theorem State.modLim_rope (n : Nat) (f : StrLim → StrLim) : (s.modLim n f).rope = s.rope := rfl
@[simp] theorem State.modLim_cfg (n : Nat) (f : StrLim → StrLim) : (s.modLim n f).cfg = s.cfg := rfl
@[simp] theorem State.modLim_trv (n : Nat) (f : StrLim → StrLim) : (s.modLim n f).trv = s.trv := rfl
@[simp] theorem State.modLim_hif (n : Nat) (f : StrLim → StrLim) : (s.modLim n f).hif = s.hif := rfl
@[simp] theorem State.modLim_evt (n : Nat) (f : StrLim → StrLim) : (s.modLim n f).evt = s.evt := rfl
@[simp] theorem State.modLim_cairn (n : Nat) (f : StrLim → StrLim) : (s.modLim n f).cairn = s.cairn := rfl
@[simp] theorem State.modLim_tim (n : Nat) (f : StrLim → StrLim) : (s.modLim n f).tim = s.tim := rfl
@[simp] theorem State.modLim_ptp (n : Nat) (f : StrLim → StrLim) : (s.modLim n f).ptp = s.ptp := rfl
@[simp] theorem State.modLim_thm (n : Nat) (f : StrLim → StrLim) : (s.modLim n f).thm = s.thm := rfl
@[simp] theorem State.modLim_pwr (n : Nat) (f : StrLim → StrLim) : (s.modLim n f).pwr = s.pwr := rfl
@[simp] theorem State.modLim_nvm (n : Nat) (f : StrLim → StrLim) : (s.modLim n f).nvm = s.nvm := rfl
@[simp] theorem State.modLim_diag (n : Nat) (f : StrLim → StrLim) : (s.modLim n f).diag = s.diag := rfl
@[simp] theorem State.modLim_sec (n : Nat) (f : StrLim → StrLim) : (s.modLim n f).sec = s.sec := rfl
@[simp] theorem State.modLim_leg (n : Nat) (f : StrLim → StrLim) : (s.modLim n f).leg = s.leg := rfl
@[simp] theorem State.modLim_sys (n : Nat) (f : StrLim → StrLim) : (s.modLim n f).sys = s.sys := rfl
@[simp] theorem State.modLim_hostMem (n : Nat) (f : StrLim → StrLim) : (s.modLim n f).hostMem = s.hostMem := rfl
@[simp] theorem State.modLim_free (n : Nat) (f : StrLim → StrLim) : (s.modLim n f).free = s.free := rfl
@[simp] theorem State.modLim_pending (n : Nat) (f : StrLim → StrLim) : (s.modLim n f).pending = s.pending := rfl

@[simp] theorem State.modDom_clk (n : Nat) (f : PtpDom → PtpDom) : (s.modDom n f).clk = s.clk := rfl
@[simp] theorem State.modDom_frm (n : Nat) (f : PtpDom → PtpDom) : (s.modDom n f).frm = s.frm := rfl
@[simp] theorem State.modDom_met (n : Nat) (f : PtpDom → PtpDom) : (s.modDom n f).met = s.met := rfl
@[simp] theorem State.modDom_tun (n : Nat) (f : PtpDom → PtpDom) : (s.modDom n f).tun = s.tun := rfl
@[simp] theorem State.modDom_sar (n : Nat) (f : PtpDom → PtpDom) : (s.modDom n f).sar = s.sar := rfl
@[simp] theorem State.modDom_rope (n : Nat) (f : PtpDom → PtpDom) : (s.modDom n f).rope = s.rope := rfl
@[simp] theorem State.modDom_cfg (n : Nat) (f : PtpDom → PtpDom) : (s.modDom n f).cfg = s.cfg := rfl
@[simp] theorem State.modDom_est (n : Nat) (f : PtpDom → PtpDom) : (s.modDom n f).est = s.est := rfl
@[simp] theorem State.modDom_trv (n : Nat) (f : PtpDom → PtpDom) : (s.modDom n f).trv = s.trv := rfl
@[simp] theorem State.modDom_hif (n : Nat) (f : PtpDom → PtpDom) : (s.modDom n f).hif = s.hif := rfl
@[simp] theorem State.modDom_evt (n : Nat) (f : PtpDom → PtpDom) : (s.modDom n f).evt = s.evt := rfl
@[simp] theorem State.modDom_cairn (n : Nat) (f : PtpDom → PtpDom) : (s.modDom n f).cairn = s.cairn := rfl
@[simp] theorem State.modDom_tim (n : Nat) (f : PtpDom → PtpDom) : (s.modDom n f).tim = s.tim := rfl
@[simp] theorem State.modDom_thm (n : Nat) (f : PtpDom → PtpDom) : (s.modDom n f).thm = s.thm := rfl
@[simp] theorem State.modDom_pwr (n : Nat) (f : PtpDom → PtpDom) : (s.modDom n f).pwr = s.pwr := rfl
@[simp] theorem State.modDom_nvm (n : Nat) (f : PtpDom → PtpDom) : (s.modDom n f).nvm = s.nvm := rfl
@[simp] theorem State.modDom_diag (n : Nat) (f : PtpDom → PtpDom) : (s.modDom n f).diag = s.diag := rfl
@[simp] theorem State.modDom_sec (n : Nat) (f : PtpDom → PtpDom) : (s.modDom n f).sec = s.sec := rfl
@[simp] theorem State.modDom_leg (n : Nat) (f : PtpDom → PtpDom) : (s.modDom n f).leg = s.leg := rfl
@[simp] theorem State.modDom_sys (n : Nat) (f : PtpDom → PtpDom) : (s.modDom n f).sys = s.sys := rfl
@[simp] theorem State.modDom_hostMem (n : Nat) (f : PtpDom → PtpDom) : (s.modDom n f).hostMem = s.hostMem := rfl
@[simp] theorem State.modDom_free (n : Nat) (f : PtpDom → PtpDom) : (s.modDom n f).free = s.free := rfl
@[simp] theorem State.modDom_pending (n : Nat) (f : PtpDom → PtpDom) : (s.modDom n f).pending = s.pending := rfl

@[simp] theorem State.modPort_clk (n : Nat) (f : PtpPort → PtpPort) : (s.modPort n f).clk = s.clk := rfl
@[simp] theorem State.modPort_frm (n : Nat) (f : PtpPort → PtpPort) : (s.modPort n f).frm = s.frm := rfl
@[simp] theorem State.modPort_met (n : Nat) (f : PtpPort → PtpPort) : (s.modPort n f).met = s.met := rfl
@[simp] theorem State.modPort_tun (n : Nat) (f : PtpPort → PtpPort) : (s.modPort n f).tun = s.tun := rfl
@[simp] theorem State.modPort_sar (n : Nat) (f : PtpPort → PtpPort) : (s.modPort n f).sar = s.sar := rfl
@[simp] theorem State.modPort_rope (n : Nat) (f : PtpPort → PtpPort) : (s.modPort n f).rope = s.rope := rfl
@[simp] theorem State.modPort_cfg (n : Nat) (f : PtpPort → PtpPort) : (s.modPort n f).cfg = s.cfg := rfl
@[simp] theorem State.modPort_est (n : Nat) (f : PtpPort → PtpPort) : (s.modPort n f).est = s.est := rfl
@[simp] theorem State.modPort_trv (n : Nat) (f : PtpPort → PtpPort) : (s.modPort n f).trv = s.trv := rfl
@[simp] theorem State.modPort_hif (n : Nat) (f : PtpPort → PtpPort) : (s.modPort n f).hif = s.hif := rfl
@[simp] theorem State.modPort_evt (n : Nat) (f : PtpPort → PtpPort) : (s.modPort n f).evt = s.evt := rfl
@[simp] theorem State.modPort_cairn (n : Nat) (f : PtpPort → PtpPort) : (s.modPort n f).cairn = s.cairn := rfl
@[simp] theorem State.modPort_tim (n : Nat) (f : PtpPort → PtpPort) : (s.modPort n f).tim = s.tim := rfl
@[simp] theorem State.modPort_thm (n : Nat) (f : PtpPort → PtpPort) : (s.modPort n f).thm = s.thm := rfl
@[simp] theorem State.modPort_pwr (n : Nat) (f : PtpPort → PtpPort) : (s.modPort n f).pwr = s.pwr := rfl
@[simp] theorem State.modPort_nvm (n : Nat) (f : PtpPort → PtpPort) : (s.modPort n f).nvm = s.nvm := rfl
@[simp] theorem State.modPort_diag (n : Nat) (f : PtpPort → PtpPort) : (s.modPort n f).diag = s.diag := rfl
@[simp] theorem State.modPort_sec (n : Nat) (f : PtpPort → PtpPort) : (s.modPort n f).sec = s.sec := rfl
@[simp] theorem State.modPort_leg (n : Nat) (f : PtpPort → PtpPort) : (s.modPort n f).leg = s.leg := rfl
@[simp] theorem State.modPort_sys (n : Nat) (f : PtpPort → PtpPort) : (s.modPort n f).sys = s.sys := rfl
@[simp] theorem State.modPort_hostMem (n : Nat) (f : PtpPort → PtpPort) : (s.modPort n f).hostMem = s.hostMem := rfl
@[simp] theorem State.modPort_free (n : Nat) (f : PtpPort → PtpPort) : (s.modPort n f).free = s.free := rfl
@[simp] theorem State.modPort_pending (n : Nat) (f : PtpPort → PtpPort) : (s.modPort n f).pending = s.pending := rfl

@[simp] theorem State.modRing_clk (n : Nat) (f : Ring → Ring) : (s.modRing n f).clk = s.clk := rfl
@[simp] theorem State.modRing_frm (n : Nat) (f : Ring → Ring) : (s.modRing n f).frm = s.frm := rfl
@[simp] theorem State.modRing_met (n : Nat) (f : Ring → Ring) : (s.modRing n f).met = s.met := rfl
@[simp] theorem State.modRing_tun (n : Nat) (f : Ring → Ring) : (s.modRing n f).tun = s.tun := rfl
@[simp] theorem State.modRing_sar (n : Nat) (f : Ring → Ring) : (s.modRing n f).sar = s.sar := rfl
@[simp] theorem State.modRing_rope (n : Nat) (f : Ring → Ring) : (s.modRing n f).rope = s.rope := rfl
@[simp] theorem State.modRing_cfg (n : Nat) (f : Ring → Ring) : (s.modRing n f).cfg = s.cfg := rfl
@[simp] theorem State.modRing_est (n : Nat) (f : Ring → Ring) : (s.modRing n f).est = s.est := rfl
@[simp] theorem State.modRing_trv (n : Nat) (f : Ring → Ring) : (s.modRing n f).trv = s.trv := rfl
@[simp] theorem State.modRing_evt (n : Nat) (f : Ring → Ring) : (s.modRing n f).evt = s.evt := rfl
@[simp] theorem State.modRing_cairn (n : Nat) (f : Ring → Ring) : (s.modRing n f).cairn = s.cairn := rfl
@[simp] theorem State.modRing_tim (n : Nat) (f : Ring → Ring) : (s.modRing n f).tim = s.tim := rfl
@[simp] theorem State.modRing_ptp (n : Nat) (f : Ring → Ring) : (s.modRing n f).ptp = s.ptp := rfl
@[simp] theorem State.modRing_thm (n : Nat) (f : Ring → Ring) : (s.modRing n f).thm = s.thm := rfl
@[simp] theorem State.modRing_pwr (n : Nat) (f : Ring → Ring) : (s.modRing n f).pwr = s.pwr := rfl
@[simp] theorem State.modRing_nvm (n : Nat) (f : Ring → Ring) : (s.modRing n f).nvm = s.nvm := rfl
@[simp] theorem State.modRing_diag (n : Nat) (f : Ring → Ring) : (s.modRing n f).diag = s.diag := rfl
@[simp] theorem State.modRing_sec (n : Nat) (f : Ring → Ring) : (s.modRing n f).sec = s.sec := rfl
@[simp] theorem State.modRing_leg (n : Nat) (f : Ring → Ring) : (s.modRing n f).leg = s.leg := rfl
@[simp] theorem State.modRing_sys (n : Nat) (f : Ring → Ring) : (s.modRing n f).sys = s.sys := rfl
@[simp] theorem State.modRing_hostMem (n : Nat) (f : Ring → Ring) : (s.modRing n f).hostMem = s.hostMem := rfl
@[simp] theorem State.modRing_free (n : Nat) (f : Ring → Ring) : (s.modRing n f).free = s.free := rfl
@[simp] theorem State.modRing_pending (n : Nat) (f : Ring → Ring) : (s.modRing n f).pending = s.pending := rfl

@[simp] theorem State.setCell_clk (n : Nat) (c : Cell) : (s.setCell n c).clk = s.clk := rfl
@[simp] theorem State.setCell_frm (n : Nat) (c : Cell) : (s.setCell n c).frm = s.frm := rfl
@[simp] theorem State.setCell_met (n : Nat) (c : Cell) : (s.setCell n c).met = s.met := rfl
@[simp] theorem State.setCell_tun (n : Nat) (c : Cell) : (s.setCell n c).tun = s.tun := rfl
@[simp] theorem State.setCell_sar (n : Nat) (c : Cell) : (s.setCell n c).sar = s.sar := rfl
@[simp] theorem State.setCell_rope (n : Nat) (c : Cell) : (s.setCell n c).rope = s.rope := rfl
@[simp] theorem State.setCell_cfg (n : Nat) (c : Cell) : (s.setCell n c).cfg = s.cfg := rfl
@[simp] theorem State.setCell_trv (n : Nat) (c : Cell) : (s.setCell n c).trv = s.trv := rfl
@[simp] theorem State.setCell_hif (n : Nat) (c : Cell) : (s.setCell n c).hif = s.hif := rfl
@[simp] theorem State.setCell_evt (n : Nat) (c : Cell) : (s.setCell n c).evt = s.evt := rfl
@[simp] theorem State.setCell_cairn (n : Nat) (c : Cell) : (s.setCell n c).cairn = s.cairn := rfl
@[simp] theorem State.setCell_tim (n : Nat) (c : Cell) : (s.setCell n c).tim = s.tim := rfl
@[simp] theorem State.setCell_ptp (n : Nat) (c : Cell) : (s.setCell n c).ptp = s.ptp := rfl
@[simp] theorem State.setCell_thm (n : Nat) (c : Cell) : (s.setCell n c).thm = s.thm := rfl
@[simp] theorem State.setCell_pwr (n : Nat) (c : Cell) : (s.setCell n c).pwr = s.pwr := rfl
@[simp] theorem State.setCell_nvm (n : Nat) (c : Cell) : (s.setCell n c).nvm = s.nvm := rfl
@[simp] theorem State.setCell_diag (n : Nat) (c : Cell) : (s.setCell n c).diag = s.diag := rfl
@[simp] theorem State.setCell_sec (n : Nat) (c : Cell) : (s.setCell n c).sec = s.sec := rfl
@[simp] theorem State.setCell_leg (n : Nat) (c : Cell) : (s.setCell n c).leg = s.leg := rfl
@[simp] theorem State.setCell_sys (n : Nat) (c : Cell) : (s.setCell n c).sys = s.sys := rfl
@[simp] theorem State.setCell_hostMem (n : Nat) (c : Cell) : (s.setCell n c).hostMem = s.hostMem := rfl
@[simp] theorem State.setCell_free (n : Nat) (c : Cell) : (s.setCell n c).free = s.free := rfl
@[simp] theorem State.setCell_pending (n : Nat) (c : Cell) : (s.setCell n c).pending = s.pending := rfl

@[simp] theorem State.dma_clk (a : Nat) (l : List Byte) : (s.dma a l).clk = s.clk := rfl
@[simp] theorem State.dma_frm (a : Nat) (l : List Byte) : (s.dma a l).frm = s.frm := rfl
@[simp] theorem State.dma_met (a : Nat) (l : List Byte) : (s.dma a l).met = s.met := rfl
@[simp] theorem State.dma_tun (a : Nat) (l : List Byte) : (s.dma a l).tun = s.tun := rfl
@[simp] theorem State.dma_sar (a : Nat) (l : List Byte) : (s.dma a l).sar = s.sar := rfl
@[simp] theorem State.dma_rope (a : Nat) (l : List Byte) : (s.dma a l).rope = s.rope := rfl
@[simp] theorem State.dma_cfg (a : Nat) (l : List Byte) : (s.dma a l).cfg = s.cfg := rfl
@[simp] theorem State.dma_est (a : Nat) (l : List Byte) : (s.dma a l).est = s.est := rfl
@[simp] theorem State.dma_trv (a : Nat) (l : List Byte) : (s.dma a l).trv = s.trv := rfl
@[simp] theorem State.dma_hif (a : Nat) (l : List Byte) : (s.dma a l).hif = s.hif := rfl
@[simp] theorem State.dma_evt (a : Nat) (l : List Byte) : (s.dma a l).evt = s.evt := rfl
@[simp] theorem State.dma_cairn (a : Nat) (l : List Byte) : (s.dma a l).cairn = s.cairn := rfl
@[simp] theorem State.dma_tim (a : Nat) (l : List Byte) : (s.dma a l).tim = s.tim := rfl
@[simp] theorem State.dma_ptp (a : Nat) (l : List Byte) : (s.dma a l).ptp = s.ptp := rfl
@[simp] theorem State.dma_thm (a : Nat) (l : List Byte) : (s.dma a l).thm = s.thm := rfl
@[simp] theorem State.dma_pwr (a : Nat) (l : List Byte) : (s.dma a l).pwr = s.pwr := rfl
@[simp] theorem State.dma_nvm (a : Nat) (l : List Byte) : (s.dma a l).nvm = s.nvm := rfl
@[simp] theorem State.dma_diag (a : Nat) (l : List Byte) : (s.dma a l).diag = s.diag := rfl
@[simp] theorem State.dma_sec (a : Nat) (l : List Byte) : (s.dma a l).sec = s.sec := rfl
@[simp] theorem State.dma_leg (a : Nat) (l : List Byte) : (s.dma a l).leg = s.leg := rfl
@[simp] theorem State.dma_sys (a : Nat) (l : List Byte) : (s.dma a l).sys = s.sys := rfl
@[simp] theorem State.dma_free (a : Nat) (l : List Byte) : (s.dma a l).free = s.free := rfl
@[simp] theorem State.dma_pending (a : Nat) (l : List Byte) : (s.dma a l).pending = s.pending := rfl

@[simp] theorem State.setTime_frm (n : Int) (k : Bool) : (s.setTime n k).frm = s.frm := State.withClk_frm s (s.setTime n k).clk
@[simp] theorem State.setTime_met (n : Int) (k : Bool) : (s.setTime n k).met = s.met := State.withClk_met s (s.setTime n k).clk
@[simp] theorem State.setTime_tun (n : Int) (k : Bool) : (s.setTime n k).tun = s.tun := State.withClk_tun s (s.setTime n k).clk
@[simp] theorem State.setTime_sar (n : Int) (k : Bool) : (s.setTime n k).sar = s.sar := State.withClk_sar s (s.setTime n k).clk
@[simp] theorem State.setTime_rope (n : Int) (k : Bool) : (s.setTime n k).rope = s.rope := State.withClk_rope s (s.setTime n k).clk
@[simp] theorem State.setTime_cfg (n : Int) (k : Bool) : (s.setTime n k).cfg = s.cfg := State.withClk_cfg s (s.setTime n k).clk
@[simp] theorem State.setTime_est (n : Int) (k : Bool) : (s.setTime n k).est = s.est := State.withClk_est s (s.setTime n k).clk
@[simp] theorem State.setTime_trv (n : Int) (k : Bool) : (s.setTime n k).trv = s.trv := State.withClk_trv s (s.setTime n k).clk
@[simp] theorem State.setTime_hif (n : Int) (k : Bool) : (s.setTime n k).hif = s.hif := State.withClk_hif s (s.setTime n k).clk
@[simp] theorem State.setTime_evt (n : Int) (k : Bool) : (s.setTime n k).evt = s.evt := State.withClk_evt s (s.setTime n k).clk
@[simp] theorem State.setTime_cairn (n : Int) (k : Bool) : (s.setTime n k).cairn = s.cairn := State.withClk_cairn s (s.setTime n k).clk
@[simp] theorem State.setTime_tim (n : Int) (k : Bool) : (s.setTime n k).tim = s.tim := State.withClk_tim s (s.setTime n k).clk
@[simp] theorem State.setTime_ptp (n : Int) (k : Bool) : (s.setTime n k).ptp = s.ptp := State.withClk_ptp s (s.setTime n k).clk
@[simp] theorem State.setTime_thm (n : Int) (k : Bool) : (s.setTime n k).thm = s.thm := State.withClk_thm s (s.setTime n k).clk
@[simp] theorem State.setTime_pwr (n : Int) (k : Bool) : (s.setTime n k).pwr = s.pwr := State.withClk_pwr s (s.setTime n k).clk
@[simp] theorem State.setTime_nvm (n : Int) (k : Bool) : (s.setTime n k).nvm = s.nvm := State.withClk_nvm s (s.setTime n k).clk
@[simp] theorem State.setTime_diag (n : Int) (k : Bool) : (s.setTime n k).diag = s.diag := State.withClk_diag s (s.setTime n k).clk
@[simp] theorem State.setTime_sec (n : Int) (k : Bool) : (s.setTime n k).sec = s.sec := State.withClk_sec s (s.setTime n k).clk
@[simp] theorem State.setTime_leg (n : Int) (k : Bool) : (s.setTime n k).leg = s.leg := State.withClk_leg s (s.setTime n k).clk
@[simp] theorem State.setTime_sys (n : Int) (k : Bool) : (s.setTime n k).sys = s.sys := State.withClk_sys s (s.setTime n k).clk
@[simp] theorem State.setTime_hostMem (n : Int) (k : Bool) : (s.setTime n k).hostMem = s.hostMem := State.withClk_hostMem s (s.setTime n k).clk
@[simp] theorem State.setTime_free (n : Int) (k : Bool) : (s.setTime n k).free = s.free := State.withClk_free s (s.setTime n k).clk
@[simp] theorem State.setTime_pending (n : Int) (k : Bool) : (s.setTime n k).pending = s.pending := State.withClk_pending s (s.setTime n k).clk

@[simp] theorem State.draw_clk : s.draw.2.clk = s.clk := rfl
@[simp] theorem State.draw_frm : s.draw.2.frm = s.frm := rfl
@[simp] theorem State.draw_met : s.draw.2.met = s.met := rfl
@[simp] theorem State.draw_tun : s.draw.2.tun = s.tun := rfl
@[simp] theorem State.draw_sar : s.draw.2.sar = s.sar := rfl
@[simp] theorem State.draw_rope : s.draw.2.rope = s.rope := rfl
@[simp] theorem State.draw_cfg : s.draw.2.cfg = s.cfg := rfl
@[simp] theorem State.draw_est : s.draw.2.est = s.est := rfl
@[simp] theorem State.draw_trv : s.draw.2.trv = s.trv := rfl
@[simp] theorem State.draw_hif : s.draw.2.hif = s.hif := rfl
@[simp] theorem State.draw_evt : s.draw.2.evt = s.evt := rfl
@[simp] theorem State.draw_cairn : s.draw.2.cairn = s.cairn := rfl
@[simp] theorem State.draw_tim : s.draw.2.tim = s.tim := rfl
@[simp] theorem State.draw_ptp : s.draw.2.ptp = s.ptp := rfl
@[simp] theorem State.draw_thm : s.draw.2.thm = s.thm := rfl
@[simp] theorem State.draw_pwr : s.draw.2.pwr = s.pwr := rfl
@[simp] theorem State.draw_nvm : s.draw.2.nvm = s.nvm := rfl
@[simp] theorem State.draw_diag : s.draw.2.diag = s.diag := rfl
@[simp] theorem State.draw_sec : s.draw.2.sec = s.sec := rfl
@[simp] theorem State.draw_leg : s.draw.2.leg = s.leg := rfl
@[simp] theorem State.draw_sys : s.draw.2.sys = s.sys := rfl
@[simp] theorem State.draw_hostMem : s.draw.2.hostMem = s.hostMem := rfl
@[simp] theorem State.draw_pending : s.draw.2.pending = s.pending := rfl
@[simp] theorem State.draw_free : s.draw.2.free = s.free + 1 := rfl
@[simp] theorem State.draw_number : s.draw.1 = s.free := rfl

end

/-! ### Elements read back -/

theorem getD_modify_same {α : Type} {l : List α} {n : Nat} (h : n < l.length) (f : α → α) (d : α) :
    (l.modify n f).getD n d = f (l.getD n d) := by
  simp [List.getD, h]

theorem getD_modify_other {α : Type} (l : List α) {n k : Nat} (h : n ≠ k) (f : α → α) (d : α) :
    (l.modify n f).getD k d = l.getD k d := by
  simp [List.getD, h]

theorem State.modMet_metStr_same {s : State} {n : Nat} (h : n < s.met.strs.length) (f : MetStr → MetStr) :
    (s.modMet n f).metStr n = f (s.metStr n) := getD_modify_same h f _

theorem State.modMet_metStr_other (s : State) {n k : Nat} (h : n ≠ k) (f : MetStr → MetStr) :
    (s.modMet n f).metStr k = s.metStr k := getD_modify_other _ h f _

@[simp] theorem State.modMet_length (s : State) (n : Nat) (f : MetStr → MetStr) : (s.modMet n f).met.strs.length = s.met.strs.length :=
  List.length_modify ..

theorem State.modRope_ropeStr_same {s : State} {n : Nat} (h : n < s.rope.strs.length) (f : RopeStr → RopeStr) :
    (s.modRope n f).ropeStr n = f (s.ropeStr n) := getD_modify_same h f _

theorem State.modRope_ropeStr_other (s : State) {n k : Nat} (h : n ≠ k) (f : RopeStr → RopeStr) :
    (s.modRope n f).ropeStr k = s.ropeStr k := getD_modify_other _ h f _

@[simp] theorem State.modRope_length (s : State) (n : Nat) (f : RopeStr → RopeStr) : (s.modRope n f).rope.strs.length = s.rope.strs.length :=
  List.length_modify ..

theorem State.modTun_tunUnit_same {s : State} {n : Nat} (h : n < s.tun.units.length) (f : TunUnit → TunUnit) :
    (s.modTun n f).tunUnit n = f (s.tunUnit n) := getD_modify_same h f _

theorem State.modTun_tunUnit_other (s : State) {n k : Nat} (h : n ≠ k) (f : TunUnit → TunUnit) :
    (s.modTun n f).tunUnit k = s.tunUnit k := getD_modify_other _ h f _

@[simp] theorem State.modTun_length (s : State) (n : Nat) (f : TunUnit → TunUnit) : (s.modTun n f).tun.units.length = s.tun.units.length :=
  List.length_modify ..

theorem State.modConv_conv_same {s : State} {n : Nat} (h : n < s.sar.convs.length) (f : SarConv → SarConv) :
    (s.modConv n f).conv n = f (s.conv n) := getD_modify_same h f _

theorem State.modConv_conv_other (s : State) {n k : Nat} (h : n ≠ k) (f : SarConv → SarConv) :
    (s.modConv n f).conv k = s.conv k := getD_modify_other _ h f _

@[simp] theorem State.modConv_length (s : State) (n : Nat) (f : SarConv → SarConv) : (s.modConv n f).sar.convs.length = s.sar.convs.length :=
  List.length_modify ..

theorem State.modLim_lim_same {s : State} {n : Nat} (h : n < s.est.strs.length) (f : StrLim → StrLim) :
    (s.modLim n f).lim n = f (s.lim n) := getD_modify_same h f _

theorem State.modLim_lim_other (s : State) {n k : Nat} (h : n ≠ k) (f : StrLim → StrLim) :
    (s.modLim n f).lim k = s.lim k := getD_modify_other _ h f _

@[simp] theorem State.modLim_length (s : State) (n : Nat) (f : StrLim → StrLim) : (s.modLim n f).est.strs.length = s.est.strs.length :=
  List.length_modify ..

theorem State.modDom_dom_same {s : State} {n : Nat} (h : n < s.ptp.doms.length) (f : PtpDom → PtpDom) :
    (s.modDom n f).dom n = f (s.dom n) := getD_modify_same h f _

theorem State.modDom_dom_other (s : State) {n k : Nat} (h : n ≠ k) (f : PtpDom → PtpDom) :
    (s.modDom n f).dom k = s.dom k := getD_modify_other _ h f _

@[simp] theorem State.modDom_length (s : State) (n : Nat) (f : PtpDom → PtpDom) : (s.modDom n f).ptp.doms.length = s.ptp.doms.length :=
  List.length_modify ..

theorem State.modPort_port_same {s : State} {n : Nat} (h : n < s.ptp.ports.length) (f : PtpPort → PtpPort) :
    (s.modPort n f).port n = f (s.port n) := getD_modify_same h f _

theorem State.modPort_port_other (s : State) {n k : Nat} (h : n ≠ k) (f : PtpPort → PtpPort) :
    (s.modPort n f).port k = s.port k := getD_modify_other _ h f _

@[simp] theorem State.modPort_length (s : State) (n : Nat) (f : PtpPort → PtpPort) : (s.modPort n f).ptp.ports.length = s.ptp.ports.length :=
  List.length_modify ..

theorem State.modRing_ring_same {s : State} {n : Nat} (h : n < s.hif.rings.length) (f : Ring → Ring) :
    (s.modRing n f).ring n = f (s.ring n) := getD_modify_same h f _

theorem State.modRing_ring_other (s : State) {n k : Nat} (h : n ≠ k) (f : Ring → Ring) :
    (s.modRing n f).ring k = s.ring k := getD_modify_other _ h f _

@[simp] theorem State.modRing_length (s : State) (n : Nat) (f : Ring → Ring) : (s.modRing n f).hif.rings.length = s.hif.rings.length :=
  List.length_modify ..

end Sys2Proof.Machine
end

