-- ==== Sys2Proof/Laws/Memory.lean ====
section
/-! SUPPORT. Host memory: a posted write keeps the canonical form, and so does every operation built on it. -/

namespace Sys2Proof.Machine

/-- The cells of a run lie inside it and are not 0. -/
theorem Memory.mem_cells {l : List Byte} {a : Nat} {c : Host.Cell} (h : c ∈ Memory.cells a l) :
    a ≤ c.1 ∧ c.1 < a + l.length ∧ c.2 ≠ 0 := by
  induction l generalizing a with
  | nil => simp [Memory.cells] at h
  | cons b r ih =>
    simp only [Memory.cells] at h
    split at h
    · have := ih h; simp only [List.length_cons]; exact ⟨by omega, by omega, this.2.2⟩
    · rcases List.mem_cons.1 h with rfl | h
      · simp only [List.length_cons]; exact ⟨le_rfl, by omega, ‹_›⟩
      · have := ih h; simp only [List.length_cons]; exact ⟨by omega, by omega, this.2.2⟩

/-- The cells of a run rise. -/
theorem Memory.cells_rise (l : List Byte) (a : Nat) : (Memory.cells a l).Pairwise (fun x y => x.1 < y.1) := by
  induction l generalizing a with
  | nil => exact .nil
  | cons b r ih =>
    simp only [Memory.cells]
    split
    · exact ih _
    · exact .cons (fun c hc => by have := Memory.mem_cells hc; simp only; omega) (ih _)

theorem Memory.wf_iff {m : List Host.Cell} :
    Memory.wf m = true ↔ m.Pairwise (fun x y => x.1 < y.1) ∧ ∀ c ∈ m, c.2 ≠ 0 := by
  simp [Memory.wf]

/-- A posted write keeps the canonical form. -/
theorem Memory.wf_write {m : List Host.Cell} (a : Nat) (l : List Byte) (h : Memory.wf m = true) :
    Memory.wf (Memory.write m a l) = true := by
  obtain ⟨hp, hz⟩ := Memory.wf_iff.1 h
  refine Memory.wf_iff.2 ⟨?_, fun c hc => ?_⟩
  · simp only [Memory.write, List.append_assoc]
    refine List.pairwise_append.2 ⟨hp.filter _, List.pairwise_append.2 ⟨Memory.cells_rise l a, hp.filter _, ?_⟩, ?_⟩
    · intro x hx y hy
      have := Memory.mem_cells hx
      have := (List.mem_filter.1 hy).2
      simp only [decide_eq_true_eq] at this; omega
    · intro x hx y hy
      have hx := (List.mem_filter.1 hx).2
      simp only [decide_eq_true_eq] at hx
      rcases List.mem_append.1 hy with hy | hy
      · have := Memory.mem_cells hy; omega
      · have hy := (List.mem_filter.1 hy).2
        simp only [decide_eq_true_eq] at hy; omega
  · simp only [Memory.write, List.mem_append, List.mem_filter] at hc
    rcases hc with (hc | hc) | hc
    · exact hz c hc.1
    · exact (Memory.mem_cells hc).2.2
    · exact hz c hc.1

@[simp] theorem State.dma_hostMem (s : State) (a : Nat) (l : List Byte) : (s.dma a l).hostMem = Memory.write s.hostMem a l := rfl

/-- A write by the device keeps the canonical form of host memory. -/
theorem State.wf_dma {s : State} (a : Nat) (l : List Byte) (h : Memory.wf s.hostMem = true) : Memory.wf (s.dma a l).hostMem = true :=
  Memory.wf_write a l h

end Sys2Proof.Machine
end

