-- ==== Sys2Proof/Laws/PerInstr.lean ====
section
/-! SUPPORT. One fact per command: no table word spells it, since spec/opcode_table.json gives its rows no bits. -/

namespace Sys2Proof.Laws.unspelled

/-- No word of any length decodes to the command. -/
def Statement (i : Instr) : Prop := ∀ nbits w, decodeTableWord nbits w ≠ some i

theorem all (i : Instr) : Statement i := fun _ _ h => by simp [decodeTableWord] at h

theorem powerGood (r : BootReport) : Statement (.powerGood r) := all _
theorem bootResume : Statement (.bootResume) := all _
theorem bootXtalTimeout : Statement (.bootXtalTimeout) := all _
theorem porstNAssert : Statement (.porstNAssert) := all _
theorem brownOut (vauxMv : Nat) : Statement (.brownOut vauxMv) := all _
theorem watchdogReset : Statement (.watchdogReset) := all _
theorem hardCut : Statement (.hardCut) := all _
theorem xtalLost : Statement (.xtalLost) := all _
theorem vauxWarning (mv : Nat) : Statement (.vauxWarning mv) := all _
theorem holdEntry (mv : Nat) : Statement (.holdEntry mv) := all _
theorem holdCommitDone : Statement (.holdCommitDone) := all _
theorem holdReturn (mv : Nat) : Statement (.holdReturn mv) := all _
theorem fwTrialConfirm : Statement (.fwTrialConfirm) := all _
theorem pwrModeWrite (v : Reg) : Statement (.pwrModeWrite v) := all _
theorem windowBoundary (edge : Held) : Statement (.windowBoundary edge) := all _
theorem windowChargeEntry (str : Nat) (count : BitVec 44) (ovr : Bool) : Statement (.windowChargeEntry str count ovr) := all _
theorem tuningSlotEnd (unit : Nat) (volts : Rat) : Statement (.tuningSlotEnd unit volts) := all _
theorem tuningFitDone (unit : Nat) : Statement (.tuningFitDone unit) := all _
theorem openWireSlot (port : Nat) (failed : Bool) : Statement (.openWireSlot port failed) := all _
theorem rrefRatioCheck (ratio : Rat) : Statement (.rrefRatioCheck ratio) := all _
theorem sarRoundStart : Statement (.sarRoundStart) := all _
theorem sarConversionEnd (conv : Nat) (volts : Rat) (rail : Rail) : Statement (.sarConversionEnd conv volts rail) := all _
theorem housekeepingPeriodEnd (sums : Held) : Statement (.housekeepingPeriodEnd sums) := all _
theorem tdacDiagnosis (f0 f1 : Held) : Statement (.tdacDiagnosis f0 f1) := all _
theorem tdacCheck (seen : Held) : Statement (.tdacCheck seen) := all _
theorem ocTrip (x : OcSamples) : Statement (.ocTrip x) := all _
theorem ocRelease (x : OcSamples) : Statement (.ocRelease x) := all _
theorem ocTripNMinEnd : Statement (.ocTripNMinEnd) := all _
theorem lineZeroCrossing : Statement (.lineZeroCrossing) := all _
theorem lineCrossingTimeout : Statement (.lineCrossingTimeout) := all _
theorem startSync : Statement (.startSync) := all _
theorem endSync : Statement (.endSync) := all _
theorem sampleInstant : Statement (.sampleInstant) := all _
theorem sweepStart : Statement (.sweepStart) := all _
theorem ropeRespReceived (f : RespFrame) : Statement (.ropeRespReceived f) := all _
theorem ropeAttemptTimeout (str : Nat) (fromEnd : RopeEnd) (addr : Nat) (seq : Nat) : Statement (.ropeAttemptTimeout str fromEnd addr seq) := all _
theorem belaySend (str : Nat) : Statement (.belaySend str) := all _
theorem reachProbe (str : Nat) : Statement (.reachProbe str) := all _
theorem throughProbe (str : Nat) : Statement (.throughProbe str) := all _
theorem belayReturned (t : BelayTone) : Statement (.belayReturned t) := all _
theorem belayNotReturned (str : Nat) (fromEnd : RopeEnd) : Statement (.belayNotReturned str fromEnd) := all _
theorem faultNMinEnd : Statement (.faultNMinEnd) := all _
theorem tieFrameArrived (str : Nat) (bytes : List Byte) (extraBits : Nat) (delayNs : Rat) : Statement (.tieFrameArrived str bytes extraBits delayNs) := all _
theorem tieFrameTimeout (str : Nat) : Statement (.tieFrameTimeout str) := all _
theorem timeUpdateDone : Statement (.timeUpdateDone) := all _
theorem measurementUpdateDone (d : UpdateDone) : Statement (.measurementUpdateDone d) := all _
theorem cairnBegin : Statement (.cairnBegin) := all _
theorem cairnComplete : Statement (.cairnComplete) := all _
theorem cairnDeadline (writesHeld : Bool) : Statement (.cairnDeadline writesHeld) := all _
theorem aliveToggle : Statement (.aliveToggle) := all _
theorem statusBlockTimer : Statement (.statusBlockTimer) := all _
theorem doorbellPoll : Statement (.doorbellPoll) := all _
theorem doorbellReadDone (d : DmaRead) : Statement (.doorbellReadDone d) := all _
theorem submissionFetch : Statement (.submissionFetch) := all _
theorem submissionFetchDone (d : DmaRead) : Statement (.submissionFetchDone d) := all _
theorem commandStart (sq : Nat) : Statement (.commandStart sq) := all _
theorem eventEntryWrite : Statement (.eventEntryWrite) := all _
theorem msixModerationTimeout (vec : Nat) : Statement (.msixModerationTimeout vec) := all _
theorem msixVectorUnmask (w : MsixWrite) : Statement (.msixVectorUnmask w) := all _
theorem smrEntryWrite : Statement (.smrEntryWrite) := all _
theorem ptxFetch (d : DmaRead) : Statement (.ptxFetch d) := all _
theorem ptpFrameTransmitted (port : Nat) (tag : Held) (stampNs : Int) : Statement (.ptpFrameTransmitted port tag stampNs) := all _
theorem perst : Statement (.perst) := all _
theorem functionLevelReset : Statement (.functionLevelReset) := all _
theorem linkDown : Statement (.linkDown) := all _
theorem bar0MisalignedAccess (isWrite : Bool) : Statement (.bar0MisalignedAccess isWrite) := all _
theorem registerWrite (off : Nat) (v : Reg) : Statement (.registerWrite off v) := all _
theorem ringEnable (v : Reg) : Statement (.ringEnable v) := all _
theorem ringDisable (v : Reg) : Statement (.ringDisable v) := all _
theorem metLoRead (off : Nat) : Statement (.metLoRead off) := all _
theorem timNowLoRead : Statement (.timNowLoRead) := all _
theorem timLatLoRead : Statement (.timLatLoRead) := all _
theorem timPpsinLoRead : Statement (.timPpsinLoRead) := all _
theorem ptpDomGmLoRead : Statement (.ptpDomGmLoRead) := all _
theorem sysEpochLoRead : Statement (.sysEpochLoRead) := all _
theorem diagFramesLoRead : Statement (.diagFramesLoRead) := all _
theorem sarQLoRead : Statement (.sarQLoRead) := all _
theorem ptpTxtsTagRead : Statement (.ptpTxtsTagRead) := all _
theorem timLatchCapture : Statement (.timLatchCapture) := all _
theorem thmDiePeakClr : Statement (.thmDiePeakClr) := all _
theorem sysCtrlSave : Statement (.sysCtrlSave) := all _
theorem ptpCtrlSave (v : Reg) : Statement (.ptpCtrlSave v) := all _
theorem legCtrlSave (v : Reg) : Statement (.legCtrlSave v) := all _
theorem ptpDomainReconfigure (off : Nat) (v : Reg) : Statement (.ptpDomainReconfigure off v) := all _
theorem ptpMdioGo (v : Reg) : Statement (.ptpMdioGo v) := all _
theorem mdioAccessDone (x : MdioAnswer) : Statement (.mdioAccessDone x) := all _
theorem time64Second : Statement (.time64Second) := all _
theorem ppsOutPulseEnd : Statement (.ppsOutPulseEnd) := all _
theorem cmpFire (unit : Nat) : Statement (.cmpFire unit) := all _
theorem trigOutPulseEnd (unit : Nat) : Statement (.trigOutPulseEnd unit) := all _
theorem ppsInEdge : Statement (.ppsInEdge) := all _
theorem ppsLoss : Statement (.ppsLoss) := all _
theorem xoCorrectionUpdate : Statement (.xoCorrectionUpdate) := all _
theorem ptpSyncReceived (m : PtpSync) : Statement (.ptpSyncReceived m) := all _
theorem ptpFollowUpReceived (h : PtpHead) (originNs : Int) (corrNs : Int) : Statement (.ptpFollowUpReceived h originNs corrNs) := all _
theorem ptpDelayRespReceived (h : PtpHead) (recvNs : Int) : Statement (.ptpDelayRespReceived h recvNs) := all _
theorem ptpPdelayReqReceived (h : PtpHead) (x : PdelayStamps) : Statement (.ptpPdelayReqReceived h x) := all _
theorem ptpPdelayRespReceived (h : PtpHead) (twoStep : Bool) (rxNs : Int) (recvNs : Int) (corrNs : Int) : Statement (.ptpPdelayRespReceived h twoStep rxNs recvNs corrNs) := all _
theorem ptpPdelayRespFollowUpReceived (h : PtpHead) (originNs : Int) (corrNs : Int) : Statement (.ptpPdelayRespFollowUpReceived h originNs corrNs) := all _
theorem ptpAnnounceReceived (m : PtpAnnounce) : Statement (.ptpAnnounceReceived m) := all _
theorem arpRequestReceived (port : Nat) (target : Nat) : Statement (.arpRequestReceived port target) := all _
theorem ethernetFrameDiscarded (port : Nat) : Statement (.ethernetFrameDiscarded port) := all _
theorem prxFrameReceived (f : RxFrame) : Statement (.prxFrameReceived f) := all _
theorem ptpDelayReqSend (r : PtpRequest) : Statement (.ptpDelayReqSend r) := all _
theorem ptpSyncTimeout (dom : Nat) : Statement (.ptpSyncTimeout dom) := all _
theorem ptpAnnounceTimeout (dom : Nat) : Statement (.ptpAnnounceTimeout dom) := all _
theorem ptpFreezeEnd (dom : Nat) (offset path : Held) : Statement (.ptpFreezeEnd dom offset path) := all _
theorem ptpPathDelayStable (dom : Nat) (path offset : Held) : Statement (.ptpPathDelayStable dom path offset) := all _
theorem hostServoTimeout : Statement (.hostServoTimeout) := all _
theorem urgentRecordTimer : Statement (.urgentRecordTimer) := all _
theorem fullSetTimer : Statement (.fullSetTimer) := all _
theorem nvmPageProgrammed (ok : Bool) : Statement (.nvmPageProgrammed ok) := all _
theorem nvmSectorErased (e : SectorId) (ok : Bool) : Statement (.nvmSectorErased e ok) := all _
theorem selfTestStart (unit : UnitId) : Statement (.selfTestStart unit) := all _
theorem selfTestDone (r : TestReport) : Statement (.selfTestDone r) := all _
theorem sramEccError (bank : Nat) (correctable : Bool) (place : EccPlace) : Statement (.sramEccError bank correctable place) := all _
theorem sramBankCopyDone (bank : Nat) : Statement (.sramBankCopyDone bank) := all _
theorem laneChunkTimeout (lane : Nat) : Statement (.laneChunkTimeout lane) := all _
theorem traverseAdmission (profile : DmaRead) (ambient : DmaRead) : Statement (.traverseAdmission profile ambient) := all _
theorem traverseChunkEnd (jobId : Nat) (lane : Nat) (residueOk : Bool) (last : Bool) : Statement (.traverseChunkEnd jobId lane residueOk last) := all _
theorem traverseResultsDone (jobId : Nat) (writes : JobWrites) : Statement (.traverseResultsDone jobId writes) := all _
theorem traverseWallTimeout (jobId : Nat) : Statement (.traverseWallTimeout jobId) := all _
theorem traverseShareHalving : Statement (.traverseShareHalving) := all _
theorem authFetchTimer (str : Nat) (mon : Nat) : Statement (.authFetchTimer str mon) := all _
theorem authVerifyDone (str : Nat) (mon : Nat) : Statement (.authVerifyDone str mon) := all _
theorem authRenewTimer (str : Nat) (mon : Nat) : Statement (.authRenewTimer str mon) := all _
theorem authRetryTimer (str : Nat) (mon : Nat) : Statement (.authRetryTimer str mon) := all _
theorem balOverrideExpiry (str : Nat) : Statement (.balOverrideExpiry str) := all _
theorem smbusReadWord (code : Nat) : Statement (.smbusReadWord code) := all _
theorem smbusWriteWord (w : SmbusWrite) : Statement (.smbusWriteWord w) := all _
theorem smbusReadByte (code : Nat) : Statement (.smbusReadByte code) := all _
theorem smbusWriteByte (w : SmbusWrite) : Statement (.smbusWriteByte w) := all _
theorem smbusUnsupportedProtocol (code : Nat) : Statement (.smbusUnsupportedProtocol code) := all _
theorem smbusBusTimeout : Statement (.smbusBusTimeout) := all _
theorem gaugeKeyExpiry : Statement (.gaugeKeyExpiry) := all _
theorem gaugeReset : Statement (.gaugeReset) := all _
theorem gaugeNop : Statement (.gaugeNop) := all _
theorem nop (sub : Submission) : Statement (.nop sub) := all _
theorem identify (sub : Submission) : Statement (.identify sub) := all _
theorem configLoad (sub : Submission) (buf : DmaRead) : Statement (.configLoad sub buf) := all _
theorem configRead (sub : Submission) : Statement (.configRead sub) := all _
theorem paramLoad (sub : Submission) (buf : DmaRead) : Statement (.paramLoad sub buf) := all _
theorem paramCommit (sub : Submission) : Statement (.paramCommit sub) := all _
theorem paramRead (sub : Submission) : Statement (.paramRead sub) := all _
theorem ropeTieIn (sub : Submission) : Statement (.ropeTieIn sub) := all _
theorem ropeRaw (sub : Submission) (buf : DmaRead) : Statement (.ropeRaw sub buf) := all _
theorem ropeMapRead (sub : Submission) : Statement (.ropeMapRead sub) := all _
theorem balPolicy (sub : Submission) : Statement (.balPolicy sub) := all _
theorem balOverride (sub : Submission) (buf : DmaRead) : Statement (.balOverride sub buf) := all _
theorem traverseStart (sub : Submission) (buf : DmaRead) : Statement (.traverseStart sub buf) := all _
theorem traverseAbort (sub : Submission) : Statement (.traverseAbort sub) := all _
theorem traverseStatus (sub : Submission) : Statement (.traverseStatus sub) := all _
theorem cairnSetup (sub : Submission) : Statement (.cairnSetup sub) := all _
theorem stateRead (sub : Submission) : Statement (.stateRead sub) := all _
theorem stateWrite (sub : Submission) (buf : DmaRead) : Statement (.stateWrite sub buf) := all _
theorem tuneNow (sub : Submission) : Statement (.tuneNow sub) := all _
theorem tuneRead (sub : Submission) : Statement (.tuneRead sub) := all _
theorem selftest (sub : Submission) : Statement (.selftest sub) := all _
theorem authChallenge (sub : Submission) : Statement (.authChallenge sub) := all _
theorem keyInstall (sub : Submission) (buf : DmaRead) : Statement (.keyInstall sub buf) := all _
theorem sealDevice (sub : Submission) : Statement (.sealDevice sub) := all _
theorem attest (sub : Submission) : Statement (.attest sub) := all _
theorem nvmCheckpoint (sub : Submission) : Statement (.nvmCheckpoint sub) := all _
theorem logRead (sub : Submission) : Statement (.logRead sub) := all _
theorem timeSet (sub : Submission) : Statement (.timeSet sub) := all _
theorem timeStatus (sub : Submission) : Statement (.timeStatus sub) := all _
theorem sarSeqSet (sub : Submission) (buf : DmaRead) : Statement (.sarSeqSet sub buf) := all _
theorem sarInject (sub : Submission) : Statement (.sarInject sub) := all _
theorem limitSet (sub : Submission) (buf : DmaRead) : Statement (.limitSet sub buf) := all _
theorem retire (sub : Submission) : Statement (.retire sub) := all _
theorem restore (sub : Submission) : Statement (.restore sub) := all _
theorem fwUpdate (sub : Submission) (buf : FwRead) : Statement (.fwUpdate sub buf) := all _
theorem shutdown (sub : Submission) : Statement (.shutdown sub) := all _
theorem sweepDeadline : Statement (.sweepDeadline) := all _
theorem tuneNowTimeout : Statement (.tuneNowTimeout) := all _
theorem setAtPpsTimeout : Statement (.setAtPpsTimeout) := all _
theorem authSignatureTimeout (str : Nat) (mon : Nat) : Statement (.authSignatureTimeout str mon) := all _
theorem slewEnd : Statement (.slewEnd) := all _
theorem vauxWarningRearm (mv : Nat) : Statement (.vauxWarningRearm mv) := all _
theorem perstRelease : Statement (.perstRelease) := all _
theorem bleedOpenWaitEnd : Statement (.bleedOpenWaitEnd) := all _
theorem transientHistoryExpiry (unit : UnitId) : Statement (.transientHistoryExpiry unit) := all _

end Sys2Proof.Laws.unspelled
end

