-- ==== Sys2Proof/Laws/Shared.lean ====
section
/-! SUPPORT. For each shared operation, once: every part of State that it leaves alone. -/

namespace Sys2Proof.Machine

variable (s : State)

/-- What every step of a fold leaves alone, the fold leaves alone. -/
theorem foldl_keeps {α β σ : Type} (p : σ → β) (f : σ → α → σ) (h : ∀ s a, p (f s a) = p s) (l : List α) (s : σ) :
    p (l.foldl f s) = p s := by
  induction l generalizing s with
  | nil => rfl
  | cons a l ih => rw [List.foldl_cons, ih, h]

/-- A write spares every W1C bit that was set on its own tick. -/
theorem Hot.clears_spares (now : Nat) (h : Hot) (v : Reg) (i : Nat) (ht : h.tick = now) (hb : h.bits.testBit i = true) :
    (Hot.clears now h v).getLsbD i = false := by
  simp [Hot.clears, ht, hb, BitVec.getLsbD_ofNat]

/-- On a later tick a write clears what it names. -/
theorem Hot.clears_later (now : Nat) (h : Hot) (v : Reg) (ht : h.tick ≠ now) : Hot.clears now h v = v := if_neg ht

/-- What is marked counts on its tick, with what that tick had marked before. -/
theorem Hot.mark_bits (now bits : Nat) (h : Hot) (i : Nat) :
    (h.mark now bits).bits.testBit i = ((decide (h.tick = now) && h.bits.testBit i) || bits.testBit i) := by
  by_cases e : h.tick = now <;> simp [Hot.mark, e]

@[simp] theorem tick_keeps :
    (tick s).frm = s.frm ∧ (tick s).met = s.met ∧ (tick s).tun = s.tun ∧ (tick s).sar = s.sar ∧ (tick s).rope = s.rope ∧
    (tick s).cfg = s.cfg ∧ (tick s).est = s.est ∧ (tick s).trv = s.trv ∧ (tick s).hif = s.hif ∧ (tick s).evt = s.evt ∧
    (tick s).cairn = s.cairn ∧ (tick s).tim = s.tim ∧ (tick s).ptp = s.ptp ∧ (tick s).thm = s.thm ∧ (tick s).pwr = s.pwr ∧
    (tick s).nvm = s.nvm ∧ (tick s).diag = s.diag ∧ (tick s).sec = s.sec ∧ (tick s).leg = s.leg ∧ (tick s).sys = s.sys ∧
    (tick s).hostMem = s.hostMem ∧ (tick s).free = s.free ∧ (tick s).pending = s.pending := by
  simp only [tick]
  repeat' split
  all_goals simp

@[simp] theorem pushLog_keeps (c t i n : Nat) :
    (pushLog c t i n s).clk = s.clk ∧ (pushLog c t i n s).frm = s.frm ∧ (pushLog c t i n s).met = s.met ∧ (pushLog c t i n s).tun = s.tun ∧
    (pushLog c t i n s).sar = s.sar ∧ (pushLog c t i n s).rope = s.rope ∧ (pushLog c t i n s).cfg = s.cfg ∧
    (pushLog c t i n s).est = s.est ∧ (pushLog c t i n s).trv = s.trv ∧ (pushLog c t i n s).hif = s.hif ∧ (pushLog c t i n s).evt = s.evt ∧
    (pushLog c t i n s).cairn = s.cairn ∧ (pushLog c t i n s).tim = s.tim ∧ (pushLog c t i n s).ptp = s.ptp ∧
    (pushLog c t i n s).thm = s.thm ∧ (pushLog c t i n s).pwr = s.pwr ∧ (pushLog c t i n s).diag = s.diag ∧
    (pushLog c t i n s).sec = s.sec ∧ (pushLog c t i n s).leg = s.leg ∧ (pushLog c t i n s).sys = s.sys ∧
    (pushLog c t i n s).hostMem = s.hostMem ∧ (pushLog c t i n s).free = s.free ∧ (pushLog c t i n s).pending = s.pending := by
  simp [pushLog]

@[simp] theorem logAdd_keeps (c t i n : Nat) :
    (logAdd c t i n s).clk = s.clk ∧ (logAdd c t i n s).frm = s.frm ∧ (logAdd c t i n s).met = s.met ∧ (logAdd c t i n s).tun = s.tun ∧
    (logAdd c t i n s).sar = s.sar ∧ (logAdd c t i n s).rope = s.rope ∧ (logAdd c t i n s).cfg = s.cfg ∧ (logAdd c t i n s).est = s.est ∧
    (logAdd c t i n s).trv = s.trv ∧ (logAdd c t i n s).hif = s.hif ∧ (logAdd c t i n s).evt = s.evt ∧ (logAdd c t i n s).cairn = s.cairn ∧
    (logAdd c t i n s).tim = s.tim ∧ (logAdd c t i n s).ptp = s.ptp ∧ (logAdd c t i n s).thm = s.thm ∧ (logAdd c t i n s).pwr = s.pwr ∧
    (logAdd c t i n s).diag = s.diag ∧ (logAdd c t i n s).sec = s.sec ∧ (logAdd c t i n s).leg = s.leg ∧ (logAdd c t i n s).sys = s.sys ∧
    (logAdd c t i n s).hostMem = s.hostMem ∧ (logAdd c t i n s).free = s.free ∧ (logAdd c t i n s).pending = s.pending := by
  simp only [logAdd]
  repeat' split
  all_goals simp

@[simp] theorem recordEvent_keeps (e i : Nat) :
    (recordEvent e i s).clk = s.clk ∧ (recordEvent e i s).frm = s.frm ∧ (recordEvent e i s).met = s.met ∧ (recordEvent e i s).tun = s.tun ∧
    (recordEvent e i s).sar = s.sar ∧ (recordEvent e i s).rope = s.rope ∧ (recordEvent e i s).cfg = s.cfg ∧
    (recordEvent e i s).est = s.est ∧ (recordEvent e i s).trv = s.trv ∧ (recordEvent e i s).hif = s.hif ∧
    (recordEvent e i s).cairn = s.cairn ∧ (recordEvent e i s).tim = s.tim ∧ (recordEvent e i s).ptp = s.ptp ∧
    (recordEvent e i s).thm = s.thm ∧ (recordEvent e i s).pwr = s.pwr ∧ (recordEvent e i s).nvm = s.nvm ∧
    (recordEvent e i s).diag = s.diag ∧ (recordEvent e i s).sec = s.sec ∧ (recordEvent e i s).leg = s.leg ∧
    (recordEvent e i s).sys = s.sys ∧ (recordEvent e i s).hostMem = s.hostMem ∧ (recordEvent e i s).free = s.free ∧
    (recordEvent e i s).pending = s.pending := by
  simp only [recordEvent]
  repeat' split
  all_goals simp

@[simp] theorem raise_keeps (e i : Nat) :
    (raise e i s).clk = s.clk ∧ (raise e i s).frm = s.frm ∧ (raise e i s).met = s.met ∧ (raise e i s).tun = s.tun ∧
    (raise e i s).sar = s.sar ∧ (raise e i s).rope = s.rope ∧ (raise e i s).cfg = s.cfg ∧ (raise e i s).est = s.est ∧
    (raise e i s).trv = s.trv ∧ (raise e i s).hif = s.hif ∧ (raise e i s).cairn = s.cairn ∧ (raise e i s).tim = s.tim ∧
    (raise e i s).ptp = s.ptp ∧ (raise e i s).thm = s.thm ∧ (raise e i s).pwr = s.pwr ∧ (raise e i s).diag = s.diag ∧
    (raise e i s).sec = s.sec ∧ (raise e i s).leg = s.leg ∧ (raise e i s).sys = s.sys ∧ (raise e i s).hostMem = s.hostMem ∧
    (raise e i s).free = s.free ∧ (raise e i s).pending = s.pending := by
  simp only [raise]
  repeat' split
  all_goals simp

@[simp] theorem hifErr_keeps (b : Nat) :
    (hifErr b s).clk = s.clk ∧ (hifErr b s).frm = s.frm ∧ (hifErr b s).met = s.met ∧ (hifErr b s).tun = s.tun ∧ (hifErr b s).sar = s.sar ∧
    (hifErr b s).rope = s.rope ∧ (hifErr b s).cfg = s.cfg ∧ (hifErr b s).est = s.est ∧ (hifErr b s).trv = s.trv ∧
    (hifErr b s).evt = s.evt ∧ (hifErr b s).cairn = s.cairn ∧ (hifErr b s).tim = s.tim ∧ (hifErr b s).ptp = s.ptp ∧
    (hifErr b s).thm = s.thm ∧ (hifErr b s).pwr = s.pwr ∧ (hifErr b s).nvm = s.nvm ∧ (hifErr b s).diag = s.diag ∧
    (hifErr b s).sec = s.sec ∧ (hifErr b s).leg = s.leg ∧ (hifErr b s).sys = s.sys ∧ (hifErr b s).hostMem = s.hostMem ∧
    (hifErr b s).free = s.free ∧ (hifErr b s).pending = s.pending := by
  simp [hifErr]

@[simp] theorem legHot_keeps (k : Nat) :
    (legHot k s).clk = s.clk ∧ (legHot k s).frm = s.frm ∧ (legHot k s).met = s.met ∧ (legHot k s).tun = s.tun ∧ (legHot k s).sar = s.sar ∧
    (legHot k s).rope = s.rope ∧ (legHot k s).cfg = s.cfg ∧ (legHot k s).est = s.est ∧ (legHot k s).trv = s.trv ∧
    (legHot k s).hif = s.hif ∧ (legHot k s).evt = s.evt ∧ (legHot k s).cairn = s.cairn ∧ (legHot k s).tim = s.tim ∧
    (legHot k s).ptp = s.ptp ∧ (legHot k s).thm = s.thm ∧ (legHot k s).pwr = s.pwr ∧ (legHot k s).nvm = s.nvm ∧
    (legHot k s).diag = s.diag ∧ (legHot k s).sec = s.sec ∧ (legHot k s).sys = s.sys ∧ (legHot k s).hostMem = s.hostMem ∧
    (legHot k s).free = s.free ∧ (legHot k s).pending = s.pending := by
  simp [legHot]

@[simp] theorem sendMsg_keeps (v : Nat) :
    (sendMsg v s).clk = s.clk ∧ (sendMsg v s).frm = s.frm ∧ (sendMsg v s).met = s.met ∧ (sendMsg v s).tun = s.tun ∧
    (sendMsg v s).sar = s.sar ∧ (sendMsg v s).rope = s.rope ∧ (sendMsg v s).cfg = s.cfg ∧ (sendMsg v s).est = s.est ∧
    (sendMsg v s).trv = s.trv ∧ (sendMsg v s).evt = s.evt ∧ (sendMsg v s).cairn = s.cairn ∧ (sendMsg v s).tim = s.tim ∧
    (sendMsg v s).ptp = s.ptp ∧ (sendMsg v s).thm = s.thm ∧ (sendMsg v s).pwr = s.pwr ∧ (sendMsg v s).nvm = s.nvm ∧
    (sendMsg v s).diag = s.diag ∧ (sendMsg v s).sec = s.sec ∧ (sendMsg v s).leg = s.leg ∧ (sendMsg v s).sys = s.sys ∧
    (sendMsg v s).hostMem = s.hostMem ∧ (sendMsg v s).free = s.free ∧ (sendMsg v s).pending = s.pending := by
  simp only [sendMsg]
  repeat' split
  all_goals simp

@[simp] theorem moderate_keeps (v : Nat) :
    (moderate v s).clk = s.clk ∧ (moderate v s).frm = s.frm ∧ (moderate v s).met = s.met ∧ (moderate v s).tun = s.tun ∧
    (moderate v s).sar = s.sar ∧ (moderate v s).rope = s.rope ∧ (moderate v s).cfg = s.cfg ∧ (moderate v s).est = s.est ∧
    (moderate v s).trv = s.trv ∧ (moderate v s).evt = s.evt ∧ (moderate v s).cairn = s.cairn ∧ (moderate v s).tim = s.tim ∧
    (moderate v s).ptp = s.ptp ∧ (moderate v s).thm = s.thm ∧ (moderate v s).pwr = s.pwr ∧ (moderate v s).nvm = s.nvm ∧
    (moderate v s).diag = s.diag ∧ (moderate v s).sec = s.sec ∧ (moderate v s).leg = s.leg ∧ (moderate v s).sys = s.sys ∧
    (moderate v s).hostMem = s.hostMem ∧ (moderate v s).free = s.free ∧ (moderate v s).pending = s.pending := by
  simp only [moderate]
  repeat' split
  all_goals simp

@[simp] theorem signal_keeps (v : Nat) :
    (signal v s).clk = s.clk ∧ (signal v s).frm = s.frm ∧ (signal v s).met = s.met ∧ (signal v s).tun = s.tun ∧ (signal v s).sar = s.sar ∧
    (signal v s).rope = s.rope ∧ (signal v s).cfg = s.cfg ∧ (signal v s).est = s.est ∧ (signal v s).trv = s.trv ∧
    (signal v s).evt = s.evt ∧ (signal v s).cairn = s.cairn ∧ (signal v s).tim = s.tim ∧ (signal v s).ptp = s.ptp ∧
    (signal v s).thm = s.thm ∧ (signal v s).pwr = s.pwr ∧ (signal v s).nvm = s.nvm ∧ (signal v s).diag = s.diag ∧
    (signal v s).sec = s.sec ∧ (signal v s).leg = s.leg ∧ (signal v s).sys = s.sys ∧ (signal v s).hostMem = s.hostMem ∧
    (signal v s).free = s.free ∧ (signal v s).pending = s.pending := by
  simp [signal]

@[simp] theorem postEntry_keeps (n : Nat) (b : List Byte) :
    (postEntry n b s).clk = s.clk ∧ (postEntry n b s).frm = s.frm ∧ (postEntry n b s).met = s.met ∧ (postEntry n b s).tun = s.tun ∧
    (postEntry n b s).sar = s.sar ∧ (postEntry n b s).rope = s.rope ∧ (postEntry n b s).cfg = s.cfg ∧ (postEntry n b s).est = s.est ∧
    (postEntry n b s).trv = s.trv ∧ (postEntry n b s).evt = s.evt ∧ (postEntry n b s).cairn = s.cairn ∧ (postEntry n b s).tim = s.tim ∧
    (postEntry n b s).ptp = s.ptp ∧ (postEntry n b s).thm = s.thm ∧ (postEntry n b s).pwr = s.pwr ∧ (postEntry n b s).nvm = s.nvm ∧
    (postEntry n b s).diag = s.diag ∧ (postEntry n b s).sec = s.sec ∧ (postEntry n b s).leg = s.leg ∧ (postEntry n b s).sys = s.sys ∧
    (postEntry n b s).free = s.free ∧ (postEntry n b s).pending = s.pending := by
  simp [postEntry]

@[simp] theorem postCompletion_keeps (sub : Submission) (op st orig : Nat) (r : List Byte) (m : Bool) :
    (postCompletion sub op st orig r m s).clk = s.clk ∧ (postCompletion sub op st orig r m s).frm = s.frm ∧
    (postCompletion sub op st orig r m s).met = s.met ∧ (postCompletion sub op st orig r m s).tun = s.tun ∧
    (postCompletion sub op st orig r m s).sar = s.sar ∧ (postCompletion sub op st orig r m s).rope = s.rope ∧
    (postCompletion sub op st orig r m s).cfg = s.cfg ∧ (postCompletion sub op st orig r m s).est = s.est ∧
    (postCompletion sub op st orig r m s).trv = s.trv ∧ (postCompletion sub op st orig r m s).evt = s.evt ∧
    (postCompletion sub op st orig r m s).cairn = s.cairn ∧ (postCompletion sub op st orig r m s).tim = s.tim ∧
    (postCompletion sub op st orig r m s).ptp = s.ptp ∧ (postCompletion sub op st orig r m s).thm = s.thm ∧
    (postCompletion sub op st orig r m s).pwr = s.pwr ∧ (postCompletion sub op st orig r m s).nvm = s.nvm ∧
    (postCompletion sub op st orig r m s).diag = s.diag ∧ (postCompletion sub op st orig r m s).sec = s.sec ∧
    (postCompletion sub op st orig r m s).leg = s.leg ∧ (postCompletion sub op st orig r m s).sys = s.sys ∧
    (postCompletion sub op st orig r m s).free = s.free ∧ (postCompletion sub op st orig r m s).pending = s.pending := by
  simp only [postCompletion]
  repeat' split
  all_goals simp

@[simp] theorem finishCmd_keeps (op : Nat) (sub : Submission) (st : Nat) (r : List Byte) :
    (finishCmd op sub st r s).clk = s.clk ∧ (finishCmd op sub st r s).frm = s.frm ∧ (finishCmd op sub st r s).met = s.met ∧
    (finishCmd op sub st r s).tun = s.tun ∧ (finishCmd op sub st r s).sar = s.sar ∧ (finishCmd op sub st r s).rope = s.rope ∧
    (finishCmd op sub st r s).cfg = s.cfg ∧ (finishCmd op sub st r s).est = s.est ∧ (finishCmd op sub st r s).trv = s.trv ∧
    (finishCmd op sub st r s).evt = s.evt ∧ (finishCmd op sub st r s).cairn = s.cairn ∧ (finishCmd op sub st r s).tim = s.tim ∧
    (finishCmd op sub st r s).ptp = s.ptp ∧ (finishCmd op sub st r s).thm = s.thm ∧ (finishCmd op sub st r s).pwr = s.pwr ∧
    (finishCmd op sub st r s).nvm = s.nvm ∧ (finishCmd op sub st r s).diag = s.diag ∧ (finishCmd op sub st r s).sec = s.sec ∧
    (finishCmd op sub st r s).leg = s.leg ∧ (finishCmd op sub st r s).sys = s.sys ∧ (finishCmd op sub st r s).free = s.free ∧
    (finishCmd op sub st r s).pending = s.pending := by
  simp only [finishCmd]
  repeat' split
  all_goals simp

@[simp] theorem complete_keeps (op : Nat) (sub : Submission) (st : Nat) (r : List Byte) :
    (complete op sub st r s).clk = s.clk ∧ (complete op sub st r s).frm = s.frm ∧ (complete op sub st r s).met = s.met ∧
    (complete op sub st r s).tun = s.tun ∧ (complete op sub st r s).sar = s.sar ∧ (complete op sub st r s).rope = s.rope ∧
    (complete op sub st r s).cfg = s.cfg ∧ (complete op sub st r s).est = s.est ∧ (complete op sub st r s).trv = s.trv ∧
    (complete op sub st r s).evt = s.evt ∧ (complete op sub st r s).cairn = s.cairn ∧ (complete op sub st r s).tim = s.tim ∧
    (complete op sub st r s).ptp = s.ptp ∧ (complete op sub st r s).thm = s.thm ∧ (complete op sub st r s).pwr = s.pwr ∧
    (complete op sub st r s).nvm = s.nvm ∧ (complete op sub st r s).diag = s.diag ∧ (complete op sub st r s).sec = s.sec ∧
    (complete op sub st r s).leg = s.leg ∧ (complete op sub st r s).sys = s.sys ∧ (complete op sub st r s).free = s.free ∧
    (complete op sub st r s).pending = s.pending := by
  simp only [complete]
  repeat' split
  all_goals simp

@[simp] theorem State.setUnitDiag_keeps (d : UnitDiag) :
    (s.setUnitDiag d).clk = s.clk ∧ (s.setUnitDiag d).frm = s.frm ∧ (s.setUnitDiag d).met = s.met ∧ (s.setUnitDiag d).tun = s.tun ∧
    (s.setUnitDiag d).sar = s.sar ∧ (s.setUnitDiag d).rope = s.rope ∧ (s.setUnitDiag d).cfg = s.cfg ∧ (s.setUnitDiag d).est = s.est ∧
    (s.setUnitDiag d).trv = s.trv ∧ (s.setUnitDiag d).hif = s.hif ∧ (s.setUnitDiag d).evt = s.evt ∧ (s.setUnitDiag d).cairn = s.cairn ∧
    (s.setUnitDiag d).tim = s.tim ∧ (s.setUnitDiag d).ptp = s.ptp ∧ (s.setUnitDiag d).thm = s.thm ∧ (s.setUnitDiag d).pwr = s.pwr ∧
    (s.setUnitDiag d).nvm = s.nvm ∧ (s.setUnitDiag d).sec = s.sec ∧ (s.setUnitDiag d).leg = s.leg ∧ (s.setUnitDiag d).sys = s.sys ∧
    (s.setUnitDiag d).hostMem = s.hostMem ∧ (s.setUnitDiag d).free = s.free ∧ (s.setUnitDiag d).pending = s.pending := by
  simp [State.setUnitDiag]

@[simp] theorem dealLane_keeps (i : Nat) :
    (dealLane s i).clk = s.clk ∧ (dealLane s i).frm = s.frm ∧ (dealLane s i).met = s.met ∧ (dealLane s i).tun = s.tun ∧
    (dealLane s i).sar = s.sar ∧ (dealLane s i).rope = s.rope ∧ (dealLane s i).cfg = s.cfg ∧ (dealLane s i).est = s.est ∧
    (dealLane s i).hif = s.hif ∧ (dealLane s i).evt = s.evt ∧ (dealLane s i).cairn = s.cairn ∧ (dealLane s i).tim = s.tim ∧
    (dealLane s i).ptp = s.ptp ∧ (dealLane s i).thm = s.thm ∧ (dealLane s i).pwr = s.pwr ∧ (dealLane s i).nvm = s.nvm ∧
    (dealLane s i).diag = s.diag ∧ (dealLane s i).sec = s.sec ∧ (dealLane s i).leg = s.leg ∧ (dealLane s i).sys = s.sys ∧
    (dealLane s i).hostMem = s.hostMem ∧ (dealLane s i).free = s.free ∧ (dealLane s i).pending = s.pending := by
  simp only [dealLane]
  repeat' split
  all_goals simp

@[simp] theorem dealLanes_keeps :
    (dealLanes s).clk = s.clk ∧ (dealLanes s).frm = s.frm ∧ (dealLanes s).met = s.met ∧ (dealLanes s).tun = s.tun ∧
    (dealLanes s).sar = s.sar ∧ (dealLanes s).rope = s.rope ∧ (dealLanes s).cfg = s.cfg ∧ (dealLanes s).est = s.est ∧
    (dealLanes s).hif = s.hif ∧ (dealLanes s).evt = s.evt ∧ (dealLanes s).cairn = s.cairn ∧ (dealLanes s).tim = s.tim ∧
    (dealLanes s).ptp = s.ptp ∧ (dealLanes s).thm = s.thm ∧ (dealLanes s).pwr = s.pwr ∧ (dealLanes s).nvm = s.nvm ∧
    (dealLanes s).diag = s.diag ∧ (dealLanes s).sec = s.sec ∧ (dealLanes s).leg = s.leg ∧ (dealLanes s).sys = s.sys ∧
    (dealLanes s).hostMem = s.hostMem ∧ (dealLanes s).free = s.free ∧ (dealLanes s).pending = s.pending := by
  exact ⟨(foldl_keeps (fun s : State => s.clk) dealLane (fun s i => by simp) _ _).trans rfl,
    (foldl_keeps (fun s : State => s.frm) dealLane (fun s i => by simp) _ _).trans rfl,
    (foldl_keeps (fun s : State => s.met) dealLane (fun s i => by simp) _ _).trans rfl,
    (foldl_keeps (fun s : State => s.tun) dealLane (fun s i => by simp) _ _).trans rfl,
    (foldl_keeps (fun s : State => s.sar) dealLane (fun s i => by simp) _ _).trans rfl,
    (foldl_keeps (fun s : State => s.rope) dealLane (fun s i => by simp) _ _).trans rfl,
    (foldl_keeps (fun s : State => s.cfg) dealLane (fun s i => by simp) _ _).trans rfl,
    (foldl_keeps (fun s : State => s.est) dealLane (fun s i => by simp) _ _).trans rfl,
    (foldl_keeps (fun s : State => s.hif) dealLane (fun s i => by simp) _ _).trans rfl,
    (foldl_keeps (fun s : State => s.evt) dealLane (fun s i => by simp) _ _).trans rfl,
    (foldl_keeps (fun s : State => s.cairn) dealLane (fun s i => by simp) _ _).trans rfl,
    (foldl_keeps (fun s : State => s.tim) dealLane (fun s i => by simp) _ _).trans rfl,
    (foldl_keeps (fun s : State => s.ptp) dealLane (fun s i => by simp) _ _).trans rfl,
    (foldl_keeps (fun s : State => s.thm) dealLane (fun s i => by simp) _ _).trans rfl,
    (foldl_keeps (fun s : State => s.pwr) dealLane (fun s i => by simp) _ _).trans rfl,
    (foldl_keeps (fun s : State => s.nvm) dealLane (fun s i => by simp) _ _).trans rfl,
    (foldl_keeps (fun s : State => s.diag) dealLane (fun s i => by simp) _ _).trans rfl,
    (foldl_keeps (fun s : State => s.sec) dealLane (fun s i => by simp) _ _).trans rfl,
    (foldl_keeps (fun s : State => s.leg) dealLane (fun s i => by simp) _ _).trans rfl,
    (foldl_keeps (fun s : State => s.sys) dealLane (fun s i => by simp) _ _).trans rfl,
    (foldl_keeps (fun s : State => s.hostMem) dealLane (fun s i => by simp) _ _).trans rfl,
    (foldl_keeps (fun s : State => s.free) dealLane (fun s i => by simp) _ _).trans rfl,
    (foldl_keeps (fun s : State => s.pending) dealLane (fun s i => by simp) _ _).trans rfl⟩

@[simp] theorem settleVcore_keeps :
    (settleVcore s).clk = s.clk ∧ (settleVcore s).frm = s.frm ∧ (settleVcore s).met = s.met ∧ (settleVcore s).tun = s.tun ∧
    (settleVcore s).sar = s.sar ∧ (settleVcore s).rope = s.rope ∧ (settleVcore s).cfg = s.cfg ∧ (settleVcore s).est = s.est ∧
    (settleVcore s).trv = s.trv ∧ (settleVcore s).hif = s.hif ∧ (settleVcore s).evt = s.evt ∧ (settleVcore s).cairn = s.cairn ∧
    (settleVcore s).tim = s.tim ∧ (settleVcore s).ptp = s.ptp ∧ (settleVcore s).thm = s.thm ∧ (settleVcore s).nvm = s.nvm ∧
    (settleVcore s).diag = s.diag ∧ (settleVcore s).sec = s.sec ∧ (settleVcore s).leg = s.leg ∧ (settleVcore s).sys = s.sys ∧
    (settleVcore s).hostMem = s.hostMem ∧ (settleVcore s).pending = s.pending := by
  simp only [settleVcore]
  repeat' split
  all_goals simp

@[simp] theorem settleWork_keeps :
    (settleWork s).clk = s.clk ∧ (settleWork s).frm = s.frm ∧ (settleWork s).met = s.met ∧ (settleWork s).tun = s.tun ∧
    (settleWork s).sar = s.sar ∧ (settleWork s).rope = s.rope ∧ (settleWork s).cfg = s.cfg ∧ (settleWork s).est = s.est ∧
    (settleWork s).hif = s.hif ∧ (settleWork s).evt = s.evt ∧ (settleWork s).cairn = s.cairn ∧ (settleWork s).tim = s.tim ∧
    (settleWork s).ptp = s.ptp ∧ (settleWork s).thm = s.thm ∧ (settleWork s).nvm = s.nvm ∧ (settleWork s).diag = s.diag ∧
    (settleWork s).sec = s.sec ∧ (settleWork s).leg = s.leg ∧ (settleWork s).sys = s.sys ∧ (settleWork s).hostMem = s.hostMem ∧
    (settleWork s).pending = s.pending := by
  simp only [settleWork]
  repeat' split
  all_goals simp

@[simp] theorem refreshLane_keeps (u : UnitId) :
    (refreshLane u s).clk = s.clk ∧ (refreshLane u s).frm = s.frm ∧ (refreshLane u s).met = s.met ∧ (refreshLane u s).tun = s.tun ∧
    (refreshLane u s).sar = s.sar ∧ (refreshLane u s).rope = s.rope ∧ (refreshLane u s).cfg = s.cfg ∧ (refreshLane u s).est = s.est ∧
    (refreshLane u s).hif = s.hif ∧ (refreshLane u s).evt = s.evt ∧ (refreshLane u s).cairn = s.cairn ∧ (refreshLane u s).tim = s.tim ∧
    (refreshLane u s).ptp = s.ptp ∧ (refreshLane u s).thm = s.thm ∧ (refreshLane u s).pwr = s.pwr ∧ (refreshLane u s).nvm = s.nvm ∧
    (refreshLane u s).diag = s.diag ∧ (refreshLane u s).sec = s.sec ∧ (refreshLane u s).leg = s.leg ∧ (refreshLane u s).sys = s.sys ∧
    (refreshLane u s).hostMem = s.hostMem ∧ (refreshLane u s).free = s.free ∧ (refreshLane u s).pending = s.pending := by
  simp only [refreshLane]
  repeat' split
  all_goals simp

@[simp] theorem enterPower_keeps (p : PowerState) :
    (enterPower p s).clk = s.clk ∧ (enterPower p s).frm = s.frm ∧ (enterPower p s).met = s.met ∧ (enterPower p s).tun = s.tun ∧
    (enterPower p s).sar = s.sar ∧ (enterPower p s).rope = s.rope ∧ (enterPower p s).cfg = s.cfg ∧ (enterPower p s).est = s.est ∧
    (enterPower p s).trv = s.trv ∧ (enterPower p s).hif = s.hif ∧ (enterPower p s).evt = s.evt ∧ (enterPower p s).cairn = s.cairn ∧
    (enterPower p s).tim = s.tim ∧ (enterPower p s).ptp = s.ptp ∧ (enterPower p s).thm = s.thm ∧ (enterPower p s).nvm = s.nvm ∧
    (enterPower p s).diag = s.diag ∧ (enterPower p s).sec = s.sec ∧ (enterPower p s).leg = s.leg ∧ (enterPower p s).sys = s.sys ∧
    (enterPower p s).hostMem = s.hostMem ∧ (enterPower p s).pending = s.pending := by
  simp [enterPower]

@[simp] theorem writeStatus_keeps :
    (writeStatus s).clk = s.clk ∧ (writeStatus s).frm = s.frm ∧ (writeStatus s).met = s.met ∧ (writeStatus s).tun = s.tun ∧
    (writeStatus s).sar = s.sar ∧ (writeStatus s).rope = s.rope ∧ (writeStatus s).cfg = s.cfg ∧ (writeStatus s).est = s.est ∧
    (writeStatus s).trv = s.trv ∧ (writeStatus s).evt = s.evt ∧ (writeStatus s).cairn = s.cairn ∧ (writeStatus s).tim = s.tim ∧
    (writeStatus s).ptp = s.ptp ∧ (writeStatus s).thm = s.thm ∧ (writeStatus s).pwr = s.pwr ∧ (writeStatus s).nvm = s.nvm ∧
    (writeStatus s).diag = s.diag ∧ (writeStatus s).sec = s.sec ∧ (writeStatus s).leg = s.leg ∧ (writeStatus s).sys = s.sys ∧
    (writeStatus s).free = s.free ∧ (writeStatus s).pending = s.pending := by
  simp only [writeStatus]
  repeat' split
  all_goals simp

@[simp] theorem State.storeSaved_keeps (f : SavedRegs → SavedRegs) :
    (s.storeSaved f).clk = s.clk ∧ (s.storeSaved f).frm = s.frm ∧ (s.storeSaved f).met = s.met ∧ (s.storeSaved f).tun = s.tun ∧
    (s.storeSaved f).sar = s.sar ∧ (s.storeSaved f).rope = s.rope ∧ (s.storeSaved f).cfg = s.cfg ∧ (s.storeSaved f).est = s.est ∧
    (s.storeSaved f).trv = s.trv ∧ (s.storeSaved f).hif = s.hif ∧ (s.storeSaved f).evt = s.evt ∧ (s.storeSaved f).cairn = s.cairn ∧
    (s.storeSaved f).tim = s.tim ∧ (s.storeSaved f).ptp = s.ptp ∧ (s.storeSaved f).thm = s.thm ∧ (s.storeSaved f).pwr = s.pwr ∧
    (s.storeSaved f).diag = s.diag ∧ (s.storeSaved f).sec = s.sec ∧ (s.storeSaved f).leg = s.leg ∧ (s.storeSaved f).sys = s.sys ∧
    (s.storeSaved f).hostMem = s.hostMem ∧ (s.storeSaved f).free = s.free ∧ (s.storeSaved f).pending = s.pending := by
  simp [State.storeSaved]

@[simp] theorem saveSys_keeps :
    (saveSys s).clk = s.clk ∧ (saveSys s).frm = s.frm ∧ (saveSys s).met = s.met ∧ (saveSys s).tun = s.tun ∧ (saveSys s).sar = s.sar ∧
    (saveSys s).rope = s.rope ∧ (saveSys s).cfg = s.cfg ∧ (saveSys s).est = s.est ∧ (saveSys s).trv = s.trv ∧ (saveSys s).hif = s.hif ∧
    (saveSys s).evt = s.evt ∧ (saveSys s).cairn = s.cairn ∧ (saveSys s).tim = s.tim ∧ (saveSys s).ptp = s.ptp ∧ (saveSys s).thm = s.thm ∧
    (saveSys s).pwr = s.pwr ∧ (saveSys s).diag = s.diag ∧ (saveSys s).sec = s.sec ∧ (saveSys s).leg = s.leg ∧ (saveSys s).sys = s.sys ∧
    (saveSys s).hostMem = s.hostMem ∧ (saveSys s).free = s.free ∧ (saveSys s).pending = s.pending := by
  simp [saveSys]

@[simp] theorem saveLeg_keeps :
    (saveLeg s).clk = s.clk ∧ (saveLeg s).frm = s.frm ∧ (saveLeg s).met = s.met ∧ (saveLeg s).tun = s.tun ∧ (saveLeg s).sar = s.sar ∧
    (saveLeg s).rope = s.rope ∧ (saveLeg s).cfg = s.cfg ∧ (saveLeg s).est = s.est ∧ (saveLeg s).trv = s.trv ∧ (saveLeg s).hif = s.hif ∧
    (saveLeg s).evt = s.evt ∧ (saveLeg s).cairn = s.cairn ∧ (saveLeg s).tim = s.tim ∧ (saveLeg s).ptp = s.ptp ∧ (saveLeg s).thm = s.thm ∧
    (saveLeg s).pwr = s.pwr ∧ (saveLeg s).diag = s.diag ∧ (saveLeg s).sec = s.sec ∧ (saveLeg s).leg = s.leg ∧ (saveLeg s).sys = s.sys ∧
    (saveLeg s).hostMem = s.hostMem ∧ (saveLeg s).free = s.free ∧ (saveLeg s).pending = s.pending := by
  simp [saveLeg]

@[simp] theorem savePtp_keeps :
    (savePtp s).clk = s.clk ∧ (savePtp s).frm = s.frm ∧ (savePtp s).met = s.met ∧ (savePtp s).tun = s.tun ∧ (savePtp s).sar = s.sar ∧
    (savePtp s).rope = s.rope ∧ (savePtp s).cfg = s.cfg ∧ (savePtp s).est = s.est ∧ (savePtp s).trv = s.trv ∧ (savePtp s).hif = s.hif ∧
    (savePtp s).evt = s.evt ∧ (savePtp s).cairn = s.cairn ∧ (savePtp s).tim = s.tim ∧ (savePtp s).ptp = s.ptp ∧ (savePtp s).thm = s.thm ∧
    (savePtp s).pwr = s.pwr ∧ (savePtp s).diag = s.diag ∧ (savePtp s).sec = s.sec ∧ (savePtp s).leg = s.leg ∧ (savePtp s).sys = s.sys ∧
    (savePtp s).hostMem = s.hostMem ∧ (savePtp s).free = s.free ∧ (savePtp s).pending = s.pending := by
  simp [savePtp]

@[simp] theorem State.modCell_keeps (g : Nat) (f : Cell → Cell) :
    (s.modCell g f).clk = s.clk ∧ (s.modCell g f).frm = s.frm ∧ (s.modCell g f).met = s.met ∧ (s.modCell g f).tun = s.tun ∧
    (s.modCell g f).sar = s.sar ∧ (s.modCell g f).rope = s.rope ∧ (s.modCell g f).cfg = s.cfg ∧ (s.modCell g f).trv = s.trv ∧
    (s.modCell g f).hif = s.hif ∧ (s.modCell g f).evt = s.evt ∧ (s.modCell g f).cairn = s.cairn ∧ (s.modCell g f).tim = s.tim ∧
    (s.modCell g f).ptp = s.ptp ∧ (s.modCell g f).thm = s.thm ∧ (s.modCell g f).pwr = s.pwr ∧ (s.modCell g f).nvm = s.nvm ∧
    (s.modCell g f).diag = s.diag ∧ (s.modCell g f).sec = s.sec ∧ (s.modCell g f).leg = s.leg ∧ (s.modCell g f).sys = s.sys ∧
    (s.modCell g f).hostMem = s.hostMem ∧ (s.modCell g f).free = s.free ∧ (s.modCell g f).pending = s.pending := by
  simp only [State.modCell]
  repeat' split
  all_goals simp

@[simp] theorem ropeSend_keeps (n : Nat) (e : RopeEnd) (f : TxFrame) :
    (ropeSend n e f s).clk = s.clk ∧ (ropeSend n e f s).frm = s.frm ∧ (ropeSend n e f s).met = s.met ∧ (ropeSend n e f s).tun = s.tun ∧
    (ropeSend n e f s).sar = s.sar ∧ (ropeSend n e f s).cfg = s.cfg ∧ (ropeSend n e f s).est = s.est ∧ (ropeSend n e f s).trv = s.trv ∧
    (ropeSend n e f s).hif = s.hif ∧ (ropeSend n e f s).evt = s.evt ∧ (ropeSend n e f s).cairn = s.cairn ∧ (ropeSend n e f s).tim = s.tim ∧
    (ropeSend n e f s).ptp = s.ptp ∧ (ropeSend n e f s).thm = s.thm ∧ (ropeSend n e f s).pwr = s.pwr ∧ (ropeSend n e f s).nvm = s.nvm ∧
    (ropeSend n e f s).diag = s.diag ∧ (ropeSend n e f s).sec = s.sec ∧ (ropeSend n e f s).leg = s.leg ∧ (ropeSend n e f s).sys = s.sys ∧
    (ropeSend n e f s).hostMem = s.hostMem ∧ (ropeSend n e f s).free = s.free ∧ (ropeSend n e f s).pending = s.pending := by
  simp only [ropeSend]
  repeat' split
  all_goals simp

@[simp] theorem bumpSeq_keeps (n : Nat) (e : RopeEnd) (a : Nat) :
    (bumpSeq n e a s).clk = s.clk ∧ (bumpSeq n e a s).frm = s.frm ∧ (bumpSeq n e a s).met = s.met ∧ (bumpSeq n e a s).tun = s.tun ∧
    (bumpSeq n e a s).sar = s.sar ∧ (bumpSeq n e a s).cfg = s.cfg ∧ (bumpSeq n e a s).est = s.est ∧ (bumpSeq n e a s).trv = s.trv ∧
    (bumpSeq n e a s).hif = s.hif ∧ (bumpSeq n e a s).evt = s.evt ∧ (bumpSeq n e a s).cairn = s.cairn ∧ (bumpSeq n e a s).tim = s.tim ∧
    (bumpSeq n e a s).ptp = s.ptp ∧ (bumpSeq n e a s).thm = s.thm ∧ (bumpSeq n e a s).pwr = s.pwr ∧ (bumpSeq n e a s).nvm = s.nvm ∧
    (bumpSeq n e a s).diag = s.diag ∧ (bumpSeq n e a s).sec = s.sec ∧ (bumpSeq n e a s).leg = s.leg ∧ (bumpSeq n e a s).sys = s.sys ∧
    (bumpSeq n e a s).hostMem = s.hostMem ∧ (bumpSeq n e a s).free = s.free ∧ (bumpSeq n e a s).pending = s.pending := by
  simp only [bumpSeq]
  repeat' split
  all_goals simp

@[simp] theorem ropeCast_keeps (n : Nat) (e : RopeEnd) (t a : Nat) (p : List Byte) :
    (ropeCast n e t a p s).clk = s.clk ∧ (ropeCast n e t a p s).frm = s.frm ∧ (ropeCast n e t a p s).met = s.met ∧
    (ropeCast n e t a p s).tun = s.tun ∧ (ropeCast n e t a p s).sar = s.sar ∧ (ropeCast n e t a p s).cfg = s.cfg ∧
    (ropeCast n e t a p s).est = s.est ∧ (ropeCast n e t a p s).trv = s.trv ∧ (ropeCast n e t a p s).hif = s.hif ∧
    (ropeCast n e t a p s).evt = s.evt ∧ (ropeCast n e t a p s).cairn = s.cairn ∧ (ropeCast n e t a p s).tim = s.tim ∧
    (ropeCast n e t a p s).ptp = s.ptp ∧ (ropeCast n e t a p s).thm = s.thm ∧ (ropeCast n e t a p s).pwr = s.pwr ∧
    (ropeCast n e t a p s).nvm = s.nvm ∧ (ropeCast n e t a p s).diag = s.diag ∧ (ropeCast n e t a p s).sec = s.sec ∧
    (ropeCast n e t a p s).leg = s.leg ∧ (ropeCast n e t a p s).sys = s.sys ∧ (ropeCast n e t a p s).hostMem = s.hostMem ∧
    (ropeCast n e t a p s).free = s.free ∧ (ropeCast n e t a p s).pending = s.pending := by
  simp only [ropeCast]
  repeat' split
  all_goals simp

@[simp] theorem ropeCastBoth_keeps (n t a : Nat) (p : List Byte) :
    (ropeCastBoth n t a p s).clk = s.clk ∧ (ropeCastBoth n t a p s).frm = s.frm ∧ (ropeCastBoth n t a p s).met = s.met ∧
    (ropeCastBoth n t a p s).tun = s.tun ∧ (ropeCastBoth n t a p s).sar = s.sar ∧ (ropeCastBoth n t a p s).cfg = s.cfg ∧
    (ropeCastBoth n t a p s).est = s.est ∧ (ropeCastBoth n t a p s).trv = s.trv ∧ (ropeCastBoth n t a p s).hif = s.hif ∧
    (ropeCastBoth n t a p s).evt = s.evt ∧ (ropeCastBoth n t a p s).cairn = s.cairn ∧ (ropeCastBoth n t a p s).tim = s.tim ∧
    (ropeCastBoth n t a p s).ptp = s.ptp ∧ (ropeCastBoth n t a p s).thm = s.thm ∧ (ropeCastBoth n t a p s).pwr = s.pwr ∧
    (ropeCastBoth n t a p s).nvm = s.nvm ∧ (ropeCastBoth n t a p s).diag = s.diag ∧ (ropeCastBoth n t a p s).sec = s.sec ∧
    (ropeCastBoth n t a p s).leg = s.leg ∧ (ropeCastBoth n t a p s).sys = s.sys ∧ (ropeCastBoth n t a p s).hostMem = s.hostMem ∧
    (ropeCastBoth n t a p s).free = s.free ∧ (ropeCastBoth n t a p s).pending = s.pending := by
  simp only [ropeCastBoth]
  repeat' split
  all_goals simp

@[simp] theorem beginTxn_keeps (n : Nat) (e : RopeEnd) (a : Nat) (u : TxnUse) (t : Nat) (p : List Byte) :
    (beginTxn n e a u t p s).clk = s.clk ∧ (beginTxn n e a u t p s).frm = s.frm ∧ (beginTxn n e a u t p s).met = s.met ∧
    (beginTxn n e a u t p s).tun = s.tun ∧ (beginTxn n e a u t p s).sar = s.sar ∧ (beginTxn n e a u t p s).cfg = s.cfg ∧
    (beginTxn n e a u t p s).est = s.est ∧ (beginTxn n e a u t p s).trv = s.trv ∧ (beginTxn n e a u t p s).hif = s.hif ∧
    (beginTxn n e a u t p s).evt = s.evt ∧ (beginTxn n e a u t p s).cairn = s.cairn ∧ (beginTxn n e a u t p s).tim = s.tim ∧
    (beginTxn n e a u t p s).ptp = s.ptp ∧ (beginTxn n e a u t p s).thm = s.thm ∧ (beginTxn n e a u t p s).pwr = s.pwr ∧
    (beginTxn n e a u t p s).nvm = s.nvm ∧ (beginTxn n e a u t p s).diag = s.diag ∧ (beginTxn n e a u t p s).sec = s.sec ∧
    (beginTxn n e a u t p s).leg = s.leg ∧ (beginTxn n e a u t p s).sys = s.sys ∧ (beginTxn n e a u t p s).hostMem = s.hostMem ∧
    (beginTxn n e a u t p s).free = s.free ∧ (beginTxn n e a u t p s).pending = s.pending := by
  simp only [beginTxn]
  repeat' split
  all_goals simp

@[simp] theorem startTxn_keeps (n : Nat) (e : RopeEnd) (a : Nat) (u : TxnUse) (t : Nat) (p : List Byte) :
    (startTxn n e a u t p s).clk = s.clk ∧ (startTxn n e a u t p s).frm = s.frm ∧ (startTxn n e a u t p s).met = s.met ∧
    (startTxn n e a u t p s).tun = s.tun ∧ (startTxn n e a u t p s).sar = s.sar ∧ (startTxn n e a u t p s).cfg = s.cfg ∧
    (startTxn n e a u t p s).est = s.est ∧ (startTxn n e a u t p s).trv = s.trv ∧ (startTxn n e a u t p s).hif = s.hif ∧
    (startTxn n e a u t p s).evt = s.evt ∧ (startTxn n e a u t p s).cairn = s.cairn ∧ (startTxn n e a u t p s).tim = s.tim ∧
    (startTxn n e a u t p s).ptp = s.ptp ∧ (startTxn n e a u t p s).thm = s.thm ∧ (startTxn n e a u t p s).pwr = s.pwr ∧
    (startTxn n e a u t p s).nvm = s.nvm ∧ (startTxn n e a u t p s).diag = s.diag ∧ (startTxn n e a u t p s).sec = s.sec ∧
    (startTxn n e a u t p s).leg = s.leg ∧ (startTxn n e a u t p s).sys = s.sys ∧ (startTxn n e a u t p s).hostMem = s.hostMem ∧
    (startTxn n e a u t p s).free = s.free ∧ (startTxn n e a u t p s).pending = s.pending := by
  simp only [startTxn]
  repeat' split
  all_goals simp

@[simp] theorem nextTxn_keeps (n : Nat) :
    (nextTxn n s).clk = s.clk ∧ (nextTxn n s).frm = s.frm ∧ (nextTxn n s).met = s.met ∧ (nextTxn n s).tun = s.tun ∧
    (nextTxn n s).sar = s.sar ∧ (nextTxn n s).cfg = s.cfg ∧ (nextTxn n s).est = s.est ∧ (nextTxn n s).trv = s.trv ∧
    (nextTxn n s).hif = s.hif ∧ (nextTxn n s).evt = s.evt ∧ (nextTxn n s).cairn = s.cairn ∧ (nextTxn n s).tim = s.tim ∧
    (nextTxn n s).ptp = s.ptp ∧ (nextTxn n s).thm = s.thm ∧ (nextTxn n s).pwr = s.pwr ∧ (nextTxn n s).nvm = s.nvm ∧
    (nextTxn n s).diag = s.diag ∧ (nextTxn n s).sec = s.sec ∧ (nextTxn n s).leg = s.leg ∧ (nextTxn n s).sys = s.sys ∧
    (nextTxn n s).hostMem = s.hostMem ∧ (nextTxn n s).free = s.free ∧ (nextTxn n s).pending = s.pending := by
  simp only [nextTxn]
  repeat' split
  all_goals simp

@[simp] theorem dropTxn_keeps (n : Nat) (t : Txn) :
    (dropTxn n t s).clk = s.clk ∧ (dropTxn n t s).frm = s.frm ∧ (dropTxn n t s).met = s.met ∧ (dropTxn n t s).tun = s.tun ∧
    (dropTxn n t s).sar = s.sar ∧ (dropTxn n t s).cfg = s.cfg ∧ (dropTxn n t s).est = s.est ∧ (dropTxn n t s).trv = s.trv ∧
    (dropTxn n t s).hif = s.hif ∧ (dropTxn n t s).evt = s.evt ∧ (dropTxn n t s).cairn = s.cairn ∧ (dropTxn n t s).tim = s.tim ∧
    (dropTxn n t s).ptp = s.ptp ∧ (dropTxn n t s).thm = s.thm ∧ (dropTxn n t s).pwr = s.pwr ∧ (dropTxn n t s).nvm = s.nvm ∧
    (dropTxn n t s).diag = s.diag ∧ (dropTxn n t s).sec = s.sec ∧ (dropTxn n t s).leg = s.leg ∧ (dropTxn n t s).sys = s.sys ∧
    (dropTxn n t s).hostMem = s.hostMem ∧ (dropTxn n t s).free = s.free ∧ (dropTxn n t s).pending = s.pending := by
  simp [dropTxn]

@[simp] theorem State.modMon_keeps (n m : Nat) (f : Mon → Mon) :
    (s.modMon n m f).clk = s.clk ∧ (s.modMon n m f).frm = s.frm ∧ (s.modMon n m f).met = s.met ∧ (s.modMon n m f).tun = s.tun ∧
    (s.modMon n m f).sar = s.sar ∧ (s.modMon n m f).cfg = s.cfg ∧ (s.modMon n m f).est = s.est ∧ (s.modMon n m f).trv = s.trv ∧
    (s.modMon n m f).hif = s.hif ∧ (s.modMon n m f).evt = s.evt ∧ (s.modMon n m f).cairn = s.cairn ∧ (s.modMon n m f).tim = s.tim ∧
    (s.modMon n m f).ptp = s.ptp ∧ (s.modMon n m f).thm = s.thm ∧ (s.modMon n m f).pwr = s.pwr ∧ (s.modMon n m f).nvm = s.nvm ∧
    (s.modMon n m f).diag = s.diag ∧ (s.modMon n m f).sec = s.sec ∧ (s.modMon n m f).leg = s.leg ∧ (s.modMon n m f).sys = s.sys ∧
    (s.modMon n m f).hostMem = s.hostMem ∧ (s.modMon n m f).free = s.free ∧ (s.modMon n m f).pending = s.pending := by
  simp [State.modMon]

@[simp] theorem sendEcho_keeps (n : Nat) (e : RopeEnd) (a : Nat) (u : TxnUse) :
    (sendEcho n e a u s).clk = s.clk ∧ (sendEcho n e a u s).frm = s.frm ∧ (sendEcho n e a u s).met = s.met ∧
    (sendEcho n e a u s).tun = s.tun ∧ (sendEcho n e a u s).sar = s.sar ∧ (sendEcho n e a u s).cfg = s.cfg ∧
    (sendEcho n e a u s).est = s.est ∧ (sendEcho n e a u s).trv = s.trv ∧ (sendEcho n e a u s).hif = s.hif ∧
    (sendEcho n e a u s).evt = s.evt ∧ (sendEcho n e a u s).cairn = s.cairn ∧ (sendEcho n e a u s).tim = s.tim ∧
    (sendEcho n e a u s).ptp = s.ptp ∧ (sendEcho n e a u s).thm = s.thm ∧ (sendEcho n e a u s).pwr = s.pwr ∧
    (sendEcho n e a u s).nvm = s.nvm ∧ (sendEcho n e a u s).diag = s.diag ∧ (sendEcho n e a u s).sec = s.sec ∧
    (sendEcho n e a u s).leg = s.leg ∧ (sendEcho n e a u s).sys = s.sys ∧ (sendEcho n e a u s).hostMem = s.hostMem ∧
    (sendEcho n e a u s).free = s.free ∧ (sendEcho n e a u s).pending = s.pending := by
  simp [sendEcho]

@[simp] theorem sendRead_keeps (n : Nat) (e : RopeEnd) (a p o l : Nat) (u : TxnUse) :
    (sendRead n e a p o l u s).clk = s.clk ∧ (sendRead n e a p o l u s).frm = s.frm ∧ (sendRead n e a p o l u s).met = s.met ∧
    (sendRead n e a p o l u s).tun = s.tun ∧ (sendRead n e a p o l u s).sar = s.sar ∧ (sendRead n e a p o l u s).cfg = s.cfg ∧
    (sendRead n e a p o l u s).est = s.est ∧ (sendRead n e a p o l u s).trv = s.trv ∧ (sendRead n e a p o l u s).hif = s.hif ∧
    (sendRead n e a p o l u s).evt = s.evt ∧ (sendRead n e a p o l u s).cairn = s.cairn ∧ (sendRead n e a p o l u s).tim = s.tim ∧
    (sendRead n e a p o l u s).ptp = s.ptp ∧ (sendRead n e a p o l u s).thm = s.thm ∧ (sendRead n e a p o l u s).pwr = s.pwr ∧
    (sendRead n e a p o l u s).nvm = s.nvm ∧ (sendRead n e a p o l u s).diag = s.diag ∧ (sendRead n e a p o l u s).sec = s.sec ∧
    (sendRead n e a p o l u s).leg = s.leg ∧ (sendRead n e a p o l u s).sys = s.sys ∧ (sendRead n e a p o l u s).hostMem = s.hostMem ∧
    (sendRead n e a p o l u s).free = s.free ∧ (sendRead n e a p o l u s).pending = s.pending := by
  simp [sendRead]

@[simp] theorem sendConfigPage_keeps (n : Nat) (e : RopeEnd) (m : Nat) :
    (sendConfigPage n e m s).clk = s.clk ∧ (sendConfigPage n e m s).frm = s.frm ∧ (sendConfigPage n e m s).met = s.met ∧
    (sendConfigPage n e m s).tun = s.tun ∧ (sendConfigPage n e m s).sar = s.sar ∧ (sendConfigPage n e m s).cfg = s.cfg ∧
    (sendConfigPage n e m s).est = s.est ∧ (sendConfigPage n e m s).trv = s.trv ∧ (sendConfigPage n e m s).hif = s.hif ∧
    (sendConfigPage n e m s).evt = s.evt ∧ (sendConfigPage n e m s).cairn = s.cairn ∧ (sendConfigPage n e m s).tim = s.tim ∧
    (sendConfigPage n e m s).ptp = s.ptp ∧ (sendConfigPage n e m s).thm = s.thm ∧ (sendConfigPage n e m s).pwr = s.pwr ∧
    (sendConfigPage n e m s).nvm = s.nvm ∧ (sendConfigPage n e m s).diag = s.diag ∧ (sendConfigPage n e m s).sec = s.sec ∧
    (sendConfigPage n e m s).leg = s.leg ∧ (sendConfigPage n e m s).sys = s.sys ∧ (sendConfigPage n e m s).hostMem = s.hostMem ∧
    (sendConfigPage n e m s).free = s.free ∧ (sendConfigPage n e m s).pending = s.pending := by
  simp [sendConfigPage]

@[simp] theorem authFrame_keeps (n : Nat) (e : RopeEnd) (m : Nat) (a : AuthSend) :
    (authFrame n e m a s).clk = s.clk ∧ (authFrame n e m a s).frm = s.frm ∧ (authFrame n e m a s).met = s.met ∧
    (authFrame n e m a s).tun = s.tun ∧ (authFrame n e m a s).sar = s.sar ∧ (authFrame n e m a s).cfg = s.cfg ∧
    (authFrame n e m a s).est = s.est ∧ (authFrame n e m a s).trv = s.trv ∧ (authFrame n e m a s).hif = s.hif ∧
    (authFrame n e m a s).evt = s.evt ∧ (authFrame n e m a s).cairn = s.cairn ∧ (authFrame n e m a s).tim = s.tim ∧
    (authFrame n e m a s).ptp = s.ptp ∧ (authFrame n e m a s).thm = s.thm ∧ (authFrame n e m a s).pwr = s.pwr ∧
    (authFrame n e m a s).nvm = s.nvm ∧ (authFrame n e m a s).diag = s.diag ∧ (authFrame n e m a s).sec = s.sec ∧
    (authFrame n e m a s).leg = s.leg ∧ (authFrame n e m a s).sys = s.sys ∧ (authFrame n e m a s).hostMem = s.hostMem ∧
    (authFrame n e m a s).pending = s.pending := by
  simp only [authFrame]
  repeat' split
  all_goals simp

@[simp] theorem castTie_keeps (n : Nat) (e : RopeEnd) (a : Nat) (p : List Byte) :
    (castTie n e a p s).clk = s.clk ∧ (castTie n e a p s).frm = s.frm ∧ (castTie n e a p s).met = s.met ∧ (castTie n e a p s).tun = s.tun ∧
    (castTie n e a p s).sar = s.sar ∧ (castTie n e a p s).cfg = s.cfg ∧ (castTie n e a p s).est = s.est ∧ (castTie n e a p s).trv = s.trv ∧
    (castTie n e a p s).hif = s.hif ∧ (castTie n e a p s).evt = s.evt ∧ (castTie n e a p s).cairn = s.cairn ∧
    (castTie n e a p s).tim = s.tim ∧ (castTie n e a p s).ptp = s.ptp ∧ (castTie n e a p s).thm = s.thm ∧ (castTie n e a p s).pwr = s.pwr ∧
    (castTie n e a p s).nvm = s.nvm ∧ (castTie n e a p s).diag = s.diag ∧ (castTie n e a p s).sec = s.sec ∧
    (castTie n e a p s).leg = s.leg ∧ (castTie n e a p s).sys = s.sys ∧ (castTie n e a p s).hostMem = s.hostMem ∧
    (castTie n e a p s).free = s.free ∧ (castTie n e a p s).pending = s.pending := by
  simp only [castTie]
  repeat' split
  all_goals simp

@[simp] theorem castSafe_keeps (n : Nat) (e : RopeEnd) :
    (castSafe n e s).clk = s.clk ∧ (castSafe n e s).frm = s.frm ∧ (castSafe n e s).met = s.met ∧ (castSafe n e s).tun = s.tun ∧
    (castSafe n e s).sar = s.sar ∧ (castSafe n e s).cfg = s.cfg ∧ (castSafe n e s).est = s.est ∧ (castSafe n e s).trv = s.trv ∧
    (castSafe n e s).hif = s.hif ∧ (castSafe n e s).evt = s.evt ∧ (castSafe n e s).cairn = s.cairn ∧ (castSafe n e s).tim = s.tim ∧
    (castSafe n e s).ptp = s.ptp ∧ (castSafe n e s).thm = s.thm ∧ (castSafe n e s).pwr = s.pwr ∧ (castSafe n e s).nvm = s.nvm ∧
    (castSafe n e s).diag = s.diag ∧ (castSafe n e s).sec = s.sec ∧ (castSafe n e s).leg = s.leg ∧ (castSafe n e s).sys = s.sys ∧
    (castSafe n e s).hostMem = s.hostMem ∧ (castSafe n e s).free = s.free ∧ (castSafe n e s).pending = s.pending := by
  simp only [castSafe]
  simp

@[simp] theorem safeStep_keeps (n : Nat) :
    (safeStep n s).clk = s.clk ∧ (safeStep n s).frm = s.frm ∧ (safeStep n s).met = s.met ∧ (safeStep n s).tun = s.tun ∧
    (safeStep n s).sar = s.sar ∧ (safeStep n s).cfg = s.cfg ∧ (safeStep n s).est = s.est ∧ (safeStep n s).trv = s.trv ∧
    (safeStep n s).hif = s.hif ∧ (safeStep n s).evt = s.evt ∧ (safeStep n s).cairn = s.cairn ∧ (safeStep n s).tim = s.tim ∧
    (safeStep n s).ptp = s.ptp ∧ (safeStep n s).thm = s.thm ∧ (safeStep n s).pwr = s.pwr ∧ (safeStep n s).nvm = s.nvm ∧
    (safeStep n s).diag = s.diag ∧ (safeStep n s).sec = s.sec ∧ (safeStep n s).leg = s.leg ∧ (safeStep n s).sys = s.sys ∧
    (safeStep n s).hostMem = s.hostMem ∧ (safeStep n s).free = s.free ∧ (safeStep n s).pending = s.pending := by
  simp only [safeStep]
  repeat' split
  all_goals simp

@[simp] theorem sendLocate_keeps (n : Nat) (l : Locate) :
    (sendLocate n l s).clk = s.clk ∧ (sendLocate n l s).frm = s.frm ∧ (sendLocate n l s).met = s.met ∧ (sendLocate n l s).tun = s.tun ∧
    (sendLocate n l s).sar = s.sar ∧ (sendLocate n l s).cfg = s.cfg ∧ (sendLocate n l s).est = s.est ∧ (sendLocate n l s).trv = s.trv ∧
    (sendLocate n l s).hif = s.hif ∧ (sendLocate n l s).evt = s.evt ∧ (sendLocate n l s).cairn = s.cairn ∧ (sendLocate n l s).tim = s.tim ∧
    (sendLocate n l s).ptp = s.ptp ∧ (sendLocate n l s).thm = s.thm ∧ (sendLocate n l s).pwr = s.pwr ∧ (sendLocate n l s).nvm = s.nvm ∧
    (sendLocate n l s).diag = s.diag ∧ (sendLocate n l s).sec = s.sec ∧ (sendLocate n l s).leg = s.leg ∧ (sendLocate n l s).sys = s.sys ∧
    (sendLocate n l s).hostMem = s.hostMem ∧ (sendLocate n l s).free = s.free ∧ (sendLocate n l s).pending = s.pending := by
  exact ⟨(foldl_keeps (fun s : State => s.clk) _ (fun s e => by simp) _ _).trans rfl,
    (foldl_keeps (fun s : State => s.frm) _ (fun s e => by simp) _ _).trans rfl,
    (foldl_keeps (fun s : State => s.met) _ (fun s e => by simp) _ _).trans rfl,
    (foldl_keeps (fun s : State => s.tun) _ (fun s e => by simp) _ _).trans rfl,
    (foldl_keeps (fun s : State => s.sar) _ (fun s e => by simp) _ _).trans rfl,
    (foldl_keeps (fun s : State => s.cfg) _ (fun s e => by simp) _ _).trans rfl,
    (foldl_keeps (fun s : State => s.est) _ (fun s e => by simp) _ _).trans rfl,
    (foldl_keeps (fun s : State => s.trv) _ (fun s e => by simp) _ _).trans rfl,
    (foldl_keeps (fun s : State => s.hif) _ (fun s e => by simp) _ _).trans rfl,
    (foldl_keeps (fun s : State => s.evt) _ (fun s e => by simp) _ _).trans rfl,
    (foldl_keeps (fun s : State => s.cairn) _ (fun s e => by simp) _ _).trans rfl,
    (foldl_keeps (fun s : State => s.tim) _ (fun s e => by simp) _ _).trans rfl,
    (foldl_keeps (fun s : State => s.ptp) _ (fun s e => by simp) _ _).trans rfl,
    (foldl_keeps (fun s : State => s.thm) _ (fun s e => by simp) _ _).trans rfl,
    (foldl_keeps (fun s : State => s.pwr) _ (fun s e => by simp) _ _).trans rfl,
    (foldl_keeps (fun s : State => s.nvm) _ (fun s e => by simp) _ _).trans rfl,
    (foldl_keeps (fun s : State => s.diag) _ (fun s e => by simp) _ _).trans rfl,
    (foldl_keeps (fun s : State => s.sec) _ (fun s e => by simp) _ _).trans rfl,
    (foldl_keeps (fun s : State => s.leg) _ (fun s e => by simp) _ _).trans rfl,
    (foldl_keeps (fun s : State => s.sys) _ (fun s e => by simp) _ _).trans rfl,
    (foldl_keeps (fun s : State => s.hostMem) _ (fun s e => by simp) _ _).trans rfl,
    (foldl_keeps (fun s : State => s.free) _ (fun s e => by simp) _ _).trans rfl,
    (foldl_keeps (fun s : State => s.pending) _ (fun s e => by simp) _ _).trans rfl⟩

@[simp] theorem ropeGap_keeps (n : Nat) :
    (ropeGap n s).clk = s.clk ∧ (ropeGap n s).frm = s.frm ∧ (ropeGap n s).met = s.met ∧ (ropeGap n s).tun = s.tun ∧
    (ropeGap n s).sar = s.sar ∧ (ropeGap n s).cfg = s.cfg ∧ (ropeGap n s).est = s.est ∧ (ropeGap n s).trv = s.trv ∧
    (ropeGap n s).hif = s.hif ∧ (ropeGap n s).evt = s.evt ∧ (ropeGap n s).cairn = s.cairn ∧ (ropeGap n s).tim = s.tim ∧
    (ropeGap n s).ptp = s.ptp ∧ (ropeGap n s).thm = s.thm ∧ (ropeGap n s).pwr = s.pwr ∧ (ropeGap n s).nvm = s.nvm ∧
    (ropeGap n s).diag = s.diag ∧ (ropeGap n s).sec = s.sec ∧ (ropeGap n s).leg = s.leg ∧ (ropeGap n s).sys = s.sys ∧
    (ropeGap n s).hostMem = s.hostMem ∧ (ropeGap n s).pending = s.pending := by
  simp only [ropeGap]
  repeat' split
  all_goals simp

@[simp] theorem setTie_keeps (n : Nat) (t : TieIn) :
    (setTie n t s).clk = s.clk ∧ (setTie n t s).frm = s.frm ∧ (setTie n t s).met = s.met ∧ (setTie n t s).tun = s.tun ∧
    (setTie n t s).sar = s.sar ∧ (setTie n t s).cfg = s.cfg ∧ (setTie n t s).est = s.est ∧ (setTie n t s).trv = s.trv ∧
    (setTie n t s).hif = s.hif ∧ (setTie n t s).evt = s.evt ∧ (setTie n t s).cairn = s.cairn ∧ (setTie n t s).tim = s.tim ∧
    (setTie n t s).ptp = s.ptp ∧ (setTie n t s).thm = s.thm ∧ (setTie n t s).pwr = s.pwr ∧ (setTie n t s).nvm = s.nvm ∧
    (setTie n t s).diag = s.diag ∧ (setTie n t s).sec = s.sec ∧ (setTie n t s).leg = s.leg ∧ (setTie n t s).sys = s.sys ∧
    (setTie n t s).hostMem = s.hostMem ∧ (setTie n t s).free = s.free ∧ (setTie n t s).pending = s.pending := by
  simp [setTie]

@[simp] theorem setSweep_keeps (n : Nat) (w : Sweep) :
    (setSweep n w s).clk = s.clk ∧ (setSweep n w s).frm = s.frm ∧ (setSweep n w s).met = s.met ∧ (setSweep n w s).tun = s.tun ∧
    (setSweep n w s).sar = s.sar ∧ (setSweep n w s).cfg = s.cfg ∧ (setSweep n w s).est = s.est ∧ (setSweep n w s).trv = s.trv ∧
    (setSweep n w s).hif = s.hif ∧ (setSweep n w s).evt = s.evt ∧ (setSweep n w s).cairn = s.cairn ∧ (setSweep n w s).tim = s.tim ∧
    (setSweep n w s).ptp = s.ptp ∧ (setSweep n w s).thm = s.thm ∧ (setSweep n w s).pwr = s.pwr ∧ (setSweep n w s).nvm = s.nvm ∧
    (setSweep n w s).diag = s.diag ∧ (setSweep n w s).sec = s.sec ∧ (setSweep n w s).leg = s.leg ∧ (setSweep n w s).sys = s.sys ∧
    (setSweep n w s).hostMem = s.hostMem ∧ (setSweep n w s).free = s.free ∧ (setSweep n w s).pending = s.pending := by
  simp [setSweep]

@[simp] theorem fileReport_keeps (u : UnitId) :
    (fileReport u s).clk = s.clk ∧ (fileReport u s).frm = s.frm ∧ (fileReport u s).met = s.met ∧ (fileReport u s).tun = s.tun ∧
    (fileReport u s).sar = s.sar ∧ (fileReport u s).rope = s.rope ∧ (fileReport u s).cfg = s.cfg ∧ (fileReport u s).est = s.est ∧
    (fileReport u s).hif = s.hif ∧ (fileReport u s).evt = s.evt ∧ (fileReport u s).cairn = s.cairn ∧ (fileReport u s).tim = s.tim ∧
    (fileReport u s).ptp = s.ptp ∧ (fileReport u s).thm = s.thm ∧ (fileReport u s).pwr = s.pwr ∧ (fileReport u s).nvm = s.nvm ∧
    (fileReport u s).sec = s.sec ∧ (fileReport u s).leg = s.leg ∧ (fileReport u s).sys = s.sys ∧ (fileReport u s).hostMem = s.hostMem ∧
    (fileReport u s).free = s.free ∧ (fileReport u s).pending = s.pending := by
  simp only [fileReport]
  repeat' split
  all_goals simp

@[simp] theorem State.modFrame_keeps (k : Nat) (f : FrameRec → FrameRec) :
    (State.modFrame k f s).clk = s.clk ∧ (State.modFrame k f s).met = s.met ∧ (State.modFrame k f s).tun = s.tun ∧
    (State.modFrame k f s).sar = s.sar ∧ (State.modFrame k f s).rope = s.rope ∧ (State.modFrame k f s).cfg = s.cfg ∧
    (State.modFrame k f s).est = s.est ∧ (State.modFrame k f s).trv = s.trv ∧ (State.modFrame k f s).hif = s.hif ∧
    (State.modFrame k f s).evt = s.evt ∧ (State.modFrame k f s).cairn = s.cairn ∧ (State.modFrame k f s).tim = s.tim ∧
    (State.modFrame k f s).ptp = s.ptp ∧ (State.modFrame k f s).thm = s.thm ∧ (State.modFrame k f s).pwr = s.pwr ∧
    (State.modFrame k f s).nvm = s.nvm ∧ (State.modFrame k f s).diag = s.diag ∧ (State.modFrame k f s).sec = s.sec ∧
    (State.modFrame k f s).leg = s.leg ∧ (State.modFrame k f s).sys = s.sys ∧ (State.modFrame k f s).hostMem = s.hostMem ∧
    (State.modFrame k f s).free = s.free ∧ (State.modFrame k f s).pending = s.pending := by
  simp [State.modFrame]

@[simp] theorem beginPlain_keeps :
    (beginPlain s).clk = s.clk ∧ (beginPlain s).frm = s.frm ∧ (beginPlain s).met = s.met ∧ (beginPlain s).tun = s.tun
    ∧ (beginPlain s).sar = s.sar ∧ (beginPlain s).rope = s.rope ∧ (beginPlain s).est = s.est ∧ (beginPlain s).trv =
    s.trv ∧ (beginPlain s).hif = s.hif ∧ (beginPlain s).evt = s.evt ∧ (beginPlain s).cairn = s.cairn ∧ (beginPlain
    s).tim = s.tim ∧ (beginPlain s).ptp = s.ptp ∧ (beginPlain s).thm = s.thm ∧ (beginPlain s).pwr = s.pwr ∧
    (beginPlain s).diag = s.diag ∧ (beginPlain s).sec = s.sec ∧ (beginPlain s).leg = s.leg ∧ (beginPlain s).sys =
    s.sys ∧ (beginPlain s).hostMem = s.hostMem ∧ (beginPlain s).free = s.free ∧ (beginPlain s).pending = s.pending := by
  simp only [beginPlain]
  repeat' split
  all_goals simp

/-- Of the configuration, only the directory's older copy. -/
@[simp] theorem beginPlain_cfg :
    (beginPlain s).cfg.live = s.cfg.live ∧ (beginPlain s).cfg.block = s.cfg.block ∧ (beginPlain s).cfg.stored =
    s.cfg.stored ∧ (beginPlain s).cfg.storedOld = s.cfg.storedOld ∧ (beginPlain s).cfg.images = s.cfg.images ∧
    (beginPlain s).cfg.pending = s.cfg.pending ∧ (beginPlain s).cfg.committed = s.cfg.committed ∧ (beginPlain
    s).cfg.waiting = s.cfg.waiting ∧ (beginPlain s).cfg.takeGen = s.cfg.takeGen ∧ (beginPlain s).cfg.takeNext =
    s.cfg.takeNext := by
  simp only [beginPlain]
  repeat' split
  all_goals simp

@[simp] theorem addJob_keeps (w : NvmWrite) (p : Nat) (sub : Option Submission) :
    (addJob w p sub s).clk = s.clk ∧ (addJob w p sub s).frm = s.frm ∧ (addJob w p sub s).met = s.met ∧ (addJob w p sub
    s).tun = s.tun ∧ (addJob w p sub s).sar = s.sar ∧ (addJob w p sub s).rope = s.rope ∧ (addJob w p sub s).est =
    s.est ∧ (addJob w p sub s).trv = s.trv ∧ (addJob w p sub s).hif = s.hif ∧ (addJob w p sub s).evt = s.evt ∧ (addJob
    w p sub s).cairn = s.cairn ∧ (addJob w p sub s).tim = s.tim ∧ (addJob w p sub s).ptp = s.ptp ∧ (addJob w p sub
    s).thm = s.thm ∧ (addJob w p sub s).pwr = s.pwr ∧ (addJob w p sub s).diag = s.diag ∧ (addJob w p sub s).sec =
    s.sec ∧ (addJob w p sub s).leg = s.leg ∧ (addJob w p sub s).sys = s.sys ∧ (addJob w p sub s).hostMem = s.hostMem ∧
    (addJob w p sub s).free = s.free ∧ (addJob w p sub s).pending = s.pending := by
  simp [addJob]

/-- Of the configuration, only the directory's older copy. -/
@[simp] theorem addJob_cfg (w : NvmWrite) (p : Nat) (sub : Option Submission) :
    (addJob w p sub s).cfg.live = s.cfg.live ∧ (addJob w p sub s).cfg.block = s.cfg.block ∧ (addJob w p sub
    s).cfg.stored = s.cfg.stored ∧ (addJob w p sub s).cfg.storedOld = s.cfg.storedOld ∧ (addJob w p sub s).cfg.images
    = s.cfg.images ∧ (addJob w p sub s).cfg.pending = s.cfg.pending ∧ (addJob w p sub s).cfg.committed =
    s.cfg.committed ∧ (addJob w p sub s).cfg.waiting = s.cfg.waiting ∧ (addJob w p sub s).cfg.takeGen = s.cfg.takeGen
    ∧ (addJob w p sub s).cfg.takeNext = s.cfg.takeNext := by
  simp [addJob]

@[simp] theorem awaitInstant_keeps (t : TakeForce) :
    (awaitInstant t s).clk = s.clk ∧ (awaitInstant t s).frm = s.frm ∧ (awaitInstant t s).met = s.met ∧ (awaitInstant t s).tun = s.tun ∧
    (awaitInstant t s).sar = s.sar ∧ (awaitInstant t s).rope = s.rope ∧ (awaitInstant t s).est = s.est ∧ (awaitInstant t s).trv = s.trv ∧
    (awaitInstant t s).hif = s.hif ∧ (awaitInstant t s).evt = s.evt ∧ (awaitInstant t s).cairn = s.cairn ∧ (awaitInstant t s).tim = s.tim ∧
    (awaitInstant t s).ptp = s.ptp ∧ (awaitInstant t s).thm = s.thm ∧ (awaitInstant t s).pwr = s.pwr ∧ (awaitInstant t s).nvm = s.nvm ∧
    (awaitInstant t s).diag = s.diag ∧ (awaitInstant t s).sec = s.sec ∧ (awaitInstant t s).leg = s.leg ∧ (awaitInstant t s).sys = s.sys ∧
    (awaitInstant t s).hostMem = s.hostMem ∧ (awaitInstant t s).free = s.free ∧ (awaitInstant t s).pending = s.pending := by
  simp [awaitInstant]

@[simp] theorem putJob_keeps (j : Job) :
    (putJob j s).clk = s.clk ∧ (putJob j s).frm = s.frm ∧ (putJob j s).met = s.met ∧ (putJob j s).tun = s.tun ∧ (putJob j s).sar = s.sar ∧
    (putJob j s).rope = s.rope ∧ (putJob j s).cfg = s.cfg ∧ (putJob j s).est = s.est ∧ (putJob j s).hif = s.hif ∧
    (putJob j s).evt = s.evt ∧ (putJob j s).cairn = s.cairn ∧ (putJob j s).tim = s.tim ∧ (putJob j s).ptp = s.ptp ∧
    (putJob j s).thm = s.thm ∧ (putJob j s).pwr = s.pwr ∧ (putJob j s).nvm = s.nvm ∧ (putJob j s).diag = s.diag ∧
    (putJob j s).sec = s.sec ∧ (putJob j s).leg = s.leg ∧ (putJob j s).sys = s.sys ∧ (putJob j s).hostMem = s.hostMem ∧
    (putJob j s).free = s.free ∧ (putJob j s).pending = s.pending := by
  simp [putJob]

@[simp] theorem dropJob_keeps (id : Nat) :
    (dropJob id s).clk = s.clk ∧ (dropJob id s).frm = s.frm ∧ (dropJob id s).met = s.met ∧ (dropJob id s).tun = s.tun ∧
    (dropJob id s).sar = s.sar ∧ (dropJob id s).rope = s.rope ∧ (dropJob id s).cfg = s.cfg ∧ (dropJob id s).est = s.est ∧
    (dropJob id s).hif = s.hif ∧ (dropJob id s).evt = s.evt ∧ (dropJob id s).cairn = s.cairn ∧ (dropJob id s).tim = s.tim ∧
    (dropJob id s).ptp = s.ptp ∧ (dropJob id s).thm = s.thm ∧ (dropJob id s).pwr = s.pwr ∧ (dropJob id s).nvm = s.nvm ∧
    (dropJob id s).diag = s.diag ∧ (dropJob id s).sec = s.sec ∧ (dropJob id s).leg = s.leg ∧ (dropJob id s).sys = s.sys ∧
    (dropJob id s).hostMem = s.hostMem ∧ (dropJob id s).free = s.free ∧ (dropJob id s).pending = s.pending := by
  simp [dropJob]

@[simp] theorem applyRate_keeps :
    (applyRate s).frm = s.frm ∧ (applyRate s).met = s.met ∧ (applyRate s).tun = s.tun ∧ (applyRate s).sar = s.sar ∧
    (applyRate s).rope = s.rope ∧ (applyRate s).cfg = s.cfg ∧ (applyRate s).est = s.est ∧ (applyRate s).trv = s.trv ∧
    (applyRate s).hif = s.hif ∧ (applyRate s).evt = s.evt ∧ (applyRate s).cairn = s.cairn ∧ (applyRate s).tim = s.tim ∧
    (applyRate s).ptp = s.ptp ∧ (applyRate s).thm = s.thm ∧ (applyRate s).pwr = s.pwr ∧ (applyRate s).nvm = s.nvm ∧
    (applyRate s).diag = s.diag ∧ (applyRate s).sec = s.sec ∧ (applyRate s).leg = s.leg ∧ (applyRate s).sys = s.sys ∧
    (applyRate s).hostMem = s.hostMem ∧ (applyRate s).free = s.free ∧ (applyRate s).pending = s.pending := by
  simp [applyRate]

@[simp] theorem setFreq_keeps (c : Rat) :
    (setFreq c s).frm = s.frm ∧ (setFreq c s).met = s.met ∧ (setFreq c s).tun = s.tun ∧ (setFreq c s).sar = s.sar ∧
    (setFreq c s).rope = s.rope ∧ (setFreq c s).cfg = s.cfg ∧ (setFreq c s).est = s.est ∧ (setFreq c s).trv = s.trv ∧
    (setFreq c s).hif = s.hif ∧ (setFreq c s).evt = s.evt ∧ (setFreq c s).cairn = s.cairn ∧ (setFreq c s).ptp = s.ptp ∧
    (setFreq c s).thm = s.thm ∧ (setFreq c s).pwr = s.pwr ∧ (setFreq c s).nvm = s.nvm ∧ (setFreq c s).diag = s.diag ∧
    (setFreq c s).sec = s.sec ∧ (setFreq c s).leg = s.leg ∧ (setFreq c s).sys = s.sys ∧ (setFreq c s).hostMem = s.hostMem ∧
    (setFreq c s).free = s.free ∧ (setFreq c s).pending = s.pending := by
  simp [setFreq]

@[simp] theorem setSlew_keeps (r t : Int) :
    (setSlew r t s).frm = s.frm ∧ (setSlew r t s).met = s.met ∧ (setSlew r t s).tun = s.tun ∧ (setSlew r t s).sar = s.sar ∧
    (setSlew r t s).rope = s.rope ∧ (setSlew r t s).cfg = s.cfg ∧ (setSlew r t s).est = s.est ∧ (setSlew r t s).trv = s.trv ∧
    (setSlew r t s).hif = s.hif ∧ (setSlew r t s).evt = s.evt ∧ (setSlew r t s).cairn = s.cairn ∧ (setSlew r t s).ptp = s.ptp ∧
    (setSlew r t s).thm = s.thm ∧ (setSlew r t s).pwr = s.pwr ∧ (setSlew r t s).nvm = s.nvm ∧ (setSlew r t s).diag = s.diag ∧
    (setSlew r t s).sec = s.sec ∧ (setSlew r t s).leg = s.leg ∧ (setSlew r t s).sys = s.sys ∧ (setSlew r t s).hostMem = s.hostMem ∧
    (setSlew r t s).free = s.free ∧ (setSlew r t s).pending = s.pending := by
  simp [setSlew]

@[simp] theorem queuePop_keeps :
    (queuePop s).clk = s.clk ∧ (queuePop s).frm = s.frm ∧ (queuePop s).met = s.met ∧ (queuePop s).tun = s.tun ∧
    (queuePop s).rope = s.rope ∧ (queuePop s).cfg = s.cfg ∧ (queuePop s).est = s.est ∧ (queuePop s).trv = s.trv ∧
    (queuePop s).hif = s.hif ∧ (queuePop s).evt = s.evt ∧ (queuePop s).cairn = s.cairn ∧ (queuePop s).tim = s.tim ∧
    (queuePop s).ptp = s.ptp ∧ (queuePop s).thm = s.thm ∧ (queuePop s).pwr = s.pwr ∧ (queuePop s).nvm = s.nvm ∧
    (queuePop s).diag = s.diag ∧ (queuePop s).sec = s.sec ∧ (queuePop s).leg = s.leg ∧ (queuePop s).sys = s.sys ∧
    (queuePop s).hostMem = s.hostMem ∧ (queuePop s).free = s.free ∧ (queuePop s).pending = s.pending := by
  simp [queuePop]

@[simp] theorem abortConv_keeps (c : Nat) (b : Conversion) :
    (abortConv c b s).clk = s.clk ∧ (abortConv c b s).frm = s.frm ∧ (abortConv c b s).met = s.met ∧ (abortConv c b s).tun = s.tun ∧
    (abortConv c b s).rope = s.rope ∧ (abortConv c b s).cfg = s.cfg ∧ (abortConv c b s).est = s.est ∧ (abortConv c b s).trv = s.trv ∧
    (abortConv c b s).hif = s.hif ∧ (abortConv c b s).evt = s.evt ∧ (abortConv c b s).cairn = s.cairn ∧ (abortConv c b s).tim = s.tim ∧
    (abortConv c b s).ptp = s.ptp ∧ (abortConv c b s).thm = s.thm ∧ (abortConv c b s).pwr = s.pwr ∧ (abortConv c b s).nvm = s.nvm ∧
    (abortConv c b s).diag = s.diag ∧ (abortConv c b s).sec = s.sec ∧ (abortConv c b s).leg = s.leg ∧ (abortConv c b s).sys = s.sys ∧
    (abortConv c b s).hostMem = s.hostMem ∧ (abortConv c b s).free = s.free ∧ (abortConv c b s).pending = s.pending := by
  simp only [abortConv]
  repeat' split
  all_goals simp

@[simp] theorem setPending_keeps (c : Nat) (t : Trig) :
    (setPending c t s).clk = s.clk ∧ (setPending c t s).frm = s.frm ∧ (setPending c t s).met = s.met ∧ (setPending c t s).tun = s.tun ∧
    (setPending c t s).rope = s.rope ∧ (setPending c t s).cfg = s.cfg ∧ (setPending c t s).est = s.est ∧ (setPending c t s).trv = s.trv ∧
    (setPending c t s).hif = s.hif ∧ (setPending c t s).evt = s.evt ∧ (setPending c t s).cairn = s.cairn ∧ (setPending c t s).tim = s.tim ∧
    (setPending c t s).ptp = s.ptp ∧ (setPending c t s).thm = s.thm ∧ (setPending c t s).pwr = s.pwr ∧ (setPending c t s).nvm = s.nvm ∧
    (setPending c t s).diag = s.diag ∧ (setPending c t s).sec = s.sec ∧ (setPending c t s).leg = s.leg ∧ (setPending c t s).sys = s.sys ∧
    (setPending c t s).hostMem = s.hostMem ∧ (setPending c t s).free = s.free ∧ (setPending c t s).pending = s.pending := by
  simp only [setPending]
  repeat' split
  all_goals simp

@[simp] theorem sendFrames_keeps (p : Nat) (l : List NetTx) :
    (sendFrames p l s).clk = s.clk ∧ (sendFrames p l s).frm = s.frm ∧ (sendFrames p l s).met = s.met ∧ (sendFrames p l s).tun = s.tun ∧
    (sendFrames p l s).sar = s.sar ∧ (sendFrames p l s).rope = s.rope ∧ (sendFrames p l s).cfg = s.cfg ∧ (sendFrames p l s).est = s.est ∧
    (sendFrames p l s).trv = s.trv ∧ (sendFrames p l s).hif = s.hif ∧ (sendFrames p l s).evt = s.evt ∧ (sendFrames p l s).cairn = s.cairn ∧
    (sendFrames p l s).tim = s.tim ∧ (sendFrames p l s).thm = s.thm ∧ (sendFrames p l s).pwr = s.pwr ∧ (sendFrames p l s).nvm = s.nvm ∧
    (sendFrames p l s).diag = s.diag ∧ (sendFrames p l s).sec = s.sec ∧ (sendFrames p l s).leg = s.leg ∧ (sendFrames p l s).sys = s.sys ∧
    (sendFrames p l s).hostMem = s.hostMem ∧ (sendFrames p l s).free = s.free ∧ (sendFrames p l s).pending = s.pending := by
  simp [sendFrames]

@[simp] theorem legXfer_keeps (c : Nat) (w d a : Bool) :
    (legXfer c w d a s).clk = s.clk ∧ (legXfer c w d a s).frm = s.frm ∧ (legXfer c w d a s).met = s.met ∧ (legXfer c w d a s).tun = s.tun ∧
    (legXfer c w d a s).sar = s.sar ∧ (legXfer c w d a s).rope = s.rope ∧ (legXfer c w d a s).cfg = s.cfg ∧
    (legXfer c w d a s).est = s.est ∧ (legXfer c w d a s).trv = s.trv ∧ (legXfer c w d a s).hif = s.hif ∧
    (legXfer c w d a s).cairn = s.cairn ∧ (legXfer c w d a s).tim = s.tim ∧ (legXfer c w d a s).ptp = s.ptp ∧
    (legXfer c w d a s).thm = s.thm ∧ (legXfer c w d a s).pwr = s.pwr ∧ (legXfer c w d a s).diag = s.diag ∧
    (legXfer c w d a s).sec = s.sec ∧ (legXfer c w d a s).sys = s.sys ∧ (legXfer c w d a s).hostMem = s.hostMem ∧
    (legXfer c w d a s).free = s.free ∧ (legXfer c w d a s).pending = s.pending := by
  simp only [legXfer]
  repeat' split
  all_goals simp

end Sys2Proof.Machine
end

