-- ==== Sys2Proof/Tests/Slice0.lean ====
section
/-! SUPPORT. Tests: WellFormed refuses each ill-formed operand; small facts whose expected values are the spec's; and for
every claim with hypotheses a witness, clause by clause, that some state and operands meet them. -/

namespace Sys2Proof.Tests
open Sys2Proof Sys2Proof.Machine
set_option Elab.async false

/-! ### States and operands -/

/-- A device in RUN that measures. -/
def up : State :=
  { State.reset with
    pwr := { Pwr.reset with state := .run, started := true, loaded := true }
    clk := { Clock.reset with running := true, ticks := 240000000 }
    frm := { FrameState.reset with measuring := true } }

/-- The same, with string S7 enabled and one cell in use on each of its first two modules. -/
def on7 : State :=
  { up with cfg := { Cfg.reset with live := { ConfigBlock.template with
      strs := List.replicate 7 StrCfg.template ++ [{ StrCfg.template with enable := 1, cellsUsed := [1, 1] ++ List.replicate 30 0 }] } } }

/-- A submission of SQ0 with these PARAM bytes and no buffer. -/
def sub (p : List Byte) : Submission :=
  { sq := 0, sflags := 0, tag := 1, reqId := 0, bufAddr := 0, bufLen := 0, rsvd := 0, param := fit 40 p }

/-- The same with a buffer at 4096. -/
def subB (p : List Byte) (len : Nat) : Submission := { sub p with bufAddr := 4096, bufLen := len }

/-- A rope frame of these fields with its CRC-16, as it stands on the line (R158 to R160). -/
def line (typ addr seq : Nat) (payload : List Byte) : LineFrame :=
  let b := [BitVec.ofNat 8 (16 * typ + addr / 4), BitVec.ofNat 8 (64 * (addr % 4) + seq)] ++ payload
  { bytes := b ++ [BitVec.ofNat 8 ((crc16 b).toNat / 256), BitVec.ofNat 8 (crc16 b).toNat], extraBits := 0 }

/-- Nothing waits for its start where the command table is empty and posted writes are accepted. -/
theorem none_waits {s : State} (h : s.hif.table = []) (w : s.hif.writesHeld = false) (op : Nat) (x : Submission) : s.cmdWaits op x = false := by
  simp [State.cmdWaits, h, w]

def inState (p : PowerState) : State := { up with pwr := { up.pwr with state := p } }

/-! ### WellFormed -/

theorem test_wf_string : (Instr.ocTrip ⟨8, 0, 0, 0⟩).wf = false ∧ (Instr.ocRelease ⟨8, 0, 0, 0⟩).wf = false ∧ (Instr.ocTrip ⟨7, 0, 0, 0⟩).wf = true := by decide
theorem test_wf_unit : (Instr.tuningFitDone 34).wf = false ∧ (Instr.tuningFitDone 33).wf = true ∧ (Instr.tuningSlotEnd 16 0).wf = false := by decide
theorem test_wf_port : (Instr.openWireSlot 9 true).wf = false ∧ (Instr.openWireSlot 8 true).wf = true := by decide
theorem test_wf_offset : (Instr.registerWrite 0x10000 0).wf = false ∧ (Instr.registerWrite 0x402 0).wf = false ∧
    (Instr.registerWrite 0xFFFC 0).wf = true := by decide
theorem test_wf_converter : (Instr.sarConversionEnd 2 0 .within).wf = false := by decide
theorem test_wf_supply : (Instr.brownOut 65536).wf = false ∧ (Instr.vauxWarning 65536).wf = false := by decide
theorem test_wf_monitor : (Instr.authFetchTimer 0 33).wf = false ∧ (Instr.authFetchTimer 0 0).wf = false ∧
    (Instr.authFetchTimer 7 32).wf = true := by decide
theorem test_wf_cell : (Instr.measurementUpdateDone ⟨4096, []⟩).wf = false ∧
    (Instr.sramEccError 0 false (.cellState 4096)).wf = false := by decide
theorem test_wf_bank : (Instr.sramBankCopyDone 16).wf = false := by decide
theorem test_wf_staging : (Instr.sramEccError 15 false (.staging 3)).wf = false := by decide
theorem test_wf_region : (Instr.nvmSectorErased ⟨7, 0⟩ true).wf = false ∧ (Instr.nvmSectorErased ⟨4, 16⟩ true).wf = false ∧
    (Instr.nvmSectorErased ⟨4, 15⟩ true).wf = true := by decide
theorem test_wf_vector : (Instr.msixVectorUnmask (.entry 16 0 0 false)).wf = false := by decide
theorem test_wf_mdio : (Instr.mdioAccessDone ⟨2, 0⟩).wf = false ∧ (Instr.mdioAccessDone ⟨1, 65536⟩).wf = false ∧ (Instr.mdioAccessDone ⟨1, 65535⟩).wf = true := by decide
theorem test_wf_queue : (Instr.commandStart 4).wf = false := by decide
theorem test_wf_compare : (Instr.cmpFire 4).wf = false := by decide
theorem test_wf_domain : (Instr.ptpSyncTimeout 2).wf = false ∧ (Instr.arpRequestReceived 2 0).wf = false := by decide
theorem test_wf_lane : (Instr.laneChunkTimeout 64).wf = false := by decide
theorem test_wf_smbus : (Instr.smbusReadWord 256).wf = false ∧ (Instr.smbusWriteWord { code := 0, data := 65536, pec := none }).wf = false := by decide
theorem test_wf_rope : (Instr.ropeRespReceived { str := 0, fromEnd := .N, frame := { bytes := [], extraBits := 8 }, deltaNs := 0 }).wf = false ∧
    (Instr.ropeAttemptTimeout 0 .F 1 64).wf = false ∧ (Instr.tieFrameArrived 8 [] 0 0).wf = false ∧
    (Instr.belayReturned { str := 8, port := .N, frame := { bytes := [], extraBits := 0 } }).wf = false := by decide
theorem test_wf_ptp : (Instr.ptpFollowUpReceived { port := 2, udp := false, number := 0, seqId := 0, sender := 0 } 0 0).wf = false ∧
    (Instr.ptpFollowUpReceived { port := 1, udp := false, number := 256, seqId := 0, sender := 0 } 0 0).wf = false ∧
    (Instr.ptpFollowUpReceived { port := 1, udp := false, number := 255, seqId := 65535, sender := 0 } 0 0).wf = true := by decide
theorem test_wf_submission : (Instr.nop { sub [] with sq := 4 }).wf = false ∧ (Instr.nop { sub [] with tag := 65536 }).wf = false ∧
    (Instr.nop { sub [] with param := [] }).wf = false ∧ (Instr.nop (sub [])).wf = true := by decide
theorem test_wf_boot : (Instr.powerGood { failed := [{ target := 256, index := 0 }], badBanks := [], rngOk := true, vauxMv := 9000 }).wf = false ∧
    (Instr.powerGood { failed := [], badBanks := [2], rngOk := true, vauxMv := 9000 }).wf = false ∧
    (Instr.powerGood { failed := [], badBanks := [], rngOk := true, vauxMv := 9000, badCopies := [4] }).wf = false ∧
    (Instr.powerGood { failed := [], badBanks := [], rngOk := true, vauxMv := 9000, badSecs := [128] }).wf = false := by decide
theorem test_wf_tests : (Instr.selfTestDone { unit := { target := 0, index := 0 }, data := .points [] none }).wf = false ∧
    (Instr.selfTestDone { unit := { target := 1, index := 0 }, data := .points [0, 0, 0, 0, 0] none }).wf = false ∧
    (Instr.selfTestDone { unit := { target := 0, index := 0 }, data := .points [0, 0, 0, 0, 0] none }).wf = true := by decide
theorem test_wf_unitId : (Instr.selfTestStart { target := 0, index := 256 }).wf = false := by decide
theorem test_wf_frame : (Instr.prxFrameReceived { port := 2, bytes := [], udp := false, rxNs := 0 }).wf = false := by decide

/-! ### Values that the spec gives -/

/-- R7 and R8: nearest unit, ties away from zero; saturation at the extreme. -/
theorem test_rounding : roundAway (5 / 2) = 3 ∧ roundAway (-5 / 2) = -3 ∧ roundAway (-7 / 3) = -2 ∧ pubU 8 300 = 255 ∧ pubU 8 (-1) = 0 ∧
    pubS 16 (-40000) = -32768 := by decide +kernel

/-- R5: little-endian bytes and two's complement. -/
theorem test_bytes : leBytes 4 0x64081E7B = [0x7B, 0x1E, 0x08, 0x64] ∧ leNat [0x7B, 0x1E, 0x08, 0x64] = 0x64081E7B ∧ toS 16 0xFFFF = -1 ∧
    toU 16 (-2) = 0xFFFE := by decide +kernel

/-- CRC-32C and CRC-16 of "123456789" are the catalogue's check values for the parameters of R329 and R160. -/
theorem test_crc32c : crc32c [0x31, 0x32, 0x33, 0x34, 0x35, 0x36, 0x37, 0x38, 0x39] = 0xE3069283#32 := by decide +kernel
theorem test_crc16 : crc16 [0x31, 0x32, 0x33, 0x34, 0x35, 0x36, 0x37, 0x38, 0x39] = 0x29B1#16 := by decide +kernel
/-- CRC-8 with polynomial 0x07 (R535). -/
theorem test_pec : pec [0x31, 0x32, 0x33, 0x34, 0x35, 0x36, 0x37, 0x38, 0x39] = 0xF4#8 := by decide +kernel

/-- R421: a TARGET 2^31 units ahead reads as past, one less does not. -/
theorem test_ts_compare : tsReached 0 0x80000000 = false ∧ tsReached 0 0x80000001 = true ∧ tsReached 5 5 = true ∧
    tsReached 0 0xFFFFFFFF = true ∧ tsReached 0xFFFFFFFF 0 = false := by decide +kernel

/-- INC_NOM of R418: 4 1/6 ns in 2^-32 ns. -/
theorem test_inc_nom : (Clock.reset.inc.toNat : Rat) < 25 / 6 * two32 + 1 ∧ (25 / 6 * two32 : Rat) - 1 < Clock.reset.inc.toNat := by decide +kernel

/-- A posted write of a 0 removes its cell; the others stay in order. -/
theorem test_memory_canonical : Memory.write [(5, 1), (7, 2)] 5 [0, 9] = [(6, 9), (7, 2)] := by decide +kernel

/-- R10: cell index of S1, M3, position 4. -/
theorem test_cell_index : cellIndex 1 3 4 = 548 ∧ cellStr 548 = 1 ∧ cellMon 548 = 3 ∧ cellPos 548 = 4 := by decide

/-- R318: the slots alternate, and the slot completed last is not taken. -/
theorem test_next_slot : nextSlot none none = 0 ∧ nextSlot (some 0) (some 0) = 1 ∧ nextSlot (some 2) (some 0) = 1 := by decide

/-- R34: no lane left needs the largest shift; an empty demand needs none. -/
theorem test_shift : shiftFor 10 0 64 = 0 ∧ shiftFor 25 (4096 * 40000) 64 = 0 ∧ shiftFor 50 (4096 * 40000) 64 = 1 := by decide +kernel

/-- Nothing waits after reset and the timebase does not run yet: a step changes nothing. -/
theorem test_reset_is_idle : step State.reset = .next State.reset := rfl

/-- MISALIGNED reads return all ones (R339). -/
theorem test_misaligned : (match exec (.bar0MisalignedAccess false) State.reset with | .next t => t.hif.readData | _ => 0) = 0xFFFFFFFF#32 := by decide +kernel

/-- TS32 is 1 at TIME64 = 256 ns (R421). -/
theorem test_ts32 : (({ up with clk := { up.clk with time := BitVec.ofNat 96 (256 * two32) } } : State).ts32) = 1 := by decide +kernel

/-- R543: the key arms the window, any other word does not. -/
theorem test_key : (writeKey 0xC3A5 up).leg.armed = true ∧ (writeKey 0xC3A4 up).leg.armed = false := by decide +kernel

/-! ### Witnesses: the claims' hypotheses, met by concrete states and operands -/

theorem witness_StepRunsFrontCommand : ({ up with pending := [.startSync, .endSync] } : State).pending = .startSync :: [.endSync] := rfl

theorem witness_IdleStepIsOneTick : up.pending = [] ∧ up.clk.running = true ∧ State.reset.pending = [] ∧ State.reset.clk.running = false ∧
    State.reset.metering = false ∧ (up.port 0).late = none ∧ (up.port 1).late = none := by
  decide +kernel

theorem witness_QueueOnlyLosesItsFront :
    exec .ppsOutPulseEnd { up with pending := [.startSync] } = .next { up with tim := { up.tim with ppsOut := false }, pending := [.startSync] } := rfl

/-- A sealed part with a key in its last slot. -/
def locked : State := { up with sec := { up.sec with sealed := true, slots := [none, none, none, some [1]] } }

theorem witness_SealAndRootKeysStay : step locked = .next (tick locked) ∧ locked.sec.sealed = true ∧ locked.sec.slots[3]? = some (some [1]) :=
  ⟨rfl, rfl, rfl⟩

theorem witness_HostMemoryStaysCanonical : Memory.wf ({ up with hostMem := [(5, 1)] } : State).hostMem = true ∧
    step { up with hostMem := [(5, 1)] } = .next (tick { up with hostMem := [(5, 1)] }) := ⟨by decide, rfl⟩

theorem witness_PostedWriteReadsBack : Memory.wf [(0, 1), (7, 2)] = true ∧ 1 < [(3 : Byte), 0].length ∧ (4 < 5 ∨ 5 + [(3 : Byte), 0].length ≤ 4) ∧
    (7 < 5 ∨ 5 + [(3 : Byte), 0].length ≤ 7) := by decide

theorem witness_BlocksNotLiveReadReset : State.reset.blockLive 0xC00 = false ∧ State.reset.blockLive 0x37FC = false ∧
    State.reset.blockLive 0xBFC = true := by decide +kernel

theorem witness_RegisterWriteTakesEffect : up.takesWrite 0x28 = true ∧ up.takesWrite 0x2024 = true ∧ up.sec.sealed = false ∧
    8000 ≤ toS 16 (0x1F40#32).toNat ∧ toS 16 (0x1F40#32).toNat ≤ 11500 ∧ toS 16 (0x2CEC#32).toNat ≤ 11500 ∧
    locked.takesWrite 0x2024 = true ∧ locked.sec.sealed = true ∧ toS 16 (0x1F3F#32).toNat < 8000 ∧ 11500 < toS 16 (0x2CED#32).toNat ∧
    State.reset.takesWrite 0x2024 = false ∧ up.takesWrite 0x808 = true := by decide +kernel

/-- R553: a bit set on the tick of the write stays set, and one of an earlier tick clears. -/
theorem test_w1c_on_the_tick_of_the_event : ((Hot.none.mark 5 3).clears 5 7#32 = 4#32) ∧ ((Hot.none.mark 5 3).clears 6 7#32 = 7#32) := by decide +kernel

theorem witness_LatchingReadsAreOneValue : up.blockLive 0x1410 = true ∧ up.blockLive 0x1418 = true ∧ up.blockLive 0x1420 = true ∧
    up.blockLive 0x1428 = true ∧ up.blockLive 0xC00 = true ∧ up.blockLive 0xC20 = true ∧ up.blockLive 0xC40 = true ∧ up.blockLive 0x101C = true ∧ up.blockLive 0x3420 = true := by decide +kernel

theorem witness_PowerGoodReachesRun : State.reset.pwr.started = false ∧ State.reset.pwr.hardLatch = false ∧ State.reset.pwr.bootFail = false ∧
    State.reset.sec.sealed = false ∧ State.reset.pwr.bankA.state = .confirmed ∧ State.reset.pwr.bankB.state = .empty ∧ 9000 ≤ 9000 ∧
    bootLost { failed := [], badBanks := [], rngOk := true, vauxMv := 9000 } (bootRetired (bootClock (bootStart 9000 State.reset))) = false := by
  decide +kernel

/-- A start that waits below 9.0 V. -/
def waiting : State := { up with pwr := { up.pwr with state := .boot, paused := true } }

theorem witness_PausedAndFailedStarts : waiting.pwr.state = .boot ∧ waiting.pwr.paused = true ∧ waiting.pwr.bootFail = false ∧
    (let h := { waiting with pwr := { waiting.pwr with state := .hold, holdFrom := .boot } };
      h.pwr.state = .hold ∧ h.pwr.holdFrom = .boot ∧ h.pwr.paused = true ∧ h.pwr.bootFail = false) ∧
    State.reset.pwr.started = false ∧ State.reset.pwr.hardLatch = false := by decide +kernel

/-- HOLD whose commit is done. -/
def held (resume : Bool) : State := { up with pwr := { up.pwr with state := .hold, holdFrom := .lean, holdDone := true, resume } }

def urgentRec : UrgentRec :=
  { win := 0, seq := 1, epoch := 0, tWrite := 0, kind := 0, unsync := true, lifeExt := false, bootCount := 0, qIn := [], qOut := [], uLin := [], sN := [], socs := [] }

/-- The record of ACTIVATE_RESTART, its last page in progress. -/
def restartJob : NvmJob := { what := .urgent 2 (some { urgentRec with kind := 2 }), left := 1, sub := some (sub [2]), begun := true, secs := [], tries := 0 }
def restarting : State := { up with nvm := { up.nvm with jobs := [restartJob], jCur := some 3, jPos := 15 } }

theorem witness_WholeDeviceResets :
    (∀ c, c = Instr.porstNAssert ∨ c = .brownOut 0 ∨ c = .hardCut ∨ c = .watchdogReset → c = Instr.porstNAssert ∨ c = .brownOut 0 ∨ c = .hardCut ∨
      (c = .watchdogReset ∧ up.pwr.started = true ∧ up.pwr.state ≠ .halt)) ∧
    ((held false).pwr.state = .hold ∧ (held false).pwr.holdDone = true ∧ (held false).pwr.resume = false ∧ 9000 ≤ 9000) ∧
    (restarting.live = true ∧ restarting.nvm.tail = false ∧ restarting.nvm.jobs = [restartJob] ∧ restartJob.begun = true ∧ restartJob.left ≤ 1 ∧
      restartJob.what = .urgent 2 (some { urgentRec with kind := 2 }) ∧ ({ urgentRec with kind := 2 } : UrgentRec).kind = 2 ∧ restartJob.sub = some (sub [2]) ∧
      restarting.nvm.jCur.isSome = true ∧ restarting.nvm.jPos < 16) ∧
    (inState .halt).pwr.state = .halt ∧ (up.nvm.logBuf = [] ∧ up.pwr.state ≠ .hold) ∧
    ({ up with pwr := { up.pwr with hardLatch := true } } : State).pwr.hardLatch = true := by
  refine ⟨?_, by decide +kernel⟩
  rintro c (h | h | h | h)
  · exact .inl h
  · exact .inr (.inl h)
  · exact .inr (.inr (.inl h))
  · exact .inr (.inr (.inr ⟨h, rfl, by decide⟩))

/-- CONFIRM of SHUTDOWN. -/
def stopSub : Submission := sub [0x50, 0x4F, 0x54, 0x53]

theorem witness_OrderlyStopBegins : up.live = true ∧ up.cmdWaits 0x7F stopSub = false ∧ stopSub.formOk [(0, 4)] = true ∧ stopSub.noBuf = true ∧ stopSub.pU 0 4 = 0x53544F50 ∧
    up.pwr.xtalLost = false ∧ up.clk.running = true ∧
    ((waiting.pwr.state = .boot ∨ (waiting.pwr.state = .hold ∧ waiting.pwr.holdFrom = .boot)) ∧ waiting.pwr.loaded = true ∧ waiting.pwr.bootFail = false ∧
      waiting.pwr.xtalLost = false ∧ waiting.clk.running = true) ∧
    (let f := { waiting with pwr := { waiting.pwr with loaded := false, bootFail := true } };
      f.pwr.state = .boot ∧ (f.pwr.loaded = false ∨ f.pwr.bootFail = true) ∧ f.pwr.xtalLost = false ∧ f.clk.running = true) := by decide +kernel

/-- An orderly stop that waits for the bleed switches. -/
def bleeding : State := { up with pwr := { up.pwr with state := .stopping, stopStep := .bleed } }

theorem witness_BleedWaitEndsInHalt : bleeding.pwr.state = .stopping ∧ bleeding.pwr.stopStep = .bleed ∧ pinsHeld bleeding = false ∧ (inState .halt).pwr.state = .halt ∧
    (inState .halt).cmdWaits 0x7F stopSub = false ∧ stopSub.formOk [(0, 4)] = true ∧ stopSub.noBuf = true ∧ stopSub.pU 0 4 = 0x53544F50 ∧
    (inState .halt).pwr.started = true ∧ Instr.ppsOutPulseEnd ≠ .porstNAssert ∧ (∀ mv, Instr.ppsOutPulseEnd ≠ .brownOut mv) ∧ Instr.ppsOutPulseEnd ≠ .hardCut ∧
    exec .ppsOutPulseEnd (inState .halt) = .next { inState .halt with tim := { up.tim with ppsOut := false } } := by
  refine ⟨by decide +kernel, by decide +kernel, by decide +kernel, by decide +kernel, by decide +kernel, by decide +kernel, by decide +kernel,
    by decide +kernel, by decide +kernel, by decide, (fun _ h => nomatch h), by decide, rfl⟩

theorem witness_VauxWarningActsOnce : up.pwr.started = true ∧ up.pwr.warnArmed = true ∧ 0 < up.pwr.warnThr ∧ up.pwr.loaded = true ∧
    up.evt.en.getLsbD 50 = true ∧ up.pwr.warnThr ≤ 65535 ∧ up.pwr.warnThr + 500 < 65535 ∧
    ({ up with pwr := { up.pwr with warnArmed := false } } : State).pwr.warnArmed = false := by decide +kernel

/-- HOLD entered from RUN, its commit still to be done. -/
def holding : State := { inState .hold with pwr := { (inState .hold).pwr with holdFrom := .run } }

theorem witness_HoldKeepsWindowsAndReturns : up.live = true ∧ (inState .lean).live = true ∧ 7999 < 8000 ∧ 8000 ≤ 8000 ∧ 9000 ≤ 9000 ∧
    ((inState .boot).pwr.state = .boot ∧ (inState .boot).pwr.started = true ∧ (inState .boot).pwr.loaded = true) ∧
    (holding.pwr.state = .hold ∧ holding.pwr.holdDone = false ∧ holding.pwr.holdFrom ≠ .boot ∧ holding.pwr.xtalLost = false ∧
      holding.pwr.restart = false ∧ ∀ j ∈ holding.nvm.jobs, j.sub = none) ∧
    ((held true).pwr.state = .hold ∧ (held true).pwr.holdDone = true ∧ (held true).pwr.resume = true) ∧
    ((held false).pwr.holdDone = true ∧ (held false).pwr.resume = false) := by decide +kernel

/-- Bank A runs on trial beside a VALID bank B. -/
def trial : State := { up with pwr := { up.pwr with trial := true, bankB := { state := .valid, version := 1, keyId := 0x10 } } }

/-- The signature block of an unsigned object (R520). -/
def unsigned : List Byte := [0x31, 0x4E, 0x47, 0x53, 0xFF, 1, 0, 0] ++ zeros 64

/-- A WRITE of firmware is under way. -/
def fwWrites : State := { up with nvm := { up.nvm with jobs := [{ what := .firmware [], left := 1, sub := some (sub [0]), begun := true, secs := [], tries := 0 }] } }

theorem witness_FirmwareBanks : trial.live = true ∧ trial.pwr.trial = true ∧ up.fwBusy = false ∧ up.cmdWaits 0x7A (subB [0] 72) = false ∧
    trial.cmdWaits 0x7A (sub [1]) = false ∧ (up.nvm.jobs = [] ∧ up.nvm.tail = false) ∧ up.inactive.state = .empty ∧ trial.fwBusy = false ∧
    (fwWrites.fwBusy = true ∧ fwWrites.live = true ∧ 1 ≤ (sub [1]).pU 0 1 ∧ (sub [1]).pU 0 1 < 3 ∧ (sub [1]).formOk [(0, 1)] = true) ∧
    ((FwRead.mk (some unsigned) true).data.isSome = true ∧ (FwRead.mk (some unsigned) true).framed = true) ∧
    ({ up with nvm := { up.nvm with tail := true } } : State).nvm.tail = true ∧
    ((subB [0] 72).formOk [(0, 1)] = true ∧ (subB [0] 72).pU 0 1 = 0 ∧ (subB [0] 72).hasBuf true = true ∧ 72 ≤ (subB [0] 72).bufLen ∧
      (subB [0] 72).bufLen ≤ 393216 ∧ (sigChecks up .firmware (bufBytes (subB [0] 72) (some unsigned))).all (fun c => c.1) = true) ∧
    ((sub [1]).pU 0 1 = 1 ∧ (sub [1]).noBuf = true ∧ trial.inactive.state = .valid ∧ (trial.bankOf trial.pwr.runB).state ≠ .pending) ∧
    ((sub [2]).formOk [(0, 1)] = true ∧ (sub [2]).pU 0 1 = 2 ∧ (sub [2]).noBuf = true) := by decide +kernel

/-- S7 measures with an enabled shunt, in a window whose end a SYNC has frozen `d` ticks from now. -/
def ending (d : Nat) : State :=
  let s := up.modMet 7 (fun m => { m with snap := { m.snap with enabled := true } })
  { s with frm := { s.frm with frozen := true, winEnd := s.clk.ticks + d } }

theorem witness_WindowBoundaryOpensTheNext : (ending 0).metering = true ∧ endsIn 0 (ending 0) = true ∧ endsIn 0 (ending 1) = false ∧
    7 < 8 ∧ 7 < (ending 0).met.strs.length ∧ ((ending 0).metStr 7).snap.enabled = true := by decide +kernel

theorem witness_StartSyncAssignsTheEpoch : (ending 120000).metering = true ∧ (ending 120000).frozenNext = false ∧ frameAhead (ending 120000) = true ∧
    (ending 120000).live = true ∧
    (let h := { ending 120000 with pwr := { up.pwr with state := .hold } };
      h.metering = true ∧ h.frozenNext = false ∧ frameAhead h = true ∧ h.pwr.state = .hold) ∧
    (let r := { (ending 120000).modRope 7 (fun r => { r with silent := false }) with cfg := on7.cfg };
      r.enabled 7 = true ∧ r.portUp 7 .N = true ∧ r.portUp 7 .F = true ∧ (r.ropeStr 7).silent = false ∧ 7 < r.rope.strs.length) := by decide +kernel

/-- A frame of window 0. -/
def frame : FrameRec := { (default : FrameRec) with epoch := 1, win := 0 }
def withFrame (f : FrameRec) : State := { ending 120000 with frm := { (ending 120000).frm with frames := [f] } }
def sampled : FrameRec := { frame with sampled := true }

theorem witness_SampleInstantStampsTheFrame :
    ((withFrame frame).live = true ∧ (withFrame frame).frm.frames.find? (fun f => f.win == (withFrame frame).frm.win && !f.sampled) = some frame) ∧
    ((withFrame sampled).frm.frames.find? (fun f => f.win == (withFrame sampled).frm.win && f.sampled && !f.endSynced && !f.closed) = some sampled ∧
      endsIn syncLead (withFrame sampled) = true) := by
  decide +kernel

theorem witness_LineCrossings : up.frm.line.lastCross = none ∧ crossingLate up = true ∧ up.frm.line.lost = false ∧
    (let s := { up with frm := { up.frm with line := { up.frm.line with lost := true } } };
      crossingLate s = true ∧ s.frm.line.lost = true) ∧ up.frm.scheme.fixed = false ∧ up.frm.measuring = true ∧ up.evt.en.getLsbD 61 = true ∧
    crossingLate State.reset = false := by decide +kernel

theorem witness_PowerModeReanchors : up.takesWrite 0x2400 = true ∧ up.nextScheme.lean = (0#32).getLsbD 0 ∧ up.nextScheme.lean ≠ (1#32).getLsbD 0 := by
  decide +kernel

/-- A window that waits for its charge. -/
def window (o : Bool) : OpenWin :=
  { num := 0, start := 0, len := 9600000, coef := Coef.ideal, snap := ShuntSnap.reset, wideCoef := [Coef.ideal, Coef.ideal], temp := 25, tSub := false,
    backup := false, owMicro := 0, asOpen := o, owDecl := o, convOut := false, trans := false }

def charge7 (o : Bool) : State := up.modMet 7 (fun m => { m with waiting := [window o] })

theorem witness_WindowChargeEntersOnce : 7 < (charge7 false).met.strs.length ∧ ((charge7 false).metStr 7).waiting = [window false] ∧
    ((charge7 true).metStr 7).waiting = [window true] ∧ (window true).asOpen = true := by decide +kernel

/-- A port has failed one test and is in its slot. -/
def failing (p : Nat) : State :=
  let s := (ending (if p < 8 then 240000 else 2400000)).modMet 7 (fun m => { m with owTest := true })
  { s with cfg := on7.cfg, clk := { s.clk with ticks := s.clk.ticks + (if p < 8 then 0 else 2088000) }
           met := { s.met with ports := s.met.ports.modify p (fun o => { o with fails := 1 }), owDue := [8], owPeriod := 60, owBase := s.clk.ticks, owTurn := 9 }
           frm := { s.frm with winStart := s.clk.ticks, winEnd := s.frm.winEnd + (if p < 8 then 0 else 4800000) } }
def ratio (bad good : Nat) (filed : Bool) : State := { up with tun := { up.tun with ratioBad := bad, ratioGood := good, ratioFiled := filed } }

theorem witness_OpenPortsAndTheReference :
    (owSlotNow (failing 7) 7 = true ∧ 7 < 8 ∧ 7 < (failing 7).met.ports.length ∧ ((failing 7).met.ports.getD 7 OwPort.reset).fails = 1 ∧
      ((failing 7).met.ports.getD 7 OwPort.reset).isOpen = false ∧ (failing 7).retired { target := 0, index := 2 * 7 } = false) ∧
    (owSlotNow (failing 8) 8 = true ∧ 8 < (failing 8).met.ports.length ∧ (failing 8).clk.ticks < turnTick (failing 8) ∧
      ((failing 8).met.ports.getD 8 OwPort.reset).fails = 1 ∧ ((failing 8).met.ports.getD 8 OwPort.reset).isOpen = false) ∧
    owSlotNow up 7 = false ∧ up.tuningRuns = true ∧ ((ratio 9 0 false).tun.ratioBad = 9 ∧ (ratio 9 0 false).tun.ratioFiled = false) ∧
    ((ratio 0 9 true).tun.ratioGood = 9 ∧ (ratio 0 9 true).tun.ratioFiled = true ∧ (ratio 0 9 true).rrefOpen = false) := by
  decide +kernel

/-- Whatever ratio a device had at production, twice it departs by more than 2,000 ppm; and unless it is 0, it departs from itself by less
than 1,500 ppm. -/
theorem witness_OpenPortsAndTheReference_ratio : 2000 < ratioDeparture (2 * Config.rrefRatio) ∧
    (Config.rrefRatio ≠ 0 → ratioDeparture Config.rrefRatio < 1500) := by
  unfold ratioDeparture absR
  by_cases h : Config.rrefRatio = 0
  · simp [h]; norm_num
  · constructor
    · rw [mul_div_assoc, div_self h]; norm_num
    · intro _; rw [div_self h]; norm_num

/-- Unit 15 rests, `n` slots counted, in a window in which a slot ends now. -/
def slotted (n : Nat) : State :=
  let s := (ending 4800000).modTun 15 (fun u => { u with slots := n, minT := 2500, maxT := 2500 })
  { s with frm := { s.frm with winStart := s.clk.ticks - 360000, win := 0 } }

theorem witness_TuningSlotsAndFits :
    (isQ 15 = true ∧ (slotted 0).tuning 15 = true ∧ (slotted 0).resting 15 = true ∧ slotEnds (slotted 0) ((slotted 0).metStr (15 / 2)).owTest = true ∧
      ((slotted 0).tunUnit 15).slotTick ≠ some (slotted 0).clk.ticks ∧ ((slotted 0).metStr (15 / 2)).discard ≠ some 15 ∧ rrefSlot (slotted 0) = false ∧
      15 < (slotted 0).tun.units.length ∧ ((slotted 0).tunUnit 15).slots + 1 < 1000) ∧
    (1000 ≤ ((slotted 999).tunUnit 15).slots + 1 ∧ ((slotted 999).tunUnit 15).slots ≠ 0 ∧ (slotted 999).tuning 15 = true ∧
      max ((slotted 999).tunUnit 15).maxT (slotted 999).tun.dieT - min ((slotted 999).tunUnit 15).minT (slotted 999).tun.dieT ≤ 200) ∧
    State.reset.tuning 0 = false := by decide +kernel

/-- Unit 15 has an accumulation with these means, and an ideal refined table. -/
def fitting (l : List Rat) : State :=
  up.modTun 15 (fun u => { u with refined := List.replicate 5 Coef.ideal, rejConsec := 2,
                                  done := some { acc := l.map (fun x => { n := 1, sum := x }), slots := 1000, sumT := 0 } })
def theFit (s : State) (d : Accumulation) : Coef := coefOfQuad (quadFit (accPoints s 15 d)).1 (quadFit (accPoints s 15 d)).2.1 (quadFit (accPoints s 15 d)).2.2
def theFailures (s : State) (d : Accumulation) : Nat :=
  failedLimits 15 (s.tunUnit 15) (theFit s d) (fitError (theFit s d) (accPoints s 15 d)) ((d.sumT : Rat) / (d.slots : Nat))

def allZero : Accumulation := { acc := List.replicate 5 { n := 1, sum := 0 }, slots := 1000, sumT := 0 }

/-- Fits depend on the refined table alone. -/
theorem fitting_unit (l : List Rat) : ((fitting l).tunUnit 15).refine = none ∧ ((fitting l).tunUnit 15).refined = List.replicate 5 Coef.ideal ∧
   (fitting l).tun.rrefCorr = 0 := by
  refine ⟨rfl, rfl, rfl⟩

/-- Five equal means give no gain, and are rejected, whatever the levels. -/
theorem witness_TuningSlotsAndFits_rejected : (fitting [0, 0, 0, 0, 0]).tuning 15 = true ∧ 15 < (fitting [0, 0, 0, 0, 0]).tun.units.length ∧
    ((fitting [0, 0, 0, 0, 0]).tunUnit 15).done = some allZero ∧ ((fitting [0, 0, 0, 0, 0]).tunUnit 15).rejConsec = 2 ∧
    (fitting [0, 0, 0, 0, 0]).retired (tunTarget 15) = false ∧ (theFailures (fitting [0, 0, 0, 0, 0]) allZero).testBit 0 = true := by
  refine ⟨by decide +kernel, by decide +kernel, by decide +kernel, by decide +kernel, by decide +kernel, ?_⟩
  have hp : accPoints (fitting [0, 0, 0, 0, 0]) 15 allZero = (List.range 5).map (fun i => (0, trueLevel (fitting [0,0,0,0,0]) 15 i)) := by
    simp [accPoints, allZero, List.range, List.range.loop, List.replicate, List.zipIdx]
  have hf : theFit (fitting [0, 0, 0, 0, 0]) allZero = { o := 0, g := 0, k := 0 } := by
    rw [theFit, hp]; simp [quadFit, sumR, det3, coefOfQuad, List.range, List.range.loop]
  rw [theFailures, hf]
  generalize fitError _ _ = e
  simp only [failedLimits, (fitting_unit _).1, (fitting_unit _).2.1]
  rw [show coefAt (List.replicate 5 Coef.ideal) (((allZero.sumT : Int) : Rat) / (allZero.slots : Nat)) = { o := 0, g := 1, k := 0 } by decide +kernel]
  rw [show limitsOf 15 = (200 / 1000000, 2 / 1000000, 5 / 1000000, 500 / 1000000, 5 / 1000000, 5 / 10000) by rfl]
  cases h : decide ((5 / 1000000 : Rat) * (5 / 1000000) * fullScale 15 * fullScale 15 ≤ e) <;> decide +kernel

/-- A device whose levels are the nominal ones accepts means that equal them. -/
theorem witness_TuningSlotsAndFits_accepted
    (h : ∀ i, Config.calLevel 0 i = ([-1 / 25, -1 / 50, 0, 1 / 50, 1 / 25] : List Rat).getD i 0) :
    theFailures (fitting [-1 / 25, -1 / 50, 0, 1 / 50, 1 / 25])
      { allZero with acc := [-1 / 25, -1 / 50, 0, 1 / 50, 1 / 25].map (fun x => { n := 1, sum := x }) } = 0 := by
  have hp : accPoints (fitting [-1 / 25, -1 / 50, 0, 1 / 50, 1 / 25]) 15
      { allZero with acc := [-1 / 25, -1 / 50, 0, 1 / 50, 1 / 25].map (fun x => { n := 1, sum := x }) } =
      [(-1 / 25, -1 / 25), (-1 / 50, -1 / 50), (0, 0), (1 / 50, 1 / 50), (1 / 25, 1 / 25)] := by
    simp [accPoints, trueLevel, levelClass, isDirect, h, (fitting_unit _).2.2, List.zipIdx]
  have hf : theFit (fitting [-1 / 25, -1 / 50, 0, 1 / 50, 1 / 25])
      { allZero with acc := [-1 / 25, -1 / 50, 0, 1 / 50, 1 / 25].map (fun x => { n := 1, sum := x }) } = Coef.ideal := by
    rw [theFit, hp]; decide +kernel
  rw [theFailures, hf, hp]
  simp only [failedLimits, (fitting_unit _).1, (fitting_unit _).2.1]
  decide +kernel

/-- TUNE_NOW of the last unit, without RESET. -/
def tune33 : Submission := sub [0, 0, 0, 0, 2]

theorem witness_TuneNowWaits :
    (up.live = true ∧ tune33.formOk [(0, 8), (8, 1)] = true ∧ tune33.noBuf = true ∧ tune33.pU 0 8 < 2 ^ 34 ∧ tune33.pU 0 8 ≠ 0 ∧ tune33.pU 8 1 = 0 ∧
      (sub [1, 0, 0, 0, 0, 0, 0, 0, 1]).pU 8 1 = 1 ∧ (sub [1, 0, 0, 0, 0, 0, 0, 0, 1]).formOk [(0, 8), (8, 1)] = true ∧
      up.cmdWaits 0x30 tune33 = false ∧ tune33.pU 8 1 < 2 ∧ (maskUnits (BitVec.ofNat 64 (tune33.pU 0 8))).all (fun u => !up.retired (tunTarget u)) = true ∧ up.rrefOpen = false ∧
      (∀ w ∈ up.tun.waits, w.mask &&& ~~~(w.accepted ||| w.rejected) ≠ 0) ∧ 33 ∈ maskUnits (BitVec.ofNat 64 (tune33.pU 0 8)) ∧ 33 < up.tun.units.length) ∧
    (let w : TuneWait := { sub := tune33, mask := 1, accepted := 0, rejected := 0, deadline := 240000000 };
      ({ up with tun := { up.tun with waits := [w] } } : State).tun.waits.find? (fun w => w.deadline ≤ up.clk.ticks) = some w ∧
      ∀ v ∈ [{ w with deadline := 240000001 }], up.clk.ticks < v.deadline) := by decide +kernel

/-- A regular list waits for the next round. -/
def listWaits : State := up.modConv 1 (fun c => { c with newReg := some [] })
def regSet : Submission := subB [3, 0, 32] 128
def regBuf : DmaRead := some ((List.range 32).flatMap (fun _ => [0x27, 0, 0, 0]))
def conversion (u : ConvUse) : Conversion := { use := u, chan := 0, start := 0, ts32 := 0, tdac := none, lean := false }
def bothInjected : State :=
  let f (i : Nat) (c : SarConv) : SarConv :=
    { c with busy := some (conversion (.injected 4 .host i)), run := some { trig := .host, seqOf := i, entries := [], hostRun := true, ran := true } }
  (up.modConv 0 (f 0)).modConv 1 (f 1)

theorem witness_SarRoundsAndLists :
    (up.metering = true ∧ (up.clk.ticks - up.frm.measStart) % 24000 = 0 ∧ up.sar.roundOn = false ∧ (listWaits.conv 1).newReg = some [] ∧
      listWaits.metering = true) ∧
    ({ up with clk := { up.clk with ticks := 24001 } } : State).clk.ticks % 24000 ≠ 0 ∧
    (up.live = true ∧ up.cmdWaits 0x50 regSet = false ∧ bothInjected.cmdWaits 0x51 (sub [3, 0, 7]) = false ∧ on7.cmdWaits 0x51 (sub [0, 1, 7]) = false ∧ regSet.formOk [(0, 1), (1, 1), (2, 1)] = true ∧ 1 ≤ regSet.pU 0 1 ∧ regSet.pU 0 1 < 4 ∧ regSet.pU 1 1 = 0 ∧ regSet.pU 2 1 ≤ 32 ∧
      regSet.pU 2 1 ≠ 0 ∧ regSet.hasBuf (regSet.bufLen == 4 * regSet.pU 2 1) = true ∧ regBuf.isSome = true ∧
      (parseSeq (bufBytes regSet regBuf) (regSet.pU 2 1)).all (seqEntryOk false) = true ∧ 1 < up.sar.convs.length ∧
      (regSet.pU 0 1).testBit 1 = true) ∧
    (bothInjected.live = true ∧ (sub [3, 0, 7]).formOk [(0, 1), (1, 1), (2, 1)] = true ∧ (sub [3, 0, 7]).noBuf = true ∧ (sub [3, 0, 7]).pU 0 1 < 4 ∧
      (sub [3, 0, 7]).pU 0 1 ≠ 0 ∧ (sub [3, 0, 7]).pU 1 1 = 0 ∧ (sub [3, 0, 7]).pU 2 1 < 8 ∧ bothInjected.diag.retF = 0 ∧
      (∀ c, c < 2 → (bothInjected.conv c).busy.isSome = true ∧ (bothInjected.conv c).run.isSome = true)) ∧
    (on7.live = true ∧ (sub [0, 1, 7]).formOk [(0, 1), (1, 1), (2, 1)] = true ∧ (sub [0, 1, 7]).noBuf = true ∧ (sub [0, 1, 7]).pU 0 1 = 0 ∧
      (sub [0, 1, 7]).pU 1 1 = 1 ∧ (sub [0, 1, 7]).pU 2 1 < 8 ∧ on7.enabled ((sub [0, 1, 7]).pU 2 1) = true ∧ on7.fBoth = true ∧
      on7.sar.capture = none) := by decide +kernel

def converting (u : ConvUse) (n : Nat) : State :=
  let s := (ending 1).modConv 1 (fun c => { c with busy := some (conversion u) })
  { s with sar := { s.sar with queue := List.replicate n default } }
def regularBusy (n : Nat) : State := converting (.regular 31 1 0) n
def mirrored : State :=
  { up with sar := { up.sar with queue := [default], mirror := true }, hif := { up.hif with rings := up.hif.rings.modify 9 (fun r => { r with en := true }) } }

theorem witness_ResultQueueKeepsOrder : (up.conv 1).busy = none ∧
    (((regularBusy 255).conv 1).busy = some (conversion (.regular 31 1 0)) ∧ (conversion (.regular 31 1 0)).use = .regular 31 1 0 ∧
      (conversion (.regular 31 1 0)).start + (if (conversion (.regular 31 1 0)).lean then 960 else 240) ≤ (regularBusy 255).clk.ticks ∧
      (regularBusy 255).sar.queue.length < 256) ∧
    (({ regularBusy 0 with clk := { up.clk with ticks := 239 } } : State).clk.ticks < 0 + 240) ∧
    (((regularBusy 256).conv 1).busy = some (conversion (.regular 31 1 0)) ∧ 256 ≤ (regularBusy 256).sar.queue.length) ∧
    (((converting (.wide 7 0) 0).conv 1).busy = some (conversion (.wide 7 0)) ∧ 7 < (converting (.wide 7 0) 0).met.strs.length ∧
      ((converting (.wide 7 0) 0).metStr 7).snap.enabled = true ∧ (nbrOf ((converting (.wide 7 0) 0).conv 1) (conversion (.wide 7 0))).1 = false) ∧
    ((regularBusy 1).sar.queue = [default] ∧ (regularBusy 1).sar.mirror = false ∧ (regularBusy 1).blockLive 0x1810 = true) ∧
    (mirrored.sar.queue = [default] ∧ mirrored.sar.mirror = true ∧ (mirrored.ring 9).en = true ∧ (mirrored.ring 9).err = false ∧
      (mirrored.ring 9).full = false ∧ 9 < mirrored.hif.rings.length) := by decide +kernel

/-- The comparator of S7 acts, and asks for a paired capture. -/
def armed7 (c : Option Capture) : State :=
  { up with sar := { up.sar with oc := up.sar.oc.modify 7 (fun o => { o with dir := 3, pairEn := true, thr := 0 }), capture := c } }
def suspended (o : Bool) : State :=
  { up with sar := { up.sar with tdacOut := o, diagPrev := 0x8000000000#40, diagAcc := [0x8000000000#40, 0x8000000000#40], tdacSeen := [(0, 1 / 4)] } }

theorem witness_OvercurrentAndDiagnosis : 7 < 8 ∧
    (((armed7 none).live = true ∨ (armed7 none).pwr.state = .hold) ∧
      (armed7 none).sar.active.getLsbD 7 = false ∧ ((armed7 none).sar.oc.getD 7 OcCfg.reset).pairEn = true ∧ (armed7 none).fBoth = true ∧
      (armed7 none).sar.capture = none ∧ (armed7 (some default)).sar.capture.isSome = true ∧ (armed7 (some default)).fBoth = true) ∧
    (up.sar.oc.getD 7 OcCfg.reset).dir = 0 ∧ (suspended true).sar.tdacOut = true ∧ (suspended true).sar.tdacSeen ≠ [] ∧ up.sar.tdacSeen = [] ∧
    ((suspended false).sar.tdacOut = false ∧ (suspended false).tuningRuns = true ∧ 39 < 40 ∧ (suspended false).sar.diagPrev.getLsbD 39 = true ∧
      ((suspended false).sar.diagAcc.getD 0 0).getLsbD 39 = true ∧ ((suspended false).sar.diagAcc.getD 1 0).getLsbD 39 = true) := by decide +kernel

/-- A threshold of 0 lies within 0.5 mV of 0 on every device: samples of 1 V trip either direction, and of −1 V release charge. -/
theorem witness_OvercurrentAndDiagnosis_levels :
    (∃ x, ocLevel up 7 { OcCfg.reset with dir := 3, thr := 0 } 1 = some x ∧ ocThreshold 7 { OcCfg.reset with dir := 3, thr := 0 } < x) ∧
    (∃ x, ocLevel up 7 { OcCfg.reset with dir := 2, thr := 0 } (-1) = some x ∧ x < ocThreshold 7 { OcCfg.reset with dir := 2, thr := 0 } * (98 / 100)) := by
  have h : -1 ≤ clampR (-1) 1 (Config.ocError 7) ∧ clampR (-1) 1 (Config.ocError 7) ≤ 1 := by
    unfold clampR; split <;> [norm_num; (split <;> constructor <;> linarith)]
  refine ⟨⟨1, by decide +kernel, ?_⟩, ⟨-1, by decide +kernel, ?_⟩⟩ <;> simp only [ocThreshold] <;> norm_num <;> nlinarith [h.1, h.2]

/-- A period's conversions: both die sensors in range, or none of them read. -/
def hkPeriod (n : Nat) : List HkAcc := List.replicate 34 { n := n, sum := 0, ranged := false }
def hot (run : Nat) : State := { up with thm := { up.thm with warnRun := run, dieA := some 11500, dieB := none }, sar := { up.sar with hkLatch := some (hkPeriod 0) } }
/-- Both sensors answer, A at 20 °C and B at `b`. -/
def both (run : Nat) (b : Int) : State := { hot run with thm := { (hot run).thm with dieA := some 2000, dieB := some b } }
def neither : State := { hot 0 with thm := { (hot 0).thm with dieA := none, dieB := none, bothOut := 9 } }
def warned : State := { up with thm := { up.thm with warn := true, dieA := some 11600, dieB := some 11500, warnStart := some 11601 } }

theorem witness_DieTemperatureWarns :
    ((hot 2).live = true ∧ (hot 2).sar.hkLatch = some (hkPeriod 0) ∧ dieResult (hkPeriod 0) 0 (hot 2).thm.dieA = some 11500 ∧
      dieResult (hkPeriod 0) 1 (hot 2).thm.dieB = none ∧ (hot 2).thm.warn = false ∧ (hot 2).thm.warnRun = 2 ∧ (hot 2).thm.warnThr ≤ 11500 ∧
      (11499 : Int) < (hot 2).thm.warnThr) ∧
    (dieResult (hkPeriod 0) 0 (both 2 11500).thm.dieA = some 2000 ∧ dieResult (hkPeriod 0) 1 (both 2 11500).thm.dieB = some 11500 ∧
      dieNow { both 2 11500 with thm := { (both 2 11500).thm with dieA := some 2000, dieB := some 11500 } } = some 11500 ∧
      (both 2 11500).thm.warn = false ∧ (both 2 11500).thm.warnThr ≤ 11500 ∧ (both 2 11500).thm.warnRun = 2 ∧ (both 1 11500).thm.warnRun < 2 ∧
      (both 2 11500).live = true ∧ (both 2 11500).sar.hkLatch = some (hkPeriod 0) ∧
      dieNow { both 2 11499 with thm := { (both 2 11499).thm with dieA := some 2000, dieB := some 11499 } } = some 11499 ∧ (11499 : Int) < (both 2 11499).thm.warnThr) ∧
    (neither.live = true ∧ neither.sar.hkLatch = some (hkPeriod 0) ∧ dieResult (hkPeriod 0) 0 neither.thm.dieA = none ∧
      dieResult (hkPeriod 0) 1 neither.thm.dieB = none ∧ neither.thm.warn = false ∧ neither.thm.bothOut = 9) ∧ up.sar.hkLatch = none ∧
    (warned.thm.warn = true ∧ dieNow warned = some 11600 ∧ warned.thm.warnStart = some 11601) ∧ up.takesWrite 0x2020 = true := by decide +kernel

def closedFrame : FrameRec := { frame with sampled := true, closed := true }
def sweeps : State :=
  { on7 with frm := { on7.frm with frames := [closedFrame] }, rope := { on7.rope with strs := on7.rope.strs.modify 7 (fun r => { r with mode := .ring, silent := false }) } }
def theSweep : Sweep := { (default : Sweep) with epoch := 1 }

theorem witness_SweepsBeginAndEnd : sweeps.sweepFrame = some closedFrame ∧ sweeps.live = true ∧ closedFrame.closeTick + 4800 ≤ sweeps.clk.ticks ∧
    (7 < 8 ∧ 7 < sweeps.rope.strs.length ∧ sweeps.enabled 7 = true ∧ (sweeps.ropeStr 7).mode ≠ .down ∧ (sweeps.ropeStr 7).tie = none) ∧
    up.sweepFrame = none ∧ ({ sweeps with clk := { up.clk with ticks := 4799 } } : State).clk.ticks < closedFrame.closeTick + 4800 ∧
    ((sweeps.modRope 7 (fun r => { r with sweep := some theSweep })).ropeStr 7).sweep = some theSweep ∧ theSweep.done = false ∧
    closedFrame ∈ sweeps.frm.frames ∧ closedFrame.epoch = theSweep.epoch ∧ closedFrame.closeTick + 3600000 ≤ sweeps.clk.ticks := by decide +kernel

/-- One transaction is in flight on S7. -/
def txn (u : TxnUse) (a : Nat) : Txn := { fromEnd := .F, addr := 32, seq := 63, use := u, frame := default, attempts := a }
def flying (u : TxnUse) (a : Nat) : State := on7.modRope 7 (fun r => { r with inflight := [txn u a], mons := [(32, Mon.fresh)], mode := .split, silent := false })
def resp (f : LineFrame) : RespFrame := { str := 7, fromEnd := .F, frame := f, deltaNs := 0 }
def broken (f : LineFrame) : LineFrame := { f with bytes := f.bytes.dropLast ++ [0x55] }
def rx (typ addr seq : Nat) (p : List Byte) (ok : Bool) : RxRope := { typ, addr, seq, payload := p, crcOk := ok }

theorem witness_AttemptsRetryAndEnd : (findTxn (flying .bal 2) 7 .F 32 63 = some (txn .bal 2) ∧ (txn .bal 2).attempts < 3 ∧ (flying .bal 2).stops = false ∧
      (flying .bal 2).portUp 7 .F = true ∧ ((flying .bal 2).ropeStr 7).silent = false) ∧
    (findTxn (flying .reach 3) 7 .F 32 63 = some (txn .reach 3) ∧ 3 ≤ (txn .reach 3).attempts) ∧
    (findTxn (flying .bal 3) 7 .F 32 63 = some (txn .bal 3) ∧ 3 ≤ (txn .bal 3).attempts ∧ (txn .bal 3).use = .bal) ∧
    findTxn on7 7 .F 32 63 = none ∧ rxFrame { bytes := [0, 0, 0], extraBits := 0 } = none ∧
    (rxFrame (resp (line tResp 32 63 [0])).frame = some (rx tResp 32 63 [0] true) ∧ (resp (line tResp 32 63 [0])).str = 7 ∧
      fieldU (rx tResp 32 63 [0] true).payload 0 1 = 0) ∧
    (rxFrame (resp (line tResp 32 63 [4])).frame = some (rx tResp 32 63 [4] true) ∧ (rx tResp 32 63 [4] true).typ = tResp ∧
      (rx tResp 32 63 [4] true).payload ≠ [] ∧ fieldU (rx tResp 32 63 [4] true).payload 0 1 = 4) ∧
    rxFrame (resp (broken (line tResp 32 63 [0]))).frame = some (rx tResp 32 63 [0] false) := by decide +kernel

def rope7 (m : RopeMode) : State := on7.modRope 7 (fun r => { r with mode := m, silent := false, tied := true, count := 32, top := 32, anchorN := 1, anchorF := 4 })
def tone (typ : Nat) : BelayTone := { str := 7, port := .F, frame := line typ 0 5 [1, 0, 0, 0, 0, 0x80, 0] }
def missing : State := on7.modRope 7 (fun r => { r with mode := .ring, missN := 2 })

theorem witness_BelayToneAndProbes : 7 < 8 ∧ 7 < on7.rope.strs.length ∧
    ((rope7 .ring).enabled 7 = true ∧ ((rope7 .ring).ropeStr 7).sounds = true ∧ ((rope7 .ring).ropeStr 7).mode = .ring ∧ (rope7 .ring).portUp 7 .N = true) ∧
    (on7.enabled 6 = false) ∧ ((rope7 .split).portUp 7 .F = true ∧ ((rope7 .split).ropeStr 7).sounds = true ∧ (rope7 .split).portUp 7 .N = true) ∧
    (((rope7 .split).ropeStr 7).mode = .split ∧ ((rope7 .split).ropeStr 7).tie = none ∧ ((rope7 .split).ropeStr 7).locate = none ∧
      ((rope7 .split).ropeStr 7).silent = false ∧ (rope7 .split).live = true ∧ ((rope7 .split).ropeStr 7).inflight = [] ∧
      ((rope7 .split).ropeStr 7).balTodo = [] ∧ ((rope7 .split).ropeStr 7).sweep = none ∧ ((rope7 .split).ropeStr 7).probeTodo = [] ∧
      ((rope7 .split).ropeStr 7).probedN = none ∧ ((rope7 .split).ropeStr 7).safe = none ∧
      ((rope7 .split).ropeStr 7).anchorN + 1 < ((rope7 .split).ropeStr 7).anchorF ∧ ((rope7 .split).ropeStr 7).anchorN + 1 ≤ ((rope7 .split).ropeStr 7).top) ∧
    (((rope7 .line).ropeStr 7).mode = .line ∧ (rope7 .line).portUp 7 .N = true ∧ (rope7 .line).portUp 7 .F = true ∧ ((rope7 .line).ropeStr 7).silent = false ∧
      (rope7 .line).enabled 7 = true) := by decide +kernel

theorem witness_BelayToneAndProbes_returns :
    rxFrame (tone tFault).frame = some (rx tFault 0 5 [1, 0, 0, 0, 0, 0x80, 0] true) ∧ rxFrame (tone tBelay).frame = some (rx tBelay 0 5 [1, 0, 0, 0, 0, 0x80, 0] true) ∧
    rxFrame (broken (tone tBelay).frame) = some (rx tBelay 0 5 [1, 0, 0, 0, 0, 0x80, 0] false) ∧
    ((tone tFault).str = 7 ∧ (tone tFault).port = .F ∧ (rx tFault 0 5 [1, 0, 0, 0, 0, 0x80, 0] true).payload.length = 7 ∧
      BitVec.ofNat 32 (fieldU (rx tFault 0 5 [1, 0, 0, 0, 0, 0x80, 0] true).payload 2 4) = 0x80000000#32 ∧ (on7.ropeStr 7).faultN = false ∧
      on7.evt.en.getLsbD 15 = true) ∧
    (((rope7 .split).modRope 7 (fun r => { r with probeOut := true })).ropeStr 7).probeOut = true ∧
    ((missing.ropeStr 7).mode = .ring ∧ (missing.ropeStr 7).missN = 2 ∧ (missing.ropeStr 7).locate = none ∧ (missing.ropeStr 7).tie = none ∧
      (missing.ropeStr 7).sweep = none) := by decide +kernel

def tieAt (t : TieStep) : TieIn := { TieIn.start 1 with step := t }
def tying (t : TieStep) : State := on7.modRope 7 (fun r => { r with tie := some (tieAt t), silent := false })
def safeFromN : State := on7.modRope 7 (fun r => { r with tie := none, safe := some .fromN, silent := false })

theorem witness_TieInSteps : (tying .releaseN).stops = false ∧
    (((tying .releaseN).ropeStr 7).tie = some (tieAt .releaseN) ∧ (tieAt .releaseN).step = .releaseN ∧
      (tying .releaseN).portUp 7 .F = true ∧ ((tying .releaseN).ropeStr 7).silent = false ∧ rxFrame (line tTie 0 0 [1]) = some (rx tTie 0 0 [1] true)) ∧
    (((tying .assign).ropeStr 7).tie = some (tieAt .assign) ∧ (tieAt .assign).step = .assign ∧ rxFrame (line tTie 0 0 [2, 3, 0]) = some (rx tTie 0 0 [2, 3, 0] true) ∧
      fieldU (rx tTie 0 0 [2, 3, 0] true).payload 0 1 = 2 ∧ (fieldU (rx tTie 0 0 [2, 3, 0] true).payload 2 1).testBit 0 = false ∧
      fieldU (rx tTie 0 0 [2, 3, 0] true).payload 1 1 - 1 ≤ (tying .assign).expect 7 ∧ (tieAt .assign).attempt < 2) ∧
    (safeFromN.stops = false ∧ (safeFromN.ropeStr 7).tie = none ∧ (safeFromN.ropeStr 7).safe = some .fromN ∧ safeFromN.portUp 7 .F = true ∧
      (safeFromN.ropeStr 7).silent = false) := by decide +kernel

/-- A closed frame whose time update is done or not, with cells 3584 and 3585 still to be measured, after a sweep that reached no module. -/
def updating (d : Bool) : State :=
  { on7 with frm := { on7.frm with frames := [{ closedFrame with timeDone := d, swept := true }] }
             est := { on7.est with todo := [3584, 3585], live := on7.cfg.live, images := on7.est.images.set 0 (some { bytes := [] }) }
             met := { on7.met with strs := on7.met.strs.map (fun m => { m with frmQueue := [{ (default : FrmMet) with epoch := 1 }] }) } }
def updateFrame (d : Bool) : FrameRec := { closedFrame with timeDone := d, swept := true }

def rawRead : Submission := subB [7, 1, 32, 0, 0, 0, 0, 0, 0x40] 3
def rawWrite (n : Nat) : Submission := subB [7, 2, 1, 0, 0, 0, 0, 0, 0x40] n

theorem witness_RopeCommandsWait : on7.live = true ∧ on7.cmdWaits 0x10 (sub [0x80]) = false ∧ (tying .count).cmdWaits 0x11 rawRead = false ∧
    (tying .count).cmdWaits 0x11 (rawWrite 62) = false ∧ locked.cmdWaits 0x11 (rawWrite 3) = false ∧
    ((sub [0x80]).formOk [(0, 1)] = true ∧ (sub [0x80]).noBuf = true ∧ (sub [0x80]).pU 0 1 ≠ 0 ∧
      (∀ n ∈ maskStrs ((sub [0x80]).pU 0 1), on7.enabled n = true ∧ (on7.ropeStr n).tie = none)) ∧
    ((tying .count).live = true ∧ rawRead.formOk [(0, 1), (1, 1), (2, 1), (8, 8)] = true ∧ rawRead.hasBuf true = true ∧ rawRead.pU 0 1 < 8 ∧
      1 ≤ rawRead.pU 2 1 ∧ rawRead.pU 2 1 ≤ 32 ∧ rawRead.pU 8 8 ≠ 0 ∧ rawRead.pU 8 8 % 8 = 0 ∧
      ((tying .count).ropeStr (rawRead.pU 0 1)).tie.isSome = true ∧ rawRead.pU 1 1 = 1 ∧ rawRead.bufLen = 3 ∧
      1 ≤ fieldU (bufBytes rawRead (some [0, 0, 60])) 2 1 ∧ fieldU (bufBytes rawRead (some [0, 0, 60])) 2 1 ≤ 60) ∧
    ((rawWrite 62).formOk [(0, 1), (1, 1), (2, 1), (8, 8)] = true ∧ (rawWrite 62).hasBuf true = true ∧ (rawWrite 62).pU 1 1 = 2 ∧
      (tying .count).sec.sealed = false ∧ 3 ≤ (rawWrite 62).bufLen ∧ (rawWrite 62).bufLen ≤ 62 ∧
      0x80 ≤ fieldU (bufBytes (rawWrite 62) (some [0x80])) 0 1 ∧ 3 ≤ (rawWrite 3).bufLen) ∧
    (locked.live = true ∧ locked.sec.sealed = true ∧
      ((locked.modRope 7 (fun r => { r with tie := some (tieAt .count) })).ropeStr 7).tie.isSome = true) := by decide +kernel

theorem witness_FrameUpdatesRunOnce : (updating false).estFrame = some (updateFrame false) ∧ (updating false).live = true ∧ (updateFrame false).timeDone = false ∧
    frameReady (updating false) (updateFrame false) = true ∧
    ((updating true).estFrame = some (updateFrame true) ∧ (updating true).live = true ∧ (updateFrame true).timeDone = true ∧
      (updating true).est.todo.contains 3584 = true ∧ cellSettled (updating true) (updateFrame true) 3584 = true ∧
      (updating true).est.todo.contains 3586 = false ∧ (updating true).est.lost = [] ∧ (updating true).retired { target := 3, index := 63 } = false ∧ 3585 ∈ (updating true).est.todo ∧ cellStr 3585 = cellStr 3584 ∧
      (updateFrame true).epoch % 3 < (updating true).est.staging.length) ∧
    (judgeInputs 7 (cellMon 3584) 1 (spanTicksOf ((updating true).metStr 7).frmSpan)
      { updating true with cfg := { (updating true).cfg with live := (updating true).est.live, images := (updating true).est.images } }).strImage 7 =
        some { bytes := [] } := by decide +kernel

def updatedFrame : FrameRec := { closedFrame with updated := true, swept := true }
def publishing : State :=
  { up with frm := { up.frm with frames := [updatedFrame] }, hif := { up.hif with linkUp := true }, cairn := { up.cairn with newSlots := some [4096, 0x100000, 0x200000] } }
def publishes : State := { publishing with cairn := { publishing.cairn with writing := some 1, lastDone := some 5, cut := false } }
/-- The third frame after it has closed. -/
def overdue : State := { publishing with frm := { publishing.frm with frames := [updatedFrame, { closedFrame with epoch := 4 }] } }

theorem witness_CairnsCompleteOrAreAbandoned :
    (publishing.cairnFrame = some updatedFrame ∧ publishing.cairn.writing = none ∧ updatedFrame.updated = true ∧ sweepsOver publishing updatedFrame = true ∧ noSlots publishing.slotsNext = false ∧
      publishing.hif.linkUp = true ∧ cairnLate publishing updatedFrame = false) ∧
    (publishes.cairnFrame = some updatedFrame ∧ publishes.cairn.writing = some 1 ∧ publishes.cairn.cut = false ∧ publishes.evt.en.getLsbD 32 = true ∧
      publishes.stAddr = 0) ∧
    (overdue.cairnFrame = some updatedFrame ∧ cairnLate overdue updatedFrame = true ∧ noSlots overdue.slotsNext = false ∧ overdue.pwr.state ≠ .hold ∧
      overdue.evt.en.getLsbD 33 = true) ∧
    (publishes.cairn.lastDone = some 5 ∧ publishes.pwr.state ≠ .halt) ∧ up.cairn.lastDone = none ∧ (inState .halt).pwr.state = .halt ∧
    publishes.hif.writesHeld = false := by decide +kernel

def ringOfHost (n : Nat) (e : Bool) : State :=
  { up with hif := { up.hif with ringSel := n, dbLo := 64, stLo := 128, linkUp := true, rings := up.hif.rings.modify n (fun r => { r with en := e }) } }

theorem witness_LinkResetsAndRings : (ringOfHost 11 false).hif.ringSel = 11 ∧ 11 < 12 ∧ 11 < (ringOfHost 11 false).hif.rings.length ∧
    ((0xC1#32).getLsbD 0 = true ∧ ((ringOfHost 11 false).ring 11).en = false ∧ (ringOfHost 11 false).dbAddr ≠ 0 ∧ (ringOfHost 11 false).stAddr ≠ 0 ∧
      4 ≤ (0xC1#32).toNat / 16 % 16 ∧ (0xC1#32).toNat / 16 % 16 ≤ 12) ∧
    ((0x31#32).getLsbD 0 = true ∧ (0x31#32).toNat / 16 % 16 < 4 ∧ 12 < (0xD1#32).toNat / 16 % 16 ∧ up.dbAddr = 0 ∧ (up.ring 0).en = false) ∧
    ((0#32).getLsbD 0 = false ∧ ((ringOfHost 8 true).ring 8).en = true ∧ (ringOfHost 8 true).hif.ringSel = 8) := by decide +kernel

def dbWaits : State := { ringOfHost 0 true with hif := { (ringOfHost 0 true).hif with dbBusy := true, stLast := statusFields (ringOfHost 0 true) } }

theorem witness_DoorbellAndStatusBlocks : (ringOfHost 0 true).stAddr ≠ 0 ∧ (ringOfHost 0 true).hif.linkUp = true ∧ up.stAddr = 0 ∧
    (ringOfHost 0 true).hif.rings.any (·.en) = true ∧ up.hif.rings.any (·.en) = false ∧ dbWaits.hif.dbBusy = true ∧
    statusFields dbWaits = dbWaits.hif.stLast ∧
    ((dbWaits.ring 0).en = true ∧ doorbellIndex [15, 0] 0 < (dbWaits.ring 0).len ∧ (dbWaits.ring 0).len ≤ doorbellIndex [16, 0] 0 ∧ 0 < 12) ∧
    (dbWaits.ring 11).en = false := by decide +kernel

/-- SQ `n` and its completion queue are enabled, and one submission waits. -/
def queued (n : Nat) : State :=
  { up with hif := { up.hif with rings := (up.hif.rings.modify n (fun r => { r with en := true, theirs := 1 })).modify (4 + n) (fun r => { r with en := true }) } }
def fetchingNow (n : Nat) : State := { queued n with hif := { (queued n).hif with fetching := some n } }
def inTable (op : Nat) (before : Bool) : State :=
  { up with hif := { up.hif with table :=
      (if before then [{ opcode := 0, sub := { sub [] with sflags := 1 }, started := true, merged := false, orphan := false }] else []) ++
      [{ opcode := op, sub := sub [], started := false, merged := false, orphan := false }] } }
def entry (op : Nat) : TableEntry := { opcode := op, sub := sub [], started := false, merged := false, orphan := false }

/-- Sixty-four TRAVERSE_START are in the table. -/
def startsFull : State := { fetchingNow 3 with hif := { (fetchingNow 3).hif with table := List.replicate 64 (entry 0x20) } }

theorem witness_FetchAndStart : startsHeld startsFull (parseEntry 3 (0x20 :: zeros 63)).1 = true ∧ 3 < (fetchingNow 3).hif.rings.length ∧
    startsFull.hif.fetching = some 3 ∧ ((queued 3).hif.fetching = none ∧ chooseSq (queued 3) = some (3, 1, 0)) ∧
    ((queued 0).hif.fetching = none ∧ fetchable (queued 0) 0 = true ∧ ((queued 0).hif.passed.getD 1 0 < starve (queued 0) ∧
      (queued 0).hif.passed.getD 2 0 < starve (queued 0) ∧ (queued 0).hif.passed.getD 3 0 < starve (queued 0))) ∧
    (fetchingNow 3).hif.fetching.isSome = true ∧
    ((fetchingNow 3).hif.fetching = some 3 ∧ ((fetchingNow 3).ring 3).en = true ∧ ((fetchingNow 3).ring (4 + 3)).en = true ∧
      (parseEntry 3 (zeros 64)).2.reqId = 0 ∧ startsHeld (fetchingNow 3) (parseEntry 3 (zeros 64)).1 = false) ∧
    (nextStart 0 [] (inTable 0x7F false).hif.table = some (entry 0x7F, []) ∧ mayStart (entry 0x7F) [] = true ∧ opcodes.contains 0x7F = true ∧
      nextStart 0 [] (inTable 0xFF false).hif.table = some (entry 0xFF, []) ∧ opcodes.contains 0xFF = false) ∧
    (nextStart 0 [] (inTable 0 true).hif.table =
      some (entry 0, [{ opcode := 0, sub := { sub [] with sflags := 1 }, started := true, merged := false, orphan := false }]) ∧
      mayStart (entry 0) [{ opcode := 0, sub := { sub [] with sflags := 1 }, started := true, merged := false, orphan := false }] = false) := by
  decide +kernel

def event (e : Nat) : EvEntry := { event := e, count := 1, info := 0, time := 0, epoch := 0, last := 0 }
def eqWaits : State := { ringOfHost 8 true with evt := { up.evt with queue := [event 61] } }
def unsignalled : State := { up with hif := { up.hif with unsig := List.replicate 16 1, msixEn := true, vecMask := 0, pba := 0x8000 } }

theorem witness_EventsAndMessages : (eqWaits.evt.queue = [event 61] ∧ (eqWaits.ring 8).en = true ∧ (eqWaits.ring 8).err = false ∧ (eqWaits.ring 8).full = false ∧
      eqWaits.evt.mask.getLsbD 61 = true) ∧ up.evt.queue = [] ∧ up.hif.unsig.getD 15 0 = 0 ∧
    (unsignalled.hif.unsig.getD 15 0 ≠ 0 ∧ unsignalled.vecMasked 15 = false ∧ unsignalled.hif.msixEn = true ∧ unsignalled.hif.fnMask = false) ∧ 15 < 16 ∧
    (∀ k, k < 16 → k ≠ 15 → unsignalled.hif.pba.getLsbD k = true → unsignalled.hif.vecMask.getLsbD k = true) ∧
    unsignalled.hif.pba.getLsbD 15 = true ∧ 15 < unsignalled.hif.msgAddr.length ∧ 15 < unsignalled.hif.msgData.length := by decide +kernel

def cmp3 (e : Bool) : State := { up with tim := { up.tim with cmps := up.tim.cmps.modify 3 (fun c => { c with en := e }) } }

theorem witness_CapturesAndOutputs : up.takesWrite 0xC1C = true ∧ up.pwr.state ≠ .halt ∧ up.clk.running = true ∧ State.reset.clk.running = false ∧ (inState .halt).pwr.state = .halt ∧
    (((cmp3 true).cmp 3).en = true ∧ 3 < 4 ∧ (cmp3 true).pwr.state ≠ .halt ∧ tsReached (cmp3 true).ts32 ((cmp3 true).cmp 3).target.toNat = true ∧
      ((cmp3 true).cmp 3).inj = false ∧ ((cmp3 true).cmp 3).period = 0 ∧ ((cmp3 true).cmp 3).stepped = false) ∧ (1 : Reg) ≠ 0 ∧
    ((cmp3 false).cmp 3).en = false ∧
    tsReached up.ts32 (0x80000000#32).toNat = false := by decide +kernel

def source (n : Nat) : State := { up with cfg := { up.cfg with live := { up.cfg.live with glob := { up.cfg.live.glob with timeSrc := n } } } }
def timeAt (n : Nat) (t : TimeState) : State := { source n with tim := { up.tim with state := t } }
def setPending (n : Nat) : State := { source n with tim := { up.tim with setAtPps := [(sub [], 5)] } }
/-- TIME_SET of a mode with VALUE and FREQ. -/
def timeSub (mode : Byte) (v f : List Byte) : Submission := sub ([mode] ++ zeros 7 ++ fit 8 v ++ f)

theorem witness_TimeIsSteered : (timeAt 1 .locked).tim.state = .locked ∧ (timeAt 1 .free).tim.state = .free ∧ (timeAt 1 .hold).tim.state = .hold ∧
    ((timeAt 2 .locked).timeSrc = 2 ∧ (timeAt 2 .locked).tim.state = .locked) ∧ (timeAt 2 .free).tim.state ≠ .locked ∧ (source 1).timeSrc ≠ 2 ∧
    ((timeAt 1 .locked).timeSrc = 1) ∧ (source 3).timeSrc ≠ 1 ∧
    ((source 0).pwr.state ≠ .halt ∧ (source 0).tim.setAtPps = [] ∧ (source 0).timeSrc ≠ 2) ∧
    ((setPending 2).pwr.state ≠ .halt ∧ (setPending 2).tim.setAtPps.getLast? = some (sub [], 5) ∧ (setPending 2).tim.setAtPps = (sub [], 5) :: []) ∧
    ((source 1).live = true ∧ (source 1).cmdWaits 0x48 (timeSub 0 [5] []) = false ∧ (timeSub 0 [5] []).formOk [(0, 1), (8, 8), (16, 4)] = true ∧ (timeSub 0 [5] []).noBuf = true ∧
      (timeSub 0 [5] []).pU 0 1 = 0 ∧ ((source 1).timeSrc = 1 ∨ (source 1).timeSrc = 2) ∧ ((source 2).timeSrc = 1 ∨ (source 2).timeSrc = 2)) ∧
    ((timeSub 1 [5] []).formOk [(0, 1), (8, 8), (16, 4)] = true ∧ (timeSub 1 [5] []).noBuf = true ∧ (timeSub 1 [5] []).pU 0 1 = 1 ∧
      ((source 3).timeSrc = 1 ∨ (source 3).timeSrc = 3)) ∧
    ((timeSub 2 [5] []).formOk [(0, 1), (8, 8), (16, 4)] = true ∧ (timeSub 2 [5] []).noBuf = true ∧ (timeSub 2 [5] []).pU 0 1 = 2 ∧
      (timeSub 2 [5] []).pS 8 8 ≠ 0) ∧
    ((timeSub 3 [0x80, 0x96, 0x98] []).formOk [(0, 1), (8, 8), (16, 4)] = true ∧ (timeSub 3 [0x80, 0x96, 0x98] []).noBuf = true ∧
      (timeSub 3 [0x80, 0x96, 0x98] []).pU 0 1 = 3 ∧ ((timeSub 3 [0x80, 0x96, 0x98] []).pS 8 8).natAbs ≤ 10000000) ∧
    ((timeSub 4 [] [0, 0xE1, 0xF5, 5]).formOk [(0, 1), (8, 8), (16, 4)] = true ∧ (timeSub 4 [] [0, 0xE1, 0xF5, 5]).noBuf = true ∧
      (timeSub 4 [] [0, 0xE1, 0xF5, 5]).pU 0 1 = 4 ∧ ((timeSub 4 [] [0, 0xE1, 0xF5, 5]).pS 16 4).natAbs ≤ 100000000) ∧
    ((source 0).timeSrc = 0 ∧ (timeSub 2 [5] []).pU 0 1 ≤ 2) := by decide +kernel

/-- Domain B on port B in a state, beside a lead; its master is the sender 9. -/
def domB (x : PtpDom → PtpDom) (lead : Option Nat) : State :=
  let s := (source 0).modDom 1 (fun d => x { d with master := some { id := 9, gmId := 0, gmClass := 6, quality := [] } })
  { s with tim := { s.tim with lead }, ptp := { s.ptp with enB := true, portMap := 1 } }
def tracked (x : PtpDom → PtpDom) : State := domB (fun d => x { d with state := .acquiring }) none
def head : PtpHead := { port := 1, udp := (up.dom 1).udp, number := (up.dom 1).num, seqId := 65535, sender := 9 }
def syncMsg (two : Bool) : PtpSync := { head, twoStep := two, rxNs := 0, originNs := 0, logSync := 0 }
/-- A Delay_Req is out, stamped at 100, after a Sync stamped at 1000 with origin 0. -/
def asked (x : PtpDom → PtpDom) : State := tracked (fun d => x { d with sync := some (1000, 0), reqTx := some (65535, 100) })
/-- Domain A, on the same port, has had its seventh good Sync on the tick on which B took the lead. -/
def locksWithB : State :=
  let s := (domB id (some 1)).modDom 0 (fun d => { d with state := .acquiring, goodSyncs := 7, num := 200, master := some { id := 9, gmId := 0, gmClass := 6, quality := [] } })
  { s with ptp := { s.ptp with enA := true }, tim := { s.tim with tookLead := some (s.clk.ticks, 5) } }
def headA : PtpHead := { head with udp := (up.dom 0).udp, number := 200 }

/-- A device whose residuals are those of its seven good Syncs before: an eighth within 1 µs is met. -/
theorem witness_PtpMeasurements_locks (h : ∀ a b f, Config.ptpResidual a b f = 0) (a b f : Int) : (Config.ptpResidual a b f).natAbs ≤ 1000 := by
  rw [h]; decide

def frozenB (lead : Option Nat) : State := domB (fun d => { d with state := .frozen, newPath := some 5 }) lead

theorem witness_PtpMeasurements_syncs : 1 < 2 ∧
    (-4 ≤ (syncMsg true).logSync ∧ (syncMsg true).logSync ≤ 1 ∧ 1 < ({ syncMsg true with logSync := 2 } : PtpSync).logSync ∧
      (tracked id).slaveOf (syncMsg true).head = some 1 ∧ (syncMsg true).twoStep = true ∧ (syncMsg false).twoStep = false ∧
      ((tracked id).dom 1).state = .acquiring ∧ ((tracked id).dom 1).goodSyncs < 7) ∧
    (let s := tracked (fun d => { d with goodSyncs := 7 });
      s.slaveOf (syncMsg false).head = some 1 ∧ (s.dom 1).state = .acquiring ∧ (s.dom 1).goodSyncs = 7 ∧ s.tim.lead = none ∧
      (syncOffset ((s.dom 1).path.getD 0) ((syncMsg false).rxNs - (s.port (s.domPort 1)).latRx) (syncMsg false).originNs).natAbs ≤ 10000 ∧
      10000 < (syncOffset ((s.dom 1).path.getD 0) (10001 - (s.port (s.domPort 1)).latRx) (syncMsg false).originNs).natAbs) ∧
    (locksWithB.slaveOf headA = some 0 ∧ (locksWithB.dom 0).state = .acquiring ∧ (locksWithB.dom 0).goodSyncs = 7 ∧
      locksWithB.tim.lead = some 1 ∧ locksWithB.tim.tookLead = some (locksWithB.clk.ticks, 5)) ∧
    ((frozenB none).slaveOf (syncMsg false).head = some 1 ∧ ((frozenB none).dom 1).state = .frozen) ∧
    ((tracked (fun d => { d with waitSync := some (65535, 0) })).slaveOf head = some 1 ∧
      ((tracked (fun d => { d with waitSync := some (65535, 0) })).dom 1).waitSync = some (head.seqId, 0)) ∧ (source 1).ptpOn = false := by decide +kernel

/-- The path of these four stamps is 1000 ns: 1000 of Sync, and 1000 of Delay_Req answered at 1100. -/
theorem witness_PtpMeasurements_paths : half ((1000 - 0) + (1100 - 100)) = 1000 ∧
    ((asked id).slaveOf head = some 1 ∧ ((asked id).dom 1).reqTx = some (head.seqId, 100) ∧ ((asked id).dom 1).sync = some (1000, 0) ∧
      ((asked id).dom 1).p2p = false ∧ ((asked id).dom 1).state ≠ .frozen ∧ ((asked id).dom 1).path = none) ∧
    (((asked (fun d => { d with path := some 7 })).dom 1).path = some 7 ∧ (asked id).ptp.pdStep < ((8008 : Int) - 7).natAbs ∧
      ((7 : Int) - 7).natAbs ≤ (asked id).ptp.pdStep ∧ ((asked (fun d => { d with path := some 7 })).dom 1).outliers = 0 ∧
      ((asked (fun d => { d with path := some 7, outliers := 1 })).dom 1).outliers = 1 ∧ (asked id).evt.en.getLsbD 41 = true) ∧
    ((asked (fun d => { d with delayP2p := true })).peerOf head = some 1 ∧ ((asked (fun d => { d with delayP2p := true })).dom 1).state ≠ .frozen ∧
      ((asked (fun d => { d with delayP2p := true, waitPd := some (65535, 900) })).dom 1).waitPd = some (head.seqId, 900) ∧
      (1000 : Int) - ((asked id).port ((asked id).domPort 1)).latRx - 100 - 0 = 900 - ((asked id).port ((asked id).domPort 1)).latRx) := by decide +kernel

def lockedA (lead : Nat) : State :=
  (domB (fun d => { d with state := .frozen, newPath := some 5 }) (some lead)).modDom 0 (fun d => { d with state := .locked })
def asymB : State :=
  domB (fun d => { d with state := .asym, stab := some { tick := 0, n := 1, sum := 5 } }) (some 0) |> fun s => { s with clk := { s.clk with ticks := secTicks 60 } }

def farA (lead : Nat) : State := (lockedA lead).modDom 1 (fun d => { d with newPath := some 2000 })
def steered (s : State) : State := { s with tim := { s.tim with state := .locked } }
def frozenBoth : State := (frozenB (some 0)).modDom 0 (fun d => { d with state := .frozen })

theorem witness_PtpMeasurements_steps :
    ((frozenB none).ptpOn = true ∧ ((frozenB none).dom 1).state = .frozen ∧ ((frozenB none).dom 1).newPath.getD (((frozenB none).dom 1).path.getD 0) = 5 ∧
      ((frozenB none).dom 1).stab = none ∧ ((frozenB none).dom (otherDom 1)).state ≠ .locked ∧ (frozenB none).tim.state = .free) ∧
    ((lockedA 0).ptpOn = true ∧ ((lockedA 0).dom 1).state = .frozen ∧ ((lockedA 0).dom 1).stab = none ∧ ((lockedA 0).dom (otherDom 1)).state = .locked ∧
      (lockedA 0).tim.lead = some (otherDom 1) ∧ (lockedA 0).tie 1 = none ∧
      (((lockedA 0).dom 1).offsetWith 5 - ((lockedA 0).dom (otherDom 1)).offset - ((lockedA 0).dom 1).d0).natAbs ≤ 1000) ∧
    (((farA 0).dom 1).state = .frozen ∧ ((farA 0).dom 1).stab = none ∧ ((farA 0).dom (otherDom 1)).state = .locked ∧ (farA 0).tim.lead ≠ some 1 ∧
      (farA 1).tim.lead = some 1 ∧ (farA 1).evt.en.getLsbD 40 = true ∧
      1000 < (((farA 0).dom 1).offsetWith 2000 - ((farA 0).dom (otherDom 1)).offset - ((farA 0).dom 1).d0).natAbs) ∧
    ((steered (frozenB (some 1))).ptpOn = true ∧ ((steered (frozenB (some 1))).dom (otherDom 1)).state ≠ .locked ∧
      (steered (frozenB (some 1))).tim.state ≠ .free ∧ (steered (frozenB (some 1))).tim.lead ≠ some (otherDom 1) ∧
      (steered (frozenB (some 1))).evt.en.getLsbD 42 = true) ∧
    (((steered frozenBoth).dom 1).state = .frozen ∧ ((steered frozenBoth).dom 1).stab = none ∧ ((steered frozenBoth).dom (otherDom 1)).state = .frozen ∧
      (steered frozenBoth).tim.lead = some (otherDom 1)) ∧
    (let w := (frozenB none).modDom 1 (fun d => { d with stab := some { tick := 0, n := 1, sum := 5 } });
      w.ptpOn = true ∧ (w.dom 1).state = .frozen ∧ (w.dom 1).stab.isSome = true ∧
      (let v := { w with clk := { w.clk with ticks := secTicks 60 }, tim := { w.tim with suspect := true } };
        v.ptpOn = true ∧ v.pathStable 1 = true ∧ (v.dom 1).state = .frozen ∧ v.tim.suspect = true ∧ v.tim.lead = none)) ∧
    ((up.dom 1).state ≠ .frozen) ∧
    (asymB.ptpOn = true ∧ asymB.pathStable 1 = true ∧ (asymB.dom 1).state = .asym ∧ asymB.tim.lead = some (otherDom 1) ∧ asymB.tie 1 = none) ∧
    (frozenB none).pathStable 1 = false := by decide +kernel

def announce (port : Nat) : PtpAnnounce :=
  { head := { head with port }, gmId := 1, gmClass := 6, accuracy := 0, variance := 0, priority1 := 0, priority2 := 0, steps := 0 }
def listening : State := domB (fun d => { d with state := .listening, master := none }) none
def answering : State :=
  let s := domB (fun d => { d with state := .acquiring, profile := 1 }) none
  { s with ptp := { s.ptp with ports := s.ptp.ports.modify 1 (fun p => { p with ipv4 := 0xC0A80001 }) } }

/-- B leads, LOCKED beside A, whose last Sync came at `tick`. -/
def leadsB (tick : Nat) : State :=
  let s := steered ((domB (fun d => { d with state := .locked }) (some 1)).modDom 0 (fun d => { d with state := .locked, syncTick := tick }))
  { s with clk := { s.clk with ticks := secTicks 60 } }

theorem witness_PtpMastersAndMessages :
    (listening.domOf (announce 1).head = some 1 ∧ 1 < listening.ptp.doms.length ∧ (listening.dom 1).master = none ∧ (listening.dom 1).state = .listening ∧
      listening.domOf (announce 0).head = none) ∧
    ((tracked id).ptpOn = true ∧ ((tracked id).dom 1).master = some { id := 9, gmId := 0, gmClass := 6, quality := [] }) ∧
    (((tracked id).dom 1).tracking = true ∧ (tracked id).tim.lead ≠ some 1) ∧
    ((leadsB 0).ptpOn = true ∧ ((leadsB 0).dom 1).tracking = true ∧ (leadsB 0).tim.lead = some 1 ∧ (leadsB 0).tim.state = .locked ∧
      ((leadsB 0).dom (otherDom 1)).state = .locked ∧ (leadsB 0).syncsGone (otherDom 1) = true ∧ (leadsB (secTicks 60)).syncsGone (otherDom 1) = false ∧
      (leadsB 0).evt.en.getLsbD 40 = true ∧ (leadsB 0).evt.en.getLsbD 42 = true) ∧
    ((tracked id).domCarried 1 = true ∧
      (tracked id).domPort 1 < (tracked id).ptp.ports.length) ∧
    (answering.ptpOn = true ∧ answering.domEnabled 1 = true ∧ answering.domPort 1 = head.port ∧ (answering.dom 1).p2p = true ∧ answering.domCarried 1 = true ∧
      head.port < answering.ptp.ports.length ∧ (head.udp = false ∨ (answering.port head.port).ipv4 ≠ 0) ∧
      ({ head with udp := true } : PtpHead).udp = true ∧ (up.port head.port).ipv4 = 0) ∧
    (answering.live = true ∧ 1 < 2 ∧ (answering.port 1).ipv4.toNat ≠ 0) ∧ (answering.port 1).ipv4.toNat ≠ 0xC0A80002 := by decide +kernel

def netRing (n : Nat) : State :=
  { (ringOfHost n true).modRing n (fun r => { r with theirs := if n = 10 then 1 else 0 }) with cfg := (source 1).cfg }
def rxFrame : RxFrame := { port := 1, bytes := zeros 60, udp := false, rxNs := 0 }
def ptxEntry (len : Byte) : List Byte := [0, 0, 0, 0, 0, 0, 0, 0, len, 0, 1] ++ zeros 21
def stamped (n : Nat) : State := up.modPort 1 (fun p => { p with queue := List.replicate n default, stampFor := [7] })
def selPort1 (n : Nat) : State := { stamped n with ptp := { (stamped n).ptp with txSel := 1 } }
def mdioRuns (w : Bool) : State := let s := up.modPort 1 (fun p => { p with mdioGo := true, mdioWr := w }); { s with ptp := { s.ptp with portSel := 1 } }
/-- A stamp waits for a TAG read beside a full queue. -/
def lateStamp : State := (stamped 16).modPort 1 (fun p => { p with late := some default, ovfArmed := true })
def dom1Sel : State := { up with ptp := { up.ptp with domSel := 1 } }

theorem witness_FramesStampsAndPtpRegisters :
    (rxFrame.port < 2 ∧ (netRing 11).timeSrc = 1 ∧ (netRing 11).pwr.state ≠ .hold ∧ (netRing 11).pwr.state ≠ .halt ∧ ((netRing 11).ring 11).en = true ∧
      ((netRing 11).ring 11).err = false ∧ ((netRing 11).ring 11).full = false) ∧ (up.ring 11).en = false ∧
    (((netRing 10).ring 10).en = true ∧ ((netRing 10).ring 10).err = false ∧ ((netRing 10).ring 10).mine ≠ ((netRing 10).ring 10).theirs ∧
      14 ≤ fieldU (ptxEntry 14) 8 2 ∧ fieldU (ptxEntry 14) 8 2 ≤ 256 ∧ fieldU (ptxEntry 14) 10 1 < 2 ∧
      fieldU (ptxEntry 14) 10 1 < (netRing 10).ptp.ports.length ∧ (netRing 10).pwr.state ≠ .hold ∧ (netRing 10).pwr.state ≠ .halt) ∧
    (((stamped 15).port 1).stampFor = 7 :: [] ∧ (up.port 1).stampFor = [] ∧ (up.port up.ptp.txSel).queue = [] ∧ up.blockLive 0x1064 = true ∧
      (∀ x ∈ [(default : TxStamp)], x.tick ≠ (selPort1 1).clk.ticks) ∧ ((stamped 15).port 1).queue.length < 16 ∧ ((stamped 15).port 1).late = none ∧ 16 ≤ ((stamped 16).port 1).queue.length) ∧
    (lateStamp.pending = [] ∧ (lateStamp.port 1).late.isSome = true ∧ (lateStamp.port 1).ovfArmed = true ∧ lateStamp.evt.en.getLsbD 43 = true ∧
      16 ≤ (lateStamp.port 1).queue.length ∧ (lateStamp.port 1).stampFor = 7 :: []) ∧
    ((selPort1 1).blockLive 0x1064 = true ∧ ((selPort1 1).port (selPort1 1).ptp.txSel).queue = default :: []) ∧
    (up.takesWrite 0x1058 = true ∧ (up.port up.ptp.portSel).mdioGo = false ∧ up.ptp.portSel < up.ptp.ports.length ∧ ((mdioRuns false).port (mdioRuns false).ptp.portSel).mdioGo = true ∧
      State.reset.takesWrite 0x1058 = false ∧
      ((mdioRuns false).port 1).mdioGo = true ∧ ((mdioRuns true).port 1).mdioWr = true ∧ ((mdioRuns false).port 1).mdioWr = false ∧ (up.port 1).mdioGo = false) ∧
    (dom1Sel.takesWrite 0x100C = true ∧ dom1Sel.ptp.domSel < dom1Sel.ptp.doms.length ∧ (2#32).toNat % 256 ≠ (dom1Sel.dom dom1Sel.ptp.domSel).num) ∧
    (up.takesWrite 0x1000 = true ∧ (0x80000030#32).getLsbD 31 = true ∧ up.live = true ∧ (0x30#32).getLsbD 31 = false) := by decide +kernel

def job (n : Nat) : NvmJob := { what := .urgent 0 (some urgentRec), left := n, sub := none, begun := true, secs := [3], tries := 0 }
/-- A record is being written into journal sector 3, whose page `at_` comes next. -/
def writing (n tries at_ : Nat) : State := { up with nvm := { up.nvm with jobs := [{ job n with tries }], jCur := some 3, jPos := at_ } }
/-- A commit of images whose page has failed `tries` times, before a record that waits. -/
def commitJob (tries : Nat) : NvmJob := { what := .images [] false, left := 2, sub := some (sub [1]), begun := true, secs := [], tries }
def committing (tries : Nat) : State := { up with nvm := { up.nvm with jobs := [commitJob tries, { job 2 with begun := false }] } }
def tailing (log : Bool) : State := { up with nvm := { up.nvm with tail := true, tailLog := log } }
/-- No sector of the journal is erased. -/
def worn (s : State) : State := { s with nvm := { s.nvm with secs := List.replicate 128 { erased := false, bad := false, seq := 1 } } }

theorem witness_FlashJobsAndSaves : (up.live = true ∧ up.diag.journalStopped = false ∧ up.nvm.jobs = [] ∧ up.nvm.tail = false ∧
      up.nvm.jobs.head?.all (·.begun) = true) ∧ ({ up with diag := { up.diag with journalStopped := true } } : State).diag.journalStopped = true ∧
    ((writing 2 0 15).live = true ∧ (writing 2 0 15).nvm.jobs = job 2 :: [] ∧ (writing 2 0 15).nvm.tail = false ∧ (writing 2 0 15).pwr.restart = false ∧
      (writing 2 0 15).nvm.jCur.isSome = true ∧ (writing 2 0 15).nvm.jPos < 16 ∧ (job 2).begun = true ∧ 2 ≤ (job 2).left ∧ (job 2).what.rank ≤ 1) ∧
    ((writing 1 0 1).nvm.jobs = job 1 :: [] ∧ (job 1).left ≤ 1 ∧ (job 1).what = .urgent 0 (some urgentRec) ∧ urgentRec.kind = 0 ∧ (job 1).sub = none ∧
      { job 1 with tries := 1 }.begun = true ∧ { job 1 with tries := 1 }.tries < 2 ∧ (writing 1 1 1).nvm.jobs = [{ job 1 with tries := 1 }]) ∧
    ((committing 2).nvm.jobs = [commitJob 2, { job 2 with begun := false }] ∧ 1 < (commitJob 2).what.rank ∧ 2 ≤ (commitJob 2).tries ∧ (commitJob 1).tries < 2 ∧
      (commitJob 1).begun = true ∧ ({ job 2 with begun := false } : NvmJob).what.rank < (commitJob 1).what.rank ∧ (committing 2).evt.en.getLsbD 47 = true) ∧
    ((worn (writing 2 0 16)).nvm.jobs = job 2 :: [] ∧ 16 ≤ (worn (writing 2 0 16)).nvm.jPos ∧ freshSectors (worn (writing 2 0 16)) = [] ∧
      (worn (writing 2 0 16)).sectorReady = false ∧
      (worn (writing 2 0 16)).nvm.tail = false) ∧
    (up.sec.sealed = false ∧ up.takesWrite 0x24 = true ∧ locked.sec.sealed = true ∧ up.takesWrite 0x3000 = true ∧ (0x80000000#32).getLsbD 31 = true) := by
  decide +kernel

theorem witness_FlashJobsAndSaves_idle :
    ((tailing false).nvm.tail = true ∧ (tailing false).nvm.tailLog = false ∧ (tailing true).nvm.tailLog = true ∧ (tailing true).nvm.jobs = [] ∧
      up.pwr.restart = false ∧ up.nvm.logBuf = [] ∧
      (let l := { up with nvm := { up.nvm with logBuf := [default] } }; l.nvm.logBuf ≠ [] ∧ l.logFull = false ∧ l.nvm.tail = false ∧ l.nvm.jobs = [])) ∧
    ((worn up).mayErase ⟨5, 127⟩ = true ∧ up.mayErase ⟨4, 15⟩ = true ∧ up.mayErase ⟨5, 127⟩ = false ∧ (worn (writing 2 0 1)).sectorHeld 3 = true ∧
      up.mayErase ⟨6, 0⟩ = false ∧ (placePage (job 2) (writing 2 0 1)).isSome = true) ∧
    ((holding.pwr.state = .hold ∧ holding.sec.sealed = false ∧ holding.takesWrite 0x24 = true ∧ holding.takesWrite 0x3000 = true) ∧
      (waiting.pwr.state = .boot ∧ waiting.takesWrite 0x24 = true ∧ waiting.takesWrite 0x3000 = true)) := by
  decide +kernel

def unitQ : UnitId := { target := 0, index := 15 }
def lane (n : Nat) : UnitId := { target := 3, index := n }
def bank (n : Nat) : UnitId := { target := 4, index := n }
def testing (u : UnitId) (run rep : Bool) : State := up.setUnitDiag { up.unitDiag u with testing := true, running := run, report := rep, trans1h := 1 }
def laneBusy : State := { up with trv := { up.trv with lanes := up.trv.lanes.set 63 .frame } }
def copying : State := { up with diag := { up.diag with copying := some 3 } }
def gone : State := { up with diag := { up.diag with retQ := 0x8000 } }
def twinGone : State := { up with diag := { up.diag with retQ := 0x4000 } }
/-- Q15's test: the internal open-wire test never reached the rail. -/
def testReport : TestReport := { unit := unitQ, data := .points [0, 0, 0, 0, 0] none }

theorem witness_TestsAndRetirement : (63 < 64 ∧ laneBusy.trv.lanes.getD 63 .idle ≠ .idle ∧ laneBusy.retired (lane 63) = false ∧ up.trv.lanes.getD 63 .idle = .idle) ∧
    (unitQ.target ≠ 4 ∧ (testing unitQ false true).live = true ∧ ((testing unitQ false true).unitDiag unitQ).testing = true ∧
      ((testing unitQ false true).unitDiag unitQ).running = false ∧ testSlot unitQ (testing unitQ false true) = true) ∧
    ((lane 63).target = 3 ∧ testSlot (lane 63) (testing (lane 63) false true) = true ∧ laneMayTest (testing (lane 63) false true) = true) ∧
    ((bank 3).target = 4 ∧ ((testing (bank 3) false true).unitDiag (bank 3)).testing = true ∧ bankTesting (testing (bank 3) false true) = false ∧
      (testing (bank 3) false true).retired (bank 3) = false ∧ (testing (bank 3) false true).diag.spare = some 15 ∧ 15 ≠ (bank 3).index) ∧
    (up.unitDiag unitQ).testing = false ∧
    (copying.diag.copying = some 3 ∧ (copying.unitDiag { target := 4, index := 3 }).running = false ∧ copying.diag.spare = some 15) ∧
    (((testing unitQ true false).unitDiag testReport.unit).running = true ∧ ((testing unitQ true false).unitDiag testReport.unit).report = false ∧
      (testing unitQ true false).retired testReport.unit = false) ∧
    (((testing unitQ true true).unitDiag testReport.unit).report = true ∧ testReport.unit.target = 0 ∧ testReport.unit.index < 16 ∧
      lastOfKind testReport.unit (testing unitQ true true) = false) ∧
    (up.cmdWaits 0x32 (sub [0, 15]) = false ∧ gone.cmdWaits 0x61 (sub [0, 15]) = false ∧ twinGone.cmdWaits 0x60 (sub [0, 15]) = false ∧
      (sub [0, 15]).formOk [(0, 1), (1, 1)] = true ∧ (sub [0, 15]).noBuf = true ∧ unitNamed (sub [0, 15]).unit = true ∧ (sub [0, 15]).unit.target ≠ 5 ∧
      gone.retired (sub [0, 15]).unit = true ∧ up.retired (sub [0, 15]).unit = false ∧ lastOfKind (sub [0, 15]).unit up = false ∧
      twinGone.retired (sub [0, 15]).unit = false ∧ lastOfKind (sub [0, 15]).unit twinGone = true) ∧
    up.pwr.started = true ∧ ((testing unitQ false true).unitDiag unitQ).trans1h ≠ 0 := by decide +kernel

/-- A test whose open-wire step failed does not pass, whatever the device's factory tables. -/
theorem witness_TestsAndRetirement_fails : (verdict testReport (testing unitQ true true)).pass = false := by
  simp [verdict, testSteps, testReport]

/-- A job descriptor of R289: JOB_ID 65535, S7, one profile record, no trace. -/
def jobBytes : List Byte := [0xFF, 0xFF, 0, 0, 1, 0, 0, 0, 0x80, 0] ++ zeros 54
def jobSub : Submission := subB [] 64
def theJob (run : Bool) (e : Option Nat) : Job :=
  { (default : Job) with sub := jobSub, desc := { parseJob jobBytes with maxWall := 1 }, running := run, endReason := e }
def withJob (run : Bool) (e : Option Nat) (chunk : Bool) : State :=
  { on7 with trv := { on7.trv with jobs := [theJob run e], lanes := if chunk then on7.trv.lanes.set 63 (.chunk 65535) else on7.trv.lanes } }
def seeded : State := { on7 with cairn := { on7.cairn with lastDone := some 0 } }

theorem witness_TraverseJobLife :
    (seeded.pwr.state = .run ∧ seeded.cmdWaits 0x20 jobSub = false ∧ (withJob true none true).cmdWaits 0x21 (sub [0xFF, 0xFF]) = false ∧
      (withJob false none false).cmdWaits 0x21 (sub [0xFF, 0xFF]) = false ∧ seeded.cairn.lastDone.isSome = true ∧ seeded.diag.work ≠ [] ∧ jobSub.formOk [] = true ∧
      jobSub.hasBuf (jobSub.bufLen == 64) = true ∧ (some jobBytes : DmaRead).isSome = true ∧ jobFieldsOk seeded (bufBytes jobSub (some jobBytes)) = true) ∧
    ((queuedJobs (withJob false none false)).head? = some (theJob false none) ∧
      jobsRunning (withJob false none false) < 2 * (withJob false none false).diag.work.length ∧ (theJob false none).desc.ambTrace = false ∧
      (slices (theJob false none).desc.nSteps 36 [1]).all (profOk (theJob false none).desc) = true ∧
      (slices (theJob false none).desc.nAmb 8 []).all (fun b => fieldU b 6 2 == 0) = true ∧
      ambRising ((slices (theJob false none).desc.nAmb 8 []).map (fun b => (fieldU b 0 4, fieldS b 4 2))) = true) ∧
    ((withJob true none true).trv.jobs.find? (fun j => j.desc.jobId == 65535 && j.running && j.endReason.isNone) = some (theJob true none) ∧
      (withJob true none true).trv.lanes.getD 63 .idle = .chunk 65535 ∧ (theJob true none).aborts = [] ∧ (theJob true none).desc.maxWall ≠ 0 ∧
      (theJob true none).admitTick + (theJob true none).desc.maxWall * 24000000 < (withJob true none true).clk.ticks ∧
      (withJob true none false).trv.lanes.getD 63 .idle ≠ .chunk 65535) ∧
    ((withJob true (some 3) false).trv.jobs.find? (fun j => j.desc.jobId == 65535 && j.endReason.isSome) = some (theJob true (some 3)) ∧
      (theJob true (some 3)).endReason = some 3 ∧ (theJob true (some 3)).running = true ∧ (theJob true (some 3)).aborts = []) ∧
    ((withJob true none true).live = true ∧ (sub [0xFF, 0xFF]).formOk [(0, 2)] = true ∧ (sub [0xFF, 0xFF]).noBuf = true ∧
      (withJob true none true).trv.jobs.find? (fun j => j.desc.jobId == (sub [0xFF, 0xFF]).pU 0 2 && j.endReason.isNone) = some (theJob true none) ∧
      (withJob false none false).trv.jobs.find? (fun j => j.desc.jobId == (sub [0xFF, 0xFF]).pU 0 2 && j.endReason.isNone) = some (theJob false none) ∧
      chunkHeld ((sub [0xFF, 0xFF]).pU 0 2) (withJob true none true) = true ∧ chunkHeld ((sub [0xFF, 0xFF]).pU 0 2) (withJob true none false) = false) := by decide +kernel

def mon (a : AuthStep) (had due : Bool) : Mon := { Mon.fresh with reachN := true, authStep := a, authHad := had, authDue := due }
def module32 (m : Mon) : State := on7.modRope 7 (fun r => { r with mons := [(32, m)] })

theorem witness_ModulesAreAuthenticated : ((module32 (mon .challenged false false)).mon 7 32 = some (mon .challenged false false) ∧
      (mon .challenged false false).authStep = .challenged ∧ (mon .challenged false false).sigR = none ∧ (mon .challenged false false).sigS = none) ∧
    (mon .certVerify false false).authStep = .certVerify ∧ (mon .certVerify false false).authStep ≠ .challenged ∧
    (module32 (mon .certVerify false false)).mon 7 32 = some (mon .certVerify false false) ∧
    ((module32 (mon .sigVerify false false)).mon 7 32 = some (mon .sigVerify false false) ∧ (mon .sigVerify false false).authStep = .sigVerify) ∧
    ((module32 (mon .idle true true)).enabled 7 = true ∧ (module32 (mon .idle true true)).reachable 7 32 = true ∧ (mon .idle true true).authStep = .idle ∧
      (module32 (mon .idle true true)).live = true ∧ (mon .idle true true).authHad = true ∧ (mon .idle true true).authDue = true ∧
      (mon .idle true false).authDue = false ∧ (module32 (mon .idle true true)).mon 7 32 = some (mon .idle true true)) ∧
    ((module32 (mon .idle true true)).cmdWaits 0x38 (sub [7, 32]) = false ∧ (sub [7, 32]).formOk [(0, 1), (1, 1)] = true ∧ (sub [7, 32]).noBuf = true ∧ (sub [7, 32]).pU 0 1 = 7 ∧ 7 < 8 ∧ (sub [7, 32]).pU 1 1 ≤ 32 ∧
      (∀ k ∈ authNamed (module32 (mon .idle true true)) 7 ((sub [7, 32]).pU 1 1), (module32 (mon .idle true true)).reachable 7 k = true) ∧
      maskOf (authNamed (module32 (mon .idle true true)) 7 ((sub [7, 32]).pU 1 1)) ≠ 0) := by decide +kernel

/-- CONFIRM of SEAL. -/
def sealSub : Submission := sub [0x4C, 0x41, 0x45, 0x53]
def ready : State := { up with sec := { up.sec with slots := [some [1], none, none, none] } }
def kept : State := { up with cairn := { up.cairn with digests := [{ epoch := 5, tSample := 0, digest := zeros 32 }] } }

theorem witness_KeysSealAndAttest : (up.live = true ∧ up.cmdWaits 0x39 (subB [3] 64) = false ∧ locked.cmdWaits 0x39 (subB [3] 64) = false ∧
      up.cmdWaits 0x3A sealSub = false ∧ ready.cmdWaits 0x3A sealSub = false ∧ kept.cmdWaits 0x3B (subB [5] 64) = false) ∧
    ((subB [3] 64).formOk [(0, 1)] = true ∧ (subB [3] 64).hasBuf ((subB [3] 64).bufLen == 64) = true ∧ (subB [3] 64).pU 0 1 < 4 ∧ locked.sec.sealed = true ∧
      locked.live = true ∧ up.sec.sealed = false ∧ up.root ((subB [3] 64).pU 0 1) = none ∧ (ready.root ((subB [0] 64).pU 0 1)).isSome = true) ∧
    (sealSub.formOk [(0, 4)] = true ∧ sealSub.noBuf = true ∧ sealSub.pU 0 4 = 0x5345414C ∧ sealReady up = false ∧ sealReady ready = true ∧
      ready.sec.sealed = false) ∧
    ((subB [5] 64).formOk [(0, 8), (8, 16)] = true ∧ (subB [5] 64).hasBuf (64 ≤ (subB [5] 64).bufLen : Bool) = true ∧
      kept.cairn.digests.find? (fun d => d.epoch == (subB [5] 64).pU 0 8) = some { epoch := 5, tSample := 0, digest := zeros 32 }) := by decide +kernel

def ringUp : State := ringOfHost 3 true
def gaugeArmed : State := { up with leg := { up.leg with armed := true } }
def wWord (p : Option Byte) : SmbusWrite := { code := 0x70, data := 3, pec := p }

theorem witness_LegacyWindow : State.reset.legAnswers = false ∧ up.legAnswers = true ∧ 127 < 128 ∧ legBlocked up = false ∧
    ((wWord none).pec = none ∧ up.leg.pecReq = false) ∧
    (wWord (some (writePec up 0x70 (leBytes 2 3)))).pec = some (writePec up (wWord (some (writePec up 0x70 (leBytes 2 3)))).code (leBytes 2 3)) ∧
    ((wWord none).code = 0x70 ∧ (wWord none).data < 4) ∧
    (wWord (some (writePec up 0x70 (leBytes 1 3)))).pec = some (writePec up 0x70 (leBytes 1 3)) ∧
    (writePec up 0x70 (leBytes 2 3) + 1 ≠ writePec up 0x70 (leBytes 2 3)) ∧ legBlocked ringUp = true ∧ ringUp.legAnswers = true ∧
    gaugeArmed.leg.armed = true ∧ legBlocked gaugeArmed = false ∧ gaugeArmed.legAnswers = true ∧ up.leg.armed = false := by decide +kernel

def configured (b : Option ConfigBlock) : State := { up with cfg := { up.cfg with stored := b } }
def bigImage : Image := { bytes := zeros 136 }
def hasImage : State := { up with cfg := { up.cfg with images := up.cfg.images.set 7 (some bigImage), pending := up.cfg.pending.set 7 (some bigImage) } }

theorem witness_ReadingCommands : (∀ op x, State.reset.cmdWaits op x = false) ∧ (∀ op x, up.cmdWaits op x = false) ∧ (∀ op x, hasImage.cmdWaits op x = false) ∧
    State.reset.accepts 0 = true ∧ State.reset.accepts 1 = true ∧ (sub []).formOk [] = true ∧ (sub []).noBuf = true ∧
    (subB [] 128).formOk [] = true ∧ (subB [] 128).hasBuf (128 ≤ (subB [] 128).bufLen : Bool) = true ∧ up.live = true ∧
    ((subB [2] 2624).formOk [(0, 1)] = true ∧ (subB [2] 2624).pU 0 1 < 3 ∧ sourceBlock up ((subB [2] 2624).pU 0 1) = some ConfigBlock.template ∧
      (subB [2] 2624).hasBuf (blockLen ConfigBlock.template ≤ (subB [2] 2624).bufLen : Bool) = true) ∧
    ((subB [7] 96).formOk [(0, 1), (1, 1)] = true ∧ (subB [7] 96).pU 0 1 < 8 ∧ (subB [7] 96).pU 1 1 = 0 ∧
      (subB [7] 96).hasBuf (96 ≤ (subB [7] 96).bufLen : Bool) = true ∧ hasImage.image ((subB [7] 96).pU 0 1) = some bigImage) ∧
    ((subB [7, 3] 136).formOk [(0, 1), (1, 1)] = true ∧ (subB [7, 3] 136).pU 1 1 = 3 ∧ hasImage.cfg.pending.getD ((subB [7, 3] 136).pU 0 1) none = some bigImage ∧
      (subB [7, 3] 136).hasBuf (imgLen bigImage ≤ (subB [7, 3] 136).bufLen : Bool) = true) ∧
    ((subB [7] 1040).formOk [(0, 1)] = true ∧ (subB [7] 1040).hasBuf (1040 ≤ (subB [7] 1040).bufLen : Bool) = true ∧ (subB [7] 1040).pU 0 1 < 8) ∧
    ((subB [0xFF, 0x0F, 1] 160).formOk [(0, 2), (2, 2)] = true ∧ 1 ≤ (subB [0xFF, 0x0F, 1] 160).pU 2 2 ∧
      (subB [0xFF, 0x0F, 1] 160).pU 0 2 + (subB [0xFF, 0x0F, 1] 160).pU 2 2 ≤ 4096 ∧
      (subB [0xFF, 0x0F, 1] 160).hasBuf (16 + 144 * (subB [0xFF, 0x0F, 1] 160).pU 2 2 ≤ (subB [0xFF, 0x0F, 1] 160).bufLen : Bool) = true) ∧
    ((subB [] 1088).hasBuf (1088 ≤ (subB [] 1088).bufLen : Bool) = true ∧ (subB [] 64).hasBuf (64 ≤ (subB [] 64).bufLen : Bool) = true ∧
      (subB [] 1088).formOk [] = true ∧ (subB [] 64).formOk [] = true) ∧
    ((subB [] 32).formOk [(0, 4)] = true ∧ (subB [] 32).hasBuf (32 ≤ (subB [] 32).bufLen && (subB [] 32).bufLen % 32 == 0) = true ∧
      ((logFound up).filter (fun r => (subB [] 32).pU 0 4 ≤ r.seq)).take ((subB [] 32).bufLen / 32) = []) ∧
    ((sub []).bufLen % 16 = 0 ∧ ((sub []).bufLen = 0 ∨ (sub []).hasBuf true = true)) := by
  refine ⟨none_waits rfl rfl, none_waits rfl rfl, none_waits rfl rfl, ?_⟩
  decide +kernel

/-- BAL_POLICY of S7 with the template's values. -/
def policySub : Submission := sub ([7, 0, 20, 25] ++ leBytes 4 500000 ++ leBytes 2 200 ++ leBytes 2 100 ++ leBytes 2 60 ++ leBytes 2 3600 ++ leBytes 2 330 ++ leBytes 2 200 ++ leBytes 2 5500)
/-- The template as an unsigned block. -/
def templateBytes : List Byte := blockBytes ConfigBlock.template
/-- An unsigned image of 136 bytes. -/
def imageBytes : List Byte := leBytes 4 0x47494D31 ++ leBytes 2 1 ++ [1, 0] ++ leBytes 4 136 ++ zeros 52 ++ unsigned
def swRecord : List Byte := leBytes 2 3584 ++ [1, 0] ++ leBytes 4 1000000 ++ zeros 16

theorem witness_SettingCommands : on7.live = true ∧ (∀ op x, on7.cmdWaits op x = false) ∧
    (policySub.formOk [(0, 22)] = true ∧ policySub.noBuf = true ∧ policySub.pU 0 1 < 8 ∧ balanceOk (policyOf policySub (on7.strCfg (policySub.pU 0 1))) = true) ∧
    ((sub [7, 3]).formOk [(0, 1), (1, 1), (2, 2)] = true ∧ (sub [7, 3]).pU 0 1 < 8 ∧ (sub [7, 3]).pU 1 1 < 4 ∧ on7.enabled ((sub [7, 3]).pU 0 1) = true ∧
      (sub [7, 3]).pU 2 2 = 0 ∧ (sub [7, 3]).noBuf = true) ∧
    ((subB [7, 0, 0x10, 0x0E] 512).formOk [(0, 1), (1, 1), (2, 2)] = true ∧ 1 ≤ (subB [7, 0, 0x10, 0x0E] 512).pU 2 2 ∧
      (subB [7, 0, 0x10, 0x0E] 512).pU 2 2 ≤ 3600 ∧ (subB [7, 0, 0x10, 0x0E] 512).hasBuf ((subB [7, 0, 0x10, 0x0E] 512).bufLen == 512) = true ∧
      (bufBytes (subB [7, 0, 0x10, 0x0E] 512) (some (List.replicate 512 16))).all overrideByteOk = true ∧
      (List.range 512).any (forcedPair (bufBytes (subB [7, 0, 0x10, 0x0E] 512) (some (List.replicate 512 16)))) = false) ∧
    ((subB [] 128).formOk [] = true ∧ (subB [] 128).hasBuf ((subB [] 128).bufLen == 128) = true) ∧
    ((subB [] 24).formOk [] = true ∧ (subB [] 24).hasBuf ((subB [] 24).bufLen % 24 == 0 && within (subB [] 24).bufLen 24 98304) = true ∧
      ((swRecords (bufBytes (subB [] 24) (some swRecord))).map (fun b => fieldU b 0 2)).Nodup ∧
      (swRecords (bufBytes (subB [] 24) (some swRecord))).all (swRecordOk on7) = true) ∧
    ((sub []).formOk [(0, 24)] = true ∧ [(sub []).pU 0 8, (sub []).pU 8 8, (sub []).pU 16 8].all (· % 4096 == 0) = true ∧
      noSlots [(sub []).pU 0 8, (sub []).pU 8 8, (sub []).pU 16 8] = true) := by
  refine ⟨by decide +kernel, none_waits rfl rfl, ?_⟩
  decide +kernel

theorem witness_SettingCommands_config : up.cmdWaits 0x02 (subB [1] 2624) = false ∧ (subB [1] 2624).formOk [(0, 1)] = true ∧
    (subB [1] 2624).hasBuf ((subB [1] 2624).bufLen == 2624 || (subB [1] 2624).bufLen == 2696) = true ∧
    blockFraming (bufBytes (subB [1] 2624) (some templateBytes)) (subB [1] 2624).bufLen = true ∧
    (parseBlock (bufBytes (subB [1] 2624) (some templateBytes))).signed = false ∧ up.sec.sealed = false ∧
    blockFieldsOk up (bufBytes (subB [1] 2624) (some templateBytes)) = true ∧ (subB [1] 2624).pU 0 1 = 1 ∧ (subB [0] 2624).pU 0 1 = 0 := by decide +kernel

theorem witness_SettingCommands_images : (up.cmdWaits 0x04 (subB [7] 136) = false ∧ hasImage.cmdWaits 0x05 (sub [0x80]) = false ∧ up.cmdWaits 0x40 (sub [0]) = false ∧
      up.cmdWaits 0x40 (sub [1]) = false ∧ up.nvm.jobs = [] ∧ up.nvm.tail = false) ∧ ((subB [7] 136).formOk [(0, 1)] = true ∧ (subB [7] 136).hasBuf (within (subB [7] 136).bufLen 136 65536) = true ∧
      (subB [7] 136).pU 0 1 < 8 ∧ imgFraming (bufBytes (subB [7] 136) (some imageBytes)) (subB [7] 136).bufLen = true ∧
      (sigChecks up .image (bufBytes (subB [7] 136) (some imageBytes))).all (fun c => c.1) = true) ∧
    ((sub [0x80]).formOk [(0, 1)] = true ∧ (sub [0x80]).noBuf = true ∧ (sub [0x80]).pU 0 1 ≠ 0 ∧
      (namedPending hasImage ((sub [0x80]).pU 0 1)).all (fun e => e.2.isSome) = true) ∧
    ((sub [0]).pU 0 1 = 0 ∧ (sub [1]).pU 0 1 = 1 ∧ (sub [1]).formOk [(0, 1)] = true ∧ up.diag.journalStopped = false) := by decide +kernel

theorem witness_ByteReadsLatchTheHighByte : 127 < 128 ∧ up.legAnswers = true ∧ (up.pwr.started = true ∧ up.pwr.state ≠ .halt) ∧
    ((held false).pwr.state = .hold ∧ (held false).pwr.holdDone = true ∧ (held false).pwr.resume = false ∧ 9000 ≤ 9000) := by decide +kernel

theorem witness_TimestampsCompare : 5 < 2147483652 + 2 ^ 31 ∧ 2147483652 < 5 + 2 ^ 31 := by decide

theorem witness_EventsAreRecordedOnce : up.evt.en.getLsbD 63 = true ∧ ((ringOfHost 8 true).ring 8).en = true ∧ (∀ q ∈ (ringOfHost 8 true).evt.queue, q.event ≠ 63) ∧
    (∃ q ∈ eqWaits.evt.queue, q.event = 61) ∧ (eqWaits.ring 8).en = true ∧ (up.ring 8).en = false ∧
    ({ up with evt := { up.evt with en := 0 } } : State).evt.en.getLsbD 63 = false := by decide +kernel

end Sys2Proof.Tests
end

namespace Sys2Proof.Machine

/-! ### PWR_CTRL.MODE (R473) -/

/-- The mode that a re-anchoring orders is the one of the scheme that it leads to. -/
theorem applyScheme_lean_of_some {c : Scheme} {r : Reanchor} {m : Bool} (h : r.lean = some m) : (applyScheme c r).lean = m := by
  rcases hs : r.shift <;> simp [applyScheme, h, hs]

/-- What is ordered last decides the scheme that the waiting re-anchorings lead to. -/
theorem State.nextScheme_reanchor (s : State) (r : Reanchor) : (s.reanchor r).nextScheme = applyScheme s.nextScheme r := by
  simp [State.nextScheme, State.reanchor]

/-- Settles O25: the write is kept, and where it names another rate one re-anchoring, earliest 1 ms on, joins the queue. -/
theorem powerModeReanchors : Obligations.PowerModeReanchors := by
  intro s v hw
  have hx : exec (.pwrModeWrite v) s = execPwrModeWrite v s := rfl
  have htakes : ¬ (!s.takesWrite 0x2400) = true := by simp [hw]
  refine ⟨fun hsame => ?_, fun hnew => ⟨_, hx.trans ((if_neg htakes).trans (if_neg hnew)), rfl, ?_, ⟨_, rfl, rfl, rfl⟩, rfl⟩⟩
  · exact hx.trans ((if_neg htakes).trans (if_pos hsame))
  · rw [State.nextScheme_reanchor]
    exact applyScheme_lean_of_some rfl

/-! ### Events -/

/-- An event that is enabled becomes pending. -/
theorem recordEvent_pends {e : Nat} (i : Nat) {s : State} (h : s.evt.en.getLsbD e = true) : (recordEvent e i s).evt.pend.getLsbD e = true := by
  have he : e < 64 := BitVec.lt_of_getLsbD h
  simp [recordEvent, h, he]

/-- An enabled event is pending too where the log takes a record of it first. -/
theorem raise_pends {e : Nat} (i : Nat) {s : State} (h : s.evt.en.getLsbD e = true) : (raise e i s).evt.pend.getLsbD e = true := by
  apply recordEvent_pends
  split
  · split <;> simpa using h
  · exact h

/-- An event that the log does not record changes nothing but the event block. -/
theorem raise_eq_of_unlogged {e : Nat} (i : Nat) (s : State) (h : loggedEvents.contains e = false) : raise e i s = recordEvent e i s := by
  rw [raise, h]; rfl

theorem recordEvent_frame (e i : Nat) (s : State) : recordEvent e i s = { s with evt := (recordEvent e i s).evt } := by
  apply State.ext_fields <;> simp

theorem raise_frame (e i : Nat) (s : State) : raise e i s = { s with evt := (raise e i s).evt, nvm := (raise e i s).nvm } := by
  apply State.ext_fields <;> simp

/-! ### Line crossings (R14, R16) -/

/-- A new plan for the window in progress moves its end, and nothing else. -/
theorem replan_frame (s : State) : replan s = { s with frm := { s.frm with
    winEnd := (replan s).frm.winEnd, winEndNs := (replan s).frm.winEndNs, held := (replan s).frm.held } } := by
  unfold replan
  split <;> rfl

@[simp] theorem replan_line (s : State) : (replan s).frm.line = s.frm.line := by rw [replan_frame]
@[simp] theorem replan_win (s : State) : (replan s).frm.win = s.frm.win := by rw [replan_frame]
@[simp] theorem replan_met (s : State) : (replan s).met = s.met := by rw [replan_frame]

/-- Loss of line lock: the window in progress runs held, to the end it has or to this tick; EV61 in LINE mode. -/
theorem loseLine_spec (s : State) :
    (loseLine s).frm = { s.frm with line := { s.frm.line with lost := true, goodTicks := 0, outRun := 0 }, held := true
                                    winEnd := max s.frm.winEnd s.clk.ticks } ∧
    (s.frm.scheme.fixed = false → s.frm.measuring = true → s.evt.en.getLsbD 61 = true → (loseLine s).evt.pend.getLsbD 61 = true) ∧
    loseLine s = { s with frm := (loseLine s).frm, evt := (loseLine s).evt, nvm := (loseLine s).nvm } := by
  simp only [loseLine]
  split
  next h => exact ⟨rfl, fun hf hm => by simp [holdEnd, hf, hm] at h, rfl⟩
  next => exact ⟨by simp [holdEnd], fun _ _ he => raise_pends 0 he, by rw [raise_frame]; rfl⟩

/-- What follows from a mains period: nothing but the tracking of the line, one re-anchoring more, or the loss of lock. -/
theorem judgeMains_cases (p : Nat) (s : State) :
    (∃ l r, judgeMains p s = { s with frm := { s.frm with line := l, reanchors := r } }) ∨ judgeMains p s = loseLine s := by
  simp only [judgeMains, regainLine, lineReanchor, State.reanchor]
  by_cases hlost : s.frm.line.lost = true
  · rw [if_pos hlost]
    left
    repeat' split
    all_goals exact ⟨_, _, rfl⟩
  · rw [if_neg hlost]
    by_cases hout : (2 * tickHz < 89 * p || 131 * p < 2 * tickHz) = true
    · rw [if_pos hout]
      split
      · exact .inr rfl
      · exact .inl ⟨_, _, rfl⟩
    · rw [if_neg hout]
      left
      repeat' split
      all_goals exact ⟨_, _, rfl⟩

theorem judgeMains_keeps (p : Nat) (s : State) : (judgeMains p s).frm.win = s.frm.win ∧ (judgeMains p s).met = s.met := by
  obtain ⟨l, r, h⟩ | h := judgeMains_cases p s
  · rw [h]; exact ⟨rfl, rfl⟩
  · obtain ⟨hfrm, -, hrest⟩ := loseLine_spec s
    exact ⟨by rw [h, hfrm], by rw [h, hrest]⟩

theorem crossing_enters (s : State) :
    ∃ t, exec .lineZeroCrossing s = .next t ∧ t.frm.line.lastCross = some s.clk.ticks ∧ t.frm.win = s.frm.win ∧ t.met = s.met := by
  refine ⟨_, rfl, by simp, ?_⟩
  rcases s.frm.line.lastCross with _ | t0
  · simp
  · simpa using judgeMains_keeps _ s

/-- The first crossing after a loss only sets the reference. -/
theorem first_crossing_sets_reference {s : State} (h : s.frm.line.lastCross = none) :
    ∃ t, exec .lineZeroCrossing s = .next t ∧ t.frm.line = { s.frm.line with lastCross := some s.clk.ticks } ∧
      t = { s with frm := { s.frm with line := t.frm.line, winEnd := t.frm.winEnd, winEndNs := t.frm.winEndNs, held := t.frm.held } } := by
  have hx : exec .lineZeroCrossing s =
      .next (replan { s with frm := { s.frm with line := { s.frm.line with lastCross := some s.clk.ticks } } }) := by
    change execLineZeroCrossing s = _
    simp only [execLineZeroCrossing, h]
  refine ⟨_, hx, by simp, ?_⟩
  conv_lhs => rw [replan_frame]
  simp

/-- The timeout of a late crossing, from the state `u` in which lock is lost: the next crossing only sets the reference. -/
theorem crossing_timeout_eq {s u : State} (hlate : crossingLate s = true) (hu : (if s.frm.line.lost then s else loseLine s) = u) :
    exec .lineCrossingTimeout s =
      .next { u with frm := { u.frm with line := { u.frm.line with lastCross := none, goodTicks := 0 } } } := by
  subst hu
  exact if_pos hlate

/-- Settles O24, clause by clause: a crossing, the first one after a loss, the timeout of a late one, no timeout. The end of the
window in progress at a loss is the one that `loseLine_spec` gives it (log 25). -/
theorem lineCrossings : Obligations.LineCrossings := by
  refine fun s => ⟨crossing_enters s, first_crossing_sets_reference, fun hlate => ?_, fun hlate => if_neg (by simp [hlate])⟩
  by_cases hlost : s.frm.line.lost = true
  · exact ⟨_, crossing_timeout_eq hlate (if_pos hlost), hlost, rfl, rfl, fun _ => rfl, by simp [hlost], by simp [hlost], rfl⟩
  · obtain ⟨hfrm, hev, hrest⟩ := loseLine_spec s
    refine ⟨_, crossing_timeout_eq hlate (if_neg hlost), by simp [hfrm], rfl, rfl, fun h => absurd h hlost, fun _ => by simp [hfrm], fun _ => hev, ?_⟩
    conv_lhs => rw [hrest]

end Sys2Proof.Machine

namespace Sys2Proof.Machine

/-! ### Folds over the strings -/

/-- Where every other element's step leaves a part alone, a fold over distinct elements acts on that part as the one step of
its element. -/
theorem foldl_at {α β σ : Type} (p : σ → β) (f : σ → α → σ) (a : α) (h : ∀ s b, b ≠ a → p (f s b) = p s) {l : List α} (hl : l.Nodup)
    (ha : a ∈ l) (s : σ) : ∃ s', p s' = p s ∧ p (l.foldl f s) = p (f s' a) := by
  have hrest : ∀ (l : List α), a ∉ l → ∀ s, p (l.foldl f s) = p s := by
    intro l
    induction l with
    | nil => exact fun _ _ => rfl
    | cons b l ih =>
      intro hb s
      rw [List.foldl_cons, ih (List.not_mem_of_not_mem_cons hb), h s b (List.ne_of_not_mem_cons hb).symm]
  induction l generalizing s with
  | nil => simp at ha
  | cons b l ih =>
    rw [List.foldl_cons]
    by_cases hb : b = a
    · subst hb
      exact ⟨s, rfl, hrest l (List.nodup_cons.1 hl).1 _⟩
    · obtain ⟨s', hs', hf⟩ := ih (List.nodup_cons.1 hl).2 ((List.mem_cons.1 ha).resolve_left (Ne.symm hb)) (f s b)
      exact ⟨s', hs'.trans (h s b hb), hf⟩

/-- The same over the eight strings. -/
theorem foldl_strings {β : Type} (p : State → β) (f : State → Nat → State) {n : Nat} (hn : n < 8) (h : ∀ s k, k ≠ n → p (f s k) = p s) (s : State) :
    ∃ s', p s' = p s ∧ p ((List.range 8).foldl f s) = p (f s' n) :=
  foldl_at p f n h List.nodup_range (List.mem_range.2 hn) s

/-- A fold of steps that move the ropes alone moves the ropes alone. -/
theorem foldl_rope_frame {f : State → Nat → State} (h : ∀ s n, f s n = { s with rope := (f s n).rope }) (l : List Nat) (s : State) :
    l.foldl f s = { s with rope := (l.foldl f s).rope } := by
  induction l generalizing s with
  | nil => rfl
  | cons n l ih => exact (ih (f s n)).trans (congrArg (fun u : State => { u with rope := (l.foldl f (f s n)).rope }) (h s n))

/-! ### Frames that leave a rope (R158, R169) -/

/-- The frame that an end has on its line. -/
def RopeStr.tx (r : RopeStr) : RopeEnd → Option TxFrame
  | .N => r.txN
  | .F => r.txF

/-- What an update of a rope keeps of every rope, it keeps on the ropes of the state. -/
theorem State.modRope_ropeStr_keeps {β : Type} {p : RopeStr → β} {f : RopeStr → RopeStr} (h : ∀ r, p (f r) = p r) (s : State) (n k : Nat) :
    p ((s.modRope n f).ropeStr k) = p (s.ropeStr k) := by
  by_cases hk : n = k
  · subst hk
    by_cases hn : n < s.rope.strs.length
    · rw [State.modRope_ropeStr_same hn, h]
    · rw [State.modRope, List.modify_eq_self (not_lt.1 hn)]
  · rw [State.modRope_ropeStr_other s hk]

/-- From `s` to `t` no rope moves but string `n`'s, and on that neither its silence nor what another end than `e` has on its line. -/
structure SendsOnly (n : Nat) (e : RopeEnd) (s t : State) : Prop where
  length : t.rope.strs.length = s.rope.strs.length
  others : ∀ k, k ≠ n → t.ropeStr k = s.ropeStr k
  silent : ∀ k, (t.ropeStr k).silent = (s.ropeStr k).silent
  tx     : ∀ k d, d ≠ e → (t.ropeStr k).tx d = (s.ropeStr k).tx d

theorem SendsOnly.refl (n : Nat) (e : RopeEnd) (s : State) : SendsOnly n e s s := ⟨rfl, fun _ _ => rfl, fun _ => rfl, fun _ _ _ => rfl⟩

theorem SendsOnly.trans {n : Nat} {e : RopeEnd} {s t u : State} (h : SendsOnly n e s t) (k : SendsOnly n e t u) : SendsOnly n e s u :=
  ⟨k.length.trans h.length, fun i hi => (k.others i hi).trans (h.others i hi), fun i => (k.silent i).trans (h.silent i),
    fun i d hd => (k.tx i d hd).trans (h.tx i d hd)⟩

theorem SendsOnly.modRope {n : Nat} {e : RopeEnd} {f : RopeStr → RopeStr} (hs : ∀ r, (f r).silent = r.silent)
    (ht : ∀ r d, d ≠ e → (f r).tx d = r.tx d) (s : State) : SendsOnly n e s (s.modRope n f) where
  length := s.modRope_length n f
  others _ hk := s.modRope_ropeStr_other (Ne.symm hk) f
  silent := s.modRope_ropeStr_keeps hs n
  tx k d hd := s.modRope_ropeStr_keeps (p := fun r => r.tx d) (fun r => ht r d hd) n k

theorem ropeSend_sendsOnly (n : Nat) (e : RopeEnd) (f : TxFrame) (s : State) : SendsOnly n e s (ropeSend n e f s) := by
  unfold ropeSend
  split
  · refine .modRope (fun r => ?_) (fun r d hd => ?_) s
    · cases e <;> rfl
    · match e, d with
      | .N, .F | .F, .N => rfl
      | .N, .N | .F, .F => exact absurd rfl hd
  · exact .refl n e s

theorem bumpSeq_sendsOnly (n : Nat) (e : RopeEnd) (a : Nat) (s : State) : SendsOnly n e s (bumpSeq n e a s) := by
  unfold bumpSeq
  refine .modRope ?_ ?_ s
  · exact fun _ => rfl
  · exact fun _ d _ => by cases d <;> rfl

theorem ropeCast_sendsOnly (n : Nat) (e : RopeEnd) (t a : Nat) (p : List Byte) (s : State) : SendsOnly n e s (ropeCast n e t a p s) := by
  unfold ropeCast
  split
  · exact (bumpSeq_sendsOnly ..).trans (ropeSend_sendsOnly ..)
  · exact .refl n e s

/-- The port is in service as long as diagnosis has not retired it. -/
theorem State.portUp_congr {s t : State} (h : t.diag = s.diag) (n : Nat) (e : RopeEnd) : t.portUp n e = s.portUp n e := by
  simp only [State.portUp, h]

/-- A frame sent from a port in service of a driven rope stands on its line. -/
theorem ropeSend_tx {n : Nat} {e : RopeEnd} {s : State} (f : TxFrame) (hn : n < s.rope.strs.length) (hp : s.portUp n e = true)
    (hs : (s.ropeStr n).silent = false) : ((ropeSend n e f s).ropeStr n).tx e = some f := by
  rw [ropeSend, if_pos (by simp [hp, hs]), State.modRope_ropeStr_same hn]
  cases e <;> rfl

theorem ropeCast_tx {n : Nat} {e : RopeEnd} {s : State} (t a : Nat) (p : List Byte) (hn : n < s.rope.strs.length) (hp : s.portUp n e = true)
    (hs : (s.ropeStr n).silent = false) :
    ((ropeCast n e t a p s).ropeStr n).tx e = some { typ := t, addr := a, seq := (s.ropeStr n).nextSeq e 0, payload := p } := by
  rw [ropeCast, if_pos (by simp [hp, hs])]
  have h := bumpSeq_sendsOnly n e 0 s
  exact ropeSend_tx _ (by rwa [h.length]) (by rwa [State.portUp_congr (s := s) (by simp)]) (by rwa [h.silent])

/-- A frame sent from both ports leaves every port in service of a driven rope. -/
theorem ropeCastBoth_tx {n : Nat} {s : State} (e : RopeEnd) (t a : Nat) (p : List Byte) (hn : n < s.rope.strs.length) (hp : s.portUp n e = true)
    (hs : (s.ropeStr n).silent = false) : ∃ q, ((ropeCastBoth n t a p s).ropeStr n).tx e = some { typ := t, addr := a, seq := q, payload := p } := by
  unfold ropeCastBoth
  have h := ropeCast_sendsOnly n .N t a p s
  cases e with
  | N => exact ⟨_, ((ropeCast_sendsOnly n .F ..).tx n .N (by decide)).trans (ropeCast_tx t a p hn hp hs)⟩
  | F => exact ⟨_, ropeCast_tx t a p (by rwa [h.length]) (by rwa [State.portUp_congr (s := s) (by simp)]) (by rwa [h.silent])⟩

/-! ### SYNC (R194, R195) -/

/-- One string's part of a SYNC. -/
def syncString (kind epoch span : Nat) (s : State) (n : Nat) : State :=
  if s.enabled n then ropeCastBoth n tSync 0 (syncPayload kind (s.gateOff n) epoch span) s else s

theorem sendSync_eq (kind epoch span : Nat) (s : State) : sendSync kind epoch span s = (List.range 8).foldl (syncString kind epoch span) s := rfl

theorem ropeCastBoth_frame (n t a : Nat) (p : List Byte) (s : State) : ropeCastBoth n t a p s = { s with rope := (ropeCastBoth n t a p s).rope } := by
  apply State.ext_fields <;> simp

theorem syncString_frame (kind epoch span : Nat) (s : State) (n : Nat) :
    syncString kind epoch span s n = { s with rope := (syncString kind epoch span s n).rope } := by
  unfold syncString
  split
  · exact ropeCastBoth_frame ..
  · rfl

/-- A SYNC moves nothing but the ropes. -/
theorem sendSync_frame (kind epoch span : Nat) (s : State) : sendSync kind epoch span s = { s with rope := (sendSync kind epoch span s).rope } :=
  foldl_rope_frame (syncString_frame kind epoch span) _ s

theorem sendSync_keeps (kind epoch span : Nat) (s : State) :
    (sendSync kind epoch span s).frm = s.frm ∧ (sendSync kind epoch span s).met = s.met ∧ (sendSync kind epoch span s).est = s.est ∧
    (sendSync kind epoch span s).hostMem = s.hostMem := by
  rw [sendSync_frame]
  exact ⟨rfl, rfl, rfl, rfl⟩

/-- One string's part of a SYNC leaves the other ropes alone. -/
theorem syncString_others (kind epoch span : Nat) (s : State) {n k : Nat} (h : k ≠ n) :
    (syncString kind epoch span s n).ropeStr k = s.ropeStr k ∧ (syncString kind epoch span s n).rope.strs.length = s.rope.strs.length := by
  unfold syncString ropeCastBoth
  split
  · have hN := ropeCast_sendsOnly n .N tSync 0 (syncPayload kind (s.gateOff n) epoch span) s
    have hF := ropeCast_sendsOnly n .F tSync 0 (syncPayload kind (s.gateOff n) epoch span) (ropeCast n .N tSync 0 (syncPayload kind (s.gateOff n) epoch span) s)
    exact ⟨(hF.others k h).trans (hN.others k h), hF.length.trans hN.length⟩
  · exact ⟨rfl, rfl⟩

/-- A SYNC leaves both ports of every enabled string's rope. -/
theorem sendSync_tx {n : Nat} {s : State} (kind epoch span : Nat) (e : RopeEnd) (hn : n < 8) (hl : n < s.rope.strs.length) (hen : s.enabled n = true)
    (hp : s.portUp n e = true) (hs : (s.ropeStr n).silent = false) :
    ∃ x, ((sendSync kind epoch span s).ropeStr n).tx e = some x ∧ x.typ = tSync ∧ x.addr = 0 ∧
      x.payload = syncPayload kind (s.gateOff n) epoch span := by
  obtain ⟨u, hu, hfold⟩ := foldl_strings (fun t => (t.ropeStr n, t.rope.strs.length, t.cfg, t.diag, t.est)) (syncString kind epoch span) hn
    (fun t k hk => by
      obtain ⟨hrope, hlen⟩ := syncString_others kind epoch span t hk.symm
      rw [hrope, hlen, syncString_frame]) s
  simp only [Prod.mk.injEq] at hu hfold
  obtain ⟨hrope, hlen, hcfg, hdiag, hest⟩ := hu
  have hen' : u.enabled n = true := by rw [← hen]; simp only [State.enabled, State.strCfg, hcfg]
  have hgate : u.gateOff n = s.gateOff n := by simp only [State.gateOff, State.lim, hest]
  rw [sendSync_eq, hfold.1, syncString, if_pos hen', hgate]
  obtain ⟨q, hq⟩ := ropeCastBoth_tx e tSync 0 (syncPayload kind (s.gateOff n) epoch span) (hlen ▸ hl) (by rwa [State.portUp_congr hdiag])
    (by rwa [hrope])
  exact ⟨_, hq, rfl, rfl, rfl⟩

/-- The first four bytes of a SYNC: its kind, the gate and the epoch's low 16 bits (R194). -/
theorem sendSync_head {n : Nat} {s : State} (kind epoch span : Nat) (e : RopeEnd) (hn : n < 8) (hl : n < s.rope.strs.length)
    (hen : s.enabled n = true) (hp : s.portUp n e = true) (hs : (s.ropeStr n).silent = false) :
    ∃ x, ((sendSync kind epoch span s).ropeStr n).tx e = some x ∧ x.typ = tSync ∧ x.addr = 0 ∧
      x.payload.take 4 = [BitVec.ofNat 8 kind, BitVec.ofNat 8 (bit (s.gateOff n) 0)] ++ leBytes 2 (epoch % 65536) := by
  obtain ⟨x, htx, htyp, haddr, hpay⟩ := sendSync_tx kind epoch span e hn hl hen hp hs
  exact ⟨x, htx, htyp, haddr, by simp [hpay, syncPayload, leBytes]⟩

/-- START_SYNC in HOLD: the frame is counted as a supply outage, and the epoch and the nominal instants go on. -/
theorem startSync_hold {s : State} (hm : s.metering = true) (hfz : s.frozenNext = false) (ha : frameAhead s = true) (hs : s.pwr.state = .hold) :
    exec .startSync s = .next { s with
      frm := { s.frm with epoch := s.frm.epoch + 1, nextNominal := nominalThen s, frameCount := wrap64 (s.frm.frameCount + 1) }
      diag := { s.diag with outSupply := sat32 (s.diag.outSupply + 1) } } :=
  (if_neg (by simp [hm, hfz, ha])).trans (if_pos (by simp [hs]))

/-- A device in RUN or LEAN is not in HOLD. -/
theorem State.not_hold_of_live {s : State} (h : s.live = true) : (s.pwr.state == .hold) = false := by
  cases hs : s.pwr.state <;> simp [State.live, hs] at h ⊢

/-- START_SYNC in RUN or LEAN: the next window is frozen as the window of a new frame, and a START SYNC goes out, from a
state `u` that differs from `s` in its windows and in the changes that now wait for the frame. -/
theorem startSync_live {s : State} (hm : s.metering = true) (hfz : s.frozenNext = false) (ha : frameAhead s = true) (hs : s.live = true) :
    ∃ (r : FrameRec) (l : List Reanchor) (w : List Waiting) (span : Nat), r.win = s.frm.win + 1 ∧ r.sampled = false ∧
      exec .startSync s = .next (sendSync 0 (s.frm.epoch + 1) span { s with
        frm := { s.frm with epoch := s.frm.epoch + 1, frames := s.frm.frames ++ [r], nextNominal := nominalThen s, stepMark := false, reanchors := l
                            frameCount := wrap64 (s.frm.frameCount + 1), frozen := true, winEnd := s.clk.ticks + syncLead }
        cfg := { s.cfg with waiting := w } }) :=
  ⟨_, _, _, _, rfl, rfl, (if_neg (by simp [hm, hfz, ha])).trans ((if_neg (by simp [State.not_hold_of_live hs])).trans (if_neg (by simp [hs])))⟩

/-- Settles O22: a SYNC moves the ropes alone, so that the windows are as `startSync_live` says, and `sendSync_head` tells what leaves. -/
theorem startSyncAssignsTheEpoch : Obligations.StartSyncAssignsTheEpoch := by
  refine fun s hm hfz ha => ⟨fun hlive => ?_, fun hhold => ⟨_, startSync_hold hm hfz ha hhold, rfl, rfl, rfl, rfl, rfl⟩⟩
  obtain ⟨r, l, w, span, hwin, hnew, hx⟩ := startSync_live hm hfz ha hlive
  obtain ⟨u, hu, hx⟩ : ∃ u, u = _ ∧ exec .startSync s = .next (sendSync 0 (s.frm.epoch + 1) span u) := ⟨_, rfl, hx⟩
  obtain ⟨hfrm, hmet, hest, hmem⟩ := sendSync_keeps 0 (s.frm.epoch + 1) span u
  have htx (n : Nat) (e : RopeEnd) := sendSync_head (n := n) (s := u) 0 (s.frm.epoch + 1) span e
  refine ⟨_, hx, by rw [hfrm, hu], ?_, by rw [hfrm, hu], by rw [hfrm, hu], by rw [hfrm, hu], by rw [hfrm, hu], by rw [hfrm, hu],
    by rw [hest, hu], by rw [hmet, hu], by rw [hmem, hu], fun n => ?_, fun n => ?_⟩
  · rw [State.frozenNext, hfrm]
    simp [hu, hwin, hnew]
  · subst hu
    exact htx n .N
  · subst hu
    exact htx n .F

/-! ### END SYNC (R194, R195) -/

/-- END_SYNC of a frame: its record is marked, its end boundary frozen, and an END SYNC goes out. -/
theorem endSync_eq {s : State} {f : FrameRec} (hl : s.live = true)
    (hf : s.frm.frames.find? (fun f => f.win == s.frm.win && f.sampled && !f.endSynced && !f.closed) = some f) (he : endsIn syncLead s = true) :
    exec .endSync s = .next (sendSync 1 f.epoch (endSpan s) { s with frm := { s.frm with
      frames := s.frm.frames.map (fun g => if g.epoch == f.epoch then { g with endSynced := true } else g)
      frozen := true, winEnd := s.clk.ticks + syncLead, endUnknown := decide (endSpan s = 0xFFFF) } }) := by
  change execEndSync s = _
  simp only [execEndSync, hf]
  exact if_neg (by simp [hl, he])

/-- END_SYNC leaves the counters and the windows as they are, but for the frozen end of the window in progress. -/
theorem endSync_frame {s : State} {f : FrameRec} (hl : s.live = true)
    (hf : s.frm.frames.find? (fun f => f.win == s.frm.win && f.sampled && !f.endSynced && !f.closed) = some f) (he : endsIn syncLead s = true) :
    ∃ t, exec .endSync s = .next t ∧ t.frm.win = s.frm.win ∧ t.frm.frozen = true ∧ t.frm.winEnd = s.clk.ticks + 120000 ∧
      t.frm.frames = s.frm.frames.map (fun g => if g.epoch == f.epoch then { g with endSynced := true } else g) ∧ t.met = s.met ∧
      t.frm.endUnknown = decide (endSpan s = 0xFFFF) ∧ t = { s with frm := t.frm, rope := t.rope } ∧
      ∀ (e : RopeEnd) (n : Nat), n < 8 → n < s.rope.strs.length → s.enabled n = true → s.portUp n e = true → (s.ropeStr n).silent = false →
        ∃ x, (t.ropeStr n).tx e = some x ∧ x.typ = tSync ∧ x.addr = 0 ∧ x.payload = syncPayload 1 (s.gateOff n) f.epoch (endSpan s) := by
  obtain ⟨u, hu, hx⟩ : ∃ u, u = _ ∧ exec .endSync s = .next (sendSync 1 f.epoch (endSpan s) u) := ⟨_, rfl, endSync_eq hl hf he⟩
  obtain ⟨hfrm, hmet, -, -⟩ := sendSync_keeps 1 f.epoch (endSpan s) u
  refine ⟨_, hx, ?_, ?_, ?_, ?_, ?_, ?_, ?_, fun e n => ?_⟩
  iterate 4 rw [hfrm, hu]
  · rw [hmet, hu]
  · rw [hfrm, hu]
  · rw [hfrm]
    conv_lhs => rw [sendSync_frame]
    subst hu; rfl
  · have h := sendSync_tx (n := n) (s := u) 1 f.epoch (endSpan s) e
    subst hu
    exact h

end Sys2Proof.Machine

namespace Sys2Proof.Machine

/-! ### Posted writes (R330, R373) -/

@[simp] theorem sendMsg_link (v : Nat) (s : State) :
    (sendMsg v s).hif.linkUp = s.hif.linkUp ∧ (sendMsg v s).hif.writesHeld = s.hif.writesHeld := by
  unfold sendMsg
  split <;> exact ⟨rfl, rfl⟩

@[simp] theorem signal_link (v : Nat) (s : State) :
    (signal v s).hif.linkUp = s.hif.linkUp ∧ (signal v s).hif.writesHeld = s.hif.writesHeld := by
  unfold signal moderate
  dsimp only
  split <;> simp

/-- A completion moves neither the link nor whether posted writes are held. -/
@[simp] theorem finishCmd_link (op : Nat) (sub : Submission) (st : Nat) (r : List Byte) (s : State) :
    (finishCmd op sub st r s).hif.linkUp = s.hif.linkUp ∧ (finishCmd op sub st r s).hif.writesHeld = s.hif.writesHeld := by
  simp only [finishCmd, postCompletion, postEntry]
  repeat' split
  all_goals simp [State.modRing, State.dma]

@[simp] theorem writeStatus_link (s : State) :
    (writeStatus s).hif.linkUp = s.hif.linkUp ∧ (writeStatus s).hif.writesHeld = s.hif.writesHeld := by
  simp only [writeStatus]
  repeat' split
  all_goals exact ⟨rfl, rfl⟩

/-- From `s` to `t` nothing moves but host memory and, in the host interface, neither the link nor whether writes are held. -/
structure PostsOnly (s t : State) : Prop where
  frame : t = { s with hif := t.hif, hostMem := t.hostMem }
  link  : t.hif.linkUp = s.hif.linkUp
  held  : t.hif.writesHeld = s.hif.writesHeld

theorem PostsOnly.refl (s : State) : PostsOnly s s := ⟨rfl, rfl, rfl⟩

theorem PostsOnly.trans {s t u : State} (h : PostsOnly s t) (k : PostsOnly t u) : PostsOnly s u where
  frame := k.frame.trans (congrArg (fun v : State => { v with hif := u.hif, hostMem := u.hostMem }) h.frame)
  link := k.link.trans h.link
  held := k.held.trans h.held

theorem PostsOnly.finishCmd (op : Nat) (sub : Submission) (st : Nat) (r : List Byte) (s : State) : PostsOnly s (finishCmd op sub st r s) :=
  ⟨by apply State.ext_fields <;> simp, (finishCmd_link ..).1, (finishCmd_link ..).2⟩

theorem PostsOnly.writeStatus (s : State) : PostsOnly s (writeStatus s) :=
  ⟨by apply State.ext_fields <;> simp, (writeStatus_link s).1, (writeStatus_link s).2⟩

theorem writeStatus_frame (s : State) : writeStatus s = { s with hif := (writeStatus s).hif, hostMem := (writeStatus s).hostMem } :=
  (PostsOnly.writeStatus s).frame

/-- What waited while writes were held is posted, and posted writes are accepted. -/
theorem drainWrites_postsOnly (s : State) :
    drainWrites s = { s with hif := (drainWrites s).hif, hostMem := (drainWrites s).hostMem } ∧
    (drainWrites s).hif.linkUp = s.hif.linkUp ∧ (drainWrites s).hif.writesHeld = false := by
  unfold drainWrites
  split
  next h =>
    dsimp only
    generalize hu : ({ s with hif := { s.hif with writesHeld := false, held := [], stWait := false } } : State) = u
    have hdone : PostsOnly u (s.hif.held.foldl (fun s d => finishCmd d.opcode d.sub d.status d.result s) u) :=
      List.foldlRecOn (motive := PostsOnly u) _ _ (.refl u) (fun _ ht _ _ => ht.trans (.finishCmd ..))
    have hall : ∀ t, PostsOnly u t → t = { s with hif := t.hif, hostMem := t.hostMem } ∧ t.hif.linkUp = s.hif.linkUp ∧ t.hif.writesHeld = false := by
      subst hu
      exact fun t ht => ⟨ht.frame, ht.link, ht.held⟩
    split
    · exact hall _ (hdone.trans (.writeStatus _))
    · exact hall _ hdone
  next h => exact ⟨rfl, rfl, by simpa using h⟩

theorem drainWrites_eq {s : State} (h : s.hif.writesHeld = false) : drainWrites s = s := if_neg (by simp [h])

/-! ### Cairns (R317, R318, R330, R331) -/

/-- A waiting setup in force, or the slots as they were. -/
theorem takeSlots_eq (s : State) : takeSlots s = { s with cairn := (takeSlots s).cairn } ∧ (takeSlots s).cairn.slots = s.slotsNext ∧
    (takeSlots s).cairn.newSlots = none := by
  unfold takeSlots State.slotsNext
  split
  next h => exact ⟨rfl, by simp [h], rfl⟩
  next h => exact ⟨rfl, by simp [h], h⟩

/-- CAIRN_BEGIN of a frame whose sweeps are over. -/
theorem cairnBegin_eq {s : State} {f : FrameRec} (hf : s.cairnFrame = some f) (hw : s.cairn.writing = none) (hu : f.updated = true)
    (hsw : sweepsOver s f = true) (hsl : noSlots s.slotsNext = false) (hl : s.hif.linkUp = true) (hlate : cairnLate s f = false) :
    ∃ t, exec .cairnBegin s = .next t ∧ t.cairn.writing = some f.epoch ∧ t.cairn.newSlots = none ∧ t.cairn.slots = s.slotsNext ∧
      t.cairn.writeSlot = nextSlot (takeSlots s).cairn.lb (takeSlots s).cairn.lc ∧ t.cairn.lb = some t.cairn.writeSlot ∧
      t.cairn.writeAddr = s.slotsNext.getD t.cairn.writeSlot 0 ∧ t.cairn.cut = false ∧
      t.hostMem = Memory.write (Memory.write s.hostMem t.cairn.writeAddr (headerBytes (takeSlots s).draw.2 f (cairnStaging s f.epoch f.modes) true))
        (t.cairn.writeAddr + 64) ((bodyBytes (cairnStaging s f.epoch f.modes)).take (Config.bodyPosted s.free)) ∧
      t = { s with cairn := t.cairn, hostMem := t.hostMem, free := t.free } := by
  obtain ⟨hframe, hslots, hnew⟩ := takeSlots_eq s
  have hmem : (takeSlots s).hostMem = s.hostMem := by rw [hframe]
  have hstage : cairnStaging (takeSlots s) f.epoch f.modes = cairnStaging s f.epoch f.modes := by rw [hframe]; rfl
  have hfree : (takeSlots s).free = s.free := by rw [hframe]
  have hx : exec .cairnBegin s = execCairnBegin s := rfl
  simp only [hx, execCairnBegin, hf]
  refine ⟨_, if_neg (by simp [hw, hu, hsw, hsl, hl, hlate]), rfl, hnew, hslots, rfl, rfl, ?_, rfl, ?_, ?_⟩
  · exact congrArg (fun l : List Nat => l.getD _ 0) hslots
  · simp only [State.draw_number, hfree, hstage, State.dma_hostMem, State.draw_hostMem, hmem]
  · rw [hframe]
    rfl

/-- Without an address no status block is written (R351). -/
theorem writeStatus_without_address {s : State} (hheld : s.hif.writesHeld = false) (haddr : s.stAddr = 0) : writeStatus s = s :=
  (if_neg (by simp [hheld])).trans (if_neg (by simp [haddr]))

/-- A frame's end moves the frames alone. -/
theorem endFrame_frame (k : Nat) (s : State) : endFrame k s = { s with frm := (endFrame k s).frm } := rfl

/-- The last writes of a cairn: the rest of its body, its trailer, and its epoch with BUSY clear (R330). -/
def cairnPosted (k : Nat) (e : Staging) (s : State) : State :=
  ((s.dma (s.cairn.writeAddr + 64) (bodyBytes e)).dma (s.cairn.writeAddr + 133248) (trailerBytes k (s.cairn.header ++ bodyBytes e))).dma
    (s.cairn.writeAddr + 8) (leBytes 8 k)

theorem cairnPosted_frame (k : Nat) (e : Staging) (s : State) :
    ∃ m, cairnPosted k e s = { s with hostMem := m } ∧ m = Memory.write (Memory.write (Memory.write s.hostMem (s.cairn.writeAddr + 64) (bodyBytes e))
      (s.cairn.writeAddr + 133248) (trailerBytes k (s.cairn.header ++ bodyBytes e))) (s.cairn.writeAddr + 8) (leBytes 8 k) :=
  ⟨_, rfl, by simp only [State.dma_hostMem]⟩

/-- CAIRN_COMPLETE while posted writes are accepted: the cairn is posted, it becomes the latest and its frame the seed, and then
come the status block, EV32 and the end of the frame. -/
theorem cairnComplete_eq {s : State} {f : FrameRec} {k : Nat} (hheld : s.hif.writesHeld = false) (hf : s.cairnFrame = some f)
    (hw : s.cairn.writing = some k) (hcut : s.cairn.cut = false) (hl : s.hif.linkUp = true) (hlate : cairnLate s f = false) :
    ∃ d, exec .cairnComplete s = .next (endFrame k (raise 32 (k % two32) (writeStatus { cairnPosted k (cairnStaging s k f.modes) s with
      cairn := { s.cairn with lc := some s.cairn.writeSlot, writing := none, latestEpoch := k, latestSlot := some s.cairn.writeSlot
                              lastDone := some s.clk.ticks, digests := d }
      est := { s.est with seed := cairnStaging s k f.modes }
      diag := { s.diag with supplyOut := s.diag.supplyOut && s.pwr.state == .hold } }))) := by
  have hx : exec .cairnComplete s = execCairnComplete s := rfl
  simp only [hx, execCairnComplete, hf, hw, drainWrites_eq hheld, cairnPosted]
  exact ⟨_, if_neg (by simp [hcut, hl, hlate])⟩

/-- The status block, an event that the log does not record and the end of a frame move no more than their own parts. -/
theorem closeCairn_frame (k e i : Nat) (u : State) :
    ∃ p v h m, endFrame k (recordEvent e i (writeStatus u)) = { u with frm := p, evt := v, hif := h, hostMem := m } := by
  rw [endFrame_frame, recordEvent_frame, writeStatus_frame]
  exact ⟨_, _, _, _, rfl⟩

theorem closeCairn_pends {k e : Nat} (i : Nat) {u : State} (h : u.evt.en.getLsbD e = true) :
    (endFrame k (recordEvent e i (writeStatus u))).evt.pend.getLsbD e = true :=
  recordEvent_pends i (by simpa using h)

theorem closeCairn_hostMem {k e i : Nat} {u : State} (hheld : u.hif.writesHeld = false) (haddr : u.stAddr = 0) :
    (endFrame k (recordEvent e i (writeStatus u))).hostMem = u.hostMem := by
  rw [endFrame_frame, writeStatus_without_address hheld haddr]
  simp

theorem cairn_completes {s : State} {f : FrameRec} {k : Nat} (hheld : s.hif.writesHeld = false) (hf : s.cairnFrame = some f)
    (hw : s.cairn.writing = some k) (hcut : s.cairn.cut = false) (hl : s.hif.linkUp = true) (hlate : cairnLate s f = false) :
    ∃ t, exec .cairnComplete s = .next t ∧ t.cairn.latestEpoch = k ∧ t.cairn.latestSlot = some s.cairn.writeSlot ∧ t.cairn.writing = none ∧
      t.cairn.lc = some s.cairn.writeSlot ∧ t.est.seed = cairnStaging s k f.modes ∧ t.diag.supplyOut = (s.diag.supplyOut && s.pwr.state == .hold) ∧
      (s.evt.en.getLsbD 32 = true → t.evt.pend.getLsbD 32 = true) ∧
      (s.stAddr = 0 → t.hostMem = Memory.write (Memory.write (Memory.write s.hostMem (s.cairn.writeAddr + 64) (bodyBytes (cairnStaging s k f.modes)))
        (s.cairn.writeAddr + 133248) (trailerBytes k (s.cairn.header ++ bodyBytes (cairnStaging s k f.modes)))) (s.cairn.writeAddr + 8) (leBytes 8 k)) ∧
      t = { s with cairn := t.cairn, est := t.est, diag := t.diag, frm := t.frm, evt := t.evt, hif := t.hif, hostMem := t.hostMem } := by
  obtain ⟨d, hx⟩ := cairnComplete_eq hheld hf hw hcut hl hlate
  obtain ⟨m, hposted, hm⟩ := cairnPosted_frame k (cairnStaging s k f.modes) s
  rw [raise_eq_of_unlogged _ _ (by decide), hposted] at hx
  obtain ⟨u, hu, hx⟩ : ∃ u, u = _ ∧ exec .cairnComplete s = .next (endFrame k (recordEvent 32 (k % two32) (writeStatus u))) := ⟨_, rfl, hx⟩
  have hpend := closeCairn_pends (k := k) (e := 32) (k % two32) (u := u)
  have hmem := closeCairn_hostMem (k := k) (e := 32) (i := k % two32) (u := u)
  obtain ⟨p, v, h, m', ht⟩ := closeCairn_frame k 32 (k % two32) u
  generalize endFrame k (recordEvent 32 (k % two32) (writeStatus u)) = t at hx hpend hmem ht
  subst hu
  refine ⟨t, hx, ?_, ?_, ?_, ?_, ?_, ?_, hpend, fun haddr => (hmem hheld haddr).trans hm, ?_⟩
  iterate 7 rw [ht]

/-- What CAIRN_DEADLINE learns of the root complex: posted writes are held from now on, or those that waited are written (R373). -/
def noteHeld (held : Bool) (s : State) : State :=
  if held then { s with hif := { s.hif with writesHeld := true } } else drainWrites s

theorem noteHeld_frame (held : Bool) (s : State) :
    noteHeld held s = { s with hif := (noteHeld held s).hif, hostMem := (noteHeld held s).hostMem } ∧
    (noteHeld held s).hif.linkUp = s.hif.linkUp ∧ (noteHeld held s).hif.writesHeld = held := by
  cases held with
  | true => exact ⟨rfl, rfl, rfl⟩
  | false => exact drainWrites_postsOnly s

theorem cairnDeadline_eq {s : State} {f : FrameRec} (held : Bool) (hf : s.cairnFrame = some f) (hlate : cairnLate s f = true) :
    exec (.cairnDeadline held) s = .next (abandonCairn f.epoch held (noteHeld held s)) := by
  have hx : exec (.cairnDeadline held) s = execCairnDeadline held s := rfl
  simp only [hx, execCairnDeadline, hf, if_pos hlate]
  rfl

/-- A cairn with slots is given up outside HOLD: SKIPPED, the outage of its cause, the frame's end and EV33. -/
theorem abandonCairn_eq {s : State} (epoch : Nat) (held : Bool) (hsl : noSlots s.slotsNext = false) (hs : s.pwr.state ≠ .hold) :
    ∃ w, abandonCairn epoch held s = recordEvent 33 (epoch % two32) (endFrame epoch (countOutage held { s with
      cairn := { s.cairn with abandoned := epoch :: s.cairn.abandoned.take 3, writing := w, skipped := wrap32 (s.cairn.skipped + 1) } })) :=
  ⟨_, (if_neg (by simp [hsl])).trans ((if_neg (by simpa using hs)).trans (raise_eq_of_unlogged _ _ (by decide)))⟩

/-- An abandonment counts under one cause: the supply, else the host, else the device (R510). -/
theorem countOutage_counts (held : Bool) (s : State) :
    (countOutage held s).diag.outSupply = (if s.diag.supplyOut then sat32 (s.diag.outSupply + 1) else s.diag.outSupply) ∧
    (countOutage held s).diag.outHost = (if !s.diag.supplyOut && (!s.hif.linkUp || held) then sat32 (s.diag.outHost + 1) else s.diag.outHost) ∧
    (countOutage held s).diag.outDev = (if !s.diag.supplyOut && s.hif.linkUp && !held then sat32 (s.diag.outDev + 1) else s.diag.outDev) ∧
    countOutage held s = { s with diag := (countOutage held s).diag } := by
  cases hsup : s.diag.supplyOut with
  | true => simp [countOutage, hsup]
  | false => cases hup : s.hif.linkUp with
    | false => simp [countOutage, hsup, hup]
    | true => cases held <;> simp [countOutage, hsup, hup]

theorem cairn_abandoned {s : State} {f : FrameRec} (held : Bool) (hf : s.cairnFrame = some f) (hlate : cairnLate s f = true)
    (hsl : noSlots s.slotsNext = false) (hs : s.pwr.state ≠ .hold) :
    ∃ t, exec (.cairnDeadline held) s = .next t ∧ t.cairn.skipped = wrap32 (s.cairn.skipped + 1) ∧ f.epoch ∈ t.cairn.abandoned ∧
      t.diag.outSupply = (if s.diag.supplyOut then sat32 (s.diag.outSupply + 1) else s.diag.outSupply) ∧
      t.diag.outHost = (if !s.diag.supplyOut && (!s.hif.linkUp || held) then sat32 (s.diag.outHost + 1) else s.diag.outHost) ∧
      t.diag.outDev = (if !s.diag.supplyOut && s.hif.linkUp && !held then sat32 (s.diag.outDev + 1) else s.diag.outDev) ∧
      (s.evt.en.getLsbD 33 = true → t.evt.pend.getLsbD 33 = true) ∧ t.hif.writesHeld = held ∧
      t = { s with cairn := t.cairn, diag := t.diag, frm := t.frm, evt := t.evt, hif := t.hif, hostMem := t.hostMem } := by
  obtain ⟨hv, hlink, hheld⟩ := noteHeld_frame held s
  have hx := cairnDeadline_eq held hf hlate
  generalize noteHeld held s = v at hv hlink hheld hx
  obtain ⟨w, ha⟩ := abandonCairn_eq (s := v) f.epoch held (by rw [hv]; exact hsl) (by rw [hv]; exact hs)
  rw [ha] at hx
  obtain ⟨hsup, hhost, hdev, hcount⟩ := countOutage_counts held { v with
    cairn := { v.cairn with abandoned := f.epoch :: v.cairn.abandoned.take 3, writing := w, skipped := wrap32 (v.cairn.skipped + 1) } }
  simp only [hlink] at hhost hdev
  refine ⟨_, hx, ?_, ?_, ?_, ?_, ?_, fun hen => recordEvent_pends _ ?_, ?_, ?_⟩
  · rw [recordEvent_frame, endFrame_frame, hcount, hv]
  · rw [recordEvent_frame, endFrame_frame, hcount]; exact List.mem_cons_self
  · rw [recordEvent_frame, endFrame_frame, hsup, hv]
  · rw [recordEvent_frame, endFrame_frame, hhost, hv]
  · rw [recordEvent_frame, endFrame_frame, hdev, hv]
  · rw [endFrame_frame, hcount, hv]; exact hen
  · rw [recordEvent_frame, endFrame_frame, hcount]; exact hheld
  · rw [recordEvent_frame, endFrame_frame, hcount, hv]

/-! ### ALIVE (R336, R465) -/

theorem alive_still_in_halt {s : State} (h : s.pwr.state = .halt) : exec .aliveToggle s = .next s := if_pos (by simp [h])

theorem alive_toggles {s : State} {t0 : Nat} (h : s.pwr.state ≠ .halt) (hd : s.cairn.lastDone = some t0) :
    exec .aliveToggle s = .next (if s.clk.ticks - t0 ≤ max (secTicks 2) (3 * (s.frm.scheme.periodNs * 24 / 100))
      then { s with cairn := { s.cairn with alive := !s.cairn.alive } } else s) := by
  have hx : exec .aliveToggle s = execAliveToggle s := rfl
  simp only [hx, execAliveToggle, hd]
  exact if_neg (by simpa using h)

theorem alive_still_before_first_cairn {s : State} (hd : s.cairn.lastDone = none) : exec .aliveToggle s = .next s := by
  have hx : exec .aliveToggle s = execAliveToggle s := rfl
  simp only [hx, execAliveToggle, hd, ite_self]

/-- Past its deadline no cairn begins or completes. -/
theorem cairn_late_stands {s : State} {f : FrameRec} (hf : s.cairnFrame = some f) (hlate : cairnLate s f = true) :
    exec .cairnBegin s = .next s ∧ exec .cairnComplete s = .next s := by
  have hb : exec .cairnBegin s = execCairnBegin s := rfl
  have hc : exec .cairnComplete s = execCairnComplete s := rfl
  simp only [hb, hc, execCairnBegin, execCairnComplete, hf]
  refine ⟨if_pos (by simp [hlate]), ?_⟩
  cases s.cairn.writing with
  | none => rfl
  | some k => exact if_pos (by simp [hlate])

/-- Settles O40, clause by clause: begin, completion, abandonment, the deadline before and after its time, and ALIVE. -/
theorem cairnsCompleteOrAreAbandoned : Obligations.CairnsCompleteOrAreAbandoned := by
  refine fun s => ⟨fun f hf hw hu hsw hsl hl hlate => cairnBegin_eq hf hw hu hsw hsl hl hlate,
    fun f k hheld hf hw hcut hl hlate => cairn_completes hheld hf hw hcut hl hlate,
    fun f held hf hlate hsl hs => cairn_abandoned held hf hlate hsl hs, fun f held hf hlate => ?_,
    fun f hf hlate => cairn_late_stands hf hlate, alive_still_in_halt, fun t0 => alive_toggles, alive_still_before_first_cairn⟩
  have hx : exec (.cairnDeadline held) s = execCairnDeadline held s := rfl
  simp only [hx, execCairnDeadline, hf]
  exact congrArg _ (if_neg (by simp [hlate]))

end Sys2Proof.Machine

namespace Sys2Proof.Machine

/-! ### The end of a window for its strings (R46, R56) -/

/-- What an update of a string's metering keeps of every string, it keeps on the strings of the state. -/
theorem State.modMet_metStr_keeps {β : Type} {p : MetStr → β} {f : MetStr → MetStr} (h : ∀ m, p (f m) = p m) (s : State) (n k : Nat) :
    p ((s.modMet n f).metStr k) = p (s.metStr k) := by
  by_cases hk : n = k
  · subst hk
    by_cases hn : n < s.met.strs.length
    · rw [State.modMet_metStr_same hn, h]
    · rw [State.modMet, List.modify_eq_self (not_lt.1 hn)]
  · rw [State.modMet_metStr_other s hk]

/-- From `s` to `t` nothing moves but the metering of the strings. -/
def StringsOnly (s t : State) : Prop := t = { s with met := { s.met with strs := t.met.strs } }

theorem StringsOnly.refl (s : State) : StringsOnly s s := rfl

theorem StringsOnly.trans {s t u : State} (h : StringsOnly s t) (k : StringsOnly t u) : StringsOnly s u :=
  Eq.trans k (congrArg (fun v : State => { v with met := { v.met with strs := u.met.strs } }) h)

theorem StringsOnly.keeps {s t : State} (h : StringsOnly s t) :
    t.clk = s.clk ∧ t.frm = s.frm ∧ t.met.winLen = s.met.winLen ∧ t.met.refBackup = s.met.refBackup ∧ t.met.refRatio = s.met.refRatio ∧
    t.met.ports = s.met.ports := by
  unfold StringsOnly at h
  refine ⟨?_, ?_, ?_, ?_, ?_, ?_⟩ <;> rw [h]

theorem StringsOnly.modMet (n : Nat) (f : MetStr → MetStr) (s : State) : StringsOnly s (s.modMet n f) := rfl

theorem StringsOnly.foldl {f : State → Nat → State} (h : ∀ s n, StringsOnly s (f s n)) (l : List Nat) (s : State) : StringsOnly s (l.foldl f s) :=
  List.foldlRecOn (motive := StringsOnly s) l f (.refl s) (fun t ht n _ => ht.trans (h t n))

theorem markFrame_eq (n num : Nat) (s : State) : markFrame n num s = s ∨ ∃ k, markFrame n num s = s.modMet n (fun m => m.mark k) := by
  unfold markFrame
  split
  · exact .inr ⟨_, rfl⟩
  · exact .inl rfl

theorem markFrame_stringsOnly (n num : Nat) (s : State) : StringsOnly s (markFrame n num s) := by
  obtain h | ⟨k, h⟩ := markFrame_eq n num s <;> rw [h]
  exacts [.refl s, .modMet ..]

theorem markFrame_others {n k : Nat} (num : Nat) (s : State) (h : k ≠ n) : (markFrame k num s).metStr n = s.metStr n := by
  obtain e | ⟨_, e⟩ := markFrame_eq k num s <;> rw [e]
  exact State.modMet_metStr_other s h _

theorem closeWindow_stringsOnly (n num start len : Nat) (trans : Bool) (s : State) : StringsOnly s (closeWindow n num start len trans s) := by
  unfold closeWindow
  dsimp only
  split
  · exact .modMet ..
  · exact StringsOnly.trans (.modMet ..) (markFrame_stringsOnly ..)

theorem closeWindow_others {n k : Nat} (num start len : Nat) (trans : Bool) (s : State) (h : k ≠ n) :
    (closeWindow k num start len trans s).metStr n = s.metStr n := by
  unfold closeWindow
  dsimp only
  split
  · exact State.modMet_metStr_other s h _
  · rw [markFrame_others _ _ h, State.modMet_metStr_other s h]

theorem closeWindow_length (n num start len : Nat) (trans : Bool) (s : State) :
    (closeWindow n num start len trans s).met.strs.length = s.met.strs.length := by
  unfold closeWindow
  dsimp only
  split
  · simp
  · obtain e | ⟨_, e⟩ := markFrame_eq n num _ <;> rw [e] <;> simp

/-- A string that counted its window has one more window that waits for its charge. -/
theorem closeWindow_waits {n : Nat} (num start len : Nat) (trans : Bool) {s : State} (hn : n < s.met.strs.length)
    (hen : (s.metStr n).snap.enabled = true) :
    ((closeWindow n num start len trans s).metStr n).waiting.length = (s.metStr n).waiting.length + 1 := by
  simp only [closeWindow, if_pos hen]
  rw [State.modMet_metStr_same hn]
  simp

/-- The window ends for every string that counted it. -/
theorem closeWindows_wait {n : Nat} (num start len : Nat) (trans : Bool) {s : State} (hn : n < 8) (hl : n < s.met.strs.length)
    (hen : (s.metStr n).snap.enabled = true) :
    (((List.range 8).foldl (fun s n => closeWindow n num start len trans s) s).metStr n).waiting.length = (s.metStr n).waiting.length + 1 := by
  obtain ⟨u, hu, hfold⟩ := foldl_strings (fun t => (t.metStr n, t.met.strs.length)) (fun s n => closeWindow n num start len trans s) hn
    (fun t k hk => by rw [closeWindow_others _ _ _ _ _ hk, closeWindow_length]) s
  simp only [Prod.mk.injEq] at hu hfold
  rw [hfold.1, closeWindow_waits _ _ _ _ (hu.2 ▸ hl) (by rwa [hu.1]), hu.1]

/-! ### The boundary (R12, R15, R39, R69, R72, R73) -/

theorem closeFrame_keeps (b : Nat) (s : State) :
    (closeFrame b s).clk = s.clk ∧ (closeFrame b s).met = s.met ∧ (closeFrame b s).frm.win = s.frm.win := by
  unfold closeFrame
  dsimp only
  split <;> simp

theorem endJob_keeps (r t : Nat) (j : Job) (s : State) :
    (endJob r t j s).clk = s.clk ∧ (endJob r t j s).met = s.met ∧ (endJob r t j s).frm = s.frm := by
  simp only [endJob, writeFinal, writePoint, leaveTurn]
  repeat' split
  all_goals simp

theorem abortJobs_keeps (s : State) : (abortJobs s).clk = s.clk ∧ (abortJobs s).met = s.met ∧ (abortJobs s).frm = s.frm := by
  refine List.foldlRecOn (motive := fun t : State => t.clk = s.clk ∧ t.met = s.met ∧ t.frm = s.frm) _ _ ⟨rfl, rfl, rfl⟩ ?_
  rintro t ⟨hclk, hmet, hfrm⟩ j -
  rw [← hclk, ← hmet, ← hfrm]
  split
  · exact ⟨rfl, rfl, rfl⟩
  · split
    · exact endJob_keeps ..
    · exact ⟨rfl, rfl, rfl⟩

theorem judgePeriod_frame (s : State) : s.judgePeriod = { s with frm := { s.frm with reanchors := s.judgePeriod.frm.reanchors } } := by
  unfold State.judgePeriod
  dsimp only
  split <;> rfl

theorem applyPower_keeps (l : List Reanchor) (s : State) :
    (applyPower l s).clk = s.clk ∧ (applyPower l s).met = s.met ∧ (applyPower l s).frm = s.frm := by
  unfold applyPower
  split
  · simp [abortJobs_keeps]
  · simp
  · exact ⟨rfl, rfl, rfl⟩

theorem reanchorAt_keeps (b : Nat) (s : State) :
    (reanchorAt b s).clk = s.clk ∧ (reanchorAt b s).met = s.met ∧ (reanchorAt b s).frm.win = s.frm.win := by
  unfold reanchorAt
  dsimp only
  split
  · exact ⟨rfl, rfl, rfl⟩
  · simp only [applyPower_keeps]
    split
    · rw [judgePeriod_frame]
      exact ⟨rfl, rfl, rfl⟩
    · exact ⟨rfl, rfl, rfl⟩

theorem advanceTurns_frame (k : Nat) (s : State) :
    ∃ d b t, advanceTurns k s = { s with met := { s.met with owDue := d, owBase := b, owTurn := t } } := by
  induction k generalizing s with
  | zero => exact ⟨_, _, _, rfl⟩
  | succ k ih =>
    unfold advanceTurns
    split
    · obtain ⟨d, b, t, h⟩ := ih _
      exact ⟨d, b, t, h⟩
    · exact ⟨_, _, _, rfl⟩

/-- Scheduling the tests of the rests that begin moves nothing that a window is made of, and takes away no charge that waits. -/
theorem scheduleTests_spec (s : State) :
    (scheduleTests s).clk = s.clk ∧ (scheduleTests s).frm = s.frm ∧ (scheduleTests s).met.winLen = s.met.winLen ∧
    (scheduleTests s).met.refBackup = s.met.refBackup ∧ ∀ n, ((scheduleTests s).metStr n).waiting = (s.metStr n).waiting := by
  unfold scheduleTests
  obtain ⟨d, b, t, h⟩ := advanceTurns_frame 256 s
  generalize advanceTurns 256 s = u at h ⊢
  subst h
  refine ⟨rfl, rfl, rfl, rfl, fun n => ?_⟩
  simp only [State.metStr, List.getD_eq_getElem?_getD, List.getElem?_map, List.getElem?_zipIdx]
  cases s.met.strs[n]? <;> rfl

/-- At a window start the backup reference lasts while it is asked for. -/
theorem owBoundary_spec (s : State) :
    (owBoundary s).clk = s.clk ∧ (owBoundary s).frm = s.frm ∧ (owBoundary s).met.winLen = s.met.winLen ∧
    (owBoundary s).met.refBackup = (s.met.refBackup && (s.rrefOpen || s.met.refRatio)) ∧
    ∀ n, ((owBoundary s).metStr n).waiting = (s.metStr n).waiting :=
  scheduleTests_spec _

theorem takeUnit_keeps (u : Nat) (s : State) :
    (takeUnit u s).clk = s.clk ∧ (takeUnit u s).frm = s.frm ∧ (takeUnit u s).met = s.met := by
  unfold takeUnit
  dsimp only
  split
  · simp only [raise_keeps]
    split <;> exact ⟨rfl, rfl, rfl⟩
  · exact ⟨rfl, rfl, rfl⟩

theorem tuneBoundary_keeps (win : Nat) (s : State) :
    (tuneBoundary win s).clk = s.clk ∧ (tuneBoundary win s).frm = s.frm ∧ (tuneBoundary win s).met = s.met := by
  have hcorr : (takeRrefCorr s).clk = s.clk ∧ (takeRrefCorr s).frm = s.frm ∧ (takeRrefCorr s).met = s.met := by
    unfold takeRrefCorr
    split <;> exact ⟨rfl, rfl, rfl⟩
  have hfold (g : Nat → Nat) (l : List Nat) (s : State) : (l.foldl (fun s n => takeUnit (g n) s) s).clk = s.clk ∧
      (l.foldl (fun s n => takeUnit (g n) s) s).frm = s.frm ∧ (l.foldl (fun s n => takeUnit (g n) s) s).met = s.met :=
    ⟨foldl_keeps State.clk _ (fun _ _ => (takeUnit_keeps ..).1) l s, foldl_keeps State.frm _ (fun _ _ => (takeUnit_keeps ..).2.1) l s,
      foldl_keeps State.met _ (fun _ _ => (takeUnit_keeps ..).2.2) l s⟩
  simp [tuneBoundary, hfold, hcorr]

theorem openWindow_stringsOnly (n num : Nat) (s : State) : StringsOnly s (openWindow n num s) := .modMet ..

theorem openWindow_waiting (n num k : Nat) (s : State) : ((openWindow n num s).metStr k).waiting = (s.metStr k).waiting := by
  unfold openWindow
  refine State.modMet_metStr_keeps (p := MetStr.waiting) ?_ s n k
  exact fun _ => rfl

/-- The boundary of a grid at this tick is a matter of the clock. -/
theorem gridNow_congr {s t : State} (h : t.clk = s.clk) (c : Scheme) : gridNow c t = gridNow c s := by
  unfold gridNow withinTick rawIn State.now
  rw [h]

/-- The window that begins at this tick (R15). -/
def windowBegun (s : State) : FrameState :=
  { s.frm with
    win := s.frm.win + 1, winStart := s.clk.ticks, frozen := false
    winTime := if s.frm.scheme.fixed then (gridNow s.frm.scheme s).getD s.now else s.now }

/-- The plan of a window's end and of the nominal instants moves no window's number, start or scheme. -/
theorem planNext_keeps (s : State) :
    ∃ f, planEnd (passNominal s) = { s with frm := f } ∧ f.win = s.frm.win ∧ f.winStart = s.frm.winStart ∧ f.winTime = s.frm.winTime ∧
      f.frozen = s.frm.frozen ∧ f.scheme = s.frm.scheme := by
  unfold passNominal
  dsimp only
  split <;> exact ⟨_, rfl, rfl, rfl, rfl, rfl, rfl⟩

/-- The windows that open move the strings' metering alone, and no charge that waits. -/
theorem openWindows_spec (num : Nat) (s : State) :
    StringsOnly s ((List.range 8).foldl (fun s n => openWindow n num s) s) ∧
    ∀ k, (((List.range 8).foldl (fun s n => openWindow n num s) s).metStr k).waiting = (s.metStr k).waiting :=
  ⟨.foldl (fun s n => openWindow_stringsOnly n num s) _ s,
    fun k => foldl_keeps (fun s : State => (s.metStr k).waiting) _ (fun s n => openWindow_waiting n num k s) _ s⟩

/-- The strings' metering opened in the window that begins (R46, R56, R73). -/
def meteringOpened (num : Nat) (s : State) : State :=
  (List.range 8).foldl (fun s n => openWindow n num s) (tuneBoundary num (owBoundary s))

theorem meteringOpened_spec (num : Nat) (s : State) :
    (meteringOpened num s).clk = s.clk ∧ (meteringOpened num s).frm = s.frm ∧ (meteringOpened num s).met.winLen = s.met.winLen ∧
    (meteringOpened num s).met.refBackup = (s.met.refBackup && (s.rrefOpen || s.met.refRatio)) ∧
    ∀ n, ((meteringOpened num s).metStr n).waiting = (s.metStr n).waiting := by
  obtain ⟨hoclk, hofrm, holen, horef, howait⟩ := owBoundary_spec s
  obtain ⟨htclk, htfrm, htmet⟩ := tuneBoundary_keeps num (owBoundary s)
  obtain ⟨honly, hwait⟩ := openWindows_spec num (tuneBoundary num (owBoundary s))
  obtain ⟨hclk, hfrm, hlen, href, -, -⟩ := honly.keeps
  rw [meteringOpened, hclk, htclk, hoclk, hfrm, htfrm, hofrm, hlen, href, htmet, holen, horef]
  exact ⟨rfl, rfl, rfl, rfl, fun n => by rw [hwait, ← howait, State.metStr, State.metStr, htmet]⟩

/-- The next window's end is planned, then the strings' metering opened in it. -/
theorem nextWindow_eq (s : State) :
    nextWindow s = meteringOpened (s.frm.win + 1) (planEnd (passNominal { s with frm := windowBegun s })) := by
  unfold nextWindow windowBegun meteringOpened
  dsimp only

/-- The next window: its number and start, its label, an end that no SYNC has frozen; what waits for its charge waits on. -/
theorem nextWindow_spec (s : State) :
    (nextWindow s).clk = s.clk ∧ (nextWindow s).frm.win = s.frm.win + 1 ∧ (nextWindow s).frm.winStart = s.clk.ticks ∧
    (nextWindow s).frm.frozen = false ∧
    (nextWindow s).frm.winTime = (if (nextWindow s).frm.scheme.fixed then (gridNow (nextWindow s).frm.scheme s).getD s.now else s.now) ∧
    (nextWindow s).met.winLen = s.met.winLen ∧ (nextWindow s).met.refBackup = (s.met.refBackup && (s.rrefOpen || s.met.refRatio)) ∧
    ∀ n, ((nextWindow s).metStr n).waiting = (s.metStr n).waiting := by
  obtain ⟨f, hplan, hwin, hstart, htime, hfrozen, hscheme⟩ := planNext_keeps { s with frm := windowBegun s }
  obtain ⟨hclk, hfrm, hlen, href, hwait⟩ := meteringOpened_spec (s.frm.win + 1) (planEnd (passNominal { s with frm := windowBegun s }))
  rw [← nextWindow_eq] at hclk hfrm hlen href hwait
  rw [hplan] at hclk hfrm hlen href hwait
  rw [hclk, hfrm, hlen, href]
  exact ⟨rfl, hwin, hstart, hfrozen, htime.trans (by rw [hscheme]; rfl), rfl, rfl, hwait⟩

/-! ### WINDOW_BOUNDARY -/

/-- The windows of all strings that end at this boundary, and what the boundary brings before the next window begins. -/
theorem closeAndReanchor_keeps (b : Nat) {s t : State} (h : StringsOnly s t) :
    (reanchorAt b (closeFrame b t)).clk = s.clk ∧ (reanchorAt b (closeFrame b t)).frm.win = s.frm.win ∧
    (reanchorAt b (closeFrame b t)).met = t.met := by
  obtain ⟨hrclk, hrmet, hrwin⟩ := reanchorAt_keeps b (closeFrame b t)
  obtain ⟨hcclk, hcmet, hcwin⟩ := closeFrame_keeps b t
  rw [hrclk, hcclk, hrwin, hcwin, hrmet, hcmet]
  obtain ⟨hclk, hfrm, -⟩ := h.keeps
  exact ⟨hclk, congrArg FrameState.win hfrm, rfl⟩

/-- Settles O21: the next window is opened on the state in which every string's window has ended; neither the close of a frame
nor a re-anchoring moves the clock or the metering. -/
theorem windowBoundaryOpensTheNext : Obligations.WindowBoundaryOpensTheNext := by
  unfold Obligations.WindowBoundaryOpensTheNext
  intro s hmet
  have hx : exec (.windowBoundary ⟨⟩) s = execWindowBoundary ⟨⟩ s := rfl
  refine ⟨fun hend => ?_, fun hend => ?_⟩
  · obtain ⟨u, hu⟩ : ∃ u : State, u = { s with met := { s.met with winLen := wrap32 (s.clk.ticks - s.frm.winStart) } } := ⟨_, rfl⟩
    obtain ⟨v, hv⟩ : ∃ v, v = (List.range 8).foldl
      (fun t n => closeWindow n s.frm.win s.frm.winStart (s.clk.ticks - s.frm.winStart) s.frm.transition t) u := ⟨_, rfl⟩
    obtain ⟨w, hw⟩ : ∃ w, w = reanchorAt s.clk.ticks (closeFrame s.clk.ticks v) := ⟨_, rfl⟩
    have hnext : exec (.windowBoundary ⟨⟩) s = .next (nextWindow w) := by
      rw [hx, execWindowBoundary, if_neg (by simp [hmet, hend]), hw, hv, hu]
    have honly : StringsOnly u v := hv ▸ .foldl (fun t n => closeWindow_stringsOnly ..) _ u
    obtain ⟨hclk, hwin, hmetw⟩ := closeAndReanchor_keeps s.clk.ticks honly
    rw [← hw] at hclk hwin hmetw
    have hstrs (n : Nat) : u.metStr n = s.metStr n := by rw [hu]; rfl
    obtain ⟨-, -, hvlen, hvref, hvratio, hvports⟩ := honly.keeps
    rw [← hmetw] at hvlen hvref hvratio hvports
    have hclku : w.clk = s.clk := hclk.trans (by rw [hu])
    obtain ⟨hnclk, hnwin, hnstart, hnfrozen, hntime, hnlen, hnref, hnwait⟩ := nextWindow_spec w
    refine ⟨nextWindow w, hnext, ?_, ?_, hnfrozen, ?_, ?_, hnclk.trans hclku, ?_, fun n hn hl hen => ?_⟩
    · rw [hnwin, hwin, hu]
    · rw [hnstart, hclku]
    · rw [hntime, gridNow_congr hclku, State.now, hclku]
      rfl
    · rw [hnlen, hvlen, hu]
    · rw [hnref, State.rrefOpen, hvref, hvratio, hvports, hu]
      rfl
    · have hwv : w.metStr n = v.metStr n := by simp only [State.metStr, hmetw]
      rw [hnwait, hwv, hv, closeWindows_wait _ _ _ _ hn (by rwa [hu]) (by rwa [hstrs]), hstrs]
  · rw [hx, execWindowBoundary, if_pos (by simp [hend])]

end Sys2Proof.Machine

namespace Sys2Proof.Machine

/-! ### What takes force at a sample instant (R337, R386, R394) -/

/-- From `s` to `t` the clock, the metering, the time block, the waiting changes, the window in progress and the frames stand. -/
structure SparesWindow (s t : State) : Prop where
  clk : t.clk = s.clk
  met : t.met = s.met
  tim : t.tim = s.tim
  waiting : t.cfg.waiting = s.cfg.waiting
  win : t.frm.win = s.frm.win
  winStart : t.frm.winStart = s.frm.winStart
  winTime : t.frm.winTime = s.frm.winTime
  frames : t.frm.frames = s.frm.frames

namespace SparesWindow

theorem refl (s : State) : SparesWindow s s := ⟨rfl, rfl, rfl, rfl, rfl, rfl, rfl, rfl⟩

theorem trans {s t u : State} (h : SparesWindow s t) (k : SparesWindow t u) : SparesWindow s u :=
  ⟨k.clk.trans h.clk, k.met.trans h.met, k.tim.trans h.tim, k.waiting.trans h.waiting, k.win.trans h.win, k.winStart.trans h.winStart,
    k.winTime.trans h.winTime, k.frames.trans h.frames⟩

/-- A step that keeps the five parts spares the window. -/
theorem of_keeps {s t : State} (hclk : t.clk = s.clk) (hmet : t.met = s.met) (htim : t.tim = s.tim) (hcfg : t.cfg = s.cfg) (hfrm : t.frm = s.frm) :
    SparesWindow s t :=
  ⟨hclk, hmet, htim, hcfg ▸ rfl, hfrm ▸ rfl, hfrm ▸ rfl, hfrm ▸ rfl, hfrm ▸ rfl⟩

theorem foldl {α : Type} {f : State → α → State} (h : ∀ s a, SparesWindow s (f s a)) (l : List α) (s : State) : SparesWindow s (l.foldl f s) :=
  List.foldlRecOn (motive := SparesWindow s) l f (.refl s) (fun t ht a _ => ht.trans (h t a))

end SparesWindow

theorem complete_sparesWindow (op : Nat) (sub : Submission) (st : Nat) (r : List Byte) (s : State) : SparesWindow s (complete op sub st r s) :=
  .of_keeps (by simp) (by simp) (by simp) (by simp) (by simp)

theorem ropeGap_sparesWindow (n : Nat) (s : State) : SparesWindow s (ropeGap n s) :=
  .of_keeps (by simp) (by simp) (by simp) (by simp) (by simp)

theorem judgePeriod_sparesWindow (s : State) : SparesWindow s s.judgePeriod := by
  unfold State.judgePeriod
  dsimp only
  split <;> exact ⟨rfl, rfl, rfl, rfl, rfl, rfl, rfl, rfl⟩

theorem rewriteMons_sparesWindow (n : Nat) (s : State) : SparesWindow s (rewriteMons n s) := by
  unfold rewriteMons
  refine .trans ?_ (ropeGap_sparesWindow ..)
  exact .of_keeps rfl rfl rfl rfl rfl

theorem retie_sparesWindow (n : Nat) (s : State) : SparesWindow s (retie n s) := by
  unfold retie tieBegin
  split
  · exact .of_keeps rfl rfl rfl rfl rfl
  · exact .of_keeps (by simp) (by simp) (by simp) (by simp) (by simp)

theorem modeEvent_sparesWindow (n : Nat) (r : RopeStr) (s : State) : SparesWindow s (modeEvent n r s) := by
  unfold modeEvent
  dsimp only
  split
  · exact .of_keeps (by simp) (by simp) (by simp) (by simp) (by simp)
  · exact .refl s

theorem tieCmdDone_sparesWindow (n : Nat) (s : State) : SparesWindow s (tieCmdDone n s) := by
  unfold tieCmdDone
  refine .trans ?_ (.foldl (fun _ _ => complete_sparesWindow ..) _ _)
  exact .of_keeps rfl rfl rfl rfl rfl

theorem authUnreach_sparesWindow (n : Nat) (s : State) : SparesWindow s (authUnreach n s) := by
  unfold authUnreach
  refine .trans ?_ (.foldl (fun _ _ => complete_sparesWindow ..) _ _)
  exact .of_keeps rfl rfl rfl rfl rfl

theorem toneLevel_sparesWindow (s : State) : SparesWindow s (toneLevel s) := .of_keeps rfl rfl rfl rfl rfl

theorem stopRope_sparesWindow (n : Nat) (s : State) : SparesWindow s (stopRope n s) := by
  have hmode (r : RopeStr) (u : State) : SparesWindow s u → SparesWindow s (modeEvent n r u) := fun h => h.trans (modeEvent_sparesWindow ..)
  have htie (b : Bool) (u : State) : SparesWindow s u → SparesWindow s (if b then tieCmdDone n u else u) := fun h => by
    split
    · exact h.trans (tieCmdDone_sparesWindow n u)
    · exact h
  unfold stopRope
  refine SparesWindow.trans ?_ (toneLevel_sparesWindow _)
  refine SparesWindow.trans ?_ (authUnreach_sparesWindow _ _)
  refine htie _ _ (SparesWindow.trans ?_ (.foldl (fun _ _ => complete_sparesWindow ..) _ _))
  exact hmode _ _ (.of_keeps rfl rfl rfl rfl rfl)

theorem takeSection_sparesWindow (old : StrCfg) (n : Nat) (s : State) : SparesWindow s (takeSection old n s) := by
  have hfrozen (v : Nat) (u : State) : SparesWindow u (setFrozen n v u) := .of_keeps rfl rfl rfl rfl rfl
  unfold takeSection
  extract_lets new was now u v
  have hu : SparesWindow s u := by
    unfold u
    split
    · split
      · exact hfrozen ..
      · exact .refl s
    · exact .refl s
  have hv : SparesWindow u v := by
    unfold v
    split
    · exact rewriteMons_sparesWindow ..
    · exact .refl u
  split
  · exact hu.trans (stopRope_sparesWindow ..)
  · split
    · exact hu
    · split
      · exact hu.trans (hv.trans (retie_sparesWindow ..))
      · exact hu.trans hv

theorem takeConfig_sparesWindow (b : ConfigBlock) (s : State) : SparesWindow s (takeConfig b s) := by
  unfold takeConfig
  refine .trans ?_ (judgePeriod_sparesWindow _)
  refine .trans ?_ (.foldl (fun _ _ => takeSection_sparesWindow ..) _ _)
  unfold pinsRestart
  exact ⟨rfl, rfl, rfl, rfl, rfl, rfl, rfl, rfl⟩

theorem takePolicy_sparesWindow (n : Nat) (c : StrCfg) (s : State) : SparesWindow s (takePolicy n c s) := by
  unfold takePolicy
  dsimp only
  split
  · refine .trans ?_ (rewriteMons_sparesWindow ..)
    exact ⟨rfl, rfl, rfl, rfl, rfl, rfl, rfl, rfl⟩
  · exact ⟨rfl, rfl, rfl, rfl, rfl, rfl, rfl, rfl⟩

theorem takeOne_sparesWindow (t : TakeForce) (s : State) : SparesWindow s (takeOne t s) := by
  cases t with
  | config b => exact takeConfig_sparesWindow b s
  | images l =>
    rw [takeOne, takeImages]
    refine .trans ?_ (judgePeriod_sparesWindow _)
    exact ⟨rfl, rfl, rfl, rfl, rfl, rfl, rfl, rfl⟩
  | balPolicy n c => exact takePolicy_sparesWindow n c s
  | states | caps => exact .refl s
  | override => exact .of_keeps rfl rfl rfl rfl rfl

/-- The changes whose START SYNC has been sent wait no longer (R337, R386). -/
def forcesDue (s : State) : State :=
  { s with cfg := { s.cfg with
    waiting := s.cfg.waiting.filter (fun w => !w.synced)
    takeGen := reachedGen (s.cfg.waiting.filter (fun w => !w.synced)) s.cfg.takeNext } }

theorem takeForces_sparesWindow (epoch : Nat) (s : State) : SparesWindow (forcesDue s) (takeForces epoch s) := by
  unfold takeForces
  have h := SparesWindow.foldl (f := fun u t => takeOne t u) (fun u t => takeOne_sparesWindow t u)
    (governing ((s.cfg.waiting.filter (·.synced)).map (·.what))) (forcesDue s)
  exact h.trans (.of_keeps rfl rfl rfl rfl rfl)

/-! ### The converters take up what waits (R119 to R135) -/

section

variable {s : State}

@[simp] theorem injectBegins_keeps (c : Nat) :
    (injectBegins c s).clk = s.clk ∧ (injectBegins c s).frm = s.frm ∧ (injectBegins c s).met = s.met ∧ (injectBegins c s).cfg = s.cfg ∧
    (injectBegins c s).est = s.est ∧ (injectBegins c s).tim = s.tim ∧ (injectBegins c s).pwr = s.pwr := by
  simp [injectBegins]

/-- A run that ends completes commands and raises EV57. -/
@[simp] theorem runEnded_keeps (r : InjRun) :
    (runEnded r s).clk = s.clk ∧ (runEnded r s).frm = s.frm ∧ (runEnded r s).met = s.met ∧ (runEnded r s).cfg = s.cfg ∧
    (runEnded r s).est = s.est ∧ (runEnded r s).tim = s.tim ∧ (runEnded r s).pwr = s.pwr := by
  have hfold (l : List InjWait) (u : State) {β : Type} (p : State → β) (h : ∀ op sub st r v, p (complete op sub st r v) = p v) :
      p (l.foldl (fun v w => complete 0x51 w.sub stOK (injectResult w) v) u) = p u := foldl_keeps p _ (fun _ _ => h ..) l u
  unfold runEnded injectComplete
  dsimp only
  split <;> split <;> simp [hfold]

/-- What a converter begins is the converters' own matter. -/
@[simp] theorem startConv_keeps (c : Nat) (u : ConvUse) (k : Nat) (t : Option Nat) (l : Bool) :
    (startConv c u k t l s).clk = s.clk ∧ (startConv c u k t l s).frm = s.frm ∧ (startConv c u k t l s).met = s.met ∧
    (startConv c u k t l s).cfg = s.cfg ∧ (startConv c u k t l s).est = s.est ∧ (startConv c u k t l s).tim = s.tim ∧
    (startConv c u k t l s).pwr = s.pwr := by
  simp [startConv]

@[simp] theorem startWide_keeps (c : Nat) (e : Nat × Nat) :
    (startWide c e s).clk = s.clk ∧ (startWide c e s).frm = s.frm ∧ (startWide c e s).met = s.met ∧ (startWide c e s).cfg = s.cfg ∧
    (startWide c e s).est = s.est ∧ (startWide c e s).tim = s.tim ∧ (startWide c e s).pwr = s.pwr := by
  simp [startWide]

@[simp] theorem startRegular_keeps (c : Nat) :
    (startRegular c s).clk = s.clk ∧ (startRegular c s).frm = s.frm ∧ (startRegular c s).met = s.met ∧ (startRegular c s).cfg = s.cfg ∧
    (startRegular c s).est = s.est ∧ (startRegular c s).tim = s.tim ∧ (startRegular c s).pwr = s.pwr := by
  simp only [startRegular]
  repeat' split
  all_goals simp

@[simp] theorem startHk_keeps (c : Nat) :
    (startHk c s).clk = s.clk ∧ (startHk c s).frm = s.frm ∧ (startHk c s).met = s.met ∧ (startHk c s).cfg = s.cfg ∧
    (startHk c s).est = s.est ∧ (startHk c s).tim = s.tim ∧ (startHk c s).pwr = s.pwr := by
  simp only [startHk]
  repeat' split
  all_goals simp

@[simp] theorem startSample_keeps (c : Nat) (p : Capture) :
    (startSample c p s).clk = s.clk ∧ (startSample c p s).frm = s.frm ∧ (startSample c p s).met = s.met ∧ (startSample c p s).cfg = s.cfg ∧
    (startSample c p s).est = s.est ∧ (startSample c p s).tim = s.tim ∧ (startSample c p s).pwr = s.pwr := by
  simp only [startSample]
  split <;> simp

theorem sarNext_keeps (c fuel : Nat) (s : State) :
    (sarNext c fuel s).clk = s.clk ∧ (sarNext c fuel s).frm = s.frm ∧ (sarNext c fuel s).met = s.met ∧ (sarNext c fuel s).cfg = s.cfg ∧
    (sarNext c fuel s).est = s.est ∧ (sarNext c fuel s).tim = s.tim ∧ (sarNext c fuel s).pwr = s.pwr := by
  induction fuel generalizing s with
  | zero => simp [sarNext]
  | succ fuel ih =>
    rw [sarNext]
    dsimp only
    repeat' split
    all_goals simp [ih]

@[simp] theorem sarKick_keeps :
    (sarKick s).clk = s.clk ∧ (sarKick s).frm = s.frm ∧ (sarKick s).met = s.met ∧ (sarKick s).cfg = s.cfg ∧
    (sarKick s).est = s.est ∧ (sarKick s).tim = s.tim ∧ (sarKick s).pwr = s.pwr := by
  simp only [sarKick, sarNext_keeps, and_self]

@[simp] theorem triggerBoth_keeps (t : Trig) :
    (triggerBoth t s).clk = s.clk ∧ (triggerBoth t s).frm = s.frm ∧ (triggerBoth t s).met = s.met ∧ (triggerBoth t s).cfg = s.cfg ∧
    (triggerBoth t s).est = s.est ∧ (triggerBoth t s).tim = s.tim ∧ (triggerBoth t s).pwr = s.pwr := by
  simp only [triggerBoth, sarKick_keeps, setPending_keeps, and_self]

end

/-! ### SAMPLE_INSTANT (R21, R22, R394, R427) -/

/-- The authentication results that wait for a sample instant take force on the ropes. -/
theorem takeAuth_sparesWindow (s : State) : SparesWindow s (takeAuth s) := .of_keeps rfl rfl rfl rfl rfl

/-- At a sample instant the configuration in force gives the string whether it counts, its leg and its gain's uncertainty;
the counters stand. -/
theorem resnaps_spec {s : State} {n : Nat} (hn : n < 8) (hl : n < s.met.strs.length) :
    (((List.range 8).foldl resnap s).metStr n).qIn = (s.metStr n).qIn ∧ (((List.range 8).foldl resnap s).metStr n).qOut = (s.metStr n).qOut ∧
    (((List.range 8).foldl resnap s).metStr n).snap.enabled = s.enabled n ∧
    (((List.range 8).foldl resnap s).metStr n).snap.legMilli = (s.strCfg n).shuntLegR ∧
    (((List.range 8).foldl resnap s).metStr n).snap.gainUnc = (s.strCfg n).extGainUnc := by
  obtain ⟨u, hu, hfold⟩ := foldl_strings (fun t => (t.metStr n, t.met.strs.length, t.cfg)) resnap hn
    (fun t k hk => by rw [resnap, State.modMet_metStr_other _ hk, State.modMet_length]; rfl) s
  simp only [Prod.mk.injEq] at hu hfold
  obtain ⟨hstr, hlen, hcfg⟩ := hu
  rw [hfold.1, resnap, State.modMet_metStr_same (hlen ▸ hl), hstr]
  refine ⟨rfl, rfl, ?_, ?_, ?_⟩ <;> simp only [snapOf, State.enabled, State.strCfg, hcfg]

theorem resnaps_stringsOnly (s : State) : StringsOnly s ((List.range 8).foldl resnap s) :=
  .foldl (fun _ _ => .modMet ..) _ s

theorem StringsOnly.keeps_cfg_tim {s t : State} (h : StringsOnly s t) : t.cfg = s.cfg ∧ t.tim = s.tim := by
  unfold StringsOnly at h
  refine ⟨?_, ?_⟩ <;> rw [h]

/-- What takes force at the sample instant of a frame, before the frame is stamped. -/
def sampleForces (epoch : Nat) (s : State) : State :=
  triggerBoth .frame ((List.range 8).foldl resnap (takeForces epoch (takeAuth s)))

theorem sampleForces_spec (epoch : Nat) (s : State) :
    (sampleForces epoch s).clk = s.clk ∧ (sampleForces epoch s).tim = s.tim ∧
    (sampleForces epoch s).frm.win = s.frm.win ∧ (sampleForces epoch s).frm.winStart = s.frm.winStart ∧
    (sampleForces epoch s).frm.winTime = s.frm.winTime ∧ (sampleForces epoch s).frm.frames = s.frm.frames ∧
    (∀ w ∈ (sampleForces epoch s).cfg.waiting, w.synced = false) ∧
    ∀ n, n < 8 → n < s.met.strs.length →
      ((sampleForces epoch s).metStr n).qIn = (s.metStr n).qIn ∧ ((sampleForces epoch s).metStr n).qOut = (s.metStr n).qOut ∧
      ((sampleForces epoch s).metStr n).snap.enabled = (sampleForces epoch s).enabled n ∧
      ((sampleForces epoch s).metStr n).snap.legMilli = ((sampleForces epoch s).strCfg n).shuntLegR ∧
      ((sampleForces epoch s).metStr n).snap.gainUnc = ((sampleForces epoch s).strCfg n).extGainUnc := by
  obtain ⟨u, hu⟩ : ∃ u, u = takeForces epoch (takeAuth s) := ⟨_, rfl⟩
  obtain ⟨v, hv⟩ : ∃ v, v = (List.range 8).foldl resnap u := ⟨_, rfl⟩
  have hw : sampleForces epoch s = triggerBoth .frame v := by rw [sampleForces, hv, hu]
  have hspare : SparesWindow (forcesDue (takeAuth s)) u := hu ▸ takeForces_sparesWindow epoch (takeAuth s)
  have hauth := takeAuth_sparesWindow s
  have honly : StringsOnly u v := hv ▸ resnaps_stringsOnly u
  obtain ⟨hclk, hfrm, hmet, hcfg, -, htim, -⟩ := triggerBoth_keeps (s := v) .frame
  obtain ⟨hvclk, hvfrm, -⟩ := honly.keeps
  obtain ⟨hvcfg, hvtim⟩ := honly.keeps_cfg_tim
  have humet : u.met = s.met := hspare.met.trans hauth.met
  rw [hw, hclk, htim, hfrm, hcfg, hvclk, hvtim, hvfrm, hvcfg]
  refine ⟨hspare.clk.trans hauth.clk, hspare.tim.trans hauth.tim, hspare.win.trans hauth.win, hspare.winStart.trans hauth.winStart,
    hspare.winTime.trans hauth.winTime, hspare.frames.trans hauth.frames, fun w h => ?_, fun n hn hl => ?_⟩
  · rw [hspare.waiting, forcesDue] at h
    simpa using (List.mem_filter.1 h).2
  · obtain ⟨hin, hout, hen, hleg, hgain⟩ := resnaps_spec (s := u) hn (humet ▸ hl)
    have hstr : (triggerBoth .frame v).metStr n = v.metStr n := by rw [State.metStr, State.metStr, hmet]
    have hconf : (triggerBoth .frame v).strCfg n = u.strCfg n := by rw [State.strCfg, State.strCfg, hcfg, hvcfg]
    have hmetStr : u.metStr n = s.metStr n := by rw [State.metStr, State.metStr, humet]
    rw [hstr, State.enabled, hconf, hv, hin, hout, hen, hleg, hgain, hmetStr]
    exact ⟨rfl, rfl, rfl, rfl, rfl⟩

/-- The instant's stamp on its frame, by the time flags of a state. -/
def FrameRec.stampedBy (f : FrameRec) (winTime winStart : Nat) (t : State) : FrameRec :=
  { f with sampled := true, tSample := winTime, startTick := winStart, locked := !t.unsync, unsync := t.unsync,
           suspect := t.tim.suspect, takeGen := t.cfg.takeGen }

theorem execSampleInstant_eq {s : State} {f : FrameRec} (hlive : s.live = true)
    (hf : s.frm.frames.find? (fun f => f.win == s.frm.win && !f.sampled) = some f) :
    execSampleInstant s = .next ((sampleForces f.epoch s).modFrame f.epoch (fun x =>
      x.stampedBy (sampleForces f.epoch s).frm.winTime (sampleForces f.epoch s).frm.winStart (sampleForces f.epoch s))) := by
  unfold execSampleInstant
  rw [hf]
  simp only [hlive, Bool.not_true, Bool.false_eq_true, if_false]
  rfl

/-- An update of one frame: a frame of its number stays one, and every frame of its number is an updated one. -/
theorem State.modFrame_frames {k : Nat} {g : FrameRec → FrameRec} (hg : ∀ x, (g x).epoch = x.epoch) {s : State} {f : FrameRec}
    (hf : f ∈ s.frm.frames) (hk : f.epoch = k) :
    (∃ x ∈ (s.modFrame k g).frm.frames, x.epoch = k) ∧ ∀ x ∈ (s.modFrame k g).frm.frames, x.epoch = k → ∃ y, x = g y := by
  rw [State.modFrame]
  refine ⟨⟨g f, List.mem_map.2 ⟨f, hf, if_pos (by simp [hk])⟩, (hg f).trans hk⟩, fun x hx hxk => ?_⟩
  obtain ⟨y, -, rfl⟩ := List.mem_map.1 hx
  by_cases hy : (y.epoch == k) = true
  · exact ⟨y, if_pos hy⟩
  · rw [if_neg hy] at hxk
    exact absurd (by simpa using hxk) hy

/-- Settles O23: END SYNC by what a SYNC leaves as it is; the sample instant by what the changes that take force there spare. -/
theorem sampleInstantStampsTheFrame : Obligations.SampleInstantStampsTheFrame := by
  unfold Obligations.SampleInstantStampsTheFrame
  intro s f hlive
  refine ⟨fun hf => ?_, fun hf hend => ?_⟩
  · have hx : exec .sampleInstant s = execSampleInstant s := rfl
    obtain ⟨hclk, -, hwin, hstart, htime, hframes, hwait, hstr⟩ := sampleForces_spec f.epoch s
    have hnext := hx.trans (execSampleInstant_eq hlive hf)
    obtain ⟨u, hu⟩ : ∃ u, u = sampleForces f.epoch s := ⟨_, rfl⟩
    rw [← hu] at hclk hwin hstart htime hframes hwait hstr hnext
    obtain ⟨hmem, hstamp⟩ := State.modFrame_frames (s := u) (g := fun x => x.stampedBy u.frm.winTime u.frm.winStart u)
      (fun _ => rfl) (hframes ▸ List.mem_of_find?_eq_some hf) rfl
    refine ⟨_, hnext, hwin, hclk, hstr, hwait, hmem, fun g hg hk => ?_⟩
    obtain ⟨y, rfl⟩ := hstamp g hg hk
    exact ⟨rfl, htime, hstart, rfl, rfl, rfl⟩
  · obtain ⟨t, hx, hwin, hfrozen, hwinEnd, hframes, hmet, hunknown, heq, htx⟩ := endSync_frame hlive hf hend
    exact ⟨t, hx, hwin, hfrozen, hwinEnd, hframes, hmet, hunknown, heq, htx .N, htx .F⟩

end Sys2Proof.Machine

namespace Sys2Proof.Machine

/-! ### Keyed lists -/

theorem mapGet_append {α : Type} (l r : List (Nat × α)) (k : Nat) : mapGet (l ++ r) k = (mapGet l k).or (mapGet r k) := by
  simp only [mapGet, List.find?_append]
  cases l.find? (fun e => e.1 == k) <;> rfl

/-- Entries of other keys do not matter to a key. -/
theorem mapGet_filter {α : Type} {p : Nat → Bool} {k : Nat} (h : p k = true) (l : List (Nat × α)) : mapGet (l.filter (fun e => p e.1)) k = mapGet l k := by
  rw [mapGet, mapGet, List.find?_filter]
  congr 2
  funext e
  by_cases he : e.1 = k <;> simp [he, h]

theorem mapGet_filter_none {α : Type} {p : Nat → Bool} {k : Nat} (h : p k = false) (l : List (Nat × α)) : mapGet (l.filter (fun e => p e.1)) k = none := by
  simp only [mapGet, List.find?_filter, Option.map_eq_none_iff, List.find?_eq_none]
  rintro e - he
  simp only [decide_eq_true_eq, beq_iff_eq] at he
  rw [he.2, h] at he
  simp at he

@[simp] theorem mapGet_mapSet_same {α : Type} (l : List (Nat × α)) (k : Nat) (v : α) : mapGet (mapSet l k v) k = some v := by
  rw [mapSet, mapGet_append, mapGet_filter_none (p := fun i => decide (i < k)) (by simp)]
  simp [mapGet]

theorem mapGet_mapSet_other {α : Type} (l : List (Nat × α)) {k i : Nat} (h : i ≠ k) (v : α) : mapGet (mapSet l k v) i = mapGet l i := by
  have hcons (r : List (Nat × α)) : mapGet ((k, v) :: r) i = mapGet r i := by
    rw [mapGet, List.find?_cons_of_neg (by simpa using h.symm), mapGet]
  rw [mapSet, mapGet_append, hcons]
  obtain hlt | hgt := Nat.lt_or_gt_of_ne h
  · rw [mapGet_filter (p := fun j => decide (j < k)) (by simpa), mapGet_filter_none (p := fun j => decide (k < j)) (by simp; omega)]
    simp
  · rw [mapGet_filter_none (p := fun j => decide (j < k)) (by simp; omega), mapGet_filter (p := fun j => decide (k < j)) (by simpa)]
    simp

/-- An update of the entries of some keys leaves the other keys alone. -/
theorem mapGet_map_other {α : Type} {p : Nat → Prop} [DecidablePred p] (f : Nat → α → α) {k : Nat} (h : ¬ p k) (l : List (Nat × α)) :
    mapGet (l.map (fun e => if p e.1 then (e.1, f e.1 e.2) else e)) k = mapGet l k := by
  have hkey : ((fun e : Nat × α => e.1 == k) ∘ fun e => if p e.1 then (e.1, f e.1 e.2) else e) = fun e => e.1 == k := by
    funext e
    simp only [Function.comp]
    split <;> rfl
  rw [mapGet, mapGet, List.find?_map, hkey]
  cases hf : l.find? (fun e => e.1 == k) with
  | none => rfl
  | some e =>
    have he : e.1 = k := by simpa using List.find?_some hf
    simp [he, h]

/-! ### Reports of a lane's residues (R499, R500) -/

/-- The entry of a unit among the units' entries. -/
def findUnit (l : List UnitDiag) (u : UnitId) : Option UnitDiag := l.find? (fun e => e.unit == u)

theorem findUnit_replace (l : List UnitDiag) (d : UnitDiag) (u : UnitId) :
    findUnit (l.map (fun e => if e.unit == d.unit then d else e)) u = (findUnit l u).map (fun e => if e.unit == d.unit then d else e) := by
  have hunit (e : UnitDiag) : (if e.unit == d.unit then d else e).unit = e.unit := by
    by_cases h : e.unit = d.unit <;> simp [h]
  simp only [findUnit, List.find?_map, Function.comp_def, hunit]

theorem State.unitDiag_setUnitDiag_same (s : State) (d : UnitDiag) : (s.setUnitDiag d).unitDiag d.unit = d := by
  rw [State.unitDiag, State.setUnitDiag]
  dsimp only
  split
  next h =>
    obtain ⟨e, he, hd⟩ := List.any_eq_true.1 h
    obtain ⟨x, hx⟩ := Option.isSome_iff_exists.1 (List.find?_isSome (p := fun e : UnitDiag => e.unit == d.unit) |>.2 ⟨e, he, hd⟩)
    have hunit : x.unit = d.unit := by simpa using List.find?_some hx
    rw [← findUnit, findUnit_replace, findUnit, hx]
    simp [hunit]
  next h =>
    have hnone : s.diag.units.find? (fun e => e.unit == d.unit) = none := by
      rw [List.find?_eq_none]
      exact fun e he hd => h (List.any_eq_true.2 ⟨e, he, hd⟩)
    simp [hnone]

theorem State.unitDiag_setUnitDiag_other (s : State) {d : UnitDiag} {u : UnitId} (h : u ≠ d.unit) : (s.setUnitDiag d).unitDiag u = s.unitDiag u := by
  rw [State.unitDiag, State.unitDiag, State.setUnitDiag]
  dsimp only
  congr 1
  split
  · rw [← findUnit, ← findUnit, findUnit_replace, findUnit]
    cases hf : s.diag.units.find? (fun e => e.unit == u) with
    | none => rfl
    | some e =>
      have he : e.unit = u := by simpa using List.find?_some hf
      simp [he, h]
  · rw [List.find?_append, List.find?_singleton, if_neg (by simpa using h.symm)]
    simp

theorem State.unitDiag_unit (s : State) (u : UnitId) : (s.unitDiag u).unit = u := by
  unfold State.unitDiag
  cases hf : s.diag.units.find? (fun e => e.unit == u) with
  | none => rfl
  | some e => simpa using List.find?_some hf

theorem fileReport_diag {s : State} {u : UnitId} (h : s.retired u = false) :
    (fileReport u s).diag = (s.setUnitDiag { s.unitDiag u with testing := true, report := true }).diag := by
  simp [fileReport, h]

/-- A report puts its unit under test, and no unit that is under test out of it. -/
theorem fileReport_testing (u v : UnitId) (s : State) (hu : u = v → s.retired u = false) (h : u = v ∨ (s.unitDiag v).testing = true) :
    ((fileReport u s).unitDiag v).testing = true := by
  have hcongr {s t : State} (h : s.diag = t.diag) : s.unitDiag v = t.unitDiag v := by rw [State.unitDiag, State.unitDiag, h]
  by_cases hr : s.retired u = true
  · rw [fileReport, if_pos hr]
    exact h.resolve_left fun e => by simp [hu e] at hr
  · rw [hcongr (fileReport_diag (by simpa using hr))]
    by_cases e : u = v
    · subst e
      have hsame := s.unitDiag_setUnitDiag_same { s.unitDiag u with testing := true, report := true }
      rw [State.unitDiag_unit] at hsame
      rw [hsame]
    · rw [State.unitDiag_setUnitDiag_other s (by rw [State.unitDiag_unit]; exact Ne.symm e)]
      exact h.resolve_left e

/-- A report retires no unit. -/
theorem fileReport_retired (u v : UnitId) (s : State) : (fileReport u s).retired v = s.retired v := by
  by_cases hr : s.retired u = true
  · rw [fileReport, if_pos hr]
  · simp only [State.retired, fileReport_diag (s := s) (u := u) (by simpa using hr)]
    rfl

/-- Every lane in service whose residue check failed is under test. -/
theorem reportResidues_testing (l : List Nat) (s : State) {i : Nat} (hr : s.retired { target := 3, index := i } = false)
    (h : i ∈ l ∨ (s.unitDiag { target := 3, index := i }).testing = true) :
    ((reportResidues l s).unitDiag { target := 3, index := i }).testing = true := by
  unfold reportResidues
  induction l generalizing s with
  | nil => exact h.resolve_left List.not_mem_nil
  | cons k l ih =>
    refine ih _ ((fileReport_retired ..).trans hr) ?_
    by_cases hl : i ∈ l
    · exact .inl hl
    · refine .inr (fileReport_testing _ _ s (fun e => e ▸ hr) ?_)
      obtain hmem | ht := h
      · exact .inl (by rw [(List.mem_cons.1 hmem).resolve_right hl])
      · exact .inr ht

theorem reportResidues_keeps (l : List Nat) (s : State) :
    (reportResidues l s).frm = s.frm ∧ (reportResidues l s).met = s.met ∧ (reportResidues l s).rope = s.rope ∧
    (reportResidues l s).cfg = s.cfg ∧ (reportResidues l s).est = s.est ∧ (reportResidues l s).pwr = s.pwr ∧
    (reportResidues l s).hostMem = s.hostMem := by
  have h {β : Type} (p : State → β) (hp : ∀ u t, p (fileReport u t) = p t) : p (reportResidues l s) = p s :=
    foldl_keeps p _ (fun _ _ => hp ..) l s
  refine ⟨h _ ?_, h _ ?_, h _ ?_, h _ ?_, h _ ?_, h _ ?_, h _ ?_⟩ <;> intros <;> simp

end Sys2Proof.Machine

namespace Sys2Proof.Machine

/-! ### The array under the configuration that governs a frame (R244, R249, R280, R287) -/

/-- From `s` to `t` the windows, the configuration and the host's memory stand. -/
structure SparesFrames (s t : State) : Prop where
  frm : t.frm = s.frm
  cfg : t.cfg = s.cfg
  hostMem : t.hostMem = s.hostMem

namespace SparesFrames

theorem refl (s : State) : SparesFrames s s := ⟨rfl, rfl, rfl⟩

theorem trans {s t u : State} (h : SparesFrames s t) (k : SparesFrames t u) : SparesFrames s u :=
  ⟨k.frm.trans h.frm, k.cfg.trans h.cfg, k.hostMem.trans h.hostMem⟩

theorem foldl {α : Type} {f : State → α → State} (h : ∀ s a, SparesFrames s (f s a)) (l : List α) (s : State) : SparesFrames s (l.foldl f s) :=
  List.foldlRecOn (motive := SparesFrames s) l f (.refl s) (fun t ht a _ => ht.trans (h t a))

/-- The array's own view of the configuration is put away again. -/
theorem onEst {f : State → State} (h : ∀ s, SparesFrames s (f s)) (s : State) : SparesFrames s (onEst f s) :=
  ⟨(h _).frm, rfl, (h _).hostMem⟩

end SparesFrames

theorem newImages_sparesFrames (n : Nat) (a b : Option Image) (s : State) : SparesFrames s (newImages n a b s) := by
  unfold newImages
  split
  · split <;> exact ⟨rfl, rfl, rfl⟩
  · exact .refl s

theorem takeWrite_sparesFrames (epoch : Nat) (r : Bool) (b : List Byte) (s : State) : SparesFrames s (takeWrite epoch r b s) := by
  have hcell (g : Nat) (f : Cell → Cell) (u : State) : SparesFrames u (u.modCell g f) := ⟨by simp, by simp, by simp⟩
  unfold takeWrite
  extract_lets g n u
  have hu : SparesFrames s u := by
    unfold u
    split
    · exact ⟨rfl, rfl, rfl⟩
    · exact .refl s
  split
  · exact hu
  · exact hu.trans (hcell ..)

theorem takeCaps_sparesFrames (l : List (List Nat)) (s : State) : SparesFrames s (takeCaps l s) := by
  unfold takeCaps
  refine .foldl (fun _ _ => ?_) _ s
  exact ⟨rfl, rfl, rfl⟩

theorem adoptTake_sparesFrames (t : EstTake) (s : State) : SparesFrames s (adoptTake t s) := by
  unfold adoptTake
  extract_lets was reinit est u v w x y
  have hu : SparesFrames s u := ⟨rfl, rfl, rfl⟩
  have hv : SparesFrames u v := .foldl (fun _ _ => newImages_sparesFrames ..) _ u
  have hw : SparesFrames v w := .onEst (f := dropUnused) (fun _ => ⟨rfl, rfl, rfl⟩) v
  have hx : SparesFrames w x := .foldl (fun a n => by split <;> exact ⟨rfl, rfl, rfl⟩) _ w
  have hy : SparesFrames x y := by
    unfold y
    split
    · exact takeCaps_sparesFrames ..
    · exact .refl x
  exact hu.trans (hv.trans (hw.trans (hx.trans (hy.trans
    (.onEst (fun z => .foldl (fun a b => takeWrite_sparesFrames t.epoch (reinit b) b a) _ z) y)))))

theorem adoptFrame_sparesFrames (f : FrameRec) (s : State) : SparesFrames s (adoptFrame f s) := by
  unfold adoptFrame
  refine .trans ?_ (.foldl (fun a t => adoptTake_sparesFrames t a) _ _)
  exact ⟨rfl, rfl, rfl⟩

/-- The judgement of a monitor's inputs moves the ropes alone (R458). -/
theorem judgeInputs_frame (n m epoch span : Nat) (s : State) :
    judgeInputs n m epoch span s = { s with rope := (judgeInputs n m epoch span s).rope } := by
  unfold judgeInputs
  split
  · rfl
  · dsimp only
    split <;> rfl

theorem judgeInputs_keeps (n m epoch span : Nat) (s : State) :
    (judgeInputs n m epoch span s).frm = s.frm ∧ (judgeInputs n m epoch span s).cfg = s.cfg ∧
    (judgeInputs n m epoch span s).est = s.est ∧ (judgeInputs n m epoch span s).met = s.met ∧
    (judgeInputs n m epoch span s).diag = s.diag ∧ (judgeInputs n m epoch span s).hostMem = s.hostMem := by
  refine ⟨?_, ?_, ?_, ?_, ?_, ?_⟩ <;> rw [judgeInputs_frame]

theorem judgeInputs_sparesFrames (n m epoch span : Nat) (s : State) : SparesFrames s (judgeInputs n m epoch span s) := by
  obtain ⟨hfrm, hcfg, -, -, -, hmem⟩ := judgeInputs_keeps n m epoch span s
  exact ⟨hfrm, hcfg, hmem⟩

theorem judgeBare_sparesFrames (epoch : Nat) (s : State) : SparesFrames s (judgeBare epoch s) := by
  unfold judgeBare
  refine .foldl (fun t n => .foldl (fun u e => ?_) _ t) _ s
  split
  · exact .refl u
  · exact .foldl (fun _ _ => judgeInputs_sparesFrames ..) _ u

/-- The charges of a frame enter the strings' blocks: the configuration that governs the array stands. -/
theorem loadFrame_spec (epoch : Nat) (s : State) :
    SparesFrames s (loadFrame epoch s) ∧ (loadFrame epoch s).est.live = s.est.live ∧ (loadFrame epoch s).est.images = s.est.images := by
  unfold loadFrame
  refine List.foldlRecOn (motive := fun t : State => SparesFrames s t ∧ t.est.live = s.est.live ∧ t.est.images = s.est.images) _ _
    ⟨.refl s, rfl, rfl⟩ ?_
  rintro t ⟨hs, hlive, himages⟩ n -
  dsimp only
  split <;> exact ⟨hs.trans ⟨rfl, rfl, rfl⟩, hlive, himages⟩

/-- The cells inside the masks are a matter of the configuration. -/
theorem usedCells_congr {s t : State} (h : t.cfg = s.cfg) : usedCells t = usedCells s := by
  have hused : t.used = s.used := by
    funext g
    simp only [State.used, State.enabled, State.strCfg, h]
  rw [usedCells, usedCells, hused]

/-! ### A string's part of a frame (R264 to R283) -/

/-- From `s` to `t` the updates of string `n` go on: windows, configuration, units and memory stand, and so do the list of
cells that are left, the cells that are lost and those of every other string. -/
structure StringUpdate (n : Nat) (s t : State) : Prop where
  spares : SparesFrames s t
  diag : t.diag = s.diag
  todo : t.est.todo = s.est.todo
  lost : t.est.lost = s.est.lost
  others : ∀ k, cellStr k ≠ n → mapGet t.est.cells k = mapGet s.est.cells k

namespace StringUpdate

variable {n : Nat} {s t u : State}

theorem trans (h : StringUpdate n s t) (k : StringUpdate n t u) : StringUpdate n s u :=
  ⟨h.spares.trans k.spares, k.diag.trans h.diag, k.todo.trans h.todo, k.lost.trans h.lost, fun i hi => (k.others i hi).trans (h.others i hi)⟩

/-- A step that keeps the array is none of any string's matters. -/
theorem of_keeps (h : SparesFrames s t) (hdiag : t.diag = s.diag) (hest : t.est = s.est) : StringUpdate n s t :=
  ⟨h, hdiag, hest ▸ rfl, hest ▸ rfl, fun _ _ => hest ▸ rfl⟩

theorem refl (n : Nat) (s : State) : StringUpdate n s s := .of_keeps (.refl s) rfl rfl

end StringUpdate

theorem modLim_stringUpdate (n k : Nat) (f : StrLim → StrLim) (s : State) : StringUpdate n s (s.modLim k f) :=
  ⟨⟨rfl, rfl, rfl⟩, rfl, rfl, rfl, fun _ _ => rfl⟩

theorem modStaging_stringUpdate (n epoch : Nat) (f : Staging → Staging) (s : State) : StringUpdate n s (modStaging epoch f s) :=
  ⟨⟨rfl, rfl, rfl⟩, rfl, rfl, rfl, fun _ _ => rfl⟩

theorem raise_stringUpdate (n e i : Nat) (s : State) : StringUpdate n s (raise e i s) :=
  .of_keeps ⟨by simp, by simp, by simp⟩ (by simp) (by simp)

theorem mapCells_stringUpdate (n : Nat) (f : Nat → Cell → Cell) (s : State) : StringUpdate n s (mapCells n f s) :=
  ⟨⟨rfl, rfl, rfl⟩, rfl, rfl, rfl, fun _ hk => mapGet_map_other (p := fun i => cellStr i = n) f hk s.est.cells⟩

theorem setCell_stringUpdate (g : Nat) (c : Cell) (s : State) : StringUpdate (cellStr g) s (s.setCell g c) :=
  ⟨⟨rfl, rfl, rfl⟩, rfl, rfl, rfl, fun _ hk => mapGet_mapSet_other s.est.cells (by rintro rfl; exact hk rfl) c⟩

theorem balanceString_stringUpdate (n adv : Nat) (f : FrameRec) (s : State) : StringUpdate n s (balanceString n adv f s) := by
  unfold balanceString
  refine .trans ?_ (mapCells_stringUpdate ..)
  refine .trans ?_ (mapCells_stringUpdate ..)
  refine .trans ?_ (mapCells_stringUpdate ..)
  exact mapCells_stringUpdate ..

theorem stageString_stringUpdate (n : Nat) (f : FrameRec) (s : State) : StringUpdate n s (stageString n f s) :=
  modStaging_stringUpdate ..

theorem finishString_stringUpdate (n adv : Nat) (f : FrameRec) (s : State) : StringUpdate n s (finishString n adv f s) := by
  have hraise (b : Bool) (e i : Nat) (u : State) : StringUpdate n s u → StringUpdate n s (if b then raise e i u else u) := fun h => by
    split
    · exact h.trans (raise_stringUpdate ..)
    · exact h
  unfold finishString
  dsimp only
  split
  · exact .trans (hraise _ _ _ _ (modLim_stringUpdate ..)) (stageString_stringUpdate ..)
  · exact .trans (.trans (hraise _ _ _ _ (modLim_stringUpdate ..)) (balanceString_stringUpdate ..)) (stageString_stringUpdate ..)

/-! ### What ends a frame's updates (R27, R538) -/

/-- From `s` to `t` nothing moves but the legacy window and what NVM keeps of it. -/
structure LegacyOnly (s t : State) : Prop where
  spares : SparesFrames s t
  diag : t.diag = s.diag
  est : t.est = s.est

theorem LegacyOnly.trans {s t u : State} (h : LegacyOnly s t) (k : LegacyOnly t u) : LegacyOnly s u :=
  ⟨h.spares.trans k.spares, k.diag.trans h.diag, k.est.trans h.est⟩

theorem gaugeFrame_legacyOnly (n adv : Nat) (b : StrBlk) (s : State) : LegacyOnly s (gaugeFrame n adv b s) := by
  unfold gaugeFrame
  dsimp only
  repeat' split
  all_goals exact ⟨⟨rfl, rfl, rfl⟩, rfl, rfl⟩

theorem judgeGauges_legacyOnly (adv : Nat) (s : State) : LegacyOnly s (judgeGauges adv s) := by
  unfold judgeGauges
  refine List.foldlRecOn (motive := LegacyOnly s) _ _ ⟨.refl s, rfl, rfl⟩ (fun t ht n _ => ht.trans ?_)
  split
  · exact gaugeFrame_legacyOnly ..
  · exact ⟨⟨rfl, rfl, rfl⟩, rfl, rfl⟩

/-- From `s` to `t` the updates of a frame end: the windows stand but for frames that are marked or dropped. -/
structure FrameEnds (s t : State) : Prop where
  win : t.frm.win = s.frm.win
  frames : ∀ g ∈ t.frm.frames, ∃ x ∈ s.frm.frames, g.epoch = x.epoch ∧ g.timeDone = x.timeDone
  hostMem : t.hostMem = s.hostMem
  diag : t.diag = s.diag
  todo : t.est.todo = s.est.todo
  cells : s.est.lost = [] → t.est.cells = s.est.cells

theorem FrameEnds.refl (s : State) : FrameEnds s s := ⟨rfl, fun g hg => ⟨g, hg, rfl, rfl⟩, rfl, rfl, rfl, fun _ => rfl⟩

theorem finishFrame_frameEnds (f : FrameRec) (s : State) : FrameEnds s (finishFrame f s) := by
  obtain ⟨u, hu⟩ : ∃ u, u = judgeGauges (frameAdvance s f) s := ⟨_, rfl⟩
  have hleg : LegacyOnly s u := hu ▸ judgeGauges_legacyOnly ..
  unfold finishFrame
  rw [← hu]
  have hwin : u.frm.win = s.frm.win := congrArg FrameState.win hleg.spares.frm
  have htodo : u.est.todo = s.est.todo := congrArg Est.todo hleg.est
  refine ⟨hwin, fun g hg => ?_, hleg.spares.hostMem, hleg.diag, htodo, fun h => ?_⟩
  · obtain ⟨x, hx, rfl⟩ := List.mem_map.1 (List.mem_filter.1 hg).1
    refine ⟨x, hleg.spares.frm ▸ hx, ?_⟩
    split <;> exact ⟨rfl, rfl⟩
  · have hlost : u.est.lost = [] := hleg.est ▸ h
    have hcells : u.est.lost.foldl (fun l e => mapSet l e.1 e.2) u.est.cells = s.est.cells := by rw [hlost, hleg.est]; rfl
    exact hcells

/-- The updates of the frame end when no cell is left. -/
theorem finishIfDone_frameEnds (f : FrameRec) (s : State) : FrameEnds s (if s.est.todo.isEmpty then finishFrame f s else s) := by
  split
  · exact finishFrame_frameEnds f s
  · exact .refl s

end Sys2Proof.Machine

namespace Sys2Proof.Machine

/-! ### The BAL frames of a frame (R27, R219) -/

theorem sendBal_keeps (epoch n : Nat) (s : State) :
    (sendBal epoch n s).frm = s.frm ∧ (sendBal epoch n s).cfg = s.cfg ∧ (sendBal epoch n s).est = s.est ∧
    (sendBal epoch n s).diag = s.diag ∧ (sendBal epoch n s).hostMem = s.hostMem := by
  unfold sendBal
  dsimp only
  split
  · exact ⟨rfl, rfl, rfl, rfl, rfl⟩
  · simp

theorem sendBals_keeps (epoch : Nat) (l : List Nat) (s : State) :
    (sendBals epoch l s).frm = s.frm ∧ (sendBals epoch l s).cfg = s.cfg ∧ (sendBals epoch l s).est = s.est ∧
    (sendBals epoch l s).diag = s.diag ∧ (sendBals epoch l s).hostMem = s.hostMem := by
  have h {β : Type} (p : State → β) (hp : ∀ n t, p (sendBal epoch n t) = p t) : p (sendBals epoch l s) = p s :=
    foldl_keeps p _ (fun _ _ => hp ..) l s
  refine ⟨h _ ?_, h _ ?_, h _ ?_, h _ ?_, h _ ?_⟩ <;> intro n t <;> simp only [sendBal_keeps epoch n t]

/-- What a frame's update leaves to the ropes and the lanes moves none of what the frame is judged by. -/
theorem settled_sendBals_keeps (epoch : Nat) (l : List Nat) (s : State) :
    (settleWork (sendBals epoch l s)).frm = s.frm ∧ (settleWork (sendBals epoch l s)).cfg = s.cfg ∧
    (settleWork (sendBals epoch l s)).est = s.est ∧ (settleWork (sendBals epoch l s)).diag = s.diag ∧
    (settleWork (sendBals epoch l s)).hostMem = s.hostMem := by
  obtain ⟨hfrm, hcfg, hest, hdiag, hmem⟩ := sendBals_keeps epoch l s
  refine ⟨?_, ?_, ?_, ?_, ?_⟩ <;> simp only [settleWork_keeps, hfrm, hcfg, hest, hdiag, hmem]

/-! ### The time update (R23, R231) -/

/-- The strings that have no cell left finish their part of the frame. -/
theorem finishStrings_spec (f : FrameRec) (adv : Nat) (l : List Nat) (s : State) :
    SparesFrames s (l.foldl (fun s n => if strDone s n then finishString n adv f s else s) s) ∧
    (l.foldl (fun s n => if strDone s n then finishString n adv f s else s) s).est.todo = s.est.todo := by
  refine List.foldlRecOn (motive := fun t : State => SparesFrames s t ∧ t.est.todo = s.est.todo) _ _ ⟨.refl s, rfl⟩ ?_
  rintro t ⟨hs, htodo⟩ n -
  split
  · have h := finishString_stringUpdate n adv f t
    exact ⟨hs.trans h.spares, h.todo.trans htodo⟩
  · exact ⟨hs, htodo⟩

/-- The time update of every cell of a frame, before the strings that have no cell to measure finish their part. -/
def cellsTimed (f : FrameRec) (s : State) : State :=
  (openStaging f { s with est := { s.est with
    cells := (usedCells s).map (fun g => (g, cellTimeUpdate s f g ((s.cell g).getD Cell.fresh)))
    todo := usedCells s, firstTick := some (s.est.firstTick.getD f.startTick) } }).modFrame f.epoch (fun x => { x with timeDone := true })

theorem cellsTimed_spec (f : FrameRec) (s : State) :
    (cellsTimed f s).est.todo = usedCells s ∧ (cellsTimed f s).frm.win = s.frm.win ∧ (cellsTimed f s).hostMem = s.hostMem ∧
    ∀ x ∈ (cellsTimed f s).frm.frames, x.epoch = f.epoch → x.timeDone = true := by
  unfold cellsTimed
  generalize usedCells s = l
  refine ⟨rfl, rfl, rfl, fun x hx hk => ?_⟩
  obtain ⟨y, -, rfl⟩ := List.mem_map.1 hx
  by_cases hy : (y.epoch == f.epoch) = true
  · rw [if_pos hy]
  · rw [if_neg hy] at hk
    exact absurd (by simpa using hk) hy

theorem timeUpdate_eq (f : FrameRec) (adv : Nat) (s : State) :
    timeUpdate f adv s =
      (let w := (List.range 8).foldl (fun s n => if strDone s n then finishString n adv f s else s) (cellsTimed f s)
       if w.est.todo.isEmpty then finishFrame f w else w) := by
  unfold timeUpdate cellsTimed
  rfl

theorem timeUpdate_spec (f : FrameRec) (adv : Nat) (s : State) :
    (timeUpdate f adv s).est.todo = usedCells s ∧ (timeUpdate f adv s).frm.win = s.frm.win ∧ (timeUpdate f adv s).hostMem = s.hostMem ∧
    ∀ g ∈ (timeUpdate f adv s).frm.frames, g.epoch = f.epoch → g.timeDone = true := by
  obtain ⟨htodo, hwin, hmem, htimed⟩ := cellsTimed_spec f s
  obtain ⟨hspare, htodow⟩ := finishStrings_spec f adv (List.range 8) (cellsTimed f s)
  obtain ⟨w, hw⟩ : ∃ w, w = (List.range 8).foldl (fun s n => if strDone s n then finishString n adv f s else s) (cellsTimed f s) := ⟨_, rfl⟩
  rw [← hw] at hspare htodow
  have hend := finishIfDone_frameEnds f w
  rw [timeUpdate_eq, ← hw]
  refine ⟨?_, ?_, ?_, fun g hg hk => ?_⟩
  · rw [hend.todo, htodow, htodo]
  · rw [hend.win, hspare.frm, hwin]
  · rw [hend.hostMem, hspare.hostMem, hmem]
  · obtain ⟨x, hx, hepoch, hdone⟩ := hend.frames g hg
    exact hdone.trans (htimed x (hspare.frm ▸ hx) (hepoch ▸ hk))

/-! ### The measurement update of one cell (R225) -/

/-- The state after a cell's own update, before it leaves the list of the cells that are left. -/
def cellUpdated (f : FrameRec) (g : Nat) (s : State) : State :=
  let span := spanTicksOf (s.metStr (cellStr g)).frmSpan
  let a := judgeInputs (cellStr g) (cellMon g) f.epoch span s
  let c := (a.cell g).getD Cell.fresh
  let r := match a.strImage (cellStr g) with
    | some img => updateCell a f g (frameAdvance s f) span img c
    | none => (bareCell a f g (frameAdvance s f) c, false)
  let v := modStaging f.epoch (fun e => { e with recs := mapSet e.recs g r.1.record }) (a.setCell g r.1)
  if r.2 then raise 62 g v else v

/-- A cell leaves the list of the cells that are left. -/
def cellLeft (g : Nat) (s : State) : State := { s with est := { s.est with todo := s.est.todo.filter (· != g) } }

/-- The last cell of a string finishes the string's part of the frame. -/
def finishIfLast (n adv : Nat) (f : FrameRec) (s : State) : State := if strDone s n then finishString n adv f s else s

theorem measureUpdate_eq (f : FrameRec) (g : Nat) (s : State) :
    measureUpdate f g s =
      (let w := finishIfLast (cellStr g) (frameAdvance s f) f (cellLeft g (cellUpdated f g s))
       if w.est.todo.isEmpty then finishFrame f w else w) := by
  unfold measureUpdate finishIfLast cellLeft cellUpdated
  rfl

theorem cellUpdated_stringUpdate (f : FrameRec) (g : Nat) (s : State) : StringUpdate (cellStr g) s (cellUpdated f g s) := by
  unfold cellUpdated
  extract_lets span a c r v
  have ha : StringUpdate (cellStr g) s a := by
    obtain ⟨-, -, hest, -, hdiag, -⟩ := judgeInputs_keeps (cellStr g) (cellMon g) f.epoch span s
    exact .of_keeps (judgeInputs_sparesFrames ..) hdiag hest
  have hv : StringUpdate (cellStr g) a v := .trans (setCell_stringUpdate ..) (modStaging_stringUpdate ..)
  split
  · exact ha.trans (hv.trans (raise_stringUpdate ..))
  · exact ha.trans hv

theorem finishIfLast_stringUpdate (n adv : Nat) (f : FrameRec) (s : State) : StringUpdate n s (finishIfLast n adv f s) := by
  unfold finishIfLast
  split
  · exact finishString_stringUpdate ..
  · exact .refl n s

theorem measureUpdate_spec (f : FrameRec) (g : Nat) (s : State) :
    (measureUpdate f g s).est.todo = s.est.todo.filter (· != g) ∧ (measureUpdate f g s).frm.win = s.frm.win ∧
    (measureUpdate f g s).hostMem = s.hostMem ∧ (measureUpdate f g s).diag = s.diag ∧
    (s.est.lost = [] → ∀ k, cellStr k ≠ cellStr g → mapGet (measureUpdate f g s).est.cells k = mapGet s.est.cells k) := by
  have hcell := cellUpdated_stringUpdate f g s
  obtain ⟨u, hu⟩ : ∃ u, u = cellUpdated f g s := ⟨_, rfl⟩
  obtain ⟨v, hv⟩ : ∃ v, v = cellLeft g u := ⟨_, rfl⟩
  have hlast := finishIfLast_stringUpdate (cellStr g) (frameAdvance s f) f v
  obtain ⟨w, hw⟩ : ∃ w, w = finishIfLast (cellStr g) (frameAdvance s f) f v := ⟨_, rfl⟩
  have hend := finishIfDone_frameEnds f w
  rw [measureUpdate_eq, ← hu, ← hv, ← hw]
  rw [← hu] at hcell
  rw [← hw] at hlast
  have hleft : v.frm = u.frm ∧ v.hostMem = u.hostMem ∧ v.diag = u.diag ∧ v.est.lost = u.est.lost ∧ v.est.cells = u.est.cells ∧
      v.est.todo = u.est.todo.filter (· != g) := by rw [hv]; exact ⟨rfl, rfl, rfl, rfl, rfl, rfl⟩
  obtain ⟨hfrm, hmem, hdiag, hlost, hcells, htodo⟩ := hleft
  refine ⟨?_, ?_, ?_, ?_, fun h k hk => ?_⟩
  · rw [hend.todo, hlast.todo, htodo, hcell.todo]
  · rw [hend.win, hlast.spares.frm, hfrm, hcell.spares.frm]
  · rw [hend.hostMem, hlast.spares.hostMem, hmem, hcell.spares.hostMem]
  · rw [hend.diag, hlast.diag, hdiag, hcell.diag]
  · rw [hend.cells (hlast.lost.trans (hlost.trans (hcell.lost.trans h))), hlast.others k hk, hcells, hcell.others k hk]

end Sys2Proof.Machine

namespace Sys2Proof.Machine

/-! ### TIME_UPDATE_DONE -/

/-- The array's own view of the configuration, under which a frame's updates run (R394). -/
def arrayView (s : State) : State := { s with cfg := { s.cfg with live := s.est.live, images := s.est.images } }

theorem onEst_parts (h : State → State) (s : State) :
    (onEst h s).frm = (h (arrayView s)).frm ∧ (onEst h s).est = (h (arrayView s)).est ∧ (onEst h s).diag = (h (arrayView s)).diag ∧
    (onEst h s).hostMem = (h (arrayView s)).hostMem ∧ (onEst h s).cfg = s.cfg := ⟨rfl, rfl, rfl, rfl, rfl⟩

theorem execTimeUpdateDone_eq {s : State} {f : FrameRec} (hf : s.estFrame = some f) :
    execTimeUpdateDone s = if f.timeDone || !s.live || !frameReady s f then .next s
      else .next (settleWork (sendBals f.epoch
        ((List.range 8).filter (strDone (onEst (timeUpdate f (frameAdvance s f)) (loadFrame f.epoch (adoptFrame f (judgeBare f.epoch s))))))
        (onEst (timeUpdate f (frameAdvance s f)) (loadFrame f.epoch (adoptFrame f (judgeBare f.epoch s)))))) := by
  unfold execTimeUpdateDone
  rw [hf]

/-- The time update of a frame under the configuration that governs it. -/
theorem onEst_timeUpdate_spec (f : FrameRec) (adv : Nat) (s : State) :
    (onEst (timeUpdate f adv) s).est.todo = usedCells (arrayView s) ∧ (onEst (timeUpdate f adv) s).frm.win = s.frm.win ∧
    (onEst (timeUpdate f adv) s).hostMem = s.hostMem ∧ (onEst (timeUpdate f adv) s).cfg = s.cfg ∧
    ∀ g ∈ (onEst (timeUpdate f adv) s).frm.frames, g.epoch = f.epoch → g.timeDone = true := by
  obtain ⟨htodo, hwin, hmem, hframes⟩ := timeUpdate_spec f adv (arrayView s)
  obtain ⟨hfrm, hest, -, hhost, hcfg⟩ := onEst_parts (timeUpdate f adv) s
  rw [hfrm, hest, hhost, hcfg]
  exact ⟨htodo, hwin, hmem, rfl, hframes⟩

/-- The charges of a frame do not move the configuration that governs the array. -/
theorem arrayView_loadFrame_cfg (epoch : Nat) (s : State) : (arrayView (loadFrame epoch s)).cfg = (arrayView s).cfg := by
  obtain ⟨hspare, hlive, himages⟩ := loadFrame_spec epoch s
  simp only [arrayView, hspare.cfg, hlive, himages]

theorem timeUpdateDone_spec {s a : State} {f : FrameRec} (hf : s.estFrame = some f) (hlive : s.live = true) (hdone : f.timeDone = false)
    (hready : frameReady s f = true) (ha : a = adoptFrame f (judgeBare f.epoch s)) :
    ∃ t, exec .timeUpdateDone s = .next t ∧ t.est.todo = usedCells (arrayView a) ∧
      (∀ g ∈ t.frm.frames, g.epoch = f.epoch → g.timeDone = true) ∧ t.frm.win = s.frm.win ∧ t.hostMem = s.hostMem ∧ t.cfg = s.cfg := by
  have hx : exec .timeUpdateDone s = execTimeUpdateDone s := rfl
  obtain ⟨b, hb⟩ : ∃ b, b = loadFrame f.epoch a := ⟨_, rfl⟩
  obtain ⟨u, hu⟩ : ∃ u, u = onEst (timeUpdate f (frameAdvance s f)) b := ⟨_, rfl⟩
  rw [hx, execTimeUpdateDone_eq hf, if_neg (by simp [hdone, hlive, hready]), ← ha, ← hb, ← hu]
  have hspare : SparesFrames s b := by
    rw [hb, ha]
    exact (judgeBare_sparesFrames ..).trans ((adoptFrame_sparesFrames ..).trans (loadFrame_spec ..).1)
  obtain ⟨htodo, hwin, hmem, hcfg, hframes⟩ := onEst_timeUpdate_spec f (frameAdvance s f) b
  rw [← hu] at htodo hwin hmem hcfg hframes
  obtain ⟨hsfrm, hscfg, hsest, -, hsmem⟩ := settled_sendBals_keeps f.epoch ((List.range 8).filter (strDone u)) u
  refine ⟨_, rfl, ?_, ?_, ?_, ?_, ?_⟩
  · rw [hsest, htodo, hb, usedCells_congr (arrayView_loadFrame_cfg ..)]
  · rwa [hsfrm]
  · rw [hsfrm, hwin, hspare.frm]
  · rw [hsmem, hmem, hspare.hostMem]
  · rw [hscfg, hcfg, hspare.cfg]

/-! ### MEASUREMENT_UPDATE_DONE -/

/-- A cell's measurement update under the configuration that governs the frame, and the BAL frames of its string's last one. -/
def measurementDone (f : FrameRec) (g : Nat) (s : State) : State :=
  settleWork (if strDone (onEst (measureUpdate f g) s) (cellStr g) then sendBals f.epoch [cellStr g] (onEst (measureUpdate f g) s)
    else onEst (measureUpdate f g) s)

/-- The residues are reported first; a report moves none of what decides on the update. -/
theorem execMeasurementUpdateDone_eq {s : State} {f : FrameRec} (hf : s.estFrame = some f) (hlive : s.live = true) (g : Nat) (l : List Nat) :
    execMeasurementUpdateDone ⟨g, l⟩ s =
      if !f.timeDone || !s.est.todo.contains g || !cellSettled s f g then .next (reportResidues l s)
      else .next (measurementDone f g (reportResidues l s)) := by
  obtain ⟨hfrm, -, hrope, -, hest, hpwr, -⟩ := reportResidues_keeps l s
  have hframe : (reportResidues l s).estFrame = some f := by rw [State.estFrame, hfrm]; exact hf
  have hlive' : (reportResidues l s).live = true := by rw [State.live, hpwr]; exact hlive
  have hsettled : cellSettled (reportResidues l s) f g = cellSettled s f g := by
    simp only [cellSettled, pageSettled, State.mon, State.ropeStr, hrope]
  unfold execMeasurementUpdateDone measurementDone
  simp only [hf, hlive, Option.isSome_some, Bool.and_self, if_true, hframe, hlive', hest, hsettled, Bool.not_true, Bool.or_false]

/-- The end of a string's part adds nothing but BAL frames. -/
theorem measurementDone_keeps (f : FrameRec) (g : Nat) (s : State) :
    (measurementDone f g s).frm = (onEst (measureUpdate f g) s).frm ∧ (measurementDone f g s).cfg = (onEst (measureUpdate f g) s).cfg ∧
    (measurementDone f g s).est = (onEst (measureUpdate f g) s).est ∧ (measurementDone f g s).diag = (onEst (measureUpdate f g) s).diag ∧
    (measurementDone f g s).hostMem = (onEst (measureUpdate f g) s).hostMem := by
  unfold measurementDone
  split
  · exact settled_sendBals_keeps ..
  · simp

theorem measurementUpdateDone_spec {s : State} {f : FrameRec} (hf : s.estFrame = some f) (hlive : s.live = true) {g : Nat} (l : List Nat)
    (hdone : f.timeDone = true) (hg : s.est.todo.contains g = true) (hsettled : cellSettled s f g = true) :
    ∃ t, exec (.measurementUpdateDone ⟨g, l⟩) s = .next t ∧ t.est.todo = s.est.todo.filter (· != g) ∧
      (∀ i ∈ l, s.retired { target := 3, index := i } = false → (t.unitDiag { target := 3, index := i }).testing = true) ∧
      t.frm.win = s.frm.win ∧ t.hostMem = s.hostMem ∧ t.cfg = s.cfg ∧
      (s.est.lost = [] → ∀ k, k ≠ g → cellStr k ≠ cellStr g → mapGet t.est.cells k = mapGet s.est.cells k) := by
  have hx : exec (.measurementUpdateDone ⟨g, l⟩) s = execMeasurementUpdateDone ⟨g, l⟩ s := rfl
  have hleft : g ∈ s.est.todo := by simpa using hg
  rw [hx, execMeasurementUpdateDone_eq hf hlive, if_neg (by simp [hdone, hleft, hsettled])]
  obtain ⟨hfrm, -, -, hcfg, hest, -, hmem⟩ := reportResidues_keeps l s
  have htesting {i : Nat} (hi : i ∈ l) (hr : s.retired { target := 3, index := i } = false) := reportResidues_testing l s hr (.inl hi)
  obtain ⟨u, hu⟩ : ∃ u, u = reportResidues l s := ⟨_, rfl⟩
  rw [← hu] at hfrm hcfg hest hmem ⊢
  obtain ⟨htodo, hwin, hmemu, hdiag, hcells⟩ := measureUpdate_spec f g (arrayView u)
  obtain ⟨hdfrm, hdcfg, hdest, hddiag, hdmem⟩ := measurementDone_keeps f g u
  obtain ⟨hofrm, hoest, hodiag, homem, hocfg⟩ := onEst_parts (measureUpdate f g) u
  refine ⟨_, rfl, ?_, fun i hi hr => ?_, ?_, ?_, ?_, fun h k _ hk => ?_⟩
  · rw [hdest, hoest, htodo, ← hest]
    rfl
  · rw [State.unitDiag, hddiag, hodiag, hdiag]
    rw [hu]
    exact htesting hi hr
  · rw [hdfrm, hofrm, hwin, ← hfrm]
    rfl
  · rw [hdmem, homem, hmemu, ← hmem]
    rfl
  · rw [hdcfg, hocfg, hcfg]
  · rw [hdest, hoest, hcells (hest ▸ h) k hk, ← hest]
    rfl

/-! ### The state and the record of the updated cell -/

/-- While another cell of its string is left, the update of a cell ends with the cell. -/
theorem measureUpdate_of_left {f : FrameRec} {g k : Nat} {s : State} (hk : k ∈ s.est.todo) (hne : k ≠ g) (hstr : cellStr k = cellStr g) :
    measureUpdate f g s = cellLeft g (cellUpdated f g s) := by
  have hmem : k ∈ (cellLeft g (cellUpdated f g s)).est.todo := by
    have htodo := (cellUpdated_stringUpdate f g s).todo
    simp only [cellLeft, htodo]
    exact List.mem_filter.2 ⟨hk, by simpa using hne⟩
  have hnot : strDone (cellLeft g (cellUpdated f g s)) (cellStr g) = false := by
    rw [strDone, List.any_eq_true.2 ⟨k, hmem, by simpa using hstr⟩]
    rfl
  have hlast : finishIfLast (cellStr g) (frameAdvance s f) f (cellLeft g (cellUpdated f g s)) = cellLeft g (cellUpdated f g s) :=
    if_neg (by simp [hnot])
  rw [measureUpdate_eq, hlast, if_neg (by simpa using List.ne_nil_of_mem hmem)]

/-- The state and the record of the cell after its update. -/
theorem cellUpdated_cell {f : FrameRec} {g : Nat} {s a : State} {img : Image} {span : Nat} (hl : f.epoch % 3 < s.est.staging.length)
    (hspan : span = spanTicksOf (s.metStr (cellStr g)).frmSpan) (ha : a = judgeInputs (cellStr g) (cellMon g) f.epoch span s)
    (himg : a.strImage (cellStr g) = some img) :
    (cellUpdated f g s).cell g = some (updateCell a f g (frameAdvance s f) span img ((s.cell g).getD Cell.fresh)).1 ∧
    mapGet (stagingOf (cellUpdated f g s) f.epoch).recs g =
      some (updateCell a f g (frameAdvance s f) span img ((s.cell g).getD Cell.fresh)).1.record := by
  have hest : a.est = s.est := ha ▸ (judgeInputs_keeps ..).2.2.1
  have hcell : a.cell g = s.cell g := by rw [State.cell, State.cell, hest]
  obtain ⟨r, hr⟩ : ∃ r, r = updateCell a f g (frameAdvance s f) span img ((s.cell g).getD Cell.fresh) := ⟨_, rfl⟩
  obtain ⟨v, hv⟩ : ∃ v, v = modStaging f.epoch (fun e => { e with recs := mapSet e.recs g r.1.record }) (a.setCell g r.1) := ⟨_, rfl⟩
  have heq : cellUpdated f g s = if r.2 then raise 62 g v else v := by
    rw [cellUpdated, ← hspan, ← ha, himg, hcell, hv, hr]
  have hvest : (cellUpdated f g s).est = v.est := by
    rw [heq]
    split
    · simp
    · rfl
  rw [← hr, State.cell, stagingOf, hvest, hv]
  refine ⟨mapGet_mapSet_same a.est.cells g r.1, ?_⟩
  have hrecs : (a.est.staging.modify (f.epoch % 3) (fun e => { e with recs := mapSet e.recs g r.1.record })).getD (f.epoch % 3) Staging.empty =
      { a.est.staging.getD (f.epoch % 3) Staging.empty with
        recs := mapSet (a.est.staging.getD (f.epoch % 3) Staging.empty).recs g r.1.record } := getD_modify_same (hest ▸ hl) _ _
  rw [modStaging, State.setCell]
  dsimp only
  rw [hrecs]
  exact mapGet_mapSet_same ..

/-- Settles O39: the time update runs under the configuration that governs the frame, and of a measurement update nothing
but the cell's own state, its record and the list that is left comes to stand, whatever the string and the frame end with. -/
theorem frameUpdatesRunOnce : Obligations.FrameUpdatesRunOnce := by
  unfold Obligations.FrameUpdatesRunOnce
  intro s f hf hlive
  refine ⟨fun a hdone hready ha => timeUpdateDone_spec hf hlive hdone hready ha, fun h => ?_,
    fun g l hdone hg hsettled => measurementUpdateDone_spec hf hlive l hdone hg hsettled,
    fun g k span img a hdone hg hsettled hk hne hstr hl hspan ha himg => ?_, fun g h => ?_⟩
  · have hx : exec .timeUpdateDone s = execTimeUpdateDone s := rfl
    rw [hx, execTimeUpdateDone_eq hf, if_pos]
    obtain h | h := h <;> simp [h]
  · have hx : exec (.measurementUpdateDone ⟨g, []⟩) s = execMeasurementUpdateDone ⟨g, []⟩ s := rfl
    have hleft : g ∈ s.est.todo := by simpa using hg
    obtain ⟨-, -, hdest, -, -⟩ := measurementDone_keeps f g s
    obtain ⟨-, hoest, -, -, -⟩ := onEst_parts (measureUpdate f g) s
    obtain ⟨hcell, hrec⟩ := cellUpdated_cell (s := arrayView s) hl hspan ha himg
    have hdone_est : (measurementDone f g s).est = (cellLeft g (cellUpdated f g (arrayView s))).est := by
      rw [hdest, hoest, measureUpdate_of_left (s := arrayView s) hk hne hstr]
    have hres : reportResidues [] s = s := rfl
    refine ⟨measurementDone f g s, ?_, ?_, ?_⟩
    · rw [hx, execMeasurementUpdateDone_eq hf hlive, if_neg (by simp [hdone, hleft, hsettled]), hres]
    · rw [State.cell, hdone_est]
      exact hcell
    · rw [stagingOf, hdone_est]
      exact hrec
  · have hx : exec (.measurementUpdateDone ⟨g, []⟩) s = execMeasurementUpdateDone ⟨g, []⟩ s := rfl
    rw [hx, execMeasurementUpdateDone_eq hf hlive, if_pos]
    · rfl
    · obtain h | h := h <;> simp only [h, Bool.not_false, Bool.true_or, Bool.or_true]

end Sys2Proof.Machine

namespace Sys2Proof.Machine

/-! ### Latching reads (R555, R562) -/

/-- The registers of one block answer or are silent together. -/
theorem State.blockLive_of_sameBlock (s : State) {a b : Nat} (h : a / 1024 = b / 1024) : s.blockLive a = s.blockLive b := by
  have hlow : decide (a < 0xC00) = decide (b < 0xC00) := decide_eq_decide.2 (by omega)
  have hpwr : (decide (0x2400 ≤ a) && decide (a < 0x2800)) = (decide (0x2400 ≤ b) && decide (b < 0x2800)) := by
    rw [← Bool.decide_and, ← Bool.decide_and]
    exact decide_eq_decide.2 (by omega)
  have hdiag : (decide (0x3400 ≤ a) && decide (a < 0x3800)) = (decide (0x3400 ≤ b) && decide (b < 0x3800)) := by
    rw [← Bool.decide_and, ← Bool.decide_and]
    exact decide_eq_decide.2 (by omega)
  simp only [State.blockLive, hlow, hpwr, hdiag, Bool.and_assoc]

/-- Which blocks answer is a matter of power and clock. -/
theorem State.blockLive_congr {s t : State} (hpwr : t.pwr = s.pwr) (hclk : t.clk = s.clk) (off : Nat) : t.blockLive off = s.blockLive off := by
  rw [State.blockLive, State.blockLive, hpwr, hclk]

theorem readReg_of_live {s : State} {off : Nat} (h : s.blockLive off = true) : readReg s off = reg32 (rawReg s off) := by
  rw [readReg, if_pos h, reg32]

/-- A read in a live block returns the register and lets the shadows take theirs. -/
theorem next_readWith {s : State} {off : Nat} {latch : State → State} (h : s.blockLive off = true) :
    (.next (readWith off latch s) : Out) = .next { latch s with hif := { (latch s).hif with readData := readReg s off } } := by
  rw [readWith, if_pos h]

/-- A shadow reads as the word that was latched, once a live register of its block has been read. -/
theorem readReg_shadow {s t : State} {off shadow n : Nat} (h : s.blockLive off = true) (hpwr : t.pwr = s.pwr) (hclk : t.clk = s.clk)
    (hblock : shadow / 1024 = off / 1024) (hraw : rawReg t shadow = (reg32 n).toNat) : readReg t shadow = reg32 n := by
  have hlive : t.blockLive shadow = true := by rw [State.blockLive_congr hpwr hclk, s.blockLive_of_sameBlock hblock, h]
  rw [readReg_of_live hlive, hraw, reg32, BitVec.ofNat_toNat, BitVec.setWidth_eq]

/-- Settles O11, register by register: a shadow of a live block reads back what the read of the low word latched; the SYS block
always answers. -/
theorem latchingReadsAreOneValue : Obligations.LatchingReadsAreOneValue := by
  unfold Obligations.LatchingReadsAreOneValue
  intro s
  have hsys : s.blockLive 0x14 = true := by simp [State.blockLive]
  refine ⟨?net, ?qIn, ?qOut, ?unc, ?now, ?lat, ?ppsin, ?gm, ?epoch, ?frames⟩
  case net => exact fun h => ⟨_, next_readWith h, rfl, readReg_shadow h rfl rfl rfl rfl, rfl⟩
  case qIn | qOut | unc | ppsin | gm =>
    exact fun h => ⟨_, next_readWith h, readReg_of_live h, readReg_shadow h rfl rfl rfl rfl, rfl⟩
  case now | lat =>
    exact fun h => ⟨_, next_readWith h, readReg_of_live h, readReg_shadow h rfl rfl rfl rfl, readReg_shadow h rfl rfl rfl rfl, rfl⟩
  case epoch => exact ⟨_, next_readWith hsys, readReg_of_live hsys, rfl, rfl⟩
  case frames => exact fun h => ⟨_, next_readWith h, readReg_of_live h, rfl, rfl⟩

end Sys2Proof.Machine

namespace Sys2Proof.Machine

/-! ### Reports of units other than lanes (R499) -/

/-- The report of a unit that is no lane moves nothing but the diagnosis. -/
theorem fileReport_frame {u : UnitId} (h : u.target ≠ 3) (s : State) : fileReport u s = { s with diag := (fileReport u s).diag } := by
  unfold fileReport refreshLane
  dsimp only
  split
  · rfl
  · rw [if_neg (by simpa using h)]
    rfl

/-! ### The entry of a window's charge (R54 to R67) -/

/-- From `s` to `t` nothing moves but the metering of string `n`, the diagnosis, the events and the flash. -/
structure ChargesOnly (n : Nat) (s t : State) : Prop where
  frame  : t = { s with met := { s.met with strs := t.met.strs }, diag := t.diag, evt := t.evt, nvm := t.nvm }
  length : t.met.strs.length = s.met.strs.length
  others : ∀ k, k ≠ n → t.metStr k = s.metStr k

/-- From `m` to `m'` the counters and what the last window left stand: only mismatches, a discarded rest, and what the string
keeps of its frames may move. -/
def MetStr.BooksOnly (m m' : MetStr) : Prop :=
  m' = { m with mismatch := m'.mismatch, discard := m'.discard, span := m'.span, spanWide := m'.spanWide, spanWideOvr := m'.spanWideOvr,
                spanOvr := m'.spanOvr, sNMark := m'.sNMark, frmQueue := m'.frmQueue }

theorem MetStr.BooksOnly.trans {a b c : MetStr} (h : a.BooksOnly b) (k : b.BooksOnly c) : a.BooksOnly c := by
  unfold MetStr.BooksOnly at *
  rw [k, h]

theorem MetStr.BooksOnly.keeps {m m' : MetStr} (h : m.BooksOnly m') :
    m'.waiting = m.waiting ∧ m'.qIn = m.qIn ∧ m'.qOut = m.qOut ∧ m'.uLin = m.uLin ∧ m'.sN = m.sN ∧ m'.current = m.current ∧
    m'.owSticky = m.owSticky ∧ m'.ow = m.ow ∧ m'.ref = m.ref ∧ m'.ovrCount = m.ovrCount ∧ m'.wideOvr = m.wideOvr := by
  unfold MetStr.BooksOnly at h
  rw [h]
  exact ⟨rfl, rfl, rfl, rfl, rfl, rfl, rfl, rfl, rfl, rfl, rfl⟩

/-- What is entered after such a move differs from what is entered before it by such a move. -/
theorem MetStr.BooksOnly.enterWindow {m m' : MetStr} (h : m.BooksOnly m') (w : OpenWin) (c : Charged) (ovr single : Bool) (now : Nat) :
    (enterWindow m w c ovr single now).BooksOnly (enterWindow m' w c ovr single now) := by
  unfold MetStr.BooksOnly at *
  rw [h]
  rfl

namespace ChargesOnly

theorem refl (n : Nat) (s : State) : ChargesOnly n s s := ⟨rfl, rfl, fun _ _ => rfl⟩

theorem trans {n : Nat} {s t u : State} (h : ChargesOnly n s t) (k : ChargesOnly n t u) : ChargesOnly n s u where
  frame := by rw [k.frame, h.frame]
  length := k.length.trans h.length
  others i hi := (k.others i hi).trans (h.others i hi)

theorem modMet (n : Nat) (f : MetStr → MetStr) (s : State) : ChargesOnly n s (s.modMet n f) :=
  ⟨rfl, s.modMet_length n f, fun _ hk => s.modMet_metStr_other (Ne.symm hk) f⟩

/-- A step outside the metering. -/
theorem of_frame {s t : State} {d : Diag} {e : Evt} {v : Nvm} (n : Nat) (h : t = { s with diag := d, evt := e, nvm := v }) : ChargesOnly n s t := by
  subst h
  exact ⟨rfl, rfl, fun _ _ => rfl⟩

end ChargesOnly

/-- Such a step of the state in which the string's counters stand. -/
structure KeepsCounters (n : Nat) (s t : State) : Prop where
  only  : ChargesOnly n s t
  books : n < s.met.strs.length → (s.metStr n).BooksOnly (t.metStr n)

namespace KeepsCounters

theorem refl (n : Nat) (s : State) : KeepsCounters n s s := ⟨.refl n s, fun _ => rfl⟩

theorem trans {n : Nat} {s t u : State} (h : KeepsCounters n s t) (k : KeepsCounters n t u) : KeepsCounters n s u :=
  ⟨h.only.trans k.only, fun hn => (h.books hn).trans (k.books (h.only.length ▸ hn))⟩

theorem modMet {n : Nat} {f : MetStr → MetStr} (hf : ∀ m : MetStr, m.BooksOnly (f m)) (s : State) : KeepsCounters n s (s.modMet n f) :=
  ⟨.modMet n f s, fun hn => by rw [State.modMet_metStr_same hn]; exact hf _⟩

theorem of_frame {s t : State} {d : Diag} {e : Evt} {v : Nvm} (n : Nat) (h : t = { s with diag := d, evt := e, nvm := v }) :
    KeepsCounters n s t where
  only := .of_frame n h
  books _ := by subst h; rfl

theorem ite {n : Nat} {s t : State} (b : Prop) [Decidable b] (h : KeepsCounters n s t) : KeepsCounters n s (if b then t else s) := by
  split
  · exact h
  · exact .refl n s

end KeepsCounters

theorem crossCheck_keepsCounters (n : Nat) (w : OpenWin) (c : Charged) (ovr : Bool) (s : State) : KeepsCounters n s (crossCheck n w c ovr s) := by
  unfold crossCheck
  extract_lets k x mismatch run u
  have hu : KeepsCounters n s u := by
    refine .modMet ?_ s
    exact fun _ => rfl
  split
  · exact hu.trans (.of_frame n (fileReport_frame (by simp) u))
  · exact hu

theorem raise_keepsCounters (n e i : Nat) (s : State) : KeepsCounters n s (raise e i s) :=
  .of_frame n (raise_frame e i s)

theorem markFrame_keepsCounters (n num : Nat) (s : State) : KeepsCounters n s (markFrame n num s) := by
  obtain h | ⟨k, h⟩ := markFrame_eq n num s <;> rw [h]
  · exact .refl n s
  · refine .modMet ?_ s
    exact fun _ => rfl

theorem refreshUrgents_keepsCounters (n num : Nat) (s : State) : KeepsCounters n s (refreshUrgents n num s) := .of_frame n rfl

/-- The oldest window enters its string's counters as `enterWindow` says; around that the counters stand. -/
theorem enterCharge_spec (n : Nat) (w : OpenWin) (count : BitVec 44) (ovr : Bool) (s : State) :
    ∃ u, KeepsCounters n s u ∧
      KeepsCounters n (u.modMet n (fun m => enterWindow m w (chargeOf s n w count ovr) ovr (s.qSingle n) s.clk.ticks)) (enterCharge n w count ovr s) := by
  refine ⟨crossCheck n w (chargeOf s n w count ovr) ovr s, crossCheck_keepsCounters .., ?_⟩
  unfold enterCharge
  extract_lets c first u v x y
  have hdiscard : KeepsCounters n v x := by
    refine .ite _ (.modMet ?_ v)
    exact fun _ => rfl
  have hraise : KeepsCounters n x y := .ite _ (raise_keepsCounters ..)
  exact hdiscard.trans (hraise.trans (markFrame_keepsCounters ..))

/-- WINDOW_CHARGE_ENTRY with a window that waits. -/
theorem windowChargeEntry_enters {s : State} {n : Nat} {w : OpenWin} {rest : List OpenWin} (count : BitVec 44) (ovr : Bool)
    (hn : n < s.met.strs.length) (hw : (s.metStr n).waiting = w :: rest) :
    ∃ t, exec (.windowChargeEntry n count ovr) s = .next t ∧ ChargesOnly n s t ∧
      (enterWindow (s.metStr n) w (chargeOf s n w count ovr) ovr (s.qSingle n) s.clk.ticks).BooksOnly (t.metStr n) := by
  have hx : exec (.windowChargeEntry n count ovr) s = execWindowChargeEntry n count ovr s := rfl
  obtain ⟨u, hu, hafter⟩ := enterCharge_spec n w count ovr s
  have hlast := hafter.trans (refreshUrgents_keepsCounters n w.num _)
  have hlen : n < u.met.strs.length := hu.only.length ▸ hn
  refine ⟨_, ?_, hu.only.trans (.trans (.modMet ..) hlast.only), ?_⟩
  · rw [hx, execWindowChargeEntry, hw]
  · have hbooks := hlast.books (by rwa [State.modMet_length])
    rw [State.modMet_metStr_same hlen] at hbooks
    exact ((hu.books hn).enterWindow ..).trans hbooks

/-- A window treated as open gives no charge, R72's bound and the share of its saturated wide-path samples (R63). -/
theorem chargeOf_open {w : OpenWin} (h : w.asOpen = true) (s : State) (n : Nat) (count : BitVec 44) (ovr : Bool) :
    (chargeOf s n w count ovr).q = 0 ∧
    (chargeOf s n w count ovr).uLin = micro (w.snap.iMax * secs w.len) +
      (if s.noWide n then 0 else micro ((4 / 10) * (windowWide s n w).2.1 / w.shunt)) ∧
    (chargeOf s n w count ovr).wideOvr = (!s.noWide n && (windowWide s n w).2.2) := by
  unfold chargeOf
  rw [if_pos h]
  cases s.noWide n with
  | true => exact ⟨rfl, (add_zero _).symm, rfl⟩
  | false => exact ⟨rfl, rfl, rfl⟩

/-- Settles O26: the counters take what `enterWindow` gives them, and before and after it only the string's books move. -/
theorem windowChargeEntersOnce : Obligations.WindowChargeEntersOnce := by
  unfold Obligations.WindowChargeEntersOnce
  refine ⟨fun s n count ovr w rest hn hw => ?_, fun s n count ovr w rest hn hw hopen => ?_, fun s n count ovr hw => ?_⟩
  · obtain ⟨t, hx, honly, hbooks⟩ := windowChargeEntry_enters count ovr hn hw
    obtain ⟨hwait, hin, hout, hu, hsn, -, hsticky, how, href, hovr, -⟩ := hbooks.keeps
    refine ⟨t, hx, ?_, hin, hout, hu, hsn, hsticky, how, href, hovr, honly.others, ?_⟩
    · rw [hwait, enterWindow, hw]
      rfl
    · have hmet : t.met = { s.met with strs := t.met.strs } := congrArg State.met honly.frame
      exact honly.frame.trans (by rw [← hmet])
  · obtain ⟨t, hx, -, hbooks⟩ := windowChargeEntry_enters count ovr hn hw
    obtain ⟨-, hin, hout, hu, -, hcur, -, -, -, -, hwide⟩ := hbooks.keeps
    obtain ⟨hq, hulin, hovr⟩ := chargeOf_open hopen s n count ovr
    refine ⟨t, hx, ?_, ?_, ?_, ?_, ?_⟩
    · simp [hin, enterWindow, hq]
    · simp [hout, enterWindow, hq]
    · simp [hcur, enterWindow, hopen]
    · rw [hu, enterWindow, hulin, add_assoc]
    · rw [hwide, enterWindow, hovr]
  · have hx : exec (.windowChargeEntry n count ovr) s = execWindowChargeEntry n count ovr s := rfl
    rw [hx, execWindowChargeEntry, hw]

end Sys2Proof.Machine

namespace Sys2Proof.Machine

/-! ### What a part of the state alone decides -/

theorem State.unitDiag_congr {s t : State} (h : t.diag = s.diag) (u : UnitId) : t.unitDiag u = s.unitDiag u := by
  rw [State.unitDiag, State.unitDiag, h]

theorem State.tunUnit_congr {s t : State} (h : t.tun = s.tun) (u : Nat) : t.tunUnit u = s.tunUnit u := by
  rw [State.tunUnit, State.tunUnit, h]

theorem State.retired_congr {s t : State} (h : t.diag = s.diag) (u : UnitId) : t.retired u = s.retired u := by
  simp only [State.retired, h]

/-! ### Open-wire tests (R68 to R73) -/

theorem getD_set_same {α : Type} {l : List α} {n : Nat} (h : n < l.length) (a d : α) : (l.set n a).getD n d = a := by
  simp [List.getD, h]

theorem getD_set_other {α : Type} (l : List α) {n k : Nat} (h : n ≠ k) (a d : α) : (l.set n a).getD k d = l.getD k d := by
  simp [List.getD, h]

/-- The second failure in a row declares a port open (R71). -/
theorem OwPort.test_opens {p : OwPort} (h : p.fails = 1) : (p.test true).isOpen = true := by
  simp [OwPort.test, h]

/-- The events of a declaration are events alone. -/
theorem owEvents_keeps (port info : Nat) (s : State) :
    (owEvents port info s).met = s.met ∧ (owEvents port info s).tun = s.tun ∧ (owEvents port info s).diag = s.diag := by
  have hfold {β : Type} (p : State → β) (hp : ∀ e i u, p (raise e i u) = p u) :
      p ((List.range 8).foldl (fun s n => if s.enabled n then raise (16 + n) (info + 8) s else s) s) = p s :=
    foldl_keeps p _ (fun u n => by split <;> simp [hp]) _ s
  unfold owEvents
  split
  · simp
  · exact ⟨hfold State.met (by simp), hfold State.tun (by simp), hfold State.diag (by simp)⟩

/-- Where the condition of the RREF port clears, nothing but its diagnosis moves. -/
theorem clearRref_frame (s : State) : clearRref s = { s with diag := (clearRref s).diag } := by
  unfold clearRref
  dsimp only
  split <;> rfl

/-- An open declaration of a shunt port: the string keeps it for its window's update, and both converters file a report (R71, R77). -/
theorem owDeclared_shunt {port : Nat} {old new : OwPort} (hp : port < 8) (hold : old.isOpen = false) (hnew : new.isOpen = true) (s : State) :
    owDeclared port old new s = fileReport { target := 0, index := 2 * port + 1 }
      (fileReport { target := 0, index := 2 * port } ((owEvents port 2 s).modMet port (fun m => { m with owDecl := true }))) := by
  simp [owDeclared, hold, hnew, hp]

/-- An open declaration of the RREF port (R73). -/
theorem owDeclared_rref {old new : OwPort} (hold : old.isOpen = false) (hnew : new.isOpen = true) (s : State) :
    owDeclared 8 old new s = rrefDeclareOpen (owEvents 8 2 s) := by
  simp [owDeclared, hold, hnew]

/-- Of the metering a declaration moves the declared string's note of it, or the balancing reference. -/
theorem owDeclared_met (port : Nat) (old new : OwPort) (s : State) :
    (owDeclared port old new s).met = s.met ∨
    (port < 8 ∧ (owDeclared port old new s).met = (s.modMet port (fun m => { m with owDecl := true })).met) ∨
    (¬ port < 8 ∧ (owDeclared port old new s).met = { s.met with refBackup := true }) := by
  have hclear (t : State) : (clearRref t).met = t.met := by rw [clearRref_frame]
  unfold owDeclared
  split
  · split
    next hp => exact .inr (.inl ⟨hp, by simp [State.modMet, owEvents_keeps]⟩)
    next hp => exact .inr (.inr ⟨hp, by simp [rrefDeclareOpen, suspendTuning, owEvents_keeps]⟩)
  · left
    split
    · split <;> simp [owEvents_keeps, hclear]
    · rfl

/-! ### OPEN_WIRE_SLOT -/

/-- The port has its test, before a declaration has its consequences. -/
def portTested (port : Nat) (failed : Bool) (s : State) : State :=
  let s := { s with met := { s.met with ports := s.met.ports.set port ((s.met.ports.getD port OwPort.reset).test failed) } }
  if port < 8 then s.modMet port (fun m => { m with owMicro := s.owCurrent port, owRun := true })
  else { s with met := { s.met with owDue := s.met.owDue.erase 8, rrefTest := some s.clk.ticks } }

theorem portTested_keeps (port : Nat) (failed : Bool) (s : State) :
    (portTested port failed s).met.ports = s.met.ports.set port ((s.met.ports.getD port OwPort.reset).test failed) ∧
    (portTested port failed s).diag = s.diag ∧ (portTested port failed s).tun = s.tun ∧
    (portTested port failed s).met.strs.length = s.met.strs.length := by
  unfold portTested
  dsimp only
  split <;> simp [State.modMet]

/-- An update that keeps a string's counters and its sticky flag keeps every string's. -/
theorem State.modMet_counters {f : MetStr → MetStr} (hin : ∀ m, (f m).qIn = m.qIn) (hout : ∀ m, (f m).qOut = m.qOut)
    (hsticky : ∀ m, (f m).owSticky = m.owSticky) (s : State) (n k : Nat) :
    ((s.modMet n f).metStr k).qIn = (s.metStr k).qIn ∧ ((s.modMet n f).metStr k).qOut = (s.metStr k).qOut ∧
    ((s.modMet n f).metStr k).owSticky = (s.metStr k).owSticky :=
  ⟨State.modMet_metStr_keeps hin s n k, State.modMet_metStr_keeps hout s n k, State.modMet_metStr_keeps hsticky s n k⟩

/-- A test of a shunt port notes its current on the port's string, whose counters stand. -/
theorem portTested_counters {port : Nat} (hp : port < 8) (failed : Bool) (s : State) (n : Nat) :
    ((portTested port failed s).metStr n).qIn = (s.metStr n).qIn ∧ ((portTested port failed s).metStr n).qOut = (s.metStr n).qOut ∧
    ((portTested port failed s).metStr n).owSticky = (s.metStr n).owSticky := by
  unfold portTested
  rw [if_pos hp]
  refine State.modMet_counters ?_ ?_ ?_ _ port n <;> exact fun _ => rfl

/-- A test of the RREF port leaves the strings alone. -/
theorem portTested_metStr {port : Nat} (hp : ¬ port < 8) (failed : Bool) (s : State) (n : Nat) :
    (portTested port failed s).metStr n = s.metStr n := by
  unfold portTested
  rw [if_neg hp]
  rfl

/-- The port's result stands, and no other port moves. -/
theorem openWireSlot_ports {port : Nat} {failed : Bool} {s : State} (hl : port < s.met.ports.length) {old new : OwPort} :
    (owDeclared port old new (portTested port failed s)).met.ports.getD port OwPort.reset = (s.met.ports.getD port OwPort.reset).test failed ∧
    ∀ p, p ≠ port → (owDeclared port old new (portTested port failed s)).met.ports.getD p OwPort.reset = s.met.ports.getD p OwPort.reset := by
  obtain ⟨hports, -⟩ := portTested_keeps port failed s
  have h : (owDeclared port old new (portTested port failed s)).met.ports =
      s.met.ports.set port ((s.met.ports.getD port OwPort.reset).test failed) := by
    rw [← hports]
    obtain h | ⟨-, h⟩ | ⟨-, h⟩ := owDeclared_met port old new (portTested port failed s) <;> rw [h]
    rfl
  rw [h]
  exact ⟨getD_set_same hl .., fun p hp => getD_set_other _ hp.symm ..⟩

theorem advanceTurns_of_lt {s : State} (h : s.clk.ticks < turnTick s) (fuel : Nat) : advanceTurns fuel s = s := by
  cases fuel with
  | zero => rfl
  | succ fuel => rw [advanceTurns, if_neg (not_le.2 h)]

/-- In its slot a port has its test and then what the result declares; the RREF port's turn is not advanced before the next is due. -/
theorem openWireSlot_eq {port : Nat} {s : State} (hnow : owSlotNow s port = true) (hturn : ¬ port < 8 → s.clk.ticks < turnTick s) (failed : Bool) :
    exec (.openWireSlot port failed) s =
      .next (owDeclared port (s.met.ports.getD port OwPort.reset) ((s.met.ports.getD port OwPort.reset).test failed) (portTested port failed s)) := by
  have hx : exec (.openWireSlot port failed) s = execOpenWireSlot port failed s := rfl
  have hs : (if port < 8 then s else advanceTurns 256 s) = s := by
    split
    · rfl
    next hp => exact advanceTurns_of_lt (hturn hp) _
  rw [hx, execOpenWireSlot]
  simp only [hs, hnow, Bool.not_true, Bool.false_eq_true, if_false]
  rfl

/-- The suspension with the RREF port, unit by unit. -/
theorem suspendTuning_tunUnit {s : State} {u : Nat} (h : u < s.tun.units.length) : (suspendTuning s).tunUnit u = (s.tunUnit u).suspend u := by
  simp [suspendTuning, State.tunUnit, List.getD, h]

theorem TunUnit.suspend_spec (i : Nat) (u : TunUnit) :
    (u.suspend i).accepted = none ∧ (u.suspend i).done = none ∧ (isQ i = true → (u.suspend i).point = u.mark.point) :=
  ⟨rfl, rfl, fun h => by simp [TunUnit.suspend, h]⟩

/-- The RREF port's open declaration: the backup reference, its last fault, and every unit suspended (R73, R114, R505). -/
theorem rrefDeclareOpen_spec (s : State) :
    (rrefDeclareOpen s).met.refBackup = true ∧ ((rrefDeclareOpen s).unitDiag rrefUnit).lastFault = true ∧
    ∀ u, u < s.tun.units.length → (rrefDeclareOpen s).tunUnit u = (s.tunUnit u).suspend u := by
  have hdiag : (rrefDeclareOpen s).diag = (s.setUnitDiag { s.unitDiag rrefUnit with lastFault := true }).diag := by
    simp [rrefDeclareOpen, suspendTuning]
  have hsame := s.unitDiag_setUnitDiag_same { s.unitDiag rrefUnit with lastFault := true }
  rw [State.unitDiag_unit] at hsame
  refine ⟨by simp [rrefDeclareOpen, suspendTuning], ?_, fun u hu => ?_⟩
  · rw [State.unitDiag_congr hdiag, hsame]
  · rw [← suspendTuning_tunUnit hu]
    refine State.tunUnit_congr ?_ u
    simp [rrefDeclareOpen, suspendTuning]

/-- A test of a shunt port in its slot moves no other port and no counter (R69, R74). -/
theorem shuntSlot_spec {s : State} {port : Nat} (hp : port < 8) (hnow : owSlotNow s port = true) (hl : port < s.met.ports.length) (failed : Bool) :
    ∃ t, exec (.openWireSlot port failed) s = .next t ∧ (t.met.ports.getD port OwPort.reset).lastFail = failed ∧
      (∀ p, p ≠ port → t.met.ports.getD p OwPort.reset = s.met.ports.getD p OwPort.reset) ∧
      ∀ n, (t.metStr n).qIn = (s.metStr n).qIn ∧ (t.metStr n).qOut = (s.metStr n).qOut := by
  obtain ⟨hport, hothers⟩ := openWireSlot_ports (failed := failed) (s := s) hl
  refine ⟨_, openWireSlot_eq hnow (absurd hp) failed, by rw [hport]; rfl, hothers, fun n => ?_⟩
  obtain ⟨hin, hout, -⟩ := portTested_counters hp failed s n
  rw [← hin, ← hout]
  obtain h | ⟨-, h⟩ | ⟨hno, -⟩ := owDeclared_met port (s.met.ports.getD port OwPort.reset)
    ((s.met.ports.getD port OwPort.reset).test failed) (portTested port failed s)
  · rw [State.metStr, h]
    exact ⟨rfl, rfl⟩
  · obtain ⟨hin', hout', -⟩ := State.modMet_counters (f := fun m => { m with owDecl := true }) (fun _ => rfl) (fun _ => rfl)
      (fun _ => rfl) (portTested port failed s) port n
    rw [State.metStr, h]
    exact ⟨hin', hout'⟩
  · exact absurd hp hno

/-- A second failure in a row: OW_STICKY waits for the window's update, the report does not (R71, R77). -/
theorem shuntSlot_declares {s : State} {port : Nat} (hp : port < 8) (hnow : owSlotNow s port = true) (hl : port < s.met.ports.length)
    (hfails : (s.met.ports.getD port OwPort.reset).fails = 1) (hclosed : (s.met.ports.getD port OwPort.reset).isOpen = false) :
    ∃ t, exec (.openWireSlot port true) s = .next t ∧ (t.met.ports.getD port OwPort.reset).isOpen = true ∧
      (port < s.met.strs.length → (t.metStr port).owDecl = true ∧ (t.metStr port).owSticky = (s.metStr port).owSticky) ∧
      (s.retired { target := 0, index := 2 * port } = false → (t.unitDiag { target := 0, index := 2 * port }).testing = true) := by
  have hopens := OwPort.test_opens hfails
  obtain ⟨hport, -⟩ := openWireSlot_ports (failed := true) (s := s) hl (old := s.met.ports.getD port OwPort.reset)
    (new := (s.met.ports.getD port OwPort.reset).test true)
  refine ⟨_, openWireSlot_eq hnow (absurd hp) true, by rw [hport, hopens], ?_⟩
  obtain ⟨u, hu⟩ : ∃ u, u = portTested port true s := ⟨_, rfl⟩
  obtain ⟨-, hdiag, -, hlen⟩ := hu ▸ portTested_keeps port true s
  obtain ⟨-, -, hsticky⟩ := hu ▸ portTested_counters hp true s port
  obtain ⟨hemet, -, hediag⟩ := owEvents_keeps port 2 u
  rw [← hu, owDeclared_shunt hp hclosed hopens]
  refine ⟨fun hn => ?_, fun hr => ?_⟩
  · simp only [State.metStr, fileReport_keeps]
    have hsame := State.modMet_metStr_same (s := owEvents port 2 u) (n := port) (by rw [hemet, hlen]; exact hn) (fun m => { m with owDecl := true })
    rw [← State.metStr, hsame]
    refine ⟨rfl, ?_⟩
    rw [State.metStr, hemet]
    exact hsticky
  · have hr' : ((owEvents port 2 u).modMet port (fun m => { m with owDecl := true })).retired { target := 0, index := 2 * port } = false := by
      rw [State.retired_congr (s := s) (by rw [State.modMet_diag, hediag, hdiag]), hr]
    have hfirst := fileReport_testing _ _ _ (fun _ => hr') (.inl rfl)
    exact fileReport_testing _ _ _ (fun h => by simp at h) (.inr hfirst)

/-- A test of the RREF port in its slot moves no other port and no string (R69, R93). -/
theorem rrefSlot_spec {s : State} (hnow : owSlotNow s 8 = true) (hl : 8 < s.met.ports.length) (hturn : s.clk.ticks < turnTick s) (failed : Bool) :
    ∃ t, exec (.openWireSlot 8 failed) s = .next t ∧ (t.met.ports.getD 8 OwPort.reset).lastFail = failed ∧
      (∀ p, p ≠ 8 → t.met.ports.getD p OwPort.reset = s.met.ports.getD p OwPort.reset) ∧ ∀ n, t.metStr n = s.metStr n := by
  obtain ⟨hport, hothers⟩ := openWireSlot_ports (failed := failed) (s := s) hl
  refine ⟨_, openWireSlot_eq hnow (fun _ => hturn) failed, by rw [hport]; rfl, hothers, fun n => ?_⟩
  rw [← portTested_metStr (port := 8) (by decide) failed s n]
  obtain h | ⟨hno, -⟩ | ⟨-, h⟩ := owDeclared_met 8 (s.met.ports.getD 8 OwPort.reset)
    ((s.met.ports.getD 8 OwPort.reset).test failed) (portTested 8 failed s)
  · rw [State.metStr, h, State.metStr]
  · exact absurd hno (by decide)
  · rw [State.metStr, h, State.metStr]

/-- A second failure in a row on the RREF port has the consequences of its declaration (R71, R73). -/
theorem rrefSlot_declares {s : State} (hnow : owSlotNow s 8 = true) (hl : 8 < s.met.ports.length) (hturn : s.clk.ticks < turnTick s)
    (hfails : (s.met.ports.getD 8 OwPort.reset).fails = 1) (hclosed : (s.met.ports.getD 8 OwPort.reset).isOpen = false) :
    ∃ t, exec (.openWireSlot 8 true) s = .next t ∧ (t.met.ports.getD 8 OwPort.reset).isOpen = true ∧ t.met.refBackup = true ∧
      (t.unitDiag rrefUnit).lastFault = true ∧ ∀ u, u < s.tun.units.length → t.tunUnit u = (s.tunUnit u).suspend u := by
  have hopens := OwPort.test_opens hfails
  obtain ⟨hport, -⟩ := openWireSlot_ports (failed := true) (s := s) hl (old := s.met.ports.getD 8 OwPort.reset)
    (new := (s.met.ports.getD 8 OwPort.reset).test true)
  refine ⟨_, openWireSlot_eq hnow (fun _ => hturn) true, by rw [hport, hopens], ?_⟩
  rw [owDeclared_rref hclosed hopens]
  obtain ⟨-, -, htested, -⟩ := portTested_keeps 8 true s
  obtain ⟨-, hevents, -⟩ := owEvents_keeps 8 2 (portTested 8 true s)
  have htun := hevents.trans htested
  obtain ⟨hbackup, hfault, hunits⟩ := rrefDeclareOpen_spec (owEvents 8 2 (portTested 8 true s))
  exact ⟨hbackup, hfault, fun u hu => by rw [hunits u (by rwa [htun]), State.tunUnit_congr htun]⟩

/-! ### RREF_RATIO_CHECK (R82) -/

/-- The two runs of seconds that the condition of R82 is judged by, after one check more. -/
def ratioCounted (q : Rat) (s : State) : State :=
  { s with tun := { s.tun with ratioBad := if 2000 < ratioDeparture q then s.tun.ratioBad + 1 else 0
                               ratioGood := if ratioDeparture q < 1500 then s.tun.ratioGood + 1 else 0 } }

/-- The tenth second above 2,000 ppm: the RREF port files its report. -/
def ratioFails (s : State) : State := fileReport rrefUnit { s with tun := { s.tun with ratioFiled := true } }

/-- The tenth second below 1,500 ppm: the condition ends, and with it R505 unless the port is declared open. -/
def ratioClears (s : State) : State :=
  let t := { s with tun := { s.tun with ratioFiled := false }, met := { s.met with refRatio := false } }
  if t.rrefOpen then t else clearRref t

/-- The check counts, then judges the condition by what it counted. -/
theorem rrefRatioCheck_eq {s : State} (h : s.tuningRuns = true) (q : Rat) :
    exec (.rrefRatioCheck q) s =
      if 10 ≤ (ratioCounted q s).tun.ratioBad && !s.tun.ratioFiled then .next (ratioFails (ratioCounted q s))
      else if 10 ≤ (ratioCounted q s).tun.ratioGood && (s.tun.ratioFiled || s.met.refRatio) then .next (ratioClears (ratioCounted q s))
      else .next (ratioCounted q s) := by
  have hx : exec (.rrefRatioCheck q) s = execRrefRatioCheck q s := rfl
  rw [hx, execRrefRatioCheck, if_neg (by simp [h])]
  rfl

/-- From `s` to `t` no more of tuning moves than whether the report is filed, and nothing but the metering and the diagnosis beside it. -/
def RatioJudged (s t : State) : Prop :=
  t = { s with tun := { s.tun with ratioFiled := t.tun.ratioFiled }, met := t.met, diag := t.diag }

theorem ratioFails_spec (s : State) :
    RatioJudged s (ratioFails s) ∧ (ratioFails s).tun.ratioFiled = true ∧ ((ratioFails s).unitDiag rrefUnit).testing = true := by
  have hframe := fileReport_frame (u := rrefUnit) (by decide) { s with tun := { s.tun with ratioFiled := true } }
  refine ⟨?_, ?_, fileReport_testing _ _ _ (fun _ => rfl) (.inl rfl)⟩
  · unfold RatioJudged ratioFails
    rw [hframe]
  · rw [ratioFails, hframe]

theorem ratioClears_spec (s : State) :
    RatioJudged s (ratioClears s) ∧ (ratioClears s).tun.ratioFiled = false ∧ (ratioClears s).met.refRatio = false ∧
    (ratioClears s).met.refBackup = s.met.refBackup := by
  unfold ratioClears
  dsimp only
  split
  · exact ⟨rfl, rfl, rfl, rfl⟩
  · rw [clearRref_frame]
    exact ⟨rfl, rfl, rfl, rfl⟩

/-- Whatever the check ends with, the two runs stand as it counted them. -/
theorem rrefRatioCheck_counts {s : State} (h : s.tuningRuns = true) (q : Rat) :
    ∃ t, exec (.rrefRatioCheck q) s = .next t ∧ RatioJudged (ratioCounted q s) t := by
  rw [rrefRatioCheck_eq h]
  split
  · exact ⟨_, rfl, (ratioFails_spec _).1⟩
  · split
    · exact ⟨_, rfl, (ratioClears_spec _).1⟩
    · exact ⟨_, rfl, rfl⟩

/-- Settles O27: a test in its slot, the second failure in a row, a test outside its slot, and the seconds of R82. -/
theorem openPortsAndTheReference : Obligations.OpenPortsAndTheReference := by
  unfold Obligations.OpenPortsAndTheReference
  refine ⟨fun s port hp hnow hl => ⟨shuntSlot_spec hp hnow hl, shuntSlot_declares hp hnow hl⟩,
    fun s hnow hl hturn => ⟨rrefSlot_spec hnow hl hturn, fun hfails hclosed => ?_⟩, fun s port failed hp hnow => ?_, fun s q hruns => ⟨?_, ?_, ?_⟩⟩
  · obtain ⟨t, hx, hopen, hbackup, hfault, hunits⟩ := rrefSlot_declares hnow hl hturn hfails hclosed
    refine ⟨t, hx, hopen, hbackup, hfault, fun u hu => ?_⟩
    rw [hunits u hu]
    exact TunUnit.suspend_spec u _
  · have hx : exec (.openWireSlot port failed) s = execOpenWireSlot port failed s := rfl
    rw [hx, execOpenWireSlot, if_pos hp, if_pos (by simp [hnow])]
  · obtain ⟨t, hx, hjudged⟩ := rrefRatioCheck_counts hruns q
    unfold RatioJudged at hjudged
    refine ⟨t, hx, ?_, ?_, ?_⟩ <;> rw [hjudged] <;> rfl
  · intro hfar hnine hfiled
    obtain ⟨-, htun, htesting⟩ := ratioFails_spec (ratioCounted q s)
    refine ⟨_, ?_, htesting, htun⟩
    rw [rrefRatioCheck_eq hruns, if_pos (by simp [ratioCounted, hfar, hnine, hfiled])]
  · intro hnear hnine hfiled
    obtain ⟨-, htun, hratio, hbackup⟩ := ratioClears_spec (ratioCounted q s)
    refine ⟨_, ?_, htun, hratio, hbackup⟩
    rw [rrefRatioCheck_eq hruns, if_neg (by simp [hfiled]), if_pos (by simp [ratioCounted, hnear, hnine, hfiled])]

end Sys2Proof.Machine

namespace Sys2Proof.Machine

/-! ### Commands whose checks pass (R379, R380) -/

theorem firstFail_eq_none {l : List Check} (h : ∀ c ∈ l, c.1 = true) : firstFail l = none := by
  induction l with
  | nil => rfl
  | cons c l ih =>
    obtain ⟨hhead, htail⟩ := List.forall_mem_cons.1 h
    rw [firstFail, if_pos hhead, ih htail]

/-- A command that does not wait and whose checks all pass does what it is for. -/
theorem runCmd_of_checked {op : Nat} {sub : Submission} {checks : List Check} {act : State → State} {s : State}
    (hw : s.cmdWaits op sub = false) (hc : ∀ c ∈ checks, c.1 = true) : runCmd op sub checks act s = .next (act s) := by
  rw [runCmd, if_neg (by simp [hw]), firstFail_eq_none hc]

/-- RUN and LEAN accept every command. -/
theorem State.accepts_of_live {s : State} (h : s.live = true) (op : Nat) : s.accepts op = true := by
  cases hs : s.pwr.state <;> simp [State.live, State.accepts, hs] at h ⊢

/-! ### Commands that only read -/

/-- CONFIG_READ of a block that its source has, into a buffer that holds it (R396). -/
theorem configRead_completes {s : State} {sub : Submission} {b : ConfigBlock} (hlive : s.live = true) (hw : s.cmdWaits 0x03 sub = false)
    (hform : sub.formOk [(0, 1)] = true) (hsrc : sub.pU 0 1 < 3) (hb : sourceBlock s (sub.pU 0 1) = some b)
    (hbuf : sub.hasBuf (blockLen b ≤ sub.bufLen : Bool) = true) :
    exec (.configRead sub) s = .next (complete 0x03 sub stOK (leBytes 4 (blockLen b) ++ leBytes 4 b.configId)
      ((if sub.pU 0 1 = 1 then flashRead 1 s else s).dma sub.bufAddr (blockBytes b))) := by
  change execConfigRead sub s = _
  rw [execConfigRead, hb]
  exact runCmd_of_checked hw (by simp [hform, hsrc, hbuf, State.accepts_of_live hlive])

/-- A read of the flash may file a report; the flash stays as it is (R499). -/
theorem flashRead_nvm (n : Nat) (s : State) : (flashRead n s).nvm = s.nvm := by
  unfold flashRead
  dsimp only
  split
  · simp
  · rfl

/-- PARAM_READ of an image that is there, whole or by its head and digest, into a buffer that holds that (R399). -/
theorem paramRead_completes {s : State} {sub : Submission} {i : Image} {pending whole : Bool} (hlive : s.live = true) (hw : s.cmdWaits 0x06 sub = false)
    (hform : sub.formOk [(0, 1), (1, 1)] = true) (hslot : sub.pU 0 1 < 8) (hflags : sub.pU 1 1 < 4)
    (hpending : (sub.pU 1 1).testBit 0 = pending) (hwhole : (sub.pU 1 1).testBit 1 = whole)
    (hi : (if pending then s.cfg.pending.getD (sub.pU 0 1) none else s.image (sub.pU 0 1)) = some i)
    (hbuf : sub.hasBuf (if whole then decide (imgLen i ≤ sub.bufLen) else decide (96 ≤ sub.bufLen)) = true)
    {d : List Byte} (hd : (if whole then i.bytes else i.bytes.take 64 ++ fit 32 (imgDigest i)) = d) :
    exec (.paramRead sub) s = .next (complete 0x06 sub stOK (leBytes 4 d.length ++ leBytes 1 1) (s.dma sub.bufAddr d)) := by
  subst hd
  change execParamRead sub s = _
  rw [execParamRead, hpending, hwhole, hi]
  exact runCmd_of_checked hw (by simp [hform, hslot, hflags, hbuf, State.accepts_of_live hlive])

/-- Settles O56, command by command: its checks pass, and what it then does is the completion that the statement names. -/
theorem readingCommands : Obligations.ReadingCommands := by
  intro s sub
  refine ⟨fun hw ha hform hbuf => ?nop, fun hw ha hform hbuf => ?identify, fun hlive => ?_⟩
  case nop =>
    change execNop sub s = _
    exact runCmd_of_checked hw (by simp [ha, hform, hbuf])
  case identify =>
    change execIdentify sub s = _
    exact runCmd_of_checked hw (by simp [ha, hform, hbuf])
  have haccepts := State.accepts_of_live hlive
  refine ⟨fun b => configRead_completes hlive,
    fun i hw hform hslot hflags hbuf hi => ?head, fun i hw hform hslot hflags hi hbuf => ?whole, fun hw hform hbuf hstr => ?ropeMap,
    fun hw hform hcount hlast hbuf => ?states, fun hw hform hbuf => ?tune, fun hw hform hbuf => ?time, fun hw hform hbuf l hl => ?log,
    fun hw hform hlen hbuf => ?jobs⟩
  case head =>
    exact paramRead_completes (pending := false) (whole := false) hlive hw hform hslot (by omega) (by rw [hflags]; rfl) (by rw [hflags]; rfl) hi hbuf rfl
  case whole =>
    exact paramRead_completes (pending := true) (whole := true) hlive hw hform hslot (by omega) (by rw [hflags]; rfl) (by rw [hflags]; rfl) hi hbuf rfl
  case ropeMap =>
    change execRopeMapRead sub s = _
    exact runCmd_of_checked hw (by simp [hform, hbuf, hstr, haccepts])
  case states =>
    have hfirst : sub.pU 0 2 < 4096 ∧ sub.pU 2 2 ≤ 4096 - sub.pU 0 2 := by omega
    change execStateRead sub s = _
    rw [execStateRead]
    exact runCmd_of_checked hw (by simp [hform, hbuf, hcount, hfirst, haccepts])
  case tune =>
    change execTuneRead sub s = _
    exact runCmd_of_checked hw (by simp [hform, hbuf, haccepts])
  case time =>
    change execTimeStatus sub s = _
    exact runCmd_of_checked hw (by simp [hform, hbuf, haccepts])
  case log =>
    subst hl
    change execLogRead sub s = _
    refine (runCmd_of_checked hw (by simp [hform, hbuf, haccepts])).trans ?_
    dsimp only
    rw [flashRead_nvm]
  case jobs =>
    change execTraverseStatus sub s = _
    exact runCmd_of_checked hw (by simp [hform, hlen, hbuf, haccepts])

end Sys2Proof.Machine

namespace Sys2Proof.Machine

/-! ### Units of the tuning engine -/

/-- A unit that no update of a fold names stands. -/
theorem foldl_modTun_other {f : Nat → TunUnit → TunUnit} {l : List Nat} {u : Nat} (hu : u ∉ l) (s : State) :
    (l.foldl (fun s u => s.modTun u (f u)) s).tunUnit u = s.tunUnit u := by
  induction l generalizing s with
  | nil => rfl
  | cons v l ih =>
    rw [List.foldl_cons, ih (List.not_mem_of_not_mem_cons hu), State.modTun_tunUnit_other s (List.ne_of_not_mem_cons hu).symm]

/-- A unit that is named once is updated once. -/
theorem foldl_modTun_named {f : Nat → TunUnit → TunUnit} {l : List Nat} {u : Nat} {s : State} (hl : l.Nodup) (hu : u ∈ l)
    (hlen : u < s.tun.units.length) : (l.foldl (fun s u => s.modTun u (f u)) s).tunUnit u = f u (s.tunUnit u) := by
  obtain ⟨s', hs', hfold⟩ := foldl_at (fun t => (t.tunUnit u, t.tun.units.length)) (fun s u => s.modTun u (f u)) u
    (fun t k hk => by rw [State.modTun_tunUnit_other t hk, State.modTun_length]) hl hu s
  simp only [Prod.mk.injEq] at hs' hfold
  obtain ⟨hunit, hlength⟩ := hs'
  rw [hfold.1, State.modTun_tunUnit_same (hlength ▸ hlen), hunit]

/-- Updates of units move the units alone. -/
theorem foldl_modTun_frame (f : Nat → TunUnit → TunUnit) (l : List Nat) (s : State) :
    ∃ units, l.foldl (fun s u => s.modTun u (f u)) s = { s with tun := { s.tun with units := units } } := by
  induction l generalizing s with
  | nil => exact ⟨_, rfl⟩
  | cons u l ih =>
    obtain ⟨units, h⟩ := ih (s.modTun u (f u))
    exact ⟨units, h⟩

/-! ### TUNE_NOW (R109 to R112) -/

theorem TunUnit.restart_spec (reset : Bool) (i : Nat) (u : TunUnit) :
    (u.restart reset i).slots = 0 ∧ (u.restart reset i).done = none ∧
    (u.restart reset i).refined = (if reset then (List.range 5).map (Coef.factory i) else u.refined) ∧
    (u.restart reset i).live = (if reset then Coef.zero else u.live) := by
  cases reset <;> exact ⟨rfl, rfl, rfl, rfl⟩

/-- While every TUNE_NOW waits for a unit, none completes (R111). -/
theorem tuneComplete_eq_self {s : State} (h : ∀ w ∈ s.tun.waits, w.mask &&& ~~~(w.accepted ||| w.rejected) ≠ 0) : tuneComplete s = s := by
  have hall : s.tun.waits.filter (fun w => w.mask &&& ~~~(w.accepted ||| w.rejected) != 0) = s.tun.waits :=
    List.filter_eq_self.2 fun w hw => bne_iff_ne.2 (h w hw)
  have hnone : s.tun.waits.filter (fun w => w.mask &&& ~~~(w.accepted ||| w.rejected) == 0) = [] :=
    List.filter_eq_nil_iff.2 fun w hw e => h w hw (beq_iff_eq.1 e)
  simp only [tuneComplete, hall, hnone, List.foldl_nil]

/-- The named units restarted, before the command joins the ones that wait. -/
def unitsRestarted (mask : BitVec 64) (reset : Bool) (s : State) : State :=
  let t := (maskUnits mask).foldl (fun s u => s.modTun u (TunUnit.restart reset u)) s
  if reset && mask != 0 then { t with tun := { t.tun with dirty := true } } else t

/-- A restart moves tuning alone, and no TUNE_NOW that waits. -/
theorem unitsRestarted_frame (mask : BitVec 64) (reset : Bool) (s : State) :
    unitsRestarted mask reset s = { s with tun := (unitsRestarted mask reset s).tun } ∧ (unitsRestarted mask reset s).tun.waits = s.tun.waits := by
  obtain ⟨units, h⟩ := foldl_modTun_frame (TunUnit.restart reset) (maskUnits mask) s
  simp only [unitsRestarted, h]
  split <;> exact ⟨rfl, rfl⟩

theorem unitsRestarted_tunUnit (mask : BitVec 64) (reset : Bool) (s : State) (u : Nat) :
    (u ∈ maskUnits mask → u < s.tun.units.length → (unitsRestarted mask reset s).tunUnit u = (s.tunUnit u).restart reset u) ∧
    (u ∉ maskUnits mask → (unitsRestarted mask reset s).tunUnit u = s.tunUnit u) := by
  have hfold : (unitsRestarted mask reset s).tunUnit u =
      ((maskUnits mask).foldl (fun s u => s.modTun u (TunUnit.restart reset u)) s).tunUnit u := by
    unfold unitsRestarted
    dsimp only
    split <;> rfl
  rw [hfold]
  exact ⟨fun hu hlen => foldl_modTun_named (List.nodup_range.filter _) hu hlen, fun hu => foldl_modTun_other hu s⟩

/-- The command joins the ones that wait, with no result yet. -/
def tuneQueued (sub : Submission) (mask : BitVec 64) (t : State) : State :=
  { t with tun := { t.tun with waits := t.tun.waits ++ [{ sub, mask, accepted := 0, rejected := 0, deadline := tuneDeadline t mask }] } }

/-- TUNE_NOW of units that are there restarts them and waits. -/
theorem tuneNow_waits {s : State} {sub : Submission} {mask : BitVec 64} (hm : BitVec.ofNat 64 (sub.pU 0 8) = mask) (hlive : s.live = true)
    (hw : s.cmdWaits 0x30 sub = false) (hform : sub.formOk [(0, 8), (8, 1)] = true) (hbuf : sub.noBuf = true) (hlt : sub.pU 0 8 < 2 ^ 34)
    (hne : sub.pU 0 8 ≠ 0) (hflag : sub.pU 8 1 < 2) (hret : (maskUnits mask).all (fun u => !s.retired (tunTarget u)) = true)
    (hopen : s.rrefOpen = false) (hwait : ∀ w ∈ s.tun.waits, w.mask &&& ~~~(w.accepted ||| w.rejected) ≠ 0) :
    exec (.tuneNow sub) s = .next (tuneQueued sub mask (unitsRestarted mask (sub.pU 8 1 = 1) s)) := by
  have hnat : mask.toNat = sub.pU 0 8 := by rw [← hm, BitVec.toNat_ofNat, Nat.mod_eq_of_lt (by omega)]
  have hmask : mask &&& ~~~((0 : BitVec 64) ||| 0) ≠ 0 := by
    rw [show ~~~((0 : BitVec 64) ||| 0) = BitVec.allOnes 64 by decide, BitVec.and_allOnes]
    exact fun h => hne (by rw [← hnat, h]; rfl)
  have hrange : mask.toNat < 2 ^ 34 := hnat ▸ hlt
  have hx : exec (.tuneNow sub) s = execTuneNow sub s := rfl
  rw [hx, execTuneNow, hm]
  refine (runCmd_of_checked hw ?_).trans (congrArg Host.Outcome.next
    (tuneComplete_eq_self (s := tuneQueued sub mask (unitsRestarted mask (sub.pU 8 1 = 1) s)) fun w hw => ?_))
  · simp only [hform, hbuf, hrange, hflag, hret, hopen, State.accepts_of_live hlive]
    simp
  rw [tuneQueued, (unitsRestarted_frame ..).2] at hw
  obtain hold | hnew := List.mem_append.1 hw
  · exact hwait w hold
  · rw [List.mem_singleton.1 hnew]
    exact hmask

/-- The timeout of the oldest TUNE_NOW whose time is over (R111). -/
theorem tuneNowTimeout_completes {s : State} {w : TuneWait} (h : s.tun.waits.find? (fun w => w.deadline ≤ s.clk.ticks) = some w) :
    exec .tuneNowTimeout s = .next (complete 0x30 w.sub stTimeout (leBytes 8 w.accepted.toNat ++ leBytes 8 w.rejected.toNat)
      { s with tun := { s.tun with waits := s.tun.waits.erase w } }) := by
  change execTuneNowTimeout s = _
  rw [execTuneNowTimeout, h]
  rfl

/-- Settles O29: a restart and a wait, then the timeout with a TUNE_NOW whose time is over and without one. -/
theorem tuneNowWaits : Obligations.TuneNowWaits := by
  refine fun s sub => ⟨fun hlive hw hform hbuf hlt hne hflag hret hopen hwait => ?_, fun w hw => tuneNowTimeout_completes hw, fun hnone => ?_⟩
  · obtain ⟨mask, hm⟩ : ∃ mask, BitVec.ofNat 64 (sub.pU 0 8) = mask := ⟨_, rfl⟩
    rw [hm] at hret ⊢
    obtain ⟨hframe, hwaits⟩ := unitsRestarted_frame mask (sub.pU 8 1 = 1) s
    have hunit := unitsRestarted_tunUnit mask (sub.pU 8 1 = 1) s
    refine ⟨_, tuneNow_waits hm hlive hw hform hbuf hlt hne hflag hret hopen hwait, by rw [hframe]; rfl,
      ⟨_, by rw [tuneQueued, hwaits], rfl, rfl, rfl, rfl⟩, fun u hu hlen => ?_, fun u hu => (hunit u).2 hu⟩
    obtain ⟨hslots, hdone, hrefined, hcorr⟩ := TunUnit.restart_spec (sub.pU 8 1 = 1) u (s.tunUnit u)
    rw [← (hunit u).1 hu hlen] at hslots hdone hrefined hcorr
    exact ⟨hslots, hdone, fun h => ⟨hrefined.trans (by simp [h]), hcorr.trans (by simp [h])⟩,
      fun h => ⟨hrefined.trans (by simp [h]), hcorr.trans (by simp [h])⟩⟩
  · have hfind : s.tun.waits.find? (fun w => decide (w.deadline ≤ s.clk.ticks)) = none :=
      List.find?_eq_none.2 fun w hw => by simpa using hnone w hw
    change execTuneNowTimeout s = _
    rw [execTuneNowTimeout, hfind]

end Sys2Proof.Machine

namespace Sys2Proof.Machine

/-! ### A tuning slot (R91 to R94) -/

/-- The unit with the slot counted at the rotation's point, before the accumulation is known to go on (R92, R94). -/
def TunUnit.counted (u : TunUnit) (v : Rat) (die : Int) : TunUnit :=
  { u with acc := u.acc.modify u.point (fun a => { n := a.n + 1, sum := a.sum + v }), point := (u.point + 1) % 5, slots := u.slots + 1
           minT := if u.slots = 0 then die else min u.minT die, maxT := if u.slots = 0 then die else max u.maxT die, sumT := u.sumT + die }

theorem TunUnit.addSlot_eq (u : TunUnit) (full : Nat) (v : Rat) (die : Int) :
    u.addSlot full v die =
      if u.slots + 1 < full then u.counted v die
      else if 200 < (u.counted v die).maxT - (u.counted v die).minT then (u.counted v die).clearAcc
      else { (u.counted v die).clearAcc with
        done := some { acc := (u.counted v die).acc, slots := (u.counted v die).slots, sumT := (u.counted v die).sumT } } := rfl

/-- Whatever becomes of the accumulation, a slot moves the rotation on, and no coefficient. -/
theorem TunUnit.addSlot_keeps (u : TunUnit) (full : Nat) (v : Rat) (die : Int) :
    (u.addSlot full v die).refined = u.refined ∧ (u.addSlot full v die).inForce = u.inForce ∧ (u.addSlot full v die).point = (u.point + 1) % 5 := by
  rw [addSlot_eq]
  split
  next => exact ⟨rfl, rfl, rfl⟩
  next => split <;> exact ⟨rfl, rfl, rfl⟩

/-- A slot before the last one counts at the rotation's point. -/
theorem TunUnit.addSlot_counts {u : TunUnit} {full : Nat} (h : u.slots + 1 < full) (v : Rat) (die : Int) :
    (u.addSlot full v die).slots = u.slots + 1 ∧ (u.addSlot full v die).done = u.done ∧
    (u.addSlot full v die).acc = u.acc.modify u.point (fun a => { n := a.n + 1, sum := a.sum + v }) := by
  rw [addSlot_eq, if_pos h]
  exact ⟨rfl, rfl, rfl⟩

/-- The last slot ends the accumulation; while the temperature kept within 2.0 °C it is handed to the fit (R94). -/
theorem TunUnit.addSlot_completes {u : TunUnit} {full : Nat} (h : full ≤ u.slots + 1) (v : Rat) (die : Int) :
    (u.addSlot full v die).slots = 0 ∧ (u.addSlot full v die).acc = List.replicate 5 PointAcc.zero ∧
    (u.slots ≠ 0 → max u.maxT die - min u.minT die ≤ 200 →
      ∃ d, (u.addSlot full v die).done = some d ∧ d.slots = u.slots + 1 ∧ d.sumT = u.sumT + die) := by
  rw [addSlot_eq, if_neg (Nat.not_lt.2 h)]
  split
  next hspread =>
    refine ⟨rfl, rfl, fun hfirst hnear => ?_⟩
    simp only [counted, if_neg hfirst] at hspread
    omega
  next => exact ⟨rfl, rfl, fun _ _ => ⟨_, rfl, rfl, rfl⟩⟩

/-- TUNING_SLOT_END of a Q unit that tunes and rests: its one slot more, and no other unit moves. -/
theorem tuningSlotEnd_eq {s : State} {u : Nat} (hq : isQ u = true) (htunes : s.tuning u = true) (hrests : s.resting u = true)
    (hends : slotEnds s (s.metStr (u / 2)).owTest = true) (hnew : (s.tunUnit u).slotTick ≠ some s.clk.ticks)
    (hkept : (s.metStr (u / 2)).discard ≠ some u) (hfree : rrefSlot s = false) (v : Rat) :
    exec (.tuningSlotEnd u v) s = .next (s.modTun u (fun x => { x.addSlot 1000 v s.tun.dieT with slotTick := some s.clk.ticks })) := by
  change execTuningSlotEnd u v s = _
  rw [execTuningSlotEnd, if_pos (by simp [hq, htunes, hrests, hends, hnew, hkept, hfree]), accSize, if_pos hq]

/-- A unit that is suspended or retired takes no slot (R73, R113). -/
theorem tuningSlotEnd_stands {s : State} {u : Nat} (h : s.tuning u = false) (v : Rat) : exec (.tuningSlotEnd u v) s = .next s :=
  if_neg (by simp [h])

/-! ### The fit (R95 to R98) -/

/-- TUNE_NOWs that complete move no unit, no event and no diagnosis. -/
theorem tuneComplete_keeps (s : State) :
    (tuneComplete s).tun.units = s.tun.units ∧ (tuneComplete s).evt = s.evt ∧ (tuneComplete s).diag = s.diag := by
  have h {β : Type} (p : State → β) (hp : ∀ (t : State) (w : TuneWait), p (complete 0x30 w.sub stOK (tuneResult w) t) = p t)
      (l : List TuneWait) (t : State) : p (l.foldl (fun s w => complete 0x30 w.sub stOK (tuneResult w) s) t) = p t :=
    foldl_keeps p _ hp l t
  refine ⟨h (·.tun.units) ?_ .., h (·.evt) ?_ .., h (·.diag) ?_ ..⟩ <;> intros <;> simp

/-- A result that the waiting TUNE_NOWs note moves no unit, no event and no diagnosis (R111). -/
theorem tuneNote_keeps (u : Nat) (ok : Bool) (s : State) :
    (∀ k, (tuneNote u ok s).tunUnit k = s.tunUnit k) ∧ (tuneNote u ok s).evt = s.evt ∧ (tuneNote u ok s).diag = s.diag := by
  obtain ⟨hunits, hevt, hdiag⟩ := tuneComplete_keeps { s with tun := { s.tun with waits := s.tun.waits.map (fun w =>
    if w.mask.getLsbD u && !(w.accepted.getLsbD u || w.rejected.getLsbD u) then
      (if ok then { w with accepted := setBit w.accepted u true } else { w with rejected := setBit w.rejected u true })
    else w) } }
  refine ⟨fun k => ?_, hevt, hdiag⟩
  rw [State.tunUnit, tuneNote, hunits, State.tunUnit]

/-- The coefficients that the accumulation of a unit gives (R95). -/
def fitOf (s : State) (u : Nat) (d : Accumulation) : Coef :=
  coefOfQuad (quadFit (accPoints s u d)).1 (quadFit (accPoints s u d)).2.1 (quadFit (accPoints s u d)).2.2

/-- The limits that they fail, as LAST_REJ tells them (R96). -/
def fitFails (s : State) (u : Nat) (d : Accumulation) : Nat :=
  failedLimits u (s.tunUnit u) (fitOf s u d) (fitError (fitOf s u d) (accPoints s u d)) ((d.sumT : Rat) / (d.slots : Nat))

/-- The result of a plausible fit, as it waits to take force (R105, R106). -/
def fitResult (s : State) (u : Nat) (d : Accumulation) : FitResult :=
  { coef := fitOf s u d, residual := pubU 32 (sqrtR (fitError (fitOf s u d) (accPoints s u d)) / fullScale u * 100000000)
    dieT := (d.sumT : Rat) / (d.slots : Nat), refine := (s.tunUnit u).refine, tick := s.clk.ticks }

/-- A unit takes note of a rejection (R97). -/
def TunUnit.reject (rej : Nat) (u : TunUnit) : TunUnit :=
  { u with done := none, rejConsec := (u.rejConsec + 1) % 3, rejTotal := min 0xFFFF (u.rejTotal + 1), lastRej := BitVec.ofNat 4 rej }

/-- A unit takes note of an acceptance (R97). -/
def TunUnit.accept (r : FitResult) (now : Nat) (u : TunUnit) : TunUnit :=
  { u with done := none, accepted := some r, rejConsec := 0, residual := r.residual, accTick := some now, dieT := roundAway r.dieT }

/-- EV37 of a rejection, and the report of the third in a row (R97, R98). -/
def fitRejected (u rej : Nat) (s : State) : State :=
  let t := raise 37 u (s.modTun u (TunUnit.reject rej))
  if (s.tunUnit u).rejConsec = 2 then fileReport (tunTarget u) t else t

/-- TUNING_FIT_DONE of a unit that tunes: its accumulation is fitted and judged. -/
theorem tuningFitDone_eq {s : State} {u : Nat} {d : Accumulation} (htunes : s.tuning u = true) (hd : (s.tunUnit u).done = some d) :
    exec (.tuningFitDone u) s =
      if fitFails s u d = 0 then .next (tuneNote u true (s.modTun u (TunUnit.accept (fitResult s u d) s.clk.ticks)))
      else .next (tuneNote u false (fitRejected u (fitFails s u d) s)) := by
  change execTuningFitDone u s = _
  simp only [execTuningFitDone, hd]
  exact if_neg (by simp [htunes])

/-- A rejection moves the one unit, and makes EV37 pending where it is enabled. -/
theorem fitRejected_spec (u rej : Nat) (s : State) :
    (fitRejected u rej s).tun = (s.modTun u (TunUnit.reject rej)).tun ∧
    (s.evt.en.getLsbD 37 = true → (fitRejected u rej s).evt.pend.getLsbD 37 = true) ∧
    ((s.tunUnit u).rejConsec = 2 → s.retired (tunTarget u) = false → ((fitRejected u rej s).unitDiag (tunTarget u)).testing = true) := by
  have hpends : s.evt.en.getLsbD 37 = true → (raise 37 u (s.modTun u (TunUnit.reject rej))).evt.pend.getLsbD 37 = true :=
    fun h => raise_pends u (by simpa using h)
  unfold fitRejected
  dsimp only
  split
  next => exact ⟨by simp, by simpa using hpends, fun _ hr => fileReport_testing _ _ _ (fun _ => by rwa [State.retired_congr (s := s) (by simp)]) (.inl rfl)⟩
  next hc => exact ⟨by simp, hpends, fun h => absurd h hc⟩

/-- Settles O28: a slot by what it adds to its unit, a fit by the verdict of its limits; the TUNE_NOWs that note a result move no
unit. -/
theorem tuningSlotsAndFits : Obligations.TuningSlotsAndFits := by
  refine ⟨fun s u v => ⟨fun hq htunes hrests hends hnew hkept hfree hlen => ?_, fun h => tuningSlotEnd_stands h v⟩,
    fun s u d c rej htunes hd hlen hc hrej => ?_⟩
  · obtain ⟨hrefined, hforce, hpoint⟩ := (s.tunUnit u).addSlot_keeps 1000 v s.tun.dieT
    refine ⟨_, tuningSlotEnd_eq hq htunes hrests hends hnew hkept hfree v, rfl, fun k hk => State.modTun_tunUnit_other s hk.symm _, ?_⟩
    rw [State.modTun_tunUnit_same hlen]
    exact ⟨hrefined, hforce, hpoint, rfl, fun h => TunUnit.addSlot_counts h v _, fun h => TunUnit.addSlot_completes h v _⟩
  · subst hc
    subst hrej
    refine ⟨fun haccept => ?_, fun hreject => ?_⟩
    · obtain ⟨hunits, hevt, -⟩ := tuneNote_keeps u true (s.modTun u (TunUnit.accept (fitResult s u d) s.clk.ticks))
      refine ⟨_, fitResult s u d, (tuningFitDone_eq htunes hd).trans (if_pos haccept), ?_⟩
      rw [hunits u, State.modTun_tunUnit_same hlen]
      exact ⟨rfl, rfl, rfl, rfl, rfl, rfl, rfl, fun k hk => (hunits k).trans (State.modTun_tunUnit_other s hk.symm _), hevt⟩
    · obtain ⟨hunits, hevt, hdiag⟩ := tuneNote_keeps u false (fitRejected u (fitFails s u d) s)
      obtain ⟨htun, hpends, hreports⟩ := fitRejected_spec u (fitFails s u d) s
      refine ⟨_, (tuningFitDone_eq htunes hd).trans (if_neg hreject), ?_⟩
      rw [hunits u, hevt, State.unitDiag_congr hdiag, State.tunUnit_congr htun, State.modTun_tunUnit_same hlen]
      exact ⟨rfl, rfl, rfl, rfl, rfl, rfl,
        fun k hk => (hunits k).trans ((State.tunUnit_congr htun k).trans (State.modTun_tunUnit_other s hk.symm _)), hpends, hreports⟩

end Sys2Proof.Machine

namespace Sys2Proof.Machine

/-! ### The converters and what waits for them (R119 to R135) -/

/-- What an update of a converter keeps of every converter, it keeps on the converters of the state. -/
theorem State.modConv_conv_keeps {β : Type} {p : SarConv → β} {f : SarConv → SarConv} (h : ∀ k, p (f k) = p k) (s : State) (c d : Nat) :
    p ((s.modConv c f).conv d) = p (s.conv d) := by
  by_cases hd : c = d
  · subst hd
    by_cases hc : c < s.sar.convs.length
    · rw [State.modConv_conv_same hc, h]
    · rw [State.modConv, List.modify_eq_self (not_lt.1 hc)]
  · rw [State.modConv_conv_other s hd]

/-- A converter's regular list, and the one that waits to take its place (R125). -/
def SarConv.lists (k : SarConv) : List SeqEntry × Option (List SeqEntry) := (k.regular, k.newReg)

/-- From `s` to `t` nothing moves but the converters, the capture, the commands that wait for them, and what a completion and an
event move; regular lists stand, and a capture neither comes nor goes. -/
structure ConvertsOnly (s t : State) : Prop where
  frame : t = { s with
    sar := { s.sar with convs := t.sar.convs, capture := t.sar.capture, waits := t.sar.waits, seqWaits := t.sar.seqWaits }
    hif := t.hif, evt := t.evt, hostMem := t.hostMem }
  capture : t.sar.capture.isSome = s.sar.capture.isSome
  lists : ∀ c, (t.conv c).lists = (s.conv c).lists

namespace ConvertsOnly

variable {s t u : State}

theorem refl (s : State) : ConvertsOnly s s := ⟨rfl, rfl, fun _ => rfl⟩

theorem trans (h : ConvertsOnly s t) (k : ConvertsOnly t u) : ConvertsOnly s u where
  frame := by rw [k.frame, h.frame]
  capture := k.capture.trans h.capture
  lists c := (k.lists c).trans (h.lists c)

theorem modConv (c : Nat) (f : SarConv → SarConv) (s : State) (hf : ∀ k, (f k).lists = k.lists := by exact fun _ => rfl) :
    ConvertsOnly s (s.modConv c f) := ⟨rfl, rfl, State.modConv_conv_keeps hf s c⟩

/-- A step outside the fast converters that moves the host interface, the events and host memory alone. -/
theorem of_frame {h : Hif} {e : Evt} {m : List Host.Cell} (ht : t = { s with hif := h, evt := e, hostMem := m }) : ConvertsOnly s t := by
  subst ht
  exact ⟨rfl, rfl, fun _ => rfl⟩

theorem complete (op : Nat) (sub : Submission) (st : Nat) (r : List Byte) (s : State) : ConvertsOnly s (complete op sub st r s) :=
  .of_frame (h := (Machine.complete op sub st r s).hif) (e := s.evt) (m := (Machine.complete op sub st r s).hostMem)
    (by apply State.ext_fields <;> simp)

theorem raise {e : Nat} (i : Nat) (s : State) (h : loggedEvents.contains e = false) : ConvertsOnly s (raise e i s) := by
  rw [raise_eq_of_unlogged i s h]
  exact .of_frame (recordEvent_frame e i s)

theorem foldl {α : Type} {f : State → α → State} (h : ∀ s a, ConvertsOnly s (f s a)) (l : List α) (s : State) : ConvertsOnly s (l.foldl f s) :=
  List.foldlRecOn (motive := ConvertsOnly s) l f (.refl s) (fun t ht a _ => ht.trans (h t a))

theorem fields (h : ConvertsOnly s t) : t = { s with sar := t.sar, hif := t.hif, evt := t.evt, hostMem := t.hostMem } := by
  rw [h.frame]

end ConvertsOnly

theorem injectComplete_convertsOnly (s : State) : ConvertsOnly s (injectComplete s) := by
  unfold injectComplete
  refine .trans ?_ (.foldl (fun _ _ => .complete ..) _ _)
  exact ⟨rfl, rfl, fun _ => rfl⟩

theorem injectBegins_convertsOnly (l : Nat) (s : State) : ConvertsOnly s (injectBegins l s) := ⟨rfl, rfl, fun _ => rfl⟩

theorem runEnded_convertsOnly (r : InjRun) (s : State) : ConvertsOnly s (runEnded r s) := by
  have hraised : ConvertsOnly s (if r.hostRun then raise 57 0 s else s) := by
    split
    · exact .raise 0 s (by decide)
    · exact .refl s
  unfold runEnded
  dsimp only
  split
  · refine hraised.trans (.trans ?_ (injectComplete_convertsOnly _))
    exact ⟨rfl, rfl, fun _ => rfl⟩
  · exact hraised

theorem startConv_convertsOnly (c : Nat) (u : ConvUse) (k : Nat) (d : Option Nat) (l : Bool) (s : State) :
    ConvertsOnly s (startConv c u k d l s) := .modConv c _ s

theorem startWide_convertsOnly (c : Nat) (e : Nat × Nat) (s : State) : ConvertsOnly s (startWide c e s) :=
  .trans (.modConv c _ s) (startConv_convertsOnly ..)

theorem startRegular_convertsOnly (c : Nat) (s : State) : ConvertsOnly s (startRegular c s) := by
  unfold startRegular
  dsimp only
  split
  · split
    · exact .trans (.modConv _ _ s) (startConv_convertsOnly ..)
    · exact .refl s
  · exact .refl s

theorem startHk_convertsOnly (c : Nat) (s : State) : ConvertsOnly s (startHk c s) := by
  unfold startHk
  dsimp only
  split
  · split
    · exact .trans (.modConv c _ s) (.trans (.modConv c _ _) (startConv_convertsOnly ..))
    · exact .refl s
  · exact .trans (.modConv c _ s) (startRegular_convertsOnly ..)

theorem startSample_convertsOnly (c : Nat) {p : Capture} {s : State} (h : s.sar.capture = some p) : ConvertsOnly s (startSample c p s) := by
  unfold startSample
  dsimp only
  split
  · refine .trans ?_ (startConv_convertsOnly ..)
    exact ⟨rfl, by simp [h], fun _ => rfl⟩
  · exact .refl s

/-- The next conversion, branch by branch of the order in which it is chosen. -/
theorem sarNext_convertsOnly (c fuel : Nat) (s : State) : ConvertsOnly s (sarNext c fuel s) := by
  induction fuel generalizing s with
  | zero => exact .refl s
  | succ fuel ih =>
    rw [sarNext]
    dsimp only
    split
    · exact .refl s
    split
    · split
      · exact startWide_convertsOnly ..
      · exact .refl s
    split
    · split
      · exact .trans (.modConv c _ s) (startConv_convertsOnly ..)
      · exact .trans (.modConv c _ s) (.trans (runEnded_convertsOnly ..) (ih _))
    split
    · exact startWide_convertsOnly ..
    split
    · split
      · exact startWide_convertsOnly ..
      · refine .trans ?_ (.trans (.modConv c _ _) (ih _))
        split
        · exact .trans (.modConv _ _ s) (injectBegins_convertsOnly ..)
        · exact .modConv _ _ s
    split
    · exact startWide_convertsOnly ..
    split
    · exact startHk_convertsOnly c s
    split
    next p hp => exact startSample_convertsOnly c hp
    · exact startRegular_convertsOnly c s

theorem sarKick_convertsOnly (s : State) : ConvertsOnly s (sarKick s) :=
  (sarNext_convertsOnly 0 64 s).trans (sarNext_convertsOnly 1 64 _)

theorem abortConv_convertsOnly (w : Nat) (b : Conversion) (s : State) : ConvertsOnly s (abortConv w b s) := by
  unfold abortConv
  extract_lets u
  have hfree : ConvertsOnly s u := .modConv w _ s
  refine hfree.trans ?_
  split
  · exact .modConv w _ u
  · exact .modConv w _ u
  · exact .modConv _ _ u fun k => by split <;> rfl
  · exact ⟨rfl, by simp, fun _ => rfl⟩
  · exact .refl u

/-- A trigger joins those that are pending on a list. -/
def SarConv.pends (t : Trig) (k : SarConv) : SarConv := if k.pend.contains t then k else { k with pend := k.pend ++ [t] }

theorem SarConv.pends_spec (t : Trig) (k : SarConv) :
    t ∈ (k.pends t).pend ∧ (k.pends t).lists = k.lists ∧ (k.pends t).busy = k.busy ∧ (k.pends t).run = k.run := by
  unfold SarConv.pends
  split
  next h => exact ⟨by simpa using h, rfl, rfl, rfl⟩
  next => exact ⟨by simp, rfl, rfl, rfl⟩

theorem setPending_convertsOnly (c : Nat) (t : Trig) (s : State) : ConvertsOnly s (setPending c t s) := by
  unfold setPending
  extract_lets u w
  have hpends : ConvertsOnly s u := .modConv c _ s fun k => (k.pends_spec t).2.1
  refine hpends.trans ?_
  split
  · exact .refl u
  · dsimp only
    split
    · exact abortConv_convertsOnly ..
    · exact .refl u

theorem triggerBoth_convertsOnly (t : Trig) (s : State) : ConvertsOnly s (triggerBoth t s) :=
  (setPending_convertsOnly 0 t s).trans ((setPending_convertsOnly 1 t _).trans (sarKick_convertsOnly _))

/-- A request for a capture moves the capture, its string, PAIR_MISS and the tick of it. -/
theorem askCapture_frame (n : Nat) (s : State) : askCapture n s = { s with sar := { s.sar with
    capture := (askCapture n s).sar.capture, pairStr := (askCapture n s).sar.pairStr, pairMiss := (askCapture n s).sar.pairMiss
    hot := (askCapture n s).sar.hot } } := by
  unfold askCapture
  split
  · rfl
  · split <;> rfl

/-- With both converters in service a capture of the string begins, or PAIR_MISS is set (R134, R136). -/
theorem askCapture_of_none {s : State} (n : Nat) (hboth : s.fBoth = true) (h : s.sar.capture = none) :
    (askCapture n s).sar.pairStr = n ∧ (askCapture n s).sar.capture.isSome = true := by
  rw [askCapture, if_neg (by simp [hboth]), h]
  exact ⟨rfl, rfl⟩

theorem askCapture_of_some {s : State} (n : Nat) (hboth : s.fBoth = true) (h : s.sar.capture.isSome = true) :
    (askCapture n s).sar.pairMiss = true := by
  obtain ⟨p, hp⟩ := Option.isSome_iff_exists.1 h
  rw [askCapture, if_neg (by simp [hboth]), hp]

end Sys2Proof.Machine

namespace Sys2Proof.Machine

/-! ### Rounds (R119, R125) -/

/-- A round begins and takes the lists that wait (R125). -/
def listsTaken (r : Nat) (s : State) : State :=
  { s with sar := { s.sar with
    round := r, roundStart := s.clk.ticks, roundOn := true, convs := s.sar.convs.zipIdx.map (fun e => takeLists s e.2 e.1) } }

/-- A round begins; every thousandth ends a housekeeping period (R453). -/
def roundBegun (r : Nat) (s : State) : State := if r % 1000 = 0 && r != 0 then endPeriod (listsTaken r s) else listsTaken r s

/-- A round starts on its tick, once (R119). -/
theorem sarRoundStart_eq {s : State} (hm : s.metering = true) (hd : (s.clk.ticks - s.frm.measStart) % 24000 = 0)
    (hnew : s.sar.roundOn = false ∨ s.sar.roundStart < s.clk.ticks) {r : Nat} (hr : (s.clk.ticks - s.frm.measStart) / 24000 = r) :
    exec .sarRoundStart s = .next (sarKick (seqComplete (roundOn 1 r (roundOn 0 r (roundBegun r s))))) := by
  subst hr
  have hstarts : ¬ (!s.metering || (s.clk.ticks - s.frm.measStart) % 24000 != 0 || (s.sar.roundOn && decide (s.clk.ticks ≤ s.sar.roundStart))) = true := by
    rcases hnew with h | h <;> simp [hm, hd, h]
  exact if_neg hstarts

theorem sarRoundStart_stands {s : State} (h : s.metering = false ∨ (s.clk.ticks - s.frm.measStart) % 24000 ≠ 0) : exec .sarRoundStart s = .next s :=
  have hnone : (!s.metering || (s.clk.ticks - s.frm.measStart) % 24000 != 0 || (s.sar.roundOn && decide (s.clk.ticks ≤ s.sar.roundStart))) = true := by
    rcases h with h | h <;> simp [h]
  if_pos hnone

theorem roundOn_convertsOnly (c r : Nat) (s : State) : ConvertsOnly s (roundOn c r s) := by
  unfold roundOn
  split
  · exact .refl s
  · exact .modConv c _ s

theorem seqComplete_convertsOnly (s : State) : ConvertsOnly s (seqComplete s) := by
  unfold seqComplete
  refine .trans ?_ (.foldl (fun _ _ => .complete ..) _ _)
  exact ⟨rfl, rfl, fun _ => rfl⟩

/-- What a round does after it has begun. -/
theorem roundRuns_convertsOnly (r : Nat) (s : State) : ConvertsOnly s (sarKick (seqComplete (roundOn 1 r (roundOn 0 r s)))) :=
  (roundOn_convertsOnly 0 r s).trans ((roundOn_convertsOnly 1 r _).trans ((seqComplete_convertsOnly _).trans (sarKick_convertsOnly _)))

/-- A regular list that waits takes force, whatever becomes of an injected one. -/
theorem takeLists_lists {k : SarConv} {l : List SeqEntry} (h : k.newReg = some l) (s : State) (c : Nat) : (takeLists s c k).lists = (l, none) := by
  unfold takeLists
  rw [h]
  dsimp only
  split
  · split <;> rfl
  · rfl

/-- A converter that is not as reset leaves it is there. -/
theorem State.conv_lt_of_ne_reset {s : State} {c : Nat} (h : s.conv c ≠ SarConv.reset) : c < s.sar.convs.length := by
  by_contra hc
  exact h (List.getD_eq_default _ _ (not_lt.1 hc))

theorem listsTaken_conv {s : State} {c : Nat} (hc : c < s.sar.convs.length) (r : Nat) : (listsTaken r s).conv c = takeLists s c (s.conv c) := by
  simp [State.conv, listsTaken, List.getD, hc]

theorem endPeriod_lists (s : State) (c : Nat) : ((endPeriod s).conv c).lists = (s.conv c).lists := by
  have hreset : SarConv.reset = { SarConv.reset with hkTasks := SarConv.reset.hkTasks.filter (fun t => !t.isTemp) } := rfl
  simp only [State.conv, endPeriod]
  conv_lhs => rw [hreset]
  rw [List.getD_map]
  rfl

theorem roundBegun_lists {s : State} {c : Nat} {l : List SeqEntry} (h : (s.conv c).newReg = some l) (r : Nat) :
    ((roundBegun r s).conv c).lists = (l, none) := by
  have htaken : ((listsTaken r s).conv c).lists = (l, none) := by
    rw [listsTaken_conv (State.conv_lt_of_ne_reset fun hreset => by simp [hreset, SarConv.reset] at h), takeLists_lists h]
  unfold roundBegun
  split
  · rw [endPeriod_lists, htaken]
  · exact htaken

theorem roundBegun_spec (r : Nat) (s : State) :
    roundBegun r s = { s with sar := (roundBegun r s).sar } ∧ (roundBegun r s).sar.roundStart = s.clk.ticks ∧
    (roundBegun r s).sar.roundOn = true ∧ (roundBegun r s).sar.round = r ∧ (roundBegun r s).sar.queue = s.sar.queue := by
  unfold roundBegun
  split <;> exact ⟨rfl, rfl, rfl, rfl, rfl⟩

/-! ### SAR_SEQ_SET (R124, R125, R415) -/

/-- A list waits on a converter that the command names. -/
def seqAwaits (conv : Nat) (es : List SeqEntry) (s : State) (c : Nat) : State :=
  if conv.testBit c then s.modConv c (fun k => { k with newReg := some es }) else s

/-- The lists wait on the converters that the command names, and the command for the next round. -/
def seqQueued (sub : Submission) (es : List SeqEntry) (s : State) : State :=
  let t := (List.range 2).foldl (seqAwaits (sub.pU 0 1) es) s
  { t with sar := { t.sar with seqWaits := t.sar.seqWaits ++ [sub] } }

/-- SAR_SEQ_SET of a regular list that is well formed. -/
theorem sarSeqSet_waits {s : State} {sub : Submission} {buf : DmaRead} (hlive : s.live = true) (hw : s.cmdWaits 0x50 sub = false)
    (hform : sub.formOk [(0, 1), (1, 1), (2, 1)] = true) (hlo : 1 ≤ sub.pU 0 1) (hhi : sub.pU 0 1 < 4) (hinj : sub.pU 1 1 = 0)
    (hlen : sub.pU 2 1 ≤ 32) (hne : sub.pU 2 1 ≠ 0) (hbuf : sub.hasBuf (sub.bufLen == 4 * sub.pU 2 1) = true) (hread : buf.isSome = true)
    (hok : (parseSeq (bufBytes sub buf) (sub.pU 2 1)).all (seqEntryOk false) = true) :
    exec (.sarSeqSet sub buf) s = .next (seqQueued sub ((parseSeq (bufBytes sub buf) (sub.pU 2 1)).map toEntry) s) := by
  change execSarSeqSet sub buf s = _
  rw [execSarSeqSet, hinj]
  refine (runCmd_of_checked hw ?_).trans rfl
  simp [hform, hlo, hhi, hlen, hne, hbuf, hread, hok, State.accepts_of_live hlive]

theorem seqAwaits_others (conv : Nat) (es : List SeqEntry) (s : State) {c d : Nat} (h : d ≠ c) :
    (seqAwaits conv es s d).conv c = s.conv c ∧ (seqAwaits conv es s d).sar.convs.length = s.sar.convs.length := by
  unfold seqAwaits
  split
  · exact ⟨State.modConv_conv_other s h _, by simp⟩
  · exact ⟨rfl, rfl⟩

theorem seqQueued_conv {s : State} {sub : Submission} {c : Nat} (hc : c < 2) (hl : c < s.sar.convs.length) (hbit : (sub.pU 0 1).testBit c = true)
    (es : List SeqEntry) : ((seqQueued sub es s).conv c).lists = ((s.conv c).regular, some es) := by
  obtain ⟨u, hu, hfold⟩ := foldl_at (fun t => (t.conv c, t.sar.convs.length)) (seqAwaits (sub.pU 0 1) es) c
    (fun t d hd => Prod.ext_iff.2 (seqAwaits_others _ es t hd)) List.nodup_range (List.mem_range.2 hc) s
  simp only [Prod.mk.injEq] at hu hfold
  obtain ⟨hconv, hlen⟩ := hu
  have hqueued : (seqQueued sub es s).conv c = (seqAwaits (sub.pU 0 1) es u c).conv c := hfold.1
  rw [hqueued, seqAwaits, if_pos hbit, State.modConv_conv_same (hlen ▸ hl), hconv]
  rfl

theorem seqQueued_spec (sub : Submission) (es : List SeqEntry) (s : State) :
    seqQueued sub es s = { s with sar := (seqQueued sub es s).sar } ∧ (seqQueued sub es s).sar.seqWaits = s.sar.seqWaits ++ [sub] ∧
    (seqQueued sub es s).sar.queue = s.sar.queue := by
  have hfold : (List.range 2).foldl (seqAwaits (sub.pU 0 1) es) s =
      { s with sar := { s.sar with convs := ((List.range 2).foldl (seqAwaits (sub.pU 0 1) es) s).sar.convs } } :=
    List.foldlRecOn (motive := fun t : State => t = { s with sar := { s.sar with convs := t.sar.convs } }) _ _ rfl fun t ht c _ => by
      unfold seqAwaits
      split
      · rw [ht]; rfl
      · exact ht
  unfold seqQueued
  rw [hfold]
  exact ⟨rfl, rfl, rfl⟩

/-! ### SAR_INJECT (R127, R130, R133, R134) -/

/-- A converter that converts begins nothing (R130). -/
theorem sarNext_of_busy {s : State} {c : Nat} (h : (s.conv c).busy.isSome = true) (fuel : Nat) : sarNext c fuel s = s := by
  cases fuel with
  | zero => rfl
  | succ fuel => rw [sarNext]; exact if_pos (by simp [h])

theorem sarKick_of_busy {s : State} (h : ∀ c, c < 2 → (s.conv c).busy.isSome = true) : sarKick s = s := by
  rw [sarKick, sarNext_of_busy (h 0 (by decide)), sarNext_of_busy (h 1 (by decide))]

/-- A trigger that finds its converter in a run waits (R130). -/
theorem setPending_of_running {s : State} {c : Nat} (hret : s.fRetired c = false) (hrun : (s.conv c).run.isSome = true) (t : Trig) :
    setPending c t s = s.modConv c (SarConv.pends t) := by
  have hstill : ((s.modConv c (SarConv.pends t)).conv c).run.isNone = false := by
    have hkeeps := State.modConv_conv_keeps (p := SarConv.run) (fun k => (k.pends_spec t).2.2.2) s c c
    rw [hkeeps]
    simpa [← Option.not_isSome] using hrun
  have hown : (if (s.modConv c (SarConv.pends t)).fRetired c then other c else c) = c := if_neg (show ¬ s.fRetired c = true by simp [hret])
  unfold setPending
  extract_lets u w
  rw [show w = c from hown]
  split
  · rfl
  · dsimp only
    rw [show (u.conv c).run.isNone = false from hstill]
    rfl

/-- HOST is pending on a converter's list where the list is named (R127). -/
def SarConv.hostPends (named : Bool) (k : SarConv) : SarConv := if named then k.pends .host else k

theorem SarConv.hostPends_spec (named : Bool) (k : SarConv) :
    (k.hostPends named).busy = k.busy ∧ (k.hostPends named).run = k.run ∧ (named = true → Trig.host ∈ (k.hostPends named).pend) := by
  obtain ⟨hmem, -, hbusy, hrun⟩ := k.pends_spec .host
  unfold SarConv.hostPends
  split
  next => exact ⟨hbusy, hrun, fun _ => hmem⟩
  next h => exact ⟨rfl, rfl, fun hn => absurd hn h⟩

/-- HOST becomes pending on a list that is named (R127). -/
def hostPends (named : Bool) (c : Nat) (s : State) : State := if named then setPending c .host s else s

theorem hostPends_convertsOnly (named : Bool) (c : Nat) (s : State) : ConvertsOnly s (hostPends named c s) := by
  unfold hostPends
  split
  · exact setPending_convertsOnly ..
  · exact .refl s

theorem hostPends_of_running {s : State} {c : Nat} (hret : s.fRetired c = false) (hrun : (s.conv c).run.isSome = true) (named : Bool) :
    hostPends named c s = s.modConv c (SarConv.hostPends named) := by
  cases named with
  | true => exact setPending_of_running hret hrun .host
  | false => exact (congrArg (fun l => { s with sar := { s.sar with convs := l } }) (List.modify_id c s.sar.convs)).symm

/-- A SAR_INJECT that waits. -/
def injectWait (sub : Submission) (pair : Bool) : InjWait :=
  { sub, f0 := if (sub.pU 0 1).testBit 0 then .pending else .ended, f1 := if (sub.pU 0 1).testBit 1 then .pending else .ended, pair, count := 0 }

def injectQueued (sub : Submission) (pair : Bool) (s : State) : State :=
  { s with sar := { s.sar with waits := s.sar.waits ++ [injectWait sub pair] } }

/-- The lists that a SAR_INJECT names. -/
def namedPend (sub : Submission) (s : State) : State := hostPends ((sub.pU 0 1).testBit 1) 1 (hostPends ((sub.pU 0 1).testBit 0) 0 s)

theorem namedPend_convertsOnly (sub : Submission) (s : State) : ConvertsOnly s (namedPend sub s) :=
  (hostPends_convertsOnly ..).trans (hostPends_convertsOnly ..)

/-- SAR_INJECT of lists (R133). -/
theorem sarInject_lists {s : State} {sub : Submission} (hlive : s.live = true) (hw : s.cmdWaits 0x51 sub = false)
    (hform : sub.formOk [(0, 1), (1, 1), (2, 1)] = true) (hbuf : sub.noBuf = true) (hlt : sub.pU 0 1 < 4) (hne : sub.pU 0 1 ≠ 0)
    (hpair : sub.pU 1 1 = 0) (hstr : sub.pU 2 1 < 8) :
    exec (.sarInject sub) s = .next (sarKick (namedPend sub (injectQueued sub false s))) := by
  change execSarInject sub s = _
  rw [execSarInject, hpair]
  refine (runCmd_of_checked hw ?_).trans rfl
  simp [hform, hbuf, hlt, hne, hstr, State.accepts_of_live hlive]

/-- SAR_INJECT of a paired capture (R134). -/
theorem sarInject_pair {s : State} {sub : Submission} (hlive : s.live = true) (hw : s.cmdWaits 0x51 sub = false)
    (hform : sub.formOk [(0, 1), (1, 1), (2, 1)] = true) (hbuf : sub.noBuf = true) (hlt : sub.pU 0 1 < 4) (hpair : sub.pU 1 1 = 1)
    (hstr : sub.pU 2 1 < 8) (hen : s.enabled (sub.pU 2 1) = true) (hboth : s.fBoth = true) (hcap : s.sar.capture = none) :
    exec (.sarInject sub) s = .next (sarKick (namedPend sub (askCapture (sub.pU 2 1) (injectQueued sub true s)))) := by
  change execSarInject sub s = _
  rw [execSarInject, hpair]
  refine (runCmd_of_checked hw ?_).trans rfl
  simp [hform, hbuf, hlt, hstr, hen, hboth, hcap, State.accepts_of_live hlive]

/-- Lists whose converters run: HOST waits on each, and nothing begins (R127, R130). -/
theorem namedPend_of_running {s : State} (hret : s.diag.retF = 0) (hrun : ∀ c, c < 2 → (s.conv c).busy.isSome = true ∧ (s.conv c).run.isSome = true)
    (sub : Submission) :
    sarKick (namedPend sub s) = namedPend sub s ∧ namedPend sub s = { s with sar := { s.sar with convs := (namedPend sub s).sar.convs } } ∧
    ∀ c, c < 2 → (namedPend sub s).conv c = (s.conv c).hostPends ((sub.pU 0 1).testBit c) := by
  have hin (c : Nat) : s.fRetired c = false := by simp [State.fRetired, hret]
  have hlen (c : Nat) (hc : c < 2) : c < s.sar.convs.length :=
    State.conv_lt_of_ne_reset fun hreset => by simpa [hreset, SarConv.reset] using (hrun c hc).1
  obtain ⟨f, hf⟩ : ∃ f, f = fun c => SarConv.hostPends ((sub.pU 0 1).testBit c) := ⟨_, rfl⟩
  have heq : namedPend sub s = (s.modConv 0 (f 0)).modConv 1 (f 1) := by
    rw [namedPend, hostPends_of_running (hin 0) (hrun 0 (by decide)).2, hf]
    exact hostPends_of_running (s := s.modConv 0 _) (hin 1) (by rw [State.modConv_conv_other s (by decide)]; exact (hrun 1 (by decide)).2) _
  have hconv : ∀ c, c < 2 → (namedPend sub s).conv c = f c (s.conv c) := fun c hc => by
    rw [heq]
    obtain rfl | rfl : c = 0 ∨ c = 1 := by omega
    · rw [State.modConv_conv_other _ (by decide), State.modConv_conv_same (hlen 0 hc)]
    · rw [State.modConv_conv_same (by simpa using hlen 1 hc), State.modConv_conv_other s (by decide)]
  refine ⟨sarKick_of_busy fun c hc => ?_, by rw [heq]; rfl, fun c hc => by rw [hconv c hc, hf]⟩
  rw [hconv c hc, hf, (SarConv.hostPends_spec ..).1]
  exact (hrun c hc).1

/-- Settles O30: the round by what takes force before the converters go on, the commands by what waits and what they begin. -/
theorem sarRoundsAndLists : Obligations.SarRoundsAndLists := by
  refine fun s => ⟨fun hm hd hnew => ?starts, sarRoundStart_stands, fun sub buf hlive hw hform hlo hhi hinj hlen hne hbuf hread hok => ?sets,
    fun sub hlive hw hform hbuf hlt hne hpair hstr hret hrun => ?injects, fun sub hlive hw hform hbuf hconv hpair hstr hen hboth hcap => ?captures⟩
  case starts =>
    obtain ⟨r, hr⟩ : ∃ r, (s.clk.ticks - s.frm.measStart) / 24000 = r := ⟨_, rfl⟩
    obtain ⟨hbegun, hstart, hon, hround, hqueue⟩ := roundBegun_spec r s
    have honly := roundRuns_convertsOnly r (roundBegun r s)
    refine ⟨_, sarRoundStart_eq hm hd hnew hr, ?_⟩
    generalize sarKick (seqComplete (roundOn 1 r (roundOn 0 r (roundBegun r s)))) = t at honly ⊢
    refine ⟨by rw [honly.frame]; exact hstart, by rw [honly.frame]; exact hon, by rw [honly.frame, hr]; exact hround, fun c l hl => ?_,
      by rw [honly.frame]; exact hqueue, ?_⟩
    · exact Prod.mk.inj ((honly.lists c).trans (roundBegun_lists hl r))
    · conv_lhs => rw [honly.fields, hbegun]
  case sets =>
    obtain ⟨hframe, hwaits, hqueue⟩ := seqQueued_spec sub ((parseSeq (bufBytes sub buf) (sub.pU 2 1)).map toEntry) s
    refine ⟨_, sarSeqSet_waits hlive hw hform hlo hhi hinj hlen hne hbuf hread hok, hframe, hwaits, hqueue, fun c hc hl hbit => ?_⟩
    exact (Prod.mk.inj (seqQueued_conv hc hl hbit _)).symm
  case injects =>
    obtain ⟨hkick, hframe, hconv⟩ := namedPend_of_running (s := injectQueued sub false s) hret hrun sub
    have hx := sarInject_lists hlive hw hform hbuf hlt hne hpair hstr
    rw [hkick] at hx
    refine ⟨_, hx, ?_, ?_, fun c hc hbit => ?_⟩
    · rw [hframe]; rfl
    · rw [hframe]; rfl
    · rw [hconv c hc]
      exact (SarConv.hostPends_spec ..).2.2 hbit
  case captures =>
    have honly := (namedPend_convertsOnly sub (askCapture (sub.pU 2 1) (injectQueued sub true s))).trans (sarKick_convertsOnly _)
    obtain ⟨hpairStr, hsome⟩ := askCapture_of_none (s := injectQueued sub true s) (sub.pU 2 1) hboth hcap
    refine ⟨_, sarInject_pair hlive hw hform hbuf (by omega) hpair hstr hen hboth hcap, ?_, honly.capture.trans hsome, ?_⟩
    · rw [honly.frame]; exact hpairStr
    · rw [honly.frame, askCapture_frame]; rfl

end Sys2Proof.Machine

namespace Sys2Proof.Machine

/-! ### The sample mirror (R139, R373) -/

/-- An entry of the mirror is written after what waited on the root complex: posted writes are held no longer (R373). -/
theorem smrEntryWrite_ends_hold {s : State} {e : SarEntry} {rest : List SarEntry} (hq : s.sar.queue = e :: rest) (hm : s.sar.mirror = true)
    (hen : (s.ring 9).en = true) (herr : (s.ring 9).err = false) (hfull : (s.ring 9).full = false) :
    ∃ t, exec .smrEntryWrite s = .next t ∧ t.hif.writesHeld = false := by
  have hx : exec .smrEntryWrite s = .next (postEntry 9 (leBytes 4 e.lo ++ leBytes 4 e.ts32) (queuePop (drainWrites s))) := by
    change execSmrEntryWrite s = _
    rw [execSmrEntryWrite, hq]
    exact if_neg (by simp [hm, hen, herr, hfull])
  exact ⟨_, hx, (drainWrites_postsOnly s).2.2⟩

/-- The mirror is on and its ring enabled, and the root complex does not accept posted writes. -/
def mirrorHeld : State :=
  { State.reset with
    sar := { Sar.reset with mirror := true, queue := [default] }
    hif := { Hif.reset with writesHeld := true, rings := Hif.reset.rings.set 9 { Ring.reset with en := true } } }

/-- Refutes O31: with posted writes held, SMR_ENTRY_WRITE first writes what waits and ends the hold (R373, log 64), so more of the
host interface moves than the rings, which the mirror's clause leaves no room for. -/
theorem not_resultQueueKeepsOrder : ¬ Obligations.ResultQueueKeepsOrder := by
  intro h
  obtain ⟨-, -, -, -, -, hmirror⟩ := h mirrorHeld 0 0 .within
  obtain ⟨t, hx, -, -, -, hframe⟩ := hmirror default [] rfl rfl rfl rfl (by decide) (by decide)
  obtain ⟨u, hu, hfree⟩ := smrEntryWrite_ends_hold (s := mirrorHeld) rfl rfl rfl rfl (by decide)
  obtain rfl : t = u := by simpa [hu] using hx.symm
  have hheld : t.hif.writesHeld = true := by rw [hframe]; rfl
  simp [hheld] at hfree

end Sys2Proof.Machine

namespace Sys2Proof.Machine

/-! ### Test-DAC diagnosis (R144 to R146) -/

/-- A bit that is set joins the others. -/
theorem getLsbD_or_bit {n : Nat} (v : BitVec n) {i : Nat} (h : i < n) (c : Nat) : (v ||| (1#n <<< i)).getLsbD c = (v.getLsbD c || decide (i = c)) := by
  rw [← BitVec.twoPow_eq, BitVec.getLsbD_or, BitVec.getLsbD_twoPow, decide_eq_true h, Bool.true_and]

/-- A channel that is judged to fail is marked, with its record and its event (R146, R501). -/
def failChannel (c : Nat) (s : State) : State :=
  recordEvent 38 c (logAdd 38 0xFF 0 c { s with sar := { s.sar with diagFail := s.sar.diagFail ||| (1#40 <<< c) } })

/-- A channel of the mask fails unless it is marked already. -/
def judgeChannel (m : BitVec 40) (s : State) (c : Nat) : State :=
  if m.getLsbD c && !s.sar.diagFail.getLsbD c then failChannel c s else s

theorem failChannels_eq (m : BitVec 40) (s : State) : failChannels m s = (List.range 40).foldl (judgeChannel m) s := rfl

/-- From `s` to `t` nothing moves but the marks of failed channels, the events and the log. -/
def MarksOnly (s t : State) : Prop := t = { s with sar := { s.sar with diagFail := t.sar.diagFail }, evt := t.evt, nvm := t.nvm }

theorem MarksOnly.trans {s t u : State} (h : MarksOnly s t) (k : MarksOnly t u) : MarksOnly s u := by
  unfold MarksOnly at *
  rw [k, h]

theorem failChannel_marksOnly (c : Nat) (s : State) : MarksOnly s (failChannel c s) := by
  unfold MarksOnly failChannel
  apply State.ext_fields <;> simp

theorem failChannel_diagFail (c : Nat) (s : State) : (failChannel c s).sar.diagFail = s.sar.diagFail ||| (1#40 <<< c) := by
  simp [failChannel]

/-- The judgement of one channel marks it where the mask names it, and no other. -/
theorem judgeChannel_spec (m : BitVec 40) (s : State) (i : Nat) :
    MarksOnly s (judgeChannel m s i) ∧
    ∀ c, (judgeChannel m s i).sar.diagFail.getLsbD c = (s.sar.diagFail.getLsbD c || (decide (i = c) && m.getLsbD c)) := by
  unfold judgeChannel
  split
  next h =>
    obtain ⟨hm, -⟩ := Bool.and_eq_true_iff.1 h
    refine ⟨failChannel_marksOnly i s, fun c => ?_⟩
    rw [failChannel_diagFail, getLsbD_or_bit _ (BitVec.lt_of_getLsbD hm)]
    by_cases hc : i = c
    · subst hc; simp [hm]
    · simp [hc]
  next h =>
    refine ⟨rfl, fun c => ?_⟩
    by_cases hc : i = c
    · subst hc; cases hm : m.getLsbD i <;> simp_all
    · simp [hc]

theorem judgeChannels_spec (m : BitVec 40) (l : List Nat) (s : State) :
    MarksOnly s (l.foldl (judgeChannel m) s) ∧
    ∀ c, (l.foldl (judgeChannel m) s).sar.diagFail.getLsbD c = (s.sar.diagFail.getLsbD c || (decide (c ∈ l) && m.getLsbD c)) := by
  induction l generalizing s with
  | nil => exact ⟨rfl, by simp⟩
  | cons i l ih =>
    obtain ⟨honly, hbit⟩ := judgeChannel_spec m s i
    refine ⟨honly.trans (ih _).1, fun c => ?_⟩
    rw [List.foldl_cons, (ih _).2, hbit, Bool.or_assoc, ← Bool.and_or_distrib_right, ← Bool.decide_or]
    simp only [List.mem_cons, eq_comm]

theorem failChannels_spec (m : BitVec 40) (s : State) :
    MarksOnly s (failChannels m s) ∧ ∀ c, c < 40 → (failChannels m s).sar.diagFail.getLsbD c = (s.sar.diagFail.getLsbD c || m.getLsbD c) := by
  obtain ⟨honly, hbit⟩ := judgeChannels_spec m (List.range 40) s
  rw [failChannels_eq]
  exact ⟨honly, fun c hc => (hbit c).trans (by simp [hc])⟩

/-- A diagnosis that is complete and not yet judged: the next begins, and the channels that failed on both converters are kept. -/
def diagnosed (both : BitVec 40) (s : State) : State := { s with sar := { s.sar with diagAcc := [0, 0], diagPrev := both } }

/-- A converter on which two paths or more failed alone is reported (R146). -/
def reportConverter (many : Bool) (c : Nat) (s : State) : State := if many then fileReport { target := 1, index := c } s else s

theorem reportConverter_frame (many : Bool) (c : Nat) (s : State) :
    reportConverter many c s = { s with diag := (reportConverter many c s).diag } := by
  unfold reportConverter
  split
  · exact fileReport_frame (by simp) s
  · rfl

theorem reportConverters_frame (many0 many1 : Bool) (s : State) :
    ∃ d, reportConverter many1 1 (reportConverter many0 0 s) = { s with diag := d } := by
  rw [reportConverter_frame many0 0 s]
  exact ⟨_, reportConverter_frame many1 1 _⟩

/-- The judgement of a diagnosis marks the channels that failed twice, and may report each converter (R146). -/
theorem tdacDiagnosis_judges {s : State} {both : BitVec 40} (hboth : s.sar.diagAcc.getD 0 0 &&& s.sar.diagAcc.getD 1 0 = both)
    (hout : s.sar.tdacOut = false) (hruns : s.tuningRuns = true) :
    ∃ d, exec (.tdacDiagnosis ⟨⟩ ⟨⟩) s = .next { failChannels (both &&& s.sar.diagPrev) (diagnosed both s) with diag := d } := by
  subst hboth
  have hjudged : ¬ (s.sar.tdacOut || !s.tuningRuns) = true := by simp [hout, hruns]
  obtain ⟨many0, many1, hx⟩ : ∃ many0 many1, exec (.tdacDiagnosis ⟨⟩ ⟨⟩) s = .next (reportConverter many1 1 (reportConverter many0 0
      (failChannels (s.sar.diagAcc.getD 0 0 &&& s.sar.diagAcc.getD 1 0 &&& s.sar.diagPrev)
        (diagnosed (s.sar.diagAcc.getD 0 0 &&& s.sar.diagAcc.getD 1 0) s)))) :=
    ⟨_, _, if_neg hjudged⟩
  obtain ⟨d, hd⟩ := reportConverters_frame many0 many1
    (failChannels (s.sar.diagAcc.getD 0 0 &&& s.sar.diagAcc.getD 1 0 &&& s.sar.diagPrev)
      (diagnosed (s.sar.diagAcc.getD 0 0 &&& s.sar.diagAcc.getD 1 0) s))
  exact ⟨d, hx.trans (congrArg _ hd)⟩

/-- The check of the test DAC (R145). -/
theorem tdacCheck_judges {s : State} (h : s.sar.tdacSeen ≠ []) :
    exec (.tdacCheck ⟨⟩) s = .next { s with sar := { s.sar with
      tdacOut := s.sar.tdacSeen.any (fun e => decide (2 / 1000 < absR (e.2 - checkVolts e.1))), tdacSeen := [] } } :=
  if_neg (by simpa using h)

/-! ### Overcurrent comparators (R147 to R150) -/

/-- A string that trips: TRIP and ACTIVE (R149). -/
def tripped (n : Nat) (s : State) : State :=
  { s with sar := { s.sar with
    trip := setBit s.sar.trip n true, active := setBit s.sar.active n true, hot := s.sar.hot.mark s.clk.ticks (2 ^ n) } }

/-- What a trip asks of the paired capture (R150). -/
def tripAsks (c : OcCfg) (n : Nat) (s : State) : State := if c.pairEn then askCapture n s else s

/-- What a trip asks of the converters' sequences (R150). -/
def tripTriggers (c : OcCfg) (n : Nat) (s : State) : State := if c.injEn then triggerBoth (.oc n) s else sarKick s

theorem setBit_true_ne_zero {w n : Nat} (h : n < w) (v : BitVec w) : setBit v n true ≠ 0 := by
  intro hz
  have hbit : (setBit v n true).getLsbD n = true := by simp [setBit, getLsbD_or_bit v h]
  simp [hz] at hbit

theorem ocPin_frame (s : State) : ocPin s = { s with sar := { s.sar with pin := ocHeld s || s.sar.pinMin, pinMin := (ocPin s).sar.pinMin } } := rfl

/-- Outside HALT a string that is tripped holds the pin (R149). -/
theorem ocHeld_tripped {n : Nat} {s : State} (hn : n < 8) (h : s.live = true ∨ s.pwr.state = .hold) : ocHeld (tripped n s) = true := by
  have hhalt : s.pwr.state ≠ .halt := by
    intro hs
    simp [State.live, hs] at h
  have hact : (tripped n s).sar.active ≠ 0 := setBit_true_ne_zero hn _
  simp only [ocHeld, bne_iff_ne.2 hact, Bool.true_or, Bool.and_true]
  simpa [tripped] using hhalt

/-- A detector sample lies above the threshold of the string's comparator (R147, R148). -/
def ocAbove (s : State) (n : Nat) (v : Rat) : Bool :=
  (ocLevel s n (s.sar.oc.getD n OcCfg.reset) v).any (fun l => decide (ocThreshold n (s.sar.oc.getD n OcCfg.reset) < l))

/-- A comparator whose direction is off sees no sample above its threshold. -/
theorem ocAbove_of_off {s : State} {n : Nat} (h : (s.sar.oc.getD n OcCfg.reset).dir = 0) (v : Rat) : ocAbove s n v = false := by
  rw [ocAbove, ocLevel, h]
  rfl

theorem ocTrip_stands {s : State} {n : Nat} {v0 : Rat} (h : ocAbove s n v0 = false) (v1 v2 : Rat) : exec (.ocTrip ⟨n, v0, v1, v2⟩) s = .next s :=
  have hnone : (!(ocAbove s n v0 && ocAbove s n v1 && ocAbove s n v2) || !(s.live || s.pwr.state == .hold) || s.sar.active.getLsbD n) = true := by
    simp [h]
  if_pos hnone

/-- Three samples above the threshold of a string that is not tripped (R148, R150). -/
theorem ocTrip_eq {s : State} {n : Nat} {v0 v1 v2 : Rat} (habove : ∀ v ∈ [v0, v1, v2], ocAbove s n v = true)
    (hon : s.live = true ∨ s.pwr.state = .hold) (hact : s.sar.active.getLsbD n = false) :
    exec (.ocTrip ⟨n, v0, v1, v2⟩) s =
      .next (tripTriggers (s.sar.oc.getD n OcCfg.reset) n (tripAsks (s.sar.oc.getD n OcCfg.reset) n (ocPin (tripped n s)))) := by
  simp only [List.forall_mem_cons] at habove
  obtain ⟨h0, h1, h2, -⟩ := habove
  have htrips : ¬ (!(ocAbove s n v0 && ocAbove s n v1 && ocAbove s n v2) || !(s.live || s.pwr.state == .hold) || s.sar.active.getLsbD n) = true := by
    simpa [h0, h1, h2, hact, Classical.or_iff_not_imp_left] using hon
  exact if_neg htrips

theorem tripTriggers_convertsOnly (c : OcCfg) (n : Nat) (s : State) : ConvertsOnly s (tripTriggers c n s) := by
  unfold tripTriggers
  split
  · exact triggerBoth_convertsOnly ..
  · exact sarKick_convertsOnly s

theorem tripAsks_keeps (c : OcCfg) (n : Nat) (s : State) :
    tripAsks c n s = { s with sar := (tripAsks c n s).sar } ∧ (tripAsks c n s).sar.trip = s.sar.trip ∧
    (tripAsks c n s).sar.active = s.sar.active ∧ (tripAsks c n s).sar.pin = s.sar.pin := by
  unfold tripAsks
  split
  · rw [askCapture_frame]
    exact ⟨rfl, rfl, rfl, rfl⟩
  · exact ⟨rfl, rfl, rfl, rfl⟩

theorem ocTrip_spec {s : State} {n : Nat} {v0 v1 v2 : Rat} {c : OcCfg} (hn : n < 8) (hc : s.sar.oc.getD n OcCfg.reset = c)
    (habove : ∀ v ∈ [v0, v1, v2], ocAbove s n v = true) (hon : s.live = true ∨ s.pwr.state = .hold) (hact : s.sar.active.getLsbD n = false) :
    ∃ t, exec (.ocTrip ⟨n, v0, v1, v2⟩) s = .next t ∧ t.sar.trip = setBit s.sar.trip n true ∧
      t.sar.active = setBit s.sar.active n true ∧ t.sar.pin = true ∧
      (c.pairEn = true → s.fBoth = true → s.sar.capture = none → t.sar.pairStr = n) ∧
      (c.pairEn = true → s.fBoth = true → s.sar.capture.isSome = true → t.sar.pairMiss = true) ∧
      t = { s with sar := t.sar, hif := t.hif, evt := t.evt, hostMem := t.hostMem } := by
  obtain ⟨u, hu⟩ : ∃ u, u = tripAsks c n (ocPin (tripped n s)) := ⟨_, rfl⟩
  obtain ⟨t, ht⟩ : ∃ t, t = tripTriggers c n u := ⟨_, rfl⟩
  have hx := ocTrip_eq habove hon hact
  rw [hc, ← hu, ← ht] at hx
  obtain ⟨huframe, htrip, hactive, hpin⟩ := tripAsks_keeps c n (ocPin (tripped n s))
  rw [← hu] at huframe htrip hactive hpin
  have honly : ConvertsOnly u t := ht ▸ tripTriggers_convertsOnly c n u
  have hasks (hp : c.pairEn = true) : u = askCapture n (ocPin (tripped n s)) := by rw [hu, tripAsks, if_pos hp]
  refine ⟨t, hx, ?_, ?_, ?_, fun hp hboth hcap => ?_, fun hp hboth hcap => ?_, ?_⟩
  · rw [honly.frame]; exact htrip
  · rw [honly.frame]; exact hactive
  · rw [honly.frame]
    exact hpin.trans (by rw [ocPin_frame]; simp [ocHeld_tripped hn hon])
  · rw [honly.frame]
    exact hasks hp ▸ (askCapture_of_none (s := ocPin (tripped n s)) n hboth hcap).1
  · rw [honly.frame]
    exact hasks hp ▸ askCapture_of_some (s := ocPin (tripped n s)) n hboth hcap
  · conv_lhs => rw [honly.fields, huframe]
    rfl

/-- Three samples below 98 % of the threshold (R148). -/
theorem ocRelease_eq {s : State} {n : Nat} {v0 v1 v2 : Rat} (h : ∀ v ∈ [v0, v1, v2], ∀ x, ocLevel s n (s.sar.oc.getD n OcCfg.reset) v = some x →
      x < ocThreshold n (s.sar.oc.getD n OcCfg.reset) * (98 / 100)) :
    exec (.ocRelease ⟨n, v0, v1, v2⟩) s = .next (ocPin { s with sar := { s.sar with active := setBit s.sar.active n false } }) := by
  have hbelow : ∀ v ∈ [v0, v1, v2], (ocLevel s n (s.sar.oc.getD n OcCfg.reset) v).all
      (fun l => decide (l < ocThreshold n (s.sar.oc.getD n OcCfg.reset) * (98 / 100))) = true := fun v hv =>
    (Option.all_eq_true ..).2 fun x hx => decide_eq_true (h v hv x hx)
  simp only [List.forall_mem_cons] at hbelow
  obtain ⟨h0, h1, h2, -⟩ := hbelow
  exact if_pos (Bool.and_eq_true_iff.2 ⟨Bool.and_eq_true_iff.2 ⟨h0, h1⟩, h2⟩)

/-- Settles O32: the comparators by what three samples do, the diagnosis by the channels that its judgement marks. -/
theorem overcurrentAndDiagnosis : Obligations.OvercurrentAndDiagnosis := by
  refine ⟨fun s n v0 v1 v2 hn => ⟨fun habove hon hact => ?trips, fun hdir => ?off, fun hbelow => ?releases, rfl⟩,
    fun s a b ha hb => ⟨fun hseen => ?checks, fun hnone => ?unseen, fun hsuspended => ?suspended, fun hout hruns => ?judges⟩⟩
  case trips =>
    refine ocTrip_spec hn rfl (fun v hv => ?_) hon hact
    obtain ⟨x, hx, hlt⟩ := habove v hv
    rw [ocAbove, hx]
    exact decide_eq_true hlt
  case off => exact ocTrip_stands (ocAbove_of_off hdir v0) v1 v2
  case releases => exact ⟨_, ocRelease_eq hbelow, rfl, rfl, rfl, rfl⟩
  case checks => exact ⟨_, tdacCheck_judges hseen, by simp, rfl⟩
  case unseen => exact if_pos (by simp [hnone])
  case suspended =>
    have hstands : (s.sar.tdacOut || !s.tuningRuns) = true := by simpa using hsuspended
    exact if_pos hstands
  case judges =>
    obtain ⟨d, hx⟩ := tdacDiagnosis_judges (both := a &&& b) (by rw [ha, hb]) hout hruns
    obtain ⟨honly, hbit⟩ := failChannels_spec (a &&& b &&& s.sar.diagPrev) (diagnosed (a &&& b) s)
    have hmarks : ∀ c, c < 40 → (failChannels (a &&& b &&& s.sar.diagPrev) (diagnosed (a &&& b) s)).sar.diagFail.getLsbD c =
        (s.sar.diagFail.getLsbD c || (a.getLsbD c && b.getLsbD c && s.sar.diagPrev.getLsbD c)) := fun c hc => by
      rw [hbit c hc, BitVec.getLsbD_and, BitVec.getLsbD_and]
      rfl
    refine ⟨_, hx, by rw [honly]; rfl, fun c hc h1 h2 h3 => (hmarks c hc).trans (by simp [h1, h2, h3]), hmarks, ?_⟩
    rw [honly]
    rfl

end Sys2Proof.Machine

namespace Sys2Proof.Machine

/-! ### One rope of the state -/

/-- After an update of one rope, a rope is as before or it is the one updated. -/
theorem State.modRope_ropeStr_cases (s : State) (n k : Nat) (f : RopeStr → RopeStr) :
    (s.modRope n f).ropeStr k = s.ropeStr k ∨ k = n ∧ (s.modRope n f).ropeStr k = f (s.ropeStr k) := by
  by_cases hk : n = k
  · subst hk
    by_cases hn : n < s.rope.strs.length
    · exact .inr ⟨rfl, State.modRope_ropeStr_same hn f⟩
    · exact .inl (by rw [State.modRope, List.modify_eq_self (not_lt.1 hn)])
  · exact .inl (State.modRope_ropeStr_other s hk f)

/-- A rope that is not as after reset is one of the state's. -/
theorem State.rope_lt_of_ne_reset {s : State} {n : Nat} (h : s.ropeStr n ≠ RopeStr.reset) : n < s.rope.strs.length := by
  by_contra hlt
  exact h (List.getD_eq_default _ _ (not_lt.1 hlt))

theorem State.rope_lt_of_tie {s : State} {n : Nat} {x : TieIn} (h : (s.ropeStr n).tie = some x) : n < s.rope.strs.length :=
  State.rope_lt_of_ne_reset fun hreset => by rw [hreset] at h; exact absurd h nofun

/-- A frame that no RESP answers moves on the rope only the counters of SEQ and what the ports have on their lines. -/
theorem ropeCast_ropeStr_keeps {β : Type} {p : RopeStr → β} (hp : ∀ (r : RopeStr) q x y, p { r with seqs := q, txN := x, txF := y } = p r)
    (n : Nat) (e : RopeEnd) (t a : Nat) (l : List Byte) (s : State) (k : Nat) : p ((ropeCast n e t a l s).ropeStr k) = p (s.ropeStr k) := by
  unfold ropeCast ropeSend bumpSeq
  split
  · split
    · exact (State.modRope_ropeStr_keeps (fun r => by cases e <;> exact hp r ..) ..).trans (State.modRope_ropeStr_keeps (fun r => hp r ..) ..)
    · exact State.modRope_ropeStr_keeps (fun r => hp r ..) ..
  · rfl

@[simp] theorem ropeCast_length (n : Nat) (e : RopeEnd) (t a : Nat) (l : List Byte) (s : State) :
    (ropeCast n e t a l s).rope.strs.length = s.rope.strs.length := (ropeCast_sendsOnly n e t a l s).length

/-- From `s` to `t` nothing moves but what the ropes themselves hold. -/
def RopesOnly (s t : State) : Prop := t = { s with rope := { s.rope with strs := t.rope.strs } }

namespace RopesOnly

theorem refl (s : State) : RopesOnly s s := rfl

theorem trans {s t u : State} (h : RopesOnly s t) (k : RopesOnly t u) : RopesOnly s u :=
  Eq.trans k (congrArg (fun v : State => { v with rope := { v.rope with strs := u.rope.strs } }) h)

theorem modRope {s t : State} (h : RopesOnly s t) (n : Nat) (f : RopeStr → RopeStr) : RopesOnly s (t.modRope n f) :=
  h.trans (show RopesOnly t (t.modRope n f) from rfl)

theorem frame {s t : State} (h : RopesOnly s t) : t = { s with rope := t.rope } := by
  rw [h]

theorem frame_trans {s t u : State} (h : RopesOnly s t) (k : u = { t with rope := u.rope }) : u = { s with rope := u.rope } :=
  k.trans (congrArg (fun v : State => { v with rope := u.rope }) h.frame)

theorem ropeSend {s t : State} (h : RopesOnly s t) (n : Nat) (e : RopeEnd) (f : TxFrame) : RopesOnly s (ropeSend n e f t) := by
  unfold Machine.ropeSend
  split
  · exact h.modRope ..
  · exact h

theorem ropeCast {s t : State} (h : RopesOnly s t) (n : Nat) (e : RopeEnd) (y a : Nat) (l : List Byte) : RopesOnly s (ropeCast n e y a l t) := by
  unfold Machine.ropeCast bumpSeq
  split
  · exact (h.modRope ..).ropeSend ..
  · exact h

end RopesOnly

/-! ### The steps of a tie-in (R165, R173, R174) -/

/-- While the rope is tying in, nothing follows the frame of a step but what the step does. -/
theorem afterTie_of_tie {s : State} {n : Nat} (h : (s.ropeStr n).tie.isSome = true) (b : Bool) : afterTie n b s = s :=
  if_neg (by simp [Option.isNone_eq_false_iff.2 h])

/-- The next step of a tie-in: its place is noted and its frame leaves. -/
def tieStep (n : Nat) (e : RopeEnd) (a : Nat) (l : List Byte) (x : TieIn) (s : State) : State := castTie n e a l (setTie n x s)

theorem tieStep_spec {n : Nat} {s : State} (hn : n < s.rope.strs.length) (e : RopeEnd) (a : Nat) (l : List Byte) (x : TieIn) :
    tieStep n e a l x s = { s with rope := (tieStep n e a l x s).rope } ∧ ((tieStep n e a l x s).ropeStr n).tie = some x ∧
    ((tieStep n e a l x s).ropeStr n).tRing = (s.ropeStr n).tRing ∧
    (s.portUp n e = true → (s.ropeStr n).silent = false → ((tieStep n e a l x s).ropeStr n).tx e =
      some { typ := tTie, addr := a, seq := (s.ropeStr n).nextSeq e 0, payload := l }) := by
  have hset : (setTie n x s).ropeStr n = { s.ropeStr n with tie := some x } := State.modRope_ropeStr_same hn _
  refine ⟨(((RopesOnly.refl s).modRope ..).ropeCast ..).frame, ?_, ?_, fun hp hs => ?_⟩
  · exact (ropeCast_ropeStr_keeps (p := RopeStr.tie) (fun _ _ _ _ => rfl) ..).trans (by rw [hset])
  · exact (ropeCast_ropeStr_keeps (p := RopeStr.tRing) (fun _ _ _ _ => rfl) ..).trans (by rw [hset])
  · exact (ropeCast_tx tTie a l (by simpa [setTie] using hn) (by rwa [State.portUp_congr (s := s) (by simp)]) (by rwa [hset])).trans
      (by rw [hset]; rfl)

/-- TIE_FRAME_ARRIVED of a whole TIE frame outside the stop. -/
theorem tieFrameArrived_eq {s : State} {n : Nat} {x : TieIn} {f : LineFrame} {y : RxRope} (hstop : s.stops = false)
    (hx : (s.ropeStr n).tie = some x) (hy : rxFrame f = some y) (hcrc : y.crcOk = true) (d : Rat) :
    exec (.tieFrameArrived n f.bytes f.extraBits d) s = .next (afterTie n true (tieArrived n y d s)) := by
  have hrx : rxFrame { bytes := f.bytes, extraBits := f.extraBits } = some y := hy
  change execTieFrameArrived n f.bytes f.extraBits d s = _
  simp only [execTieFrameArrived, hrx, countCrc, hcrc, if_true, hstop, hx, Option.isSome_some]
  rfl

/-- TIE_FRAME_TIMEOUT outside the stop, while the rope is tying in. -/
theorem tieFrameTimeout_eq {s : State} {n : Nat} {x : TieIn} (hstop : s.stops = false) (hx : (s.ropeStr n).tie = some x) :
    exec (.tieFrameTimeout n) s = .next (afterTie n true (tieLost n x s)) := by
  change execTieFrameTimeout n s = _
  simp only [execTieFrameTimeout, hstop, hx, Option.isSome_some, tieTimeout]
  rfl

/-- RELEASE from N has arrived, or its time has run: RELEASE leaves F (R173 step 1). -/
theorem tieLost_releaseN {x : TieIn} (h : x.step = .releaseN) (n : Nat) (s : State) :
    tieLost n x s = tieStep n .F 0 [1] { x with step := .releaseF } s := by
  simp only [tieLost, h]
  rfl

theorem tieArrived_releaseN {s : State} {n : Nat} {x : TieIn} {y : RxRope} (hx : (s.ropeStr n).tie = some x) (hstep : x.step = .releaseN)
    (hcrc : y.crcOk = true) (htyp : y.typ = tTie) (hsub : fieldU y.payload 0 1 = 1) (d : Rat) : tieArrived n y d s = tieLost n x s := by
  simp [tieArrived, hx, hcrc, htyp, hsub, hstep, TieStep.awaits]

theorem tieArrived_assign {s : State} {n : Nat} {x : TieIn} {y : RxRope} (hx : (s.ropeStr n).tie = some x) (hstep : x.step = .assign)
    (hcrc : y.crcOk = true) (htyp : y.typ = tTie) (hsub : fieldU y.payload 0 1 = 2) (d : Rat) :
    tieArrived n y d s = assignBack n x (fieldU y.payload 1 1) ((fieldU y.payload 2 1).testBit 0) d s := by
  simp [tieArrived, hx, hcrc, htyp, hsub, hstep, TieStep.awaits]

/-- The ring's delay, which ASSIGN measured. -/
def ringMeasured (n : Nat) (d : Rat) (s : State) : State := s.modRope n (fun r => { r with tRing := pubU 16 (d / 50), tRingNs := d })

/-- ASSIGN within MON_EXPECT leads to COUNT (R173 steps 2 and 3). -/
theorem assignBack_within {s : State} {n next : Nat} (h : next - 1 ≤ s.expect n) (x : TieIn) (d : Rat) :
    assignBack n x next false d s =
      tieStep n .F 0 [3, BitVec.ofNat 8 (next - 1), 0, 0] { x with step := .count, n := next - 1 } (ringMeasured n d s) :=
  if_neg (by rw [Bool.false_or, decide_eq_true_eq]; exact not_lt.2 h)

theorem tieBegin_ropesOnly (n attempt : Nat) (s : State) : RopesOnly s (tieBegin n attempt s) := ((RopesOnly.refl s).modRope ..).ropeCast ..

theorem tieBegin_spec {n : Nat} {s : State} (hn : n < s.rope.strs.length) (attempt : Nat) :
    ((tieBegin n attempt s).ropeStr n).tie = some (TieIn.start attempt) ∧ ((tieBegin n attempt s).ropeStr n).mons = [] := by
  unfold tieBegin
  constructor
  · exact (ropeCast_ropeStr_keeps (p := RopeStr.tie) (fun _ _ _ _ => rfl) ..).trans (by rw [State.modRope_ropeStr_same hn])
  · exact (ropeCast_ropeStr_keeps (p := RopeStr.mons) (fun _ _ _ _ => rfl) ..).trans (by rw [State.modRope_ropeStr_same hn])

/-- A SAFE from N that has run its time is followed by SAFE from F (R165). -/
theorem safeOver_fromN {s : State} {n : Nat} (h : (s.ropeStr n).safe = some .fromN) :
    safeOver n s = castSafe n .F (s.modRope n (fun r => { r with safe := some .fromF })) := by
  simp only [safeOver, h]

/-- TIE_FRAME_TIMEOUT outside the stop, on a rope that is not tying in. -/
theorem tieFrameTimeout_of_no_tie {s : State} {n : Nat} (hstop : s.stops = false) (h : (s.ropeStr n).tie = none) :
    exec (.tieFrameTimeout n) s = .next (safeOver n s) := by
  change execTieFrameTimeout n s = _
  simp only [execTieFrameTimeout, hstop, h, Option.isSome_none]
  rfl

/-- Settles O37: every clause is one step of the tie-in, by `tieStep_spec`, but for the tie-in that starts again. -/
theorem tieInSteps : Obligations.TieInSteps := by
  refine fun s n hstop => ⟨fun x hx => ⟨fun hstep => ?release, fun hstep f y d hy hcrc htyp hsub hover hwithin => ?assign,
    fun hstep hfirst => ?lost⟩, fun hnone hsafe hp hs => ?safe⟩
  case release =>
    obtain ⟨hframe, htie, -, htx⟩ := tieStep_spec (State.rope_lt_of_tie hx) .F 0 [1] { x with step := .releaseF }
    have hnext : afterTie n true (tieLost n x s) = tieStep n .F 0 [1] { x with step := .releaseF } s := by
      rw [tieLost_releaseN hstep, afterTie_of_tie (by rw [htie]; rfl)]
    refine ⟨fun f y d hy hcrc htyp hsub => ⟨_, ?_, hframe, htie, htx⟩, _, ?_, hframe, htie⟩
    · rw [tieFrameArrived_eq hstop hx hy hcrc, tieArrived_releaseN hx hstep hcrc htyp hsub, hnext]
    · rw [tieFrameTimeout_eq hstop hx, hnext]
  case assign =>
    have hn := State.rope_lt_of_tie hx
    obtain ⟨hframe, htie, hring, -⟩ := tieStep_spec (s := ringMeasured n d s) (by simpa [ringMeasured] using hn) .F 0
      [3, BitVec.ofNat 8 (fieldU y.payload 1 1 - 1), 0, 0] { x with step := .count, n := fieldU y.payload 1 1 - 1 }
    refine ⟨_, ?_, hframe, htie, hring.trans ?_⟩
    · rw [tieFrameArrived_eq hstop hx hy hcrc, tieArrived_assign hx hstep hcrc htyp hsub, hover, assignBack_within hwithin,
        afterTie_of_tie (by rw [htie]; rfl)]
    · rw [ringMeasured, State.modRope_ropeStr_same hn]
  case lost =>
    obtain ⟨htie, hmons⟩ := tieBegin_spec (State.rope_lt_of_tie hx) 2
    refine ⟨_, ?_, (tieBegin_ropesOnly n 2 s).frame, htie, hmons⟩
    have hagain : tieLost n x s = tieBegin n 2 s := by simp only [tieLost, hstep, tieRetry, if_pos hfirst]
    rw [tieFrameTimeout_eq hstop hx, hagain, afterTie_of_tie (by rw [htie]; rfl)]
  case safe =>
    have hn : n < s.rope.strs.length := State.rope_lt_of_ne_reset fun hreset => by rw [hreset] at hsafe; exact absurd hsafe nofun
    have hset : (s.modRope n (fun r => { r with safe := some .fromF })).ropeStr n = { s.ropeStr n with safe := some .fromF } :=
      State.modRope_ropeStr_same hn _
    refine ⟨_, (tieFrameTimeout_of_no_tie hstop hnone).trans (congrArg _ (safeOver_fromN hsafe)), (((RopesOnly.refl s).modRope ..).ropeCast ..).frame, ?_, ?_⟩
    · exact (ropeCast_ropeStr_keeps (p := RopeStr.safe) (fun _ _ _ _ => rfl) ..).trans (by rw [hset])
    · exact (ropeCast_tx (e := .F) tTie 0 [5] (by simpa using hn) (by rwa [State.portUp_congr (s := s) (by simp)]) (by rwa [hset])).trans
        (by rw [hset]; rfl)

/-! ### The first check that fails (R379) -/

/-- A command that does not wait completes with the status of the first check that fails. -/
theorem runCmd_of_failed {op : Nat} {sub : Submission} {l r : List Check} {c : Check} {act : State → State} {s : State}
    (hw : s.cmdWaits op sub = false) (hl : ∀ c ∈ l, c.1 = true) (hc : c.1 = false) :
    runCmd op sub (l ++ c :: r) act s = .next (complete op sub c.2 [] s) := by
  have hfirst : firstFail (l ++ c :: r) = some c.2 := by
    induction l with
    | nil => exact if_neg (by simp [hc])
    | cons d l ih =>
      obtain ⟨hd, hl⟩ := List.forall_mem_cons.1 hl
      exact (if_pos hd).trans (ih hl)
  rw [runCmd, if_neg (by simp [hw]), hfirst]

/-! ### ROPE_TIE_IN and ROPE_RAW (R179, R190, R191, R400) -/

/-- A tie-in that begins leaves the other ropes alone. -/
theorem tieBegin_others (n attempt : Nat) (s : State) :
    (∀ k, k ≠ n → (tieBegin n attempt s).ropeStr k = s.ropeStr k) ∧ (tieBegin n attempt s).rope.strs.length = s.rope.strs.length := by
  unfold tieBegin castTie
  exact ⟨fun k hk => ((ropeCast_sendsOnly ..).others k hk).trans (State.modRope_ropeStr_other s hk.symm _), by simp⟩

/-- Tie-ins of distinct ropes begin one after the other. -/
theorem foldl_tieBegin {l : List Nat} (hl : l.Nodup) (attempt : Nat) (s : State) :
    (∀ n ∈ l, n < s.rope.strs.length → ((l.foldl (fun s n => tieBegin n attempt s) s).ropeStr n).tie = some (TieIn.start attempt) ∧
      ((l.foldl (fun s n => tieBegin n attempt s) s).ropeStr n).mons = []) ∧
    (∀ n, n ∉ l → (l.foldl (fun s n => tieBegin n attempt s) s).ropeStr n = s.ropeStr n) ∧
    RopesOnly s (l.foldl (fun s n => tieBegin n attempt s) s) := by
  induction l generalizing s with
  | nil => exact ⟨nofun, fun _ _ => rfl, .refl s⟩
  | cons m l ih =>
    obtain ⟨hm, hl⟩ := List.nodup_cons.1 hl
    obtain ⟨hothers, hlen⟩ := tieBegin_others m attempt s
    obtain ⟨hin, hout, honly⟩ := ih hl (tieBegin m attempt s)
    refine ⟨fun n hn hlt => ?_, fun n hn => ?_, (tieBegin_ropesOnly m attempt s).trans honly⟩
    · rcases List.mem_cons.1 hn with rfl | hn
      · rw [List.foldl_cons, hout n hm]
        exact tieBegin_spec hlt attempt
      · exact hin n hn (hlen ▸ hlt)
    · exact (hout n (List.not_mem_of_not_mem_cons hn)).trans (hothers n (List.ne_of_not_mem_cons hn))

/-- ROPE_TIE_IN whose checks pass. -/
theorem ropeTieIn_begins {s : State} {sub : Submission} (hlive : s.live = true) (hw : s.cmdWaits 0x10 sub = false) (hform : sub.formOk [(0, 1)] = true)
    (hbuf : sub.noBuf = true) (hmask : sub.pU 0 1 ≠ 0) (hropes : ∀ n ∈ maskStrs (sub.pU 0 1), s.enabled n = true ∧ (s.ropeStr n).tie = none) :
    exec (.ropeTieIn sub) s = .next ((maskStrs (sub.pU 0 1)).foldl (fun s n => tieBegin n 1 s)
      { s with rope := { s.rope with tieCmds := s.rope.tieCmds ++ [(sub, BitVec.ofNat 8 (sub.pU 0 1))] } }) := by
  have hall : (maskStrs (sub.pU 0 1)).all (fun n => s.enabled n) = true := List.all_eq_true.2 fun n hn => (hropes n hn).1
  have hidle : (maskStrs (sub.pU 0 1)).all (fun n => (s.ropeStr n).tie.isNone) = true :=
    List.all_eq_true.2 fun n hn => Option.isNone_iff_eq_none.2 (hropes n hn).2
  change execRopeTieIn sub s = _
  unfold execRopeTieIn
  exact runCmd_of_checked hw (by simp [hform, hbuf, hmask, hall, hidle, State.accepts_of_live hlive])

/-- In the gaps of a rope that is tying in nothing runs. -/
theorem ropeGap_of_tie {s : State} {n : Nat} (h : (s.ropeStr n).tie.isSome = true) : ropeGap n s = s := by
  have hsafe : safeStep n s = s := if_pos (by simp [h])
  unfold ropeGap
  rw [hsafe]
  exact if_pos (by simp [h])

/-- The first check of ROPE_RAW: form, buffer, rope, TYPE, ADDR and RESP_ADDR (R379, R190). -/
def rawFormOk (sub : Submission) : Bool :=
  sub.formOk [(0, 1), (1, 1), (2, 1), (8, 8)] &&
    sub.hasBuf (3 ≤ sub.bufLen && sub.bufLen ≤ 62 && (sub.pU 1 1 != tRead || sub.bufLen == 3)) &&
    sub.pU 0 1 < 8 && (sub.pU 1 1 == tRead || sub.pU 1 1 == tWrite) && 1 ≤ sub.pU 2 1 && sub.pU 2 1 ≤ 32 && sub.pU 8 8 != 0 && sub.pU 8 8 % 8 == 0

theorem rawFormOk_of {sub : Submission} (hform : sub.formOk [(0, 1), (1, 1), (2, 1), (8, 8)] = true) (hbuf : sub.hasBuf true = true)
    (hstr : sub.pU 0 1 < 8) (haddr : 1 ≤ sub.pU 2 1) (haddr' : sub.pU 2 1 ≤ 32) (hresp : sub.pU 8 8 ≠ 0) (halign : sub.pU 8 8 % 8 = 0)
    (hlen : 3 ≤ sub.bufLen) (hlen' : sub.bufLen ≤ 62) (htyp : sub.pU 1 1 = tRead ∧ sub.bufLen = 3 ∨ sub.pU 1 1 = tWrite) :
    rawFormOk sub = true := by
  have hfits : (3 ≤ sub.bufLen && sub.bufLen ≤ 62 && (sub.pU 1 1 != tRead || sub.bufLen == 3) : Bool) = true := by
    rcases htyp with ⟨-, hthree⟩ | hwrite
    · simp [hthree]
    · simp [hlen, hlen', hwrite]
  have hknown : (sub.pU 1 1 == tRead || sub.pU 1 1 == tWrite) = true := by
    rcases htyp with ⟨hread, -⟩ | hwrite
    · simp [hread]
    · simp [hwrite]
  rw [rawFormOk, hfits, hknown]
  simp [hform, hbuf, hstr, haddr, haddr', hresp, halign]

/-- A host's frame joins its rope's queue. -/
def rawQueued (sub : Submission) (b : List Byte) (s : State) : State := s.modRope (sub.pU 0 1) (fun r => { r with rawQueue := r.rawQueue ++ [(sub, b)] })

/-- ROPE_RAW whose checks pass, on a rope that is tying in. -/
theorem ropeRaw_queues {s : State} {sub : Submission} {buf : DmaRead} {x : TieIn} (hlive : s.live = true) (hw : s.cmdWaits 0x11 sub = false)
    (hform : rawFormOk sub = true) (hread : buf.isSome = true) (htie : (s.ropeStr (sub.pU 0 1)).tie = some x)
    (hseal : (s.sec.sealed && sub.pU 1 1 == tWrite) = false)
    (hpage : (if sub.pU 1 1 = tRead then 1 ≤ fieldU (bufBytes sub buf) 2 1 && fieldU (bufBytes sub buf) 2 1 ≤ 60
      else 0x80 ≤ fieldU (bufBytes sub buf) 0 1 : Bool) = true) :
    exec (.ropeRaw sub buf) s = .next (rawQueued sub (bufBytes sub buf) s) := by
  have htying : ((rawQueued sub (bufBytes sub buf) s).ropeStr (sub.pU 0 1)).tie.isSome = true := by
    rw [rawQueued, State.modRope_ropeStr_same (State.rope_lt_of_tie htie), htie]
    rfl
  refine .trans ?_ (congrArg _ (ropeGap_of_tie htying))
  change execRopeRaw sub buf s = _
  unfold execRopeRaw
  refine runCmd_of_checked hw ?_
  simp only [List.forall_mem_cons]
  exact ⟨hform, State.accepts_of_live hlive _, by rw [hseal]; rfl, by rw [htie]; rfl, hread, hpage, nofun⟩

/-- A raw WRITE after SEAL (R400). -/
theorem ropeRaw_sealed {s : State} {sub : Submission} (buf : DmaRead) (hlive : s.live = true) (hw : s.cmdWaits 0x11 sub = false)
    (hform : rawFormOk sub = true) (hseal : s.sec.sealed = true) (htyp : sub.pU 1 1 = 2) :
    exec (.ropeRaw sub buf) s = .next (complete 0x11 sub stSealed [] s) := by
  change execRopeRaw sub buf s = _
  unfold execRopeRaw
  refine runCmd_of_failed (l := [_, _]) hw ?_ (c := (!(s.sec.sealed && sub.pU 1 1 == tWrite), stSealed)) (by simp [hseal, htyp])
  simp only [List.forall_mem_cons]
  exact ⟨hform, State.accepts_of_live hlive _, nofun⟩

/-- Settles O38: the tie-ins by the fold over the ropes that the command names, the raw frames by their checks. -/
theorem ropeCommandsWait : Obligations.RopeCommandsWait := by
  refine fun s sub buf hlive => ⟨fun hw hform hbuf hmask hropes => ?ties, fun hw hform hbuf hstr haddr haddr' hresp halign hread htie => ?raws⟩
  case ties =>
    obtain ⟨hin, hout, honly⟩ := foldl_tieBegin (l := maskStrs (sub.pU 0 1)) (List.nodup_range.filter _) 1
      { s with rope := { s.rope with tieCmds := s.rope.tieCmds ++ [(sub, BitVec.ofNat 8 (sub.pU 0 1))] } }
    exact ⟨_, ropeTieIn_begins hlive hw hform hbuf hmask hropes, honly.frame, by rw [honly], hin, hout⟩
  case raws =>
    obtain ⟨x, hx⟩ := Option.isSome_iff_exists.1 htie
    have hok := rawFormOk_of hform hbuf hstr haddr haddr' hresp halign
    refine ⟨fun htyp hlen h1 h60 => ?_, fun htyp hseal hlen hlen' hpage => ?_, fun htyp hseal hlen hlen' => ?_⟩
    · exact ropeRaw_queues hlive hw (hok (by omega) (by omega) (.inl ⟨htyp, hlen⟩)) hread hx (by simp [htyp]) (by simp [htyp, h1, h60])
    · exact ropeRaw_queues hlive hw (hok hlen hlen' (.inr htyp)) hread hx (by simp [hseal]) (by simp [htyp, hpage])
    · exact ropeRaw_sealed buf hlive hw (hok hlen hlen' (.inr htyp)) hseal htyp

end Sys2Proof.Machine

namespace Sys2Proof.Machine

/-! ### What the traffic of a rope leaves as it was (R166, R167, R184, R222) -/

/-- From `s` to `t` every rope keeps what `p` says of it, and no transaction comes into flight but for its first attempt. -/
structure Moves {β : Type} (p : RopeStr → β) (s t : State) : Prop where
  length   : t.rope.strs.length = s.rope.strs.length
  keeps    : ∀ k, p (t.ropeStr k) = p (s.ropeStr k)
  inflight : ∀ k (x : Txn), x.attempts ≠ 1 → (t.ropeStr k).inflight.count x ≤ (s.ropeStr k).inflight.count x

namespace Moves
variable {β γ : Type} {p : RopeStr → β} {s t u : State}

theorem refl (s : State) : Moves p s s := ⟨rfl, fun _ => rfl, fun _ _ _ => le_rfl⟩

theorem trans (h : Moves p s t) (k : Moves p t u) : Moves p s u :=
  ⟨k.length.trans h.length, fun i => (k.keeps i).trans (h.keeps i), fun i x hx => (k.inflight i x hx).trans (h.inflight i x hx)⟩

/-- What says less is kept too. -/
theorem comp (h : Moves p s t) (g : β → γ) : Moves (fun r => g (p r)) s t := ⟨h.length, fun k => congrArg g (h.keeps k), h.inflight⟩

theorem of_strs (h : t.rope.strs = s.rope.strs) : Moves p s t := by
  have hrope : ∀ k, t.ropeStr k = s.ropeStr k := fun k => by rw [State.ropeStr, State.ropeStr, h]
  exact ⟨congrArg _ h, fun k => by rw [hrope], fun k x _ => by rw [hrope]⟩

/-- A part of the state beside the ropes moves. -/
theorem of_rope (h : t.rope = s.rope) : Moves p s t := of_strs (congrArg _ h)

theorem modRope (h : Moves p s t) (n : Nat) {f : RopeStr → RopeStr} (hp : p (f (t.ropeStr n)) = p (t.ropeStr n) := by exact rfl)
    (hin : ∀ x : Txn, x.attempts ≠ 1 → (f (t.ropeStr n)).inflight.count x ≤ (t.ropeStr n).inflight.count x := by exact fun _ _ => le_rfl) :
    Moves p s (t.modRope n f) := by
  refine h.trans ⟨t.modRope_length n f, fun k => ?_, fun k x hx => ?_⟩ <;> rcases t.modRope_ropeStr_cases n k f with hk | ⟨rfl, hk⟩ <;> rw [hk]
  · exact hp
  · exact hin x hx

theorem ite {c : Prop} [Decidable c] (h : Moves p s t) (k : Moves p s u) : Moves p s (if c then t else u) := by
  split
  · exact h
  · exact k

theorem foldl {α : Type} {f : State → α → State} (h : Moves p s t) (hf : ∀ t a, Moves p s t → Moves p s (f t a)) (l : List α) :
    Moves p s (l.foldl f t) := by
  induction l generalizing t with
  | nil => exact h
  | cons a l ih => exact ih (hf t a h)

end Moves

/-- The duties that a rope's monitors have acknowledged, and whether their last BAL failed (R219, R222). -/
def RopeStr.duties (r : RopeStr) (m : Nat) : Option (List Byte × Bool) := (mapGet r.mons m).map (fun x => (x.ack, x.ackFailed))

/-- What a rope's commands and authentications leave as it was. -/
def RopeStr.account (r : RopeStr) : Nat × (Nat → Option (List Byte × Bool)) := (r.failCnt, r.duties)

/-- The belay tones that did not come back, and the run of those that did (R184). -/
def RopeStr.belays (r : RopeStr) : Nat × Nat := (r.belayMiss, r.belayRun)

/-- What the frames of a rope leave as it was: also the count of its belay tones, and whether a break is being located. -/
def RopeStr.books (r : RopeStr) : (Nat × (Nat → Option (List Byte × Bool))) × (Nat × Nat) × Bool :=
  (r.account, r.belays, r.locate.isSome)

abbrev Serves : State → State → Prop := Moves RopeStr.books
abbrev Attends : State → State → Prop := Moves RopeStr.account
abbrev Settles : State → State → Prop := Moves RopeStr.failCnt

theorem Serves.attends {s t : State} (h : Serves s t) : Attends s t := h.comp Prod.fst
theorem Attends.settles {s t : State} (h : Attends s t) : Settles s t := h.comp Prod.fst

/-- A monitor's record keeps its duties where every update of it does. -/
theorem RopeStr.duties_mapSet {r : RopeStr} {m : Nat} {x y : Mon} (hx : mapGet r.mons m = some x) (ha : y.ack = x.ack) (hf : y.ackFailed = x.ackFailed) :
    RopeStr.duties { r with mons := mapSet r.mons m y } = r.duties := by
  funext k
  by_cases hk : k = m
  · subst hk
    simp [RopeStr.duties, hx, ha, hf]
  · simp [RopeStr.duties, mapGet_mapSet_other _ hk]

namespace Serves
variable {s t : State}

theorem modMon (h : Serves s t) (n m : Nat) {f : Mon → Mon} (ha : ∀ x, (f x).ack = x.ack := by exact fun _ => rfl)
    (hf : ∀ x, (f x).ackFailed = x.ackFailed := by exact fun _ => rfl) : Serves s (t.modMon n m f) := by
  refine Moves.modRope h n ?_ ?_ <;> (cases hx : mapGet (t.ropeStr n).mons m with | none => simp | some x => ?_)
  · exact Prod.ext (Prod.ext rfl (RopeStr.duties_mapSet hx (ha x) (hf x))) rfl
  · simp

theorem ropeSend (h : Serves s t) (n : Nat) (e : RopeEnd) (f : TxFrame) : Serves s (ropeSend n e f t) := by
  unfold Machine.ropeSend
  split
  · cases e
    · exact Moves.modRope h n
    · exact Moves.modRope h n
  · exact h

theorem bumpSeq (h : Serves s t) (n : Nat) (e : RopeEnd) (a : Nat) : Serves s (bumpSeq n e a t) := Moves.modRope h n

theorem ropeCast (h : Serves s t) (n : Nat) (e : RopeEnd) (y a : Nat) (l : List Byte) : Serves s (ropeCast n e y a l t) := by
  unfold Machine.ropeCast
  split
  · exact (bumpSeq h ..).ropeSend ..
  · exact h

theorem beginTxn (h : Serves s t) (n : Nat) (e : RopeEnd) (a : Nat) (u : TxnUse) (y : Nat) (l : List Byte) : Serves s (beginTxn n e a u y l t) := by
  refine ropeSend (Moves.modRope (bumpSeq h ..) n (hin := fun x hx => ?_)) ..
  have hnew : ∀ z : Txn, z.attempts = 1 → (z == x) = false := fun z hz => beq_eq_false_iff_ne.2 fun heq => hx (heq ▸ hz)
  simp [List.count_append, List.count_singleton, hnew]

theorem startTxn (h : Serves s t) (n : Nat) (e : RopeEnd) (a : Nat) (u : TxnUse) (y : Nat) (l : List Byte) : Serves s (startTxn n e a u y l t) := by
  unfold Machine.startTxn
  split
  · exact h
  · split
    · exact beginTxn h ..
    · exact Moves.modRope h n

theorem nextTxn (h : Serves s t) (n : Nat) : Serves s (nextTxn n t) := by
  unfold Machine.nextTxn
  split
  · exact startTxn (Moves.modRope h n) ..
  · exact h

theorem sendEcho (h : Serves s t) (n : Nat) (e : RopeEnd) (a : Nat) (u : TxnUse) : Serves s (sendEcho n e a u t) := startTxn h ..
theorem sendRead (h : Serves s t) (n : Nat) (e : RopeEnd) (a p o l : Nat) (u : TxnUse) : Serves s (sendRead n e a p o l u t) := startTxn h ..
theorem sendConfigPage (h : Serves s t) (n : Nat) (e : RopeEnd) (m : Nat) : Serves s (sendConfigPage n e m t) := startTxn h ..

theorem authFrame (h : Serves s t) (n : Nat) (e : RopeEnd) (m : Nat) (a : AuthSend) : Serves s (authFrame n e m a t) := by
  cases a with
  | identity => exact sendRead h ..
  | certificate => exact sendRead h ..
  | challenge =>
    have hdraw : Serves s t.draw.2 := Moves.trans h (.of_rope rfl)
    simp only [Machine.authFrame]
    exact startTxn (modMon hdraw ..) ..
  | fetch => exact startTxn h ..

theorem castSafe (h : Serves s t) (n : Nat) (e : RopeEnd) : Serves s (castSafe n e t) := ropeCast h ..

theorem safeStep (h : Serves s t) (n : Nat) : Serves s (safeStep n t) := by
  simp only [Machine.safeStep]
  split
  · exact h
  · split
    · exact castSafe (castSafe (Moves.modRope h n) ..) ..
    · exact castSafe (Moves.modRope h n) ..

theorem sendLocate (h : Serves s t) {n : Nat} (hl : (t.ropeStr n).locate.isSome = true) (l : Locate) : Serves s (sendLocate n l t) := by
  refine Moves.foldl (Moves.modRope h n ?_) (fun _ _ h => sendEcho h ..) _
  exact Prod.ext rfl (Prod.ext rfl hl.symm)

/-- What runs in the gaps of a rope begins transactions. -/
theorem ropeGap (h : Serves s t) (n : Nat) : Serves s (ropeGap n t) := by
  simp only [Machine.ropeGap]
  have hsafe : Serves s (Machine.safeStep n t) := safeStep h n
  generalize Machine.safeStep n t = v at hsafe
  split
  · exact hsafe
  split
  · exact startTxn (Moves.modRope (modMon hsafe ..) n) ..
  split
  · exact sendEcho (Moves.modRope hsafe n) ..
  split
  · rename_i l hl
    exact sendLocate hsafe (by rw [Option.filter_eq_some_iff.1 hl |>.1]; rfl) l
  split
  · exact hsafe
  split
  · exact sendConfigPage (Moves.modRope hsafe n) ..
  split
  · exact authFrame (Moves.modRope hsafe n) ..
  split
  · exact startTxn (Moves.modRope hsafe n) ..
  · exact hsafe

end Serves

end Sys2Proof.Machine

namespace Sys2Proof.Machine

/-! ### The belay tone leaves (R181, R182, R183) -/

/-- The SEQ of one end's frames does not count those of the other (R169). -/
theorem ropeCast_nextSeq_other {e d : RopeEnd} (h : d ≠ e) (n y a : Nat) (l : List Byte) (s : State) (k : Nat) :
    ((ropeCast n e y a l s).ropeStr k).nextSeq d 0 = (s.ropeStr k).nextSeq d 0 := by
  have hkey : 64 * endIdx d + 0 ≠ 64 * endIdx e + 0 := by
    match d, e with
    | .N, .F | .F, .N => decide
    | .N, .N | .F, .F => exact absurd rfl h
  unfold ropeCast ropeSend bumpSeq
  split
  · split
    · refine (State.modRope_ropeStr_keeps (p := fun r => r.nextSeq d 0) (fun r => by cases e <;> rfl) ..).trans ?_
      exact State.modRope_ropeStr_keeps (p := fun r => r.nextSeq d 0) (fun r => by rw [RopeStr.nextSeq, mapGet_mapSet_other _ hkey]; rfl) ..
    · exact State.modRope_ropeStr_keeps (p := fun r => r.nextSeq d 0) (fun r => by rw [RopeStr.nextSeq, mapGet_mapSet_other _ hkey]; rfl) ..
  · rfl

theorem castBelay_ropesOnly (n : Nat) (e : RopeEnd) (a : Nat) (s : State) : RopesOnly s (castBelay n e a s) := by
  unfold castBelay
  split
  · exact ((RopesOnly.refl s).ropeCast ..).modRope ..
  · exact .refl s

theorem castBelay_sendsOnly (n : Nat) (e : RopeEnd) (a : Nat) (s : State) : SendsOnly n e s (castBelay n e a s) := by
  unfold castBelay
  split
  · refine (ropeCast_sendsOnly ..).trans (.modRope ?_ ?_ _)
    · exact fun _ => rfl
    · exact fun _ d _ => by cases d <;> rfl
  · exact .refl n e s

theorem castBelay_spec {n : Nat} {e : RopeEnd} {s : State} (hn : n < s.rope.strs.length) (hp : s.portUp n e = true)
    (hs : (s.ropeStr n).silent = false) (a : Nat) :
    ((castBelay n e a s).ropeStr n).belayCnt = ((s.ropeStr n).belayCnt + 1) % 65536 ∧
    ((castBelay n e a s).ropeStr n).probeOut = (s.ropeStr n).probeOut ∧ ((castBelay n e a s).ropeStr n).throughRun = (s.ropeStr n).throughRun ∧
    (∀ d, d ≠ e → ((castBelay n e a s).ropeStr n).nextSeq d 0 = (s.ropeStr n).nextSeq d 0) ∧
    ((castBelay n e a s).ropeStr n).tx e =
      some { typ := tBelay, addr := a, seq := (s.ropeStr n).nextSeq e 0, payload := leBytes 2 (s.ropeStr n).belayCnt ++ zeros 5 } := by
  rw [castBelay, if_pos (by simp [hp, hs]), State.modRope_ropeStr_same (by simpa using hn)]
  refine ⟨?_, ?_, ?_, fun d hd => ?_, ?_⟩
  · exact congrArg (fun c => (c + 1) % 65536) (ropeCast_ropeStr_keeps (p := RopeStr.belayCnt) (fun _ _ _ _ => rfl) ..)
  · exact ropeCast_ropeStr_keeps (p := RopeStr.probeOut) (fun _ _ _ _ => rfl) ..
  · exact ropeCast_ropeStr_keeps (p := RopeStr.throughRun) (fun _ _ _ _ => rfl) ..
  · exact ropeCast_nextSeq_other hd ..
  · exact .trans (by cases e <;> rfl) (ropeCast_tx tBelay a _ hn hp hs)

/-- The tone leaves the ends of the mode, one after the other. -/
def belaySent (n : Nat) (s : State) : State :=
  (soundEnds (s.ropeStr n)).foldl (fun t e => castBelay n e (belayAddr (s.ropeStr n) e) t) s

theorem belaySend_eq {s : State} {n : Nat} (hen : s.enabled n = true) (hs : (s.ropeStr n).sounds = true) :
    exec (.belaySend n) s = .next (belaySent n s) := if_neg (by simp [hen, hs])

theorem belaySent_keeps (n : Nat) (s : State) : RopesOnly s (belaySent n s) ∧ ∀ k, k ≠ n → (belaySent n s).ropeStr k = s.ropeStr k := by
  unfold belaySent
  suffices h : ∀ (l : List RopeEnd) (g : RopeEnd → Nat) (t : State), RopesOnly t (l.foldl (fun t e => castBelay n e (g e) t) t) ∧
      ∀ k, k ≠ n → (l.foldl (fun t e => castBelay n e (g e) t) t).ropeStr k = t.ropeStr k from h ..
  intro l g
  induction l with
  | nil => exact fun t => ⟨.refl t, fun _ _ => rfl⟩
  | cons e l ih =>
    intro t
    obtain ⟨honly, hothers⟩ := ih (castBelay n e (g e) t)
    exact ⟨(castBelay_ropesOnly ..).trans honly, fun k hk => (hothers k hk).trans ((castBelay_sendsOnly ..).others k hk)⟩

theorem belaySent_ring {s : State} {n : Nat} (h : (s.ropeStr n).mode = .ring) : belaySent n s = castBelay n .N 0 s := by
  simp [belaySent, soundEnds, belayEnds, belayAddr, h]

theorem belaySent_split {s : State} {n : Nat} (h : (s.ropeStr n).mode = .split) :
    belaySent n s = castBelay n .F (s.ropeStr n).anchorF (castBelay n .N (s.ropeStr n).anchorN s) := by
  simp [belaySent, soundEnds, belayEnds, belayAddr, h]

/-- In SPLIT both ends sound, the N end first. -/
theorem belaySent_split_spec {s : State} {n : Nat} (hn : n < s.rope.strs.length) (h : (s.ropeStr n).mode = .split) (hpN : s.portUp n .N = true)
    (hpF : s.portUp n .F = true) (hs : (s.ropeStr n).silent = false) :
    ((belaySent n s).ropeStr n).belayCnt = ((s.ropeStr n).belayCnt + 2) % 65536 ∧
    ((belaySent n s).ropeStr n).tx .N = some { typ := tBelay, addr := (s.ropeStr n).anchorN, seq := (s.ropeStr n).nextSeq .N 0
                                               payload := leBytes 2 (s.ropeStr n).belayCnt ++ zeros 5 } ∧
    ((belaySent n s).ropeStr n).tx .F = some { typ := tBelay, addr := (s.ropeStr n).anchorF, seq := (s.ropeStr n).nextSeq .F 0
                                               payload := leBytes 2 (((s.ropeStr n).belayCnt + 1) % 65536) ++ zeros 5 } := by
  rw [belaySent_split h]
  obtain ⟨hcnt, -, -, hseq, htx⟩ := castBelay_spec hn hpN hs (s.ropeStr n).anchorN
  have hsends := castBelay_sendsOnly n .N (s.ropeStr n).anchorN s
  have honly := castBelay_ropesOnly n .N (s.ropeStr n).anchorN s
  generalize castBelay n .N (s.ropeStr n).anchorN s = u at *
  obtain ⟨hcntF, -, -, -, htxF⟩ := castBelay_spec (hsends.length ▸ hn) (e := .F) (by rwa [State.portUp_congr (s := s) (by rw [honly])])
    ((hsends.silent n).trans hs) (s.ropeStr n).anchorF
  refine ⟨?_, ?_, ?_⟩
  · rw [hcntF, hcnt]
    omega
  · exact ((castBelay_sendsOnly n .F ..).tx n .N (by decide)).trans htx
  · rw [htxF, hseq .F (by decide), hcnt]

/-! ### Probes (R208, R209) -/

/-- A through-probe is noted as out. -/
def probeNoted (n : Nat) (s : State) : State :=
  s.modRope n (fun r => { r with throughRun := if r.probeOut then 0 else r.throughRun, probeOut := true })

theorem throughProbe_eq {s : State} {n : Nat} (hm : (s.ropeStr n).mode = .split ∨ (s.ropeStr n).mode = .line) (hpN : s.portUp n .N = true)
    (hpF : s.portUp n .F = true) (hs : (s.ropeStr n).silent = false) (hen : s.enabled n = true) :
    exec (.throughProbe n) s = .next (castBelay n .N 0 (probeNoted n s)) := by
  have hmode : ((s.ropeStr n).mode == .split || (s.ropeStr n).mode == .line) = true := by rcases hm with hm | hm <;> simp [hm]
  exact if_pos (by simp only [hmode, hpN, hpF, hs, hen]; rfl)

theorem throughProbe_spec {s : State} {n : Nat} (hn : n < s.rope.strs.length) (hm : (s.ropeStr n).mode = .split ∨ (s.ropeStr n).mode = .line)
    (hpN : s.portUp n .N = true) (hpF : s.portUp n .F = true) (hs : (s.ropeStr n).silent = false) (hen : s.enabled n = true) :
    ∃ t, exec (.throughProbe n) s = .next t ∧ t = { s with rope := t.rope } ∧ (t.ropeStr n).probeOut = true ∧
      (t.ropeStr n).throughRun = (if (s.ropeStr n).probeOut then 0 else (s.ropeStr n).throughRun) ∧
      (t.ropeStr n).belayCnt = ((s.ropeStr n).belayCnt + 1) % 65536 ∧
      (t.ropeStr n).txN = some { typ := tBelay, addr := 0, seq := (s.ropeStr n).nextSeq .N 0, payload := leBytes 2 (s.ropeStr n).belayCnt ++ zeros 5 } := by
  have hset : (probeNoted n s).ropeStr n = _ := State.modRope_ropeStr_same hn _
  have honly : RopesOnly s (probeNoted n s) := (RopesOnly.refl s).modRope ..
  obtain ⟨hcnt, hout, hrun, -, htx⟩ := castBelay_spec (s := probeNoted n s) (e := .N) (by simpa [probeNoted] using hn)
    (by rwa [State.portUp_congr (s := s) (by rw [honly])]) (by rw [hset]; exact hs) 0
  rw [hset] at hcnt hout hrun htx
  exact ⟨_, throughProbe_eq hm hpN hpF hs hen, (honly.trans (castBelay_ropesOnly ..)).frame, hout, hrun, hcnt, htx⟩

/-- A rope whose gaps are free, with no BAL to send: it is live, no frame but a location's is in flight, and it owes no SAFE. -/
structure GapFree (s : State) (n : Nat) : Prop where
  live    : s.live = true
  gap     : (s.ropeStr n).gap = true
  tie     : (s.ropeStr n).tie = none
  silent  : (s.ropeStr n).silent = false
  sweep   : (s.ropeStr n).sweep = none
  balTodo : (s.ropeStr n).balTodo = []
  safe    : (s.ropeStr n).safe = none

/-- The first reach probe that waits goes out in a gap (R201, R208). -/
theorem ropeGap_probes {s : State} {n : Nat} (h : GapFree s n) {e : RopeEnd} (he : (s.ropeStr n).probeTodo.find? (fun e => ((s.ropeStr n).beyond e).isSome) = some e) :
    ropeGap n s = sendEcho n e (((s.ropeStr n).beyond e).getD 0) .reach (s.modRope n (fun r => { r with probeTodo := r.probeTodo.filter (· != e) })) := by
  have hsafe : safeStep n s = s := if_pos (by simp [h.safe])
  simp only [ropeGap, hsafe, h.balTodo, he]
  exact if_neg (by simp [h.live, h.gap, h.tie, h.silent, h.sweep])

theorem State.not_stopping_of_live {s : State} (h : s.live = true) : (s.pwr.state == .stopping || s.pwr.state == .halt) = false := by
  cases hs : s.pwr.state <;> simp [State.live, hs] at h ⊢

/-- A transaction begins while fewer than 8 are in flight (R166). -/
theorem startTxn_begins {s : State} {n : Nat} (hn : n < s.rope.strs.length) (hlive : s.live = true) (hin : (s.ropeStr n).inflight.length < maxInflight)
    (e : RopeEnd) (a : Nat) (u : TxnUse) (y : Nat) (l : List Byte) : ∃ x ∈ ((startTxn n e a u y l s).ropeStr n).inflight, x.fromEnd = e ∧ x.addr = a ∧ x.use = u := by
  rw [startTxn, if_neg (by simp [State.not_stopping_of_live hlive]), if_pos hin, beginTxn]
  have hsend : ∀ (f : TxFrame) (t : State), ((ropeSend n e f t).ropeStr n).inflight = (t.ropeStr n).inflight := fun f t => by
    unfold ropeSend
    split
    · exact State.modRope_ropeStr_keeps (p := RopeStr.inflight) (fun r => by cases e <;> rfl) ..
    · rfl
  rw [hsend, State.modRope_ropeStr_same (by simpa [bumpSeq] using hn)]
  exact ⟨_, List.mem_append_right _ (List.mem_singleton_self _), rfl, rfl, rfl⟩

theorem startTxn_others (n : Nat) (e : RopeEnd) (a : Nat) (u : TxnUse) (y : Nat) (l : List Byte) (s : State) :
    RopesOnly s (startTxn n e a u y l s) ∧ ∀ k, k ≠ n → (startTxn n e a u y l s).ropeStr k = s.ropeStr k := by
  unfold startTxn beginTxn bumpSeq
  split
  · exact ⟨.refl s, fun _ _ => rfl⟩
  · split
    · exact ⟨(((RopesOnly.refl s).modRope ..).modRope ..).ropeSend .., fun k hk => ((ropeSend_sendsOnly ..).others k hk).trans
        ((State.modRope_ropeStr_other _ hk.symm _).trans (State.modRope_ropeStr_other _ hk.symm _))⟩
    · exact ⟨(RopesOnly.refl s).modRope .., fun k hk => State.modRope_ropeStr_other _ hk.symm _⟩

/-- A reach probe of an end waits or is out. -/
def RopeStr.probing (r : RopeStr) (e : RopeEnd) : Bool := r.probeTodo.contains e || r.inflight.any (fun t => t.use == .reach && t.fromEnd == e)

/-- Every end that sounds asks for its reach probe. -/
def probesAsked (n : Nat) (s : State) : State :=
  s.modRope n (fun r => { r with probeTodo := r.probeTodo ++ (belayEnds r).filter (fun e => !(s.ropeStr n).probing e && (r.beyond e).isSome) })

theorem reachProbe_eq {s : State} {n : Nat} (hm : (s.ropeStr n).mode = .split) (htie : (s.ropeStr n).tie = none) (hs : (s.ropeStr n).silent = false) :
    exec (.reachProbe n) s = .next (ropeGap n (probesAsked n s)) :=
  if_neg (by simp [hm, htie, hs])

/-- In SPLIT the N end asks for the first address beyond its anchor. -/
theorem reachProbe_spec {s : State} {n : Nat} (hn : n < s.rope.strs.length) (h : GapFree s n) (hm : (s.ropeStr n).mode = .split)
    (hin : (s.ropeStr n).inflight = []) (htodo : (s.ropeStr n).probeTodo = []) (hprobed : (s.ropeStr n).probedN = none)
    (hbelow : (s.ropeStr n).anchorN + 1 < (s.ropeStr n).anchorF) (htop : (s.ropeStr n).anchorN + 1 ≤ (s.ropeStr n).top) :
    ∃ t, exec (.reachProbe n) s = .next t ∧ t = { s with rope := t.rope } ∧
      (∃ x ∈ (t.ropeStr n).inflight, x.fromEnd = .N ∧ x.addr = (s.ropeStr n).anchorN + 1 ∧ x.use = .reach) ∧
      (∀ k, k ≠ n → t.ropeStr k = s.ropeStr k) := by
  have hset : (probesAsked n s).ropeStr n = _ := State.modRope_ropeStr_same hn _
  have hbeyond : (s.ropeStr n).beyond .N = some ((s.ropeStr n).anchorN + 1) := by
    simp [RopeStr.beyond, hprobed, hbelow, htop]
  have hasked : ((probesAsked n s).ropeStr n).beyond .N = some ((s.ropeStr n).anchorN + 1) := by rw [hset]; exact hbeyond
  have hfree : GapFree (probesAsked n s) n := ⟨h.live, by rw [hset]; exact h.gap, by rw [hset]; exact h.tie, by rw [hset]; exact h.silent,
    by rw [hset]; exact h.sweep, by rw [hset]; exact h.balTodo, by rw [hset]; exact h.safe⟩
  have hfirst : ∃ l, ((probesAsked n s).ropeStr n).probeTodo = .N :: l := by
    rw [hset]
    simp [htodo, hin, belayEnds, hm, RopeStr.probing, hbeyond]
  obtain ⟨l, hfirst⟩ := hfirst
  have hgap := ropeGap_probes hfree (e := .N) (by rw [hfirst, List.find?_cons_of_pos (by rw [hasked]; rfl)])
  rw [hasked] at hgap
  refine ⟨_, (reachProbe_eq hm h.tie h.silent).trans (congrArg _ hgap), ?_, ?_, fun k hk => ?_⟩
  · exact (((RopesOnly.refl s).modRope ..).modRope ..).trans (startTxn_others ..).1 |>.frame
  · refine startTxn_begins ?_ ?_ ?_ ..
    · simpa [probesAsked] using hn
    · exact h.live
    rw [State.modRope_ropeStr_same (by simpa [probesAsked] using hn), hset]
    simp [hin, maxInflight]
  · exact ((startTxn_others ..).2 k hk).trans ((State.modRope_ropeStr_other _ hk.symm _).trans (State.modRope_ropeStr_other _ hk.symm _))

/-! ### The belay tone returns (R184, R185, R187, R208) -/

/-- A frame whose CRC holds is not counted. -/
theorem countCrc_of_ok {x : RxRope} (h : x.crcOk = true) (n : Nat) (s : State) : countCrc n x s = s := if_pos h

theorem countCrc_of_bad {x : RxRope} (h : x.crcOk = false) (n : Nat) (s : State) :
    countCrc n x s = s.modRope n (fun r => { r with crcCnt := wrap32 (r.crcCnt + 1) }) := if_neg (by simp [h])

theorem belayReturned_bad {s : State} {b : BelayTone} {x : RxRope} (hx : rxFrame b.frame = some x) (hcrc : x.crcOk = false) :
    exec (.belayReturned b) s = .next (s.modRope b.str (fun r => { r with crcCnt := wrap32 (r.crcCnt + 1) })) := by
  change execBelayReturned b s = _
  simp only [execBelayReturned, hx, countCrc_of_bad hcrc]
  exact if_pos (by simp [hcrc])

/-- A valid tone with ADDR 0 at the F port of a rope in SPLIT or LINE is a through-probe. -/
theorem belayReturned_probe {s : State} {b : BelayTone} {x : RxRope} (hx : rxFrame b.frame = some x) (hcrc : x.crcOk = true)
    (htyp : x.typ = tBelay ∨ x.typ = tFault) (hlen : x.payload.length = 7) (haddr : x.addr = 0) (hport : b.port = .F)
    (hm : (s.ropeStr b.str).mode = .split ∨ (s.ropeStr b.str).mode = .line) : exec (.belayReturned b) s = .next (probeBack b.str s) := by
  have hmode : ((s.ropeStr b.str).mode == .ring || (s.ropeStr b.str).mode == .down) = false := by rcases hm with hm | hm <;> simp [hm]
  change execBelayReturned b s = _
  simp only [execBelayReturned, hx, countCrc_of_ok hcrc]
  refine (if_neg ?_).trans ((if_neg (by simp [hmode])).trans ((if_pos (by simp [haddr])).trans (by rw [if_pos (by simp [hport])])))
  rcases htyp with htyp | htyp <;> simp [hcrc, htyp, hlen]

/-- A valid tone with ADDR 0 at the F port of a rope in RING is N's. -/
theorem belayReturned_ring {s : State} {b : BelayTone} {x : RxRope} (hx : rxFrame b.frame = some x) (hcrc : x.crcOk = true)
    (htyp : x.typ = tBelay ∨ x.typ = tFault) (hlen : x.payload.length = 7) (haddr : x.addr = 0) (hport : b.port = .F)
    (hm : (s.ropeStr b.str).mode = .ring) (hs : (s.ropeStr b.str).silent = false) :
    exec (.belayReturned b) s =
      .next (toneBack b.str .N (x.typ == tFault) (BitVec.ofNat 32 (fieldU x.payload 2 4)) ((fieldU x.payload 6 1).testBit 0) s) := by
  change execBelayReturned b s = _
  simp only [execBelayReturned, hx, countCrc_of_ok hcrc]
  refine (if_neg ?_).trans ((if_pos (by simp [hm])).trans (by rw [if_pos (by simp [haddr, hport, RopeStr.sounds, hs, hm])]))
  rcases htyp with htyp | htyp <;> simp [hcrc, htyp, hlen]

theorem probeBack_spec {s : State} {n : Nat} (hn : n < s.rope.strs.length) (h : (s.ropeStr n).probeOut = true) :
    ((probeBack n s).ropeStr n).probeOut = false ∧ ((probeBack n s).ropeStr n).throughRun = (s.ropeStr n).throughRun + 1 ∧
    probeBack n s = { s with rope := (probeBack n s).rope } := by
  rw [probeBack, if_pos h, State.modRope_ropeStr_same hn]
  exact ⟨rfl, rfl, rfl⟩

/-- The event of a string's rope. -/
theorem raise_rope_event {n : Nat} (hn : n < 8) (i : Nat) (s : State) : raise (8 + n) i s = recordEvent (8 + n) i s := by
  refine raise_eq_of_unlogged i s ?_
  have hall : ∀ n < 8, loggedEvents.contains (8 + n) = false := by decide
  exact hall n hn

/-- A tone of N carries a fault that is new (R187). -/
def RopeStr.newFault (r : RopeStr) (fault : Bool) (mask : BitVec 32) : Bool := fault && (!r.faultN || mask &&& ~~~r.faultMaskN != 0)

/-- A rope takes up its tone, and the pin has its 10 ms or not. -/
def toneNoted (n : Nat) (f : RopeStr → RopeStr) (held : Bool) (s : State) : State :=
  { s.modRope n f with rope := { (s.modRope n f).rope with toneMin := held } }

/-- What N's tone brings to its rope, with the event and the pin when its fault is new. -/
theorem toneBack_eq (n : Nat) (fault : Bool) (mask m : BitVec 32) (hm : m = if fault then mask else 0) (unaddr : Bool) (s : State) :
    ∃ (f : RopeStr → RopeStr) (held : Bool), toneBack n .N fault mask unaddr s =
        toneLevel (if (s.ropeStr n).newFault fault m then raise (8 + n) m.toNat (toneNoted n f held s) else toneNoted n f held s) ∧
      (∀ r, (f r).belayRun = min 3 (r.belayRun + 1) ∧ (f r).missN = 0 ∧ (f r).fault = fault ∧ (f r).faultMask = m ∧
        (f r).sticky = if (s.ropeStr n).newFault fault m then r.sticky ||| m else r.sticky) ∧
      ((s.ropeStr n).newFault fault m = true → held = true) := by
  subst hm
  refine ⟨_, _, rfl, fun r => ⟨rfl, rfl, rfl, rfl, rfl⟩, fun hnew => ?_⟩
  simp only [RopeStr.newFault] at hnew
  simp only [BEq.rfl, if_true, hnew, Bool.true_or, Bool.or_true]

/-- N's tone has come back: the runs, the masks and the fault of that end, and the event and the pin when the fault is new. -/
theorem toneBack_spec {s : State} {n : Nat} (hn : n < 8) (hl : n < s.rope.strs.length) (fault : Bool) (mask : BitVec 32) (unaddr : Bool) {t : State}
    (ht : toneBack n .N fault mask unaddr s = t) :
    (t.ropeStr n).belayRun = min 3 ((s.ropeStr n).belayRun + 1) ∧ (t.ropeStr n).missN = 0 ∧ (t.ropeStr n).fault = fault ∧
    (t.ropeStr n).faultMask = (if fault then mask else 0) ∧ t = { s with rope := t.rope, evt := t.evt } ∧ (fault = false → t.evt = s.evt) ∧
    (fault = true → (s.ropeStr n).faultN = false → t.rope.toneHeld = true ∧ (t.ropeStr n).sticky = (s.ropeStr n).sticky ||| mask ∧
      (s.evt.en.getLsbD (8 + n) = true → t.evt.pend.getLsbD (8 + n) = true)) := by
  obtain ⟨m, hm⟩ : ∃ m, m = if fault then mask else 0 := ⟨_, rfl⟩
  obtain ⟨f, held, hback, hf, hheld⟩ := toneBack_eq n fault mask m hm unaddr s
  obtain ⟨hrun, hmiss, hfault, hmask, hsticky⟩ := hf (s.ropeStr n)
  obtain ⟨v, hv, hframe, hquiet, hpend⟩ : ∃ v, toneLevel v = t ∧ v = { s with rope := (toneNoted n f held s).rope, evt := v.evt } ∧
      ((s.ropeStr n).newFault fault m = false → v.evt = s.evt) ∧
      ((s.ropeStr n).newFault fault m = true → s.evt.en.getLsbD (8 + n) = true → v.evt.pend.getLsbD (8 + n) = true) := by
    refine ⟨_, hback.symm.trans ht, ?_⟩
    by_cases hnew : (s.ropeStr n).newFault fault m = true
    · rw [if_pos hnew, raise_rope_event hn]
      exact ⟨recordEvent_frame .., fun h => absurd hnew (by simp [h]), fun _ hen => recordEvent_pends _ hen⟩
    · rw [if_neg hnew]
      exact ⟨rfl, fun _ => rfl, fun h => absurd h hnew⟩
  have hrope : t.ropeStr n = f (s.ropeStr n) := by
    rw [← hv, hframe]
    exact State.modRope_ropeStr_same hl f
  have hevt : t.evt = v.evt := by rw [← hv]; rfl
  refine ⟨by rw [hrope, hrun], by rw [hrope, hmiss], by rw [hrope, hfault], by rw [hrope, hmask, hm], ?_, fun hno => ?_, fun hyes hold => ?_⟩
  · rw [← hv, hframe]
    rfl
  · exact hevt.trans (hquiet (by simp [RopeStr.newFault, hno]))
  · have hnew : (s.ropeStr n).newFault fault m = true := by simp [RopeStr.newFault, hyes, hold]
    refine ⟨?_, ?_, fun hen => by rw [hevt]; exact hpend hnew hen⟩
    · rw [← hv, hframe, hheld hnew]
      rfl
    · rw [hrope, hsticky, if_pos hnew, hm, if_pos hyes]

/-! ### The belay tone does not return (R184, R205) -/

/-- The miss of a tone is noted: nothing is returned from that end any more. -/
def missNoted (n : Nat) (e : RopeEnd) (s : State) : State := toneLevel (s.modRope n (fun r => { r with
  belayMiss := wrap32 (r.belayMiss + 1), belayRun := 0
  missN := if e == .N then r.missN + 1 else r.missN, missF := if e == .N then r.missF else r.missF + 1
  unaddrN := if e == .N then 0 else r.unaddrN, unaddrF := if e == .N then r.unaddrF else 0
  toneN := if e == .N then false else r.toneN, toneF := if e == .N then r.toneF else false }))

/-- The misses in a row of an end. -/
def RopeStr.missOf (r : RopeStr) (e : RopeEnd) : Nat := if e == .N then r.missN else r.missF

theorem belayNotReturned_eq (n : Nat) (e : RopeEnd) (s : State) : exec (.belayNotReturned n e) s =
    (if 3 ≤ ((missNoted n e s).ropeStr n).missOf e && (belayEnds ((missNoted n e s).ropeStr n)).contains e then
      .next (suspectBreak n e (missNoted n e s)) else .next (missNoted n e s)) := rfl

/-- From `s` to `t` nothing moves but the ropes and the number of free values drawn. -/
def LinkOnly (s t : State) : Prop := t = { s with rope := t.rope, free := t.free }

theorem ropeGap_linkOnly (n : Nat) (s : State) : LinkOnly s (ropeGap n s) := by
  apply State.ext_fields <;> simp

/-- The ECHOs that locate a break are noted, and leave in a gap. -/
def locating (n : Nat) (l : Locate) (s : State) : State := ropeGap n (s.modRope n (fun r => { r with locate := some l }))

/-- A suspected break is left to what locates it already, is noted in the sweep that runs, or is to be located. -/
theorem startLocate_cases (n : Nat) (e : RopeEnd) (s : State) : startLocate n e s = s ∨
    startLocate n e s = s.modRope n (fun r => { r with sweep := r.sweep.map (fun w => { w with suspect := true }) }) ∨
    ∃ l, startLocate n e s = locating n l s := by
  simp only [startLocate]
  split
  · exact .inl rfl
  split
  · exact .inr (.inl rfl)
  split
  · split
    · exact .inl rfl
    · exact .inr (.inr ⟨_, rfl⟩)
  · exact .inl rfl
  · exact .inr (.inr ⟨_, rfl⟩)

theorem startLocate_ring {s : State} {n : Nat} (hm : (s.ropeStr n).mode = .ring) (htie : (s.ropeStr n).tie = none) (hsweep : (s.ropeStr n).sweep = none)
    (hloc : (s.ropeStr n).locate = none) (e : RopeEnd) : ∃ l, startLocate n e s = locating n l s := by
  simp only [startLocate, hm, htie, hsweep, hloc]
  exact ⟨_, rfl⟩

theorem locating_spec (n : Nat) (l : Locate) (s : State) : LinkOnly s (locating n l s) ∧
    (∀ k, ((locating n l s).ropeStr k).belays = (s.ropeStr k).belays) ∧
    (n < s.rope.strs.length → ((locating n l s).ropeStr n).locate.isSome = true) := by
  have hserves := Serves.ropeGap (.refl (s.modRope n fun r => { r with locate := some l })) n
  refine ⟨ropeGap_linkOnly n (s.modRope n _), fun k => ?_, fun hn => ?_⟩
  · exact (congrArg (·.2.1) (hserves.keeps k)).trans (State.modRope_ropeStr_keeps (p := RopeStr.belays) (fun _ => by rfl) ..)
  · refine (congrArg (·.2.2) (hserves.keeps n)).trans ?_
    rw [State.modRope_ropeStr_same hn]
    rfl

theorem startLocate_spec (n : Nat) (e : RopeEnd) (s : State) : LinkOnly s (startLocate n e s) ∧
    ∀ k, ((startLocate n e s).ropeStr k).belays = (s.ropeStr k).belays := by
  rcases startLocate_cases n e s with h | h | ⟨l, h⟩ <;> rw [h]
  · exact ⟨rfl, fun _ => rfl⟩
  · exact ⟨rfl, fun _ => State.modRope_ropeStr_keeps (p := RopeStr.belays) (fun _ => by rfl) ..⟩
  · exact ⟨(locating_spec n l s).1, (locating_spec n l s).2.1⟩

/-- The misses of an end whose break is suspected count anew. -/
def missesTaken (n : Nat) (e : RopeEnd) (s : State) : State := s.modRope n (fun r => match e with | .N => { r with missN := 0 } | .F => { r with missF := 0 })

theorem suspectBreak_spec (n : Nat) (e : RopeEnd) (s : State) : LinkOnly s (suspectBreak n e s) ∧
    ((suspectBreak n e s).ropeStr n).belays = (s.ropeStr n).belays := by
  obtain ⟨honly, hkeeps⟩ := startLocate_spec n e (missesTaken n e s)
  exact ⟨honly, (hkeeps n).trans (State.modRope_ropeStr_keeps (p := RopeStr.belays) (fun r => by cases e <;> rfl) ..)⟩

theorem missNoted_rope {s : State} {n : Nat} (hl : n < s.rope.strs.length) (e : RopeEnd) :
    ∃ r, (missNoted n e s).ropeStr n = r ∧ r.belays = (wrap32 ((s.ropeStr n).belayMiss + 1), 0) ∧ r.mode = (s.ropeStr n).mode ∧
      r.locate = (s.ropeStr n).locate ∧ r.tie = (s.ropeStr n).tie ∧ r.sweep = (s.ropeStr n).sweep ∧
      (e = .N → r.missN = (s.ropeStr n).missN + 1) := by
  refine ⟨_, State.modRope_ropeStr_same hl _, rfl, rfl, rfl, rfl, rfl, ?_⟩
  rintro rfl
  rfl

/-- BELAY_NOT_RETURNED counts the miss, whatever else it starts. -/
theorem belayNotReturned_spec {s : State} {n : Nat} (hl : n < s.rope.strs.length) (e : RopeEnd) :
    ∃ t, exec (.belayNotReturned n e) s = .next t ∧ (t.ropeStr n).belayMiss = wrap32 ((s.ropeStr n).belayMiss + 1) ∧ (t.ropeStr n).belayRun = 0 ∧
      t = { s with rope := t.rope, free := t.free } ∧
      ((s.ropeStr n).mode = .ring → (s.ropeStr n).missN = 2 → e = .N → (s.ropeStr n).locate = none → (s.ropeStr n).tie = none →
        (s.ropeStr n).sweep = none → (t.ropeStr n).locate.isSome = true) := by
  obtain ⟨r, hr, hbelays, hmode, hloc, htie, hsweep, hN⟩ := missNoted_rope hl e
  have hlen : n < (missNoted n e s).rope.strs.length := by simpa [missNoted, toneLevel] using hl
  rw [belayNotReturned_eq, hr]
  split
  · obtain ⟨honly, hkept⟩ := suspectBreak_spec n e (missNoted n e s)
    rw [hr, hbelays] at hkept
    refine ⟨_, rfl, congrArg Prod.fst hkept, congrArg Prod.snd hkept, honly, fun hring _ _ hnoloc hnotie hnosweep => ?_⟩
    have hset : (missesTaken n e (missNoted n e s)).ropeStr n = _ := State.modRope_ropeStr_same hlen _
    have hfields : ((missesTaken n e (missNoted n e s)).ropeStr n).mode = .ring ∧ ((missesTaken n e (missNoted n e s)).ropeStr n).tie = none ∧
        ((missesTaken n e (missNoted n e s)).ropeStr n).sweep = none ∧ ((missesTaken n e (missNoted n e s)).ropeStr n).locate = none := by
      rw [hset, hr]
      cases e <;> exact ⟨hmode.trans hring, htie.trans hnotie, hsweep.trans hnosweep, hloc.trans hnoloc⟩
    obtain ⟨hmode', htie', hsweep', hloc'⟩ := hfields
    obtain ⟨l, hl'⟩ := startLocate_ring hmode' htie' hsweep' hloc' e
    exact (congrArg (fun t : State => (t.ropeStr n).locate.isSome) hl').trans
      ((locating_spec n l _).2.2 (by simpa [missesTaken] using hlen))
  · rename_i hfew
    refine ⟨_, rfl, hr ▸ congrArg Prod.fst hbelays, hr ▸ congrArg Prod.snd hbelays, rfl, fun hring htwo he _ _ _ => absurd ?_ hfew⟩
    subst he
    simp [RopeStr.missOf, hN rfl, htwo, belayEnds, hmode, hring]

/-- Settles O36, clause by clause: the tone as it leaves, the probes, the tone that returns and the one that does not. -/
theorem belayToneAndProbes : Obligations.BelayToneAndProbes := by
  rintro s n r hn hl rfl
  refine ⟨fun hen hs => ?sends, fun hoff => ?still, fun hm htie hloc hs hlive hin hbal hsweep htodo hprobed hsafe hbelow htop => ?reaches,
    fun hm hpN hpF hs hen => throughProbe_spec hl hm hpN hpF hs hen, fun hm => ?ring, fun b x hb hx => ?returns, belayNotReturned_spec hl, ?pin⟩
  case sends =>
    obtain ⟨honly, hothers⟩ := belaySent_keeps n s
    have hsilent : (s.ropeStr n).silent = false := by
      simp only [RopeStr.sounds, Bool.and_eq_true, Bool.not_eq_true'] at hs
      exact hs.1
    refine ⟨_, belaySend_eq hen hs, honly.frame, hothers, fun hm hp => ?_, fun hm hpN hpF => belaySent_split_spec hl hm hpN hpF hsilent⟩
    obtain ⟨hcnt, -, -, -, htx⟩ := castBelay_spec hl hp hsilent 0
    rw [belaySent_ring hm]
    exact ⟨hcnt, htx⟩
  case still => exact if_pos (by rcases hoff with h | h <;> simp [h])
  case reaches =>
    exact reachProbe_spec hl ⟨hlive, by simp [RopeStr.gap, hin], htie, hs, hsweep, hbal, hsafe⟩ hm hin htodo hprobed hbelow htop
  case ring => exact ⟨if_neg (by simp [hm]), if_pos (by simp [hm])⟩
  case returns =>
    subst hb
    refine ⟨belayReturned_bad hx, fun hcrc htyp hlen haddr hport => ⟨fun hm hout => ?_, fun mask hm hs hmask => ?_⟩⟩
    · obtain ⟨hback, hrun, hframe⟩ := probeBack_spec hl hout
      exact ⟨_, belayReturned_probe hx hcrc htyp hlen haddr hport hm, hback, hrun, hframe⟩
    · obtain ⟨hrun, hmiss, hfault, hfmask, hframe, hquiet, hnew⟩ := toneBack_spec hn hl (x.typ == tFault) mask ((fieldU x.payload 6 1).testBit 0) rfl
      refine ⟨_, (belayReturned_ring hx hcrc htyp hlen haddr hport hm hs).trans (by rw [hmask]), hrun, hmiss, hfault, ?_, hframe,
        fun hb => hquiet (by simp [hb]), fun hf => hnew (by simp [hf])⟩
      simpa using hfmask
  case pin => rfl

end Sys2Proof.Machine

namespace Sys2Proof.Machine

/-! ### What commands, authentications and the orderly stop leave of a rope's account (R189, R222, R525, R533) -/

theorem Attends.serves {s t u : State} (h : Attends s t) (k : Serves t u) : Attends s u := h.trans k.attends

namespace Attends
variable {s t : State}

theorem complete (h : Attends s t) (op : Nat) (sub : Submission) (st : Nat) (r : List Byte) : Attends s (complete op sub st r t) :=
  Moves.trans h (.of_rope (by simp))

theorem toneLevel (h : Attends s t) : Attends s (toneLevel t) := Moves.trans h (.of_strs rfl)

theorem ropeGap (h : Attends s t) (n : Nat) : Attends s (ropeGap n t) := h.serves (Serves.ropeGap (.refl t) n)

theorem modMon (h : Attends s t) (n m : Nat) {f : Mon → Mon} (ha : ∀ x, (f x).ack = x.ack := by exact fun _ => rfl)
    (hf : ∀ x, (f x).ackFailed = x.ackFailed := by exact fun _ => rfl) : Attends s (t.modMon n m f) :=
  h.serves (Serves.modMon (.refl t) n m ha hf)

theorem stopTie (h : Attends s t) (n : Nat) : Attends s (stopTie n t) := by
  unfold Machine.stopTie
  split
  · exact Moves.modRope h n
  · exact h

theorem ropeGone (h : Attends s t) (n : Nat) : Attends s (ropeGone n t) := by
  unfold Machine.ropeGone
  extract_lets raws auths ties s1 ropes s2 s3 s4
  have h1 : Attends s s1 := Moves.modRope h n
  have h2 : Attends s s2 := Moves.trans h1 (.of_strs rfl)
  have h3 : Attends s s3 := Moves.foldl h2 (fun _ _ h => complete h ..) _
  have h4 : Attends s s4 := Moves.foldl h3 (fun _ _ h => complete h ..) _
  exact toneLevel (Moves.foldl h4 (fun _ _ h => complete h ..) _)

theorem stopOne (h : Attends s t) (n : Nat) : Attends s (stopOne n t) := by
  unfold Machine.stopOne
  extract_lets r s1
  have h1 : Attends s s1 := Attends.serves (Moves.modRope h n) (Serves.safeStep (.refl _) n)
  split
  · exact h
  split
  · exact h
  · exact h
  · exact Moves.ite (ropeGone h1 n) h1

/-- The orderly stop of the ropes, one after the other (R189). -/
theorem stopRopes (h : Attends s t) : Attends s (stopRopes t) := by
  unfold Machine.stopRopes
  extract_lets s1
  have h1 : Attends s s1 := Moves.foldl h (fun _ n h => stopOne h n) _
  clear_value s1
  exact Moves.ite (Moves.ite (Moves.trans h1 (.of_rope rfl)) h1) h

theorem authUnreach (h : Attends s t) (n : Nat) : Attends s (authUnreach n t) := by
  unfold Machine.authUnreach
  extract_lets lost ended ropes s1
  have h1 : Attends s s1 := Moves.trans h (.of_strs rfl)
  exact Moves.foldl h1 (fun _ _ h => complete h ..) _

theorem authStart (h : Attends s t) (n m : Nat) : Attends s (authStart n m t) := by
  unfold Machine.authStart
  split
  · exact Moves.modRope (modMon h n m) n
  · exact modMon h n m

theorem authTied (h : Attends s t) (n : Nat) : Attends s (authTied n t) :=
  ropeGap (Moves.foldl (authUnreach h n) (fun _ e h => authStart h n e.1) _) n

theorem afterTie (h : Attends s t) (n : Nat) (b : Bool) : Attends s (afterTie n b t) := by
  unfold Machine.afterTie
  split
  · exact authTied h n
  · exact h

end Attends

/-! ### What a transaction that has ended sets going leaves its rope's failures alone -/

theorem Settles.serves {s t u : State} (h : Settles s t) (k : Serves t u) : Settles s u := h.trans k.attends.settles
theorem Settles.attends {s t u : State} (h : Settles s t) (k : Attends t u) : Settles s u := h.trans k.settles

namespace Settles
variable {s t : State}

theorem complete (h : Settles s t) (op : Nat) (sub : Submission) (st : Nat) (r : List Byte) : Settles s (complete op sub st r t) :=
  h.attends (.complete (.refl t) ..)
theorem ropeGap (h : Settles s t) (n : Nat) : Settles s (ropeGap n t) := h.serves (.ropeGap (.refl t) n)
theorem sendEcho (h : Settles s t) (n : Nat) (e : RopeEnd) (a : Nat) (u : TxnUse) : Settles s (sendEcho n e a u t) := h.serves (.sendEcho (.refl t) ..)
theorem sendRead (h : Settles s t) (n : Nat) (e : RopeEnd) (a p o l : Nat) (u : TxnUse) : Settles s (sendRead n e a p o l u t) :=
  h.serves (.sendRead (.refl t) ..)
theorem sendConfigPage (h : Settles s t) (n : Nat) (e : RopeEnd) (m : Nat) : Settles s (sendConfigPage n e m t) :=
  h.serves (.sendConfigPage (.refl t) ..)
theorem castTie (h : Settles s t) (n : Nat) (e : RopeEnd) (a : Nat) (l : List Byte) : Settles s (castTie n e a l t) := h.serves (.ropeCast (.refl t) ..)
theorem toneLevel (h : Settles s t) : Settles s (toneLevel t) := h.attends (.toneLevel (.refl t))
theorem afterTie (h : Settles s t) (n : Nat) (b : Bool) : Settles s (afterTie n b t) := h.attends (.afterTie (.refl t) n b)
theorem stopRopes (h : Settles s t) : Settles s (stopRopes t) := h.attends (.stopRopes (.refl t))
theorem fileReport (h : Settles s t) (u : UnitId) : Settles s (fileReport u t) := Moves.trans h (.of_rope (by simp))
theorem setTie (h : Settles s t) (n : Nat) (x : TieIn) : Settles s (setTie n x t) := Moves.modRope h n
theorem setSweep (h : Settles s t) (n : Nat) (w : Sweep) : Settles s (setSweep n w t) := Moves.modRope h n

theorem modMon (h : Settles s t) (n m : Nat) (f : Mon → Mon) : Settles s (t.modMon n m f) := by
  refine Moves.modRope h n ?_ ?_ <;> cases mapGet (t.ropeStr n).mons m
  · rfl
  · rfl
  · exact fun _ _ => le_rfl
  · exact fun _ _ => le_rfl

/-! Modes and breaks (R175, R205 to R210). -/

theorem modeEvent (h : Settles s t) (n : Nat) (r : RopeStr) : Settles s (modeEvent n r t) := by
  simp only [Machine.modeEvent]
  split
  · exact Moves.trans h (.of_rope (by simp))
  · exact h

theorem setMode (h : Settles s t) (n a b : Nat) (m : RopeMode) (x y : Option Nat) : Settles s (setMode n a b m x y t) :=
  toneLevel (modeEvent (Moves.modRope h n) ..)

theorem applyLocation (h : Settles s t) (n a b : Nat) (x y z : Bool) : Settles s (applyLocation n a b x y z t) := by
  unfold Machine.applyLocation
  extract_lets old top a' b' s1 s2 s3
  have h1 : Settles s s1 := Moves.modRope h n
  have h2 : Settles s s2 := setMode h1 ..
  have h3 : Settles s s3 := Moves.ite (fileReport h2 _) h2
  exact Moves.ite h1 (Moves.ite (fileReport h3 _) h3)

theorem finishLocate (h : Settles s t) (n : Nat) : Settles s (finishLocate n t) := by
  unfold Machine.finishLocate
  split
  · exact Moves.ite (applyLocation h ..) h
  · exact h

/-- A location goes on: what it has found is noted. -/
theorem setLocate (h : Settles s t) (n : Nat) (l : Locate) : Settles s (t.modRope n (fun r => { r with locate := some l })) := Moves.modRope h n

theorem locateResult (h : Settles s t) (n : Nat) (x : Txn) (ok : Bool) : Settles s (locateResult n x ok t) := by
  have hend (l : Locate) : Settles s (Machine.finishLocate n (t.modRope n (fun r => { r with locate := some l }))) := finishLocate (setLocate h n l) n
  unfold Machine.locateResult
  extract_lets r
  split
  · exact h
  refine Moves.ite ?ring ?single
  case ring =>
    cases x.fromEnd
    · exact Moves.ite (Moves.ite (hend _) (setLocate h ..)) (hend _)
    · exact Moves.ite (Moves.ite (hend _) (setLocate h ..)) (hend _)
  case single =>
    cases x.fromEnd
    · exact Moves.ite (hend _) (Moves.ite (hend _) (setLocate h ..))
    · exact Moves.ite (hend _) (Moves.ite (hend _) (setLocate h ..))

theorem probeEnd (h : Settles s t) (n : Nat) (e : RopeEnd) : Settles s (probeEnd n e t) := by
  unfold Machine.probeEnd
  extract_lets r a b s1
  have h1 : Settles s s1 := by
    cases e
    · exact Moves.modRope h n
    · exact Moves.modRope h n
  exact Moves.ite h1 (setMode h1 ..)

theorem reachResult (h : Settles s t) (n : Nat) (x : Txn) (ok : Bool) : Settles s (reachResult n x ok t) := by
  unfold Machine.reachResult
  extract_lets r s1
  have h1 : Settles s s1 := by
    refine Moves.modRope h n ?_ ?_ <;> cases x.fromEnd
    · rfl
    · rfl
    · exact fun _ _ => le_rfl
    · exact fun _ _ => le_rfl
  exact Moves.ite h (Moves.ite (probeEnd h ..) (Moves.ite (Moves.modRope h1 n) (probeEnd h1 ..)))

/-! The sweep (R201 to R206). -/

theorem sweepEnd (h : Settles s t) (n : Nat) (w : Sweep) : Settles s (sweepEnd n w t) := by
  unfold Machine.sweepEnd
  extract_lets s1 s2
  have h1 : Settles s s1 := setSweep h ..
  have h2 : Settles s s2 := Moves.ite (applyLocation h1 ..) h1
  exact ropeGap (Moves.trans h2 (.of_rope (by simp [markMode]))) n

theorem sweepNext (h : Settles s t) (n : Nat) : Settles s (sweepNext n t) := by
  unfold Machine.sweepNext
  split
  · exact h
  refine Moves.ite h ?_
  extract_lets busy read
  split
  · exact sweepEnd h ..
  · exact sendRead (sendRead (setSweep h ..) ..) ..
  · exact sendRead (setSweep h ..) ..
  · exact sendRead (setSweep h ..) ..
  · exact h

theorem sweepFailed (h : Settles s t) (n : Nat) (x : Txn) : Settles s (sweepFailed n x t) := by
  unfold Machine.sweepFailed
  split
  · exact h
  · exact sweepNext (setSweep h ..) n

/-! The steps of a tie-in (R173 to R179). -/

theorem tieBegin (h : Settles s t) (n attempt : Nat) : Settles s (tieBegin n attempt t) :=
  castTie (Moves.modRope h n (hin := fun x _ => List.filter_sublist.count_le x)) ..

theorem tieCmdDone (h : Settles s t) (n : Nat) : Settles s (tieCmdDone n t) := by
  unfold Machine.tieCmdDone
  extract_lets cmds ended ropes s1
  have h1 : Settles s s1 := Moves.trans h (.of_strs rfl)
  exact Moves.foldl h1 (fun _ _ h => complete h ..) _

theorem tieReports (h : Settles s t) (n a b e : Nat) : Settles s (tieReports n a b e t) := by
  unfold Machine.tieReports
  extract_lets s1
  have h1 : Settles s s1 := Moves.ite (fileReport h _) h
  exact Moves.ite (fileReport h1 _) h1

theorem rawJudge (h : Settles s t) (n : Nat) : Settles s (rawJudge n t) := by
  unfold Machine.rawJudge
  extract_lets ok bad s1
  have h1 : Settles s s1 := Moves.modRope h n
  exact Moves.foldl h1 (fun _ _ h => complete h ..) _

theorem tieEnd (h : Settles s t) (n : Nat) (x : TieIn) (r : TieResult) (m : RopeMode) : Settles s (tieEnd n x r m t) := by
  unfold Machine.tieEnd
  extract_lets e s1 brk s2 s3 s4 s5 s6
  have h1 : Settles s s1 := Moves.modRope h n
  have h2 : Settles s s2 := setMode h1 ..
  have h3 : Settles s s3 := Moves.modRope h2 n
  have h4 : Settles s s4 := Moves.ite (tieReports h3 ..) h3
  have h5 : Settles s s5 := rawJudge (tieCmdDone h4 n) n
  have h6 : Settles s s6 := Moves.ite (tieBegin (Moves.modRope h5 n) ..) h5
  exact ropeGap h6 n

theorem castDescending (h : Settles s t) (n : Nat) (x : TieIn) : Settles s (castDescending n x t) := castTie (setTie h ..) ..

theorem tieConfigFrom (h : Settles s t) (n k : Nat) (x : TieIn) : Settles s (tieConfigFrom n k x t) := by
  unfold Machine.tieConfigFrom
  split
  · exact sendConfigPage (setTie h ..) ..
  · exact tieEnd h ..

theorem tieIdentityFrom (h : Settles s t) (n k : Nat) (x : TieIn) : Settles s (tieIdentityFrom n k x t) := by
  unfold Machine.tieIdentityFrom
  split
  · exact sendRead (setTie h ..) ..
  · exact tieConfigFrom h ..

theorem tieEchoN (h : Settles s t) (n k : Nat) (x : TieIn) : Settles s (tieEchoN n k x t) :=
  Moves.ite (sendEcho (setTie h ..) ..) (sendEcho (setTie h ..) ..)

theorem tieEchoF (h : Settles s t) (n k : Nat) (x : TieIn) : Settles s (tieEchoF n k x t) :=
  Moves.ite (sendEcho (setTie h ..) ..) (tieIdentityFrom h ..)

theorem tieEchoBroken (h : Settles s t) (n k : Nat) (x : TieIn) : Settles s (tieEchoBroken n k x t) := by
  unfold Machine.tieEchoBroken
  split
  · exact sendEcho (setTie h ..) ..
  · exact tieIdentityFrom h ..

theorem tieEchoFailed (h : Settles s t) (n k : Nat) : Settles s (tieEchoFailed n k t) := by
  unfold Machine.tieEchoFailed
  split
  · exact h
  split
  · exact Moves.ite (tieEchoF h ..) (tieEchoN h ..)
  · exact tieEchoF h ..
  · exact castDescending h ..
  · exact tieEchoBroken h ..
  · exact tieEchoBroken h ..
  · exact h

theorem tieIdentity (h : Settles s t) (n k : Nat) (data : Option (List Byte)) : Settles s (tieIdentity n k data t) := by
  unfold Machine.tieIdentity
  extract_lets s1
  have h1 : Settles s s1 := by
    cases data with
    | none => exact h
    | some d => exact modMon h ..
  clear_value s1
  split
  · split
    · exact tieIdentityFrom h1 ..
    · exact h1
  · exact h1

theorem tieConfigDone (h : Settles s t) (n k : Nat) : Settles s (tieConfigDone n k t) := by
  unfold Machine.tieConfigDone
  split
  · split
    · exact tieConfigFrom h ..
    · exact h
  · exact h

/-! What the transaction served (R167, R222, R526). -/

theorem authAbort (h : Settles s t) (n m st : Nat) : Settles s (authAbort n m st t) := by
  unfold Machine.authAbort
  extract_lets s1 hit ended ropes s2
  have h1 : Settles s s1 := Moves.modRope (modMon h n m _) n
  have h2 : Settles s s2 := Moves.trans h1 (.of_strs rfl)
  exact Moves.foldl h2 (fun _ _ h => complete h ..) _

theorem txnFailed (h : Settles s t) (n : Nat) (x : Txn) (crc : Bool) : Settles s (txnFailed n x crc t) := by
  unfold Machine.txnFailed
  extract_lets status
  cases x.use with
  | sweep => exact sweepFailed h ..
  | bal => exact modMon h ..
  | echoTie => exact tieEchoFailed h ..
  | identity => exact tieIdentity h ..
  | config => exact tieConfigDone h ..
  | locate => exact locateResult h ..
  | reach => exact reachResult h ..
  | auth => exact authAbort h ..
  | raw => exact complete h ..

end Settles

end Sys2Proof.Machine

namespace Sys2Proof.Machine

/-! ### What a transaction's beginning and end leave of its rope (R166, R167) -/

theorem State.modMon_ropeStr_keeps {β : Type} {p : RopeStr → β} (hp : ∀ (r : RopeStr) l, p { r with mons := l } = p r) (s : State) (n m : Nat)
    (f : Mon → Mon) (k : Nat) : p ((s.modMon n m f).ropeStr k) = p (s.ropeStr k) :=
  State.modRope_ropeStr_keeps (fun r => by split; exacts [hp r _, rfl]) ..

/-- The monitor that an update names. -/
theorem State.modMon_mon_same (s : State) (n m : Nat) (f : Mon → Mon) : (s.modMon n m f).mon n m = (s.mon n m).map f := by
  by_cases hn : n < s.rope.strs.length
  · rw [State.mon, State.mon, State.modMon, State.modRope_ropeStr_same hn]
    cases hm : mapGet (s.ropeStr n).mons m <;> simp [hm]
  · have hreset : ∀ t : State, t.rope.strs.length = s.rope.strs.length → t.mon n m = none := fun t ht => by
      rw [State.mon, State.ropeStr, List.getD_eq_default _ _ (by omega)]
      rfl
    rw [hreset s rfl, hreset _ (by simp [State.modMon])]
    rfl

/-- A frame that leaves moves on its rope only what the ports have on their lines. -/
theorem ropeSend_ropeStr_keeps {β : Type} {p : RopeStr → β} (hp : ∀ (r : RopeStr) x y, p { r with txN := x, txF := y } = p r) (n : Nat) (e : RopeEnd)
    (f : TxFrame) (s : State) (k : Nat) : p ((ropeSend n e f s).ropeStr k) = p (s.ropeStr k) := by
  unfold ropeSend
  split
  · exact State.modRope_ropeStr_keeps (fun r => by cases e <;> exact hp r ..) ..
  · rfl

/-- A transaction that begins, or waits, leaves the monitors alone. -/
theorem startTxn_mons (n : Nat) (e : RopeEnd) (a : Nat) (u : TxnUse) (y : Nat) (l : List Byte) (s : State) (k : Nat) :
    ((startTxn n e a u y l s).ropeStr k).mons = (s.ropeStr k).mons := by
  unfold startTxn beginTxn bumpSeq
  split
  · rfl
  split
  · refine (ropeSend_ropeStr_keeps (p := RopeStr.mons) (fun _ _ _ => rfl) ..).trans ?_
    exact (State.modRope_ropeStr_keeps (p := RopeStr.mons) (fun _ => by rfl) ..).trans
      (State.modRope_ropeStr_keeps (p := RopeStr.mons) (fun _ => by rfl) ..)
  · exact State.modRope_ropeStr_keeps (p := RopeStr.mons) (fun _ => by rfl) ..

/-- A transaction that ends, and the one that begins in its place, leave the monitors alone. -/
theorem dropTxn_mons (n : Nat) (x : Txn) (s : State) (k : Nat) : ((dropTxn n x s).ropeStr k).mons = (s.ropeStr k).mons := by
  unfold dropTxn nextTxn
  split
  · refine (startTxn_mons ..).trans ?_
    exact (State.modRope_ropeStr_keeps (p := RopeStr.mons) (fun _ => by rfl) ..).trans
      (State.modRope_ropeStr_keeps (p := RopeStr.mons) (fun _ => by rfl) ..)
  · exact State.modRope_ropeStr_keeps (p := RopeStr.mons) (fun _ => by rfl) ..

/-- The transaction that an end, an address and a SEQ name is in flight, from that end to that address. -/
theorem findTxn_spec {s : State} {n : Nat} {e : RopeEnd} {a q : Nat} {x : Txn} (h : findTxn s n e a q = some x) :
    x ∈ (s.ropeStr n).inflight ∧ x.fromEnd = e ∧ x.addr = a := by
  have hx := List.find?_some h
  simp only [Bool.and_eq_true, beq_iff_eq] at hx
  exact ⟨List.mem_of_find?_eq_some h, hx.1.1, hx.1.2⟩

theorem State.rope_lt_of_inflight {s : State} {n : Nat} {x : Txn} (h : x ∈ (s.ropeStr n).inflight) : n < s.rope.strs.length :=
  State.rope_lt_of_ne_reset fun hreset => by rw [hreset] at h; exact absurd h nofun

/-! ### An attempt that fails (R163, R167, R169) -/

/-- The CRC of an answer is counted at its monitor. -/
def crcNoted (n : Nat) (x : Txn) (crc : Bool) (s : State) : State :=
  if crc then s.modMon n x.addr (fun m => { m with crcErr := satInc m.crcErr }) else s

/-- The attempt is counted as a retry. -/
def retryNoted (n : Nat) (x : Txn) (s : State) : State :=
  (s.modRope n (fun r => { r with inflight := r.inflight.map (fun y => if y == x then { y with attempts := y.attempts + 1 } else y)
                                  retryCnt := wrap32 (r.retryCnt + 1) })).modMon n x.addr (fun m => { m with retries := satInc m.retries })

/-- The transaction is over. -/
def txnOver (n : Nat) (x : Txn) (s : State) : State :=
  ((dropTxn n x s).modRope n (fun r => { r with failCnt := wrap32 (r.failCnt + 1) })).modMon n x.addr (fun m => { m with fails := satInc m.fails })

theorem failAttempt_again {x : Txn} (h : x.attempts < 3) (n : Nat) (crc : Bool) (s : State) :
    failAttempt n x crc s = (false, ropeSend n x.fromEnd x.frame (retryNoted n x (crcNoted n x crc s))) := if_pos h

theorem failAttempt_over {x : Txn} (h : 3 ≤ x.attempts) (n : Nat) (crc : Bool) (s : State) :
    failAttempt n x crc s = (true, txnOver n x (crcNoted n x crc s)) := if_neg (not_lt.2 h)

theorem crcNoted_ropesOnly (n : Nat) (x : Txn) (crc : Bool) (s : State) : RopesOnly s (crcNoted n x crc s) := by
  cases crc
  · exact .refl s
  · exact (RopesOnly.refl s).modRope ..

theorem crcNoted_attends (n : Nat) (x : Txn) (crc : Bool) (s : State) : Attends s (crcNoted n x crc s) :=
  Moves.ite (Attends.modMon (.refl s) ..) (.refl s)

/-- What the counts of a rope say of its transactions. -/
def RopeStr.traffic (r : RopeStr) : List Txn × Nat × Nat × Nat × Bool := (r.inflight, r.retryCnt, r.failCnt, r.crcCnt, r.silent)

theorem crcNoted_traffic (n : Nat) (x : Txn) (crc : Bool) (s : State) (k : Nat) : ((crcNoted n x crc s).ropeStr k).traffic = (s.ropeStr k).traffic := by
  cases crc
  · rfl
  · exact State.modMon_ropeStr_keeps (p := RopeStr.traffic) (fun _ _ => rfl) ..

theorem retryNoted_traffic {n : Nat} {s : State} (hn : n < s.rope.strs.length) (x : Txn) : ((retryNoted n x s).ropeStr n).traffic =
    ((s.ropeStr n).inflight.map (fun y => if y == x then { y with attempts := y.attempts + 1 } else y), wrap32 ((s.ropeStr n).retryCnt + 1),
      (s.ropeStr n).failCnt, (s.ropeStr n).crcCnt, (s.ropeStr n).silent) := by
  refine (State.modMon_ropeStr_keeps (p := RopeStr.traffic) (fun _ _ => rfl) ..).trans ?_
  rw [State.modRope_ropeStr_same hn]
  rfl

theorem stopRopes_of_running {s : State} (h : s.stops = false) : stopRopes s = s := by
  simp only [State.stops, Bool.or_eq_false_iff] at h
  exact if_neg (by simp [h.1])

/-- Outside the stop an attempt that is not the third is followed by the next. -/
theorem attemptFailed_again {s : State} {x : Txn} (h : x.attempts < 3) (hstop : s.stops = false) (n : Nat) (crc : Bool) :
    stopRopes (attemptFailed n x crc s) = ropeSend n x.fromEnd x.frame (retryNoted n x (crcNoted n x crc s)) := by
  have htie : stopTie n s = s := if_neg (by simp [hstop])
  have hsent : attemptFailed n x crc s = ropeSend n x.fromEnd x.frame (retryNoted n x (crcNoted n x crc s)) := by
    simp only [attemptFailed, htie, failAttempt_again h]
  have honly : RopesOnly s (ropeSend n x.fromEnd x.frame (retryNoted n x (crcNoted n x crc s))) :=
    (((crcNoted_ropesOnly n x crc s).modRope ..).modRope ..).ropeSend ..
  rw [hsent]
  refine stopRopes_of_running ?_
  rw [honly]
  exact hstop

/-- The transaction `x` of string `n` is sent again: the same frame from the same end `e`, counted as a retry. -/
structure SentAgain (n : Nat) (e : RopeEnd) (x : Txn) (s t : State) : Prop where
  frame    : t = { s with rope := t.rope }
  retryCnt : (t.ropeStr n).retryCnt = wrap32 ((s.ropeStr n).retryCnt + 1)
  failCnt  : (t.ropeStr n).failCnt = (s.ropeStr n).failCnt
  crcCnt   : (t.ropeStr n).crcCnt = (s.ropeStr n).crcCnt
  inflight : { x with attempts := x.attempts + 1 } ∈ (t.ropeStr n).inflight
  tx       : s.portUp n e = true → (s.ropeStr n).silent = false → (t.ropeStr n).tx e = some x.frame

theorem attemptFailed_sentAgain {s : State} {n a q : Nat} {e : RopeEnd} {x : Txn} (hx : findTxn s n e a q = some x) (h : x.attempts < 3)
    (hstop : s.stops = false) (crc : Bool) : SentAgain n e x s (stopRopes (attemptFailed n x crc s)) := by
  obtain ⟨hin, rfl, -⟩ := findTxn_spec hx
  have hn := State.rope_lt_of_inflight hin
  obtain ⟨u, hu⟩ : ∃ u, u = retryNoted n x (crcNoted n x crc s) := ⟨_, rfl⟩
  have honly : RopesOnly s u := hu ▸ ((crcNoted_ropesOnly n x crc s).modRope ..).modRope ..
  have hlen := (crcNoted_attends n x crc s).length
  have hkeep := crcNoted_traffic n x crc s n
  have htraffic := retryNoted_traffic (hlen ▸ hn) x
  rw [← hu] at htraffic
  simp only [RopeStr.traffic, Prod.mk.injEq] at hkeep htraffic
  obtain ⟨hin0, hretry0, hfail0, hcrc0, hsilent0⟩ := hkeep
  obtain ⟨hin1, hretry1, hfail1, hcrc1, hsilent1⟩ := htraffic
  have hsend := ropeSend_ropeStr_keeps (p := RopeStr.traffic) (fun _ _ _ => rfl) n x.fromEnd x.frame u n
  simp only [RopeStr.traffic, Prod.mk.injEq] at hsend
  obtain ⟨hin2, hretry2, hfail2, hcrc2, -⟩ := hsend
  rw [attemptFailed_again h hstop, ← hu]
  refine ⟨(honly.ropeSend ..).frame, by rw [hretry2, hretry1, hretry0], by rw [hfail2, hfail1, hfail0], by rw [hcrc2, hcrc1, hcrc0], ?_, fun hp hs => ?_⟩
  · rw [hin2, hin1, hin0]
    exact List.mem_map.2 ⟨x, hin, if_pos (by simp)⟩
  · refine ropeSend_tx _ ?_ (by rwa [State.portUp_congr (s := s) (by rw [honly])]) (by rw [hsilent1, hsilent0, hs])
    rw [hu]
    simpa [retryNoted, State.modMon, hlen] using hn

/-! ### The third failure (R167, R222) -/

/-- The transaction `x` of string `n` has failed for good: its failure counts, and it is no longer in flight. -/
structure GivenUp (n : Nat) (x : Txn) (s t : State) : Prop where
  failCnt  : (t.ropeStr n).failCnt = wrap32 ((s.ropeStr n).failCnt + 1)
  inflight : (t.ropeStr n).inflight.count x + 1 ≤ (s.ropeStr n).inflight.count x

theorem GivenUp.settles {n : Nat} {x : Txn} {s t u : State} (h : GivenUp n x s t) (k : Settles t u) (hx : x.attempts ≠ 1) : GivenUp n x s u :=
  ⟨(k.keeps n).trans h.failCnt, (Nat.succ_le_succ (k.inflight n x hx)).trans h.inflight⟩

theorem txnOver_givenUp {n : Nat} {x : Txn} {s : State} (hx : x ∈ (s.ropeStr n).inflight) (h : x.attempts ≠ 1) :
    GivenUp n x s (txnOver n x s) ∧ ((txnOver n x s).ropeStr n).duties = (s.ropeStr n).duties := by
  have hn := State.rope_lt_of_inflight hx
  obtain ⟨u, hu⟩ : ∃ u, u = s.modRope n (fun r => { r with inflight := r.inflight.erase x }) := ⟨_, rfl⟩
  have hurope : u.ropeStr n = { s.ropeStr n with inflight := (s.ropeStr n).inflight.erase x } := hu ▸ State.modRope_ropeStr_same hn _
  have hnext : Serves u (dropTxn n x s) := hu ▸ Serves.nextTxn (.refl _) n
  have hlen : n < (dropTxn n x s).rope.strs.length := by
    rw [hnext.length, hu]
    simpa using hn
  obtain ⟨v, hv⟩ : ∃ v, v = (dropTxn n x s).modRope n (fun r => { r with failCnt := wrap32 (r.failCnt + 1) }) := ⟨_, rfl⟩
  have hvrope : v.ropeStr n = { (dropTxn n x s).ropeStr n with failCnt := wrap32 (((dropTxn n x s).ropeStr n).failCnt + 1) } :=
    hv ▸ State.modRope_ropeStr_same hlen _
  have hlast : Serves v (txnOver n x s) := hv ▸ Serves.modMon (.refl _) ..
  have hbooks := hnext.attends.keeps n
  have hcount := hnext.inflight n x h
  have hout : (u.ropeStr n).inflight.count x + 1 ≤ (s.ropeStr n).inflight.count x := by
    have := List.count_pos_iff.2 hx
    rw [hurope, List.count_erase_self]
    omega
  refine ⟨⟨?_, ?_⟩, ?_⟩
  · rw [hlast.attends.settles.keeps n, hvrope]
    exact congrArg (fun c => wrap32 (c + 1)) ((congrArg Prod.fst hbooks).trans (by rw [hurope]; rfl))
  · have hsame : (v.ropeStr n).inflight = ((dropTxn n x s).ropeStr n).inflight := by rw [hvrope]
    have := hlast.inflight n x h
    rw [hsame] at this
    omega
  · have hsame : (v.ropeStr n).duties = ((dropTxn n x s).ropeStr n).duties := by rw [hvrope]; rfl
    exact (congrArg Prod.snd (hlast.attends.keeps n)).trans (hsame.trans ((congrArg Prod.snd hbooks).trans (by rw [hurope]; rfl)))

/-- What a transaction served learns of its third failure; then the gaps, the tie-in and the stop go on. -/
def failedOn (n : Nat) (x : Txn) (crc tying : Bool) (s : State) : State := stopRopes (afterTie n tying (ropeGap n (txnFailed n x crc s)))

theorem failedOn_settles (n : Nat) (x : Txn) (crc tying : Bool) (s : State) : Settles s (failedOn n x crc tying s) :=
  Settles.stopRopes (Settles.afterTie (Settles.ropeGap (Settles.txnFailed (.refl s) n x crc) n) n tying)

/-- The transaction as it stands when its third attempt has failed. -/
def thirdFailed (n : Nat) (x : Txn) (crc : Bool) (s : State) : State := txnOver n x (crcNoted n x crc (stopTie n s))

theorem attemptFailed_over {x : Txn} (h : 3 ≤ x.attempts) (n : Nat) (crc : Bool) (s : State) :
    stopRopes (attemptFailed n x crc s) = failedOn n x crc ((s.ropeStr n).tie.isSome && !s.stops) (thirdFailed n x crc s) := by
  simp only [attemptFailed, failAttempt_over h]
  rfl

theorem stopTie_inflight (n : Nat) (s : State) (k : Nat) : ((stopTie n s).ropeStr k).inflight = (s.ropeStr k).inflight := by
  unfold stopTie
  split
  · exact State.modRope_ropeStr_keeps (p := RopeStr.inflight) (fun _ => by rfl) ..
  · rfl

theorem thirdFailed_spec {n : Nat} {x : Txn} {s : State} (hx : x ∈ (s.ropeStr n).inflight) (h : 3 ≤ x.attempts) (crc : Bool) :
    GivenUp n x s (thirdFailed n x crc s) ∧ ((thirdFailed n x crc s).ropeStr n).duties = (s.ropeStr n).duties := by
  have hsame : ((crcNoted n x crc (stopTie n s)).ropeStr n).inflight = (s.ropeStr n).inflight :=
    (congrArg Prod.fst (crcNoted_traffic n x crc (stopTie n s) n)).trans (stopTie_inflight n s n)
  have hkeeps := ((Attends.stopTie (.refl s) n).trans (crcNoted_attends n x crc _)).keeps n
  obtain ⟨⟨hfail, hin⟩, hduties⟩ := txnOver_givenUp (by rwa [hsame]) (show x.attempts ≠ 1 by omega)
  rw [hsame] at hin
  refine ⟨⟨hfail.trans ?_, hin⟩, hduties.trans (congrArg Prod.snd hkeeps)⟩
  exact congrArg (fun c => wrap32 (c + 1)) (congrArg Prod.fst hkeeps)

/-- The third failure counts, whatever the transaction served. -/
theorem attemptFailed_givenUp {n : Nat} {x : Txn} {s : State} (hx : x ∈ (s.ropeStr n).inflight) (h : 3 ≤ x.attempts) (crc : Bool) :
    GivenUp n x s (stopRopes (attemptFailed n x crc s)) := by
  rw [attemptFailed_over h]
  exact (thirdFailed_spec hx h crc).1.settles (failedOn_settles ..) (by omega)

/-! ### BAL (R219, R222) -/

/-- What follows the outcome of a BAL leaves the duties as it put them. -/
theorem balDone_then (n m : Nat) (ok tying : Bool) (s : State) :
    ((stopRopes (afterTie n tying (ropeGap n (balDone n m ok s)))).ropeStr n).duties m =
      (s.mon n m).map (fun x => if ok then (x.sent, false) else (x.ack, true)) := by
  have hafter := (Attends.stopRopes (Attends.afterTie (Attends.ropeGap (.refl (balDone n m ok s)) n) n tying)).keeps n
  refine (congrFun (congrArg Prod.snd hafter) m).trans ?_
  have hmon := s.modMon_mon_same n m (fun x => if ok then { x with ack := x.sent, ackFailed := false } else { x with ackFailed := true })
  refine (congrArg (Option.map fun x : Mon => (x.ack, x.ackFailed)) hmon).trans ?_
  rw [Option.map_map]
  cases ok <;> rfl

/-- The duty of a BAL that fails for the third time is noted as failed. -/
theorem attemptFailed_bal {n : Nat} {x : Txn} {s : State} (hx : x ∈ (s.ropeStr n).inflight) (h : 3 ≤ x.attempts) (crc : Bool) (huse : x.use = .bal) :
    ((stopRopes (attemptFailed n x crc s)).mon n x.addr).map (·.ackFailed) = (s.mon n x.addr).map (fun _ => true) := by
  have hbal : ∀ t, txnFailed n x crc t = balDone n x.addr false t := fun t => by simp only [txnFailed, huse]
  have hduties := congrFun (thirdFailed_spec hx h crc).2 x.addr
  have hthen := balDone_then n x.addr false ((s.ropeStr n).tie.isSome && !s.stops) (thirdFailed n x crc s)
  rw [attemptFailed_over h, failedOn, hbal]
  generalize stopRopes _ = t at hthen ⊢
  have hsome : ((thirdFailed n x crc s).mon n x.addr).map (fun _ => true) = (s.mon n x.addr).map (fun _ => true) := by
    simpa [RopeStr.duties, State.mon, Function.comp_def] using congrArg (Option.map fun _ => true) hduties
  refine .trans ?_ hsome
  simpa [RopeStr.duties, State.mon, Function.comp_def] using congrArg (Option.map Prod.snd) hthen

/-! ### A RESP (R159, R163, R168) -/

theorem countCrc_ropesOnly (n : Nat) (y : RxRope) (s : State) : RopesOnly s (countCrc n y s) := by
  unfold countCrc
  split
  · exact .refl s
  · exact (RopesOnly.refl s).modRope ..

/-- A frame that is counted leaves the rest of its rope alone. -/
theorem countCrc_ropeStr_keeps {β : Type} {p : RopeStr → β} (hp : ∀ (r : RopeStr) c, p { r with crcCnt := c } = p r) (n : Nat) (y : RxRope) (s : State)
    (k : Nat) : p ((countCrc n y s).ropeStr k) = p (s.ropeStr k) := by
  unfold countCrc
  split
  · rfl
  · exact State.modRope_ropeStr_keeps (fun r => hp r _) ..

theorem findTxn_countCrc (n : Nat) (y : RxRope) (s : State) (k : Nat) (e : RopeEnd) (a q : Nat) :
    findTxn (countCrc n y s) k e a q = findTxn s k e a q :=
  congrArg (List.find? _) (countCrc_ropeStr_keeps (p := RopeStr.inflight) (fun _ _ => rfl) n y s k)

/-- An attempt whose 200 µs have run (R167). -/
theorem timeout_failed {s : State} {n a q : Nat} {e : RopeEnd} {x : Txn} (hx : findTxn s n e a q = some x) :
    exec (.ropeAttemptTimeout n e a q) s = .next (stopRopes (attemptFailed n x false s)) := by
  change execRopeAttemptTimeout n e a q s = _
  simp only [execRopeAttemptTimeout, hx]

theorem respReceived_unmatched {s : State} {f : RespFrame} {y : RxRope} (hy : rxFrame f.frame = some y)
    (h : findTxn s f.str f.fromEnd y.addr y.seq = none) : exec (.ropeRespReceived f) s = .next (countCrc f.str y s) := by
  change execRopeRespReceived f s = _
  simp only [execRopeRespReceived, hy, findTxn_countCrc, h]

/-- A RESP that fails its attempt: its CRC is bad, or it answers BUSY. -/
def RxRope.fails (y : RxRope) : Prop := y.crcOk = false ∨ (y.typ = tResp ∧ y.payload ≠ [] ∧ fieldU y.payload 0 1 = 4)

theorem respReceived_failed {s : State} {f : RespFrame} {y : RxRope} {x : Txn} (hy : rxFrame f.frame = some y)
    (hx : findTxn s f.str f.fromEnd y.addr y.seq = some x) (h : y.fails) :
    exec (.ropeRespReceived f) s = .next (stopRopes (attemptFailed f.str x (!y.crcOk) (countCrc f.str y s))) := by
  change execRopeRespReceived f s = _
  simp only [execRopeRespReceived, hy, findTxn_countCrc, hx]
  by_cases hcrc : y.crcOk = true
  · obtain ⟨htyp, hne, hbusy⟩ := h.resolve_left (by simp [hcrc])
    rw [if_neg (by simp [hcrc]), if_neg (by simp [htyp, hne]), if_pos hbusy, hcrc]
    rfl
  · rw [if_pos (by simp [hcrc])]
    simp [hcrc]

theorem respReceived_sentAgain {s : State} {f : RespFrame} {y : RxRope} {x : Txn} (hy : rxFrame f.frame = some y)
    (hx : findTxn s f.str f.fromEnd y.addr y.seq = some x) (hbad : y.fails) (h : x.attempts < 3) (hstop : s.stops = false) :
    ∃ t, exec (.ropeRespReceived f) s = .next t ∧ SentAgain f.str f.fromEnd x (countCrc f.str y s) t ∧ t = { s with rope := t.rope } ∧
      (t.ropeStr f.str).retryCnt = wrap32 ((s.ropeStr f.str).retryCnt + 1) ∧ { x with attempts := x.attempts + 1 } ∈ (t.ropeStr f.str).inflight ∧
      (s.portUp f.str f.fromEnd = true → (s.ropeStr f.str).silent = false → (t.ropeStr f.str).tx f.fromEnd = some x.frame) := by
  have honly := countCrc_ropesOnly f.str y s
  have hagain := attemptFailed_sentAgain (s := countCrc f.str y s) ((findTxn_countCrc ..).trans hx) h (by rw [honly]; exact hstop) (!y.crcOk)
  refine ⟨_, respReceived_failed hy hx hbad, hagain, honly.frame_trans hagain.frame, ?_, hagain.inflight, fun hp hs => hagain.tx ?_ ?_⟩
  · exact hagain.retryCnt.trans (congrArg (fun c => wrap32 (c + 1)) (countCrc_ropeStr_keeps (p := RopeStr.retryCnt) (fun _ _ => rfl) ..))
  · rwa [State.portUp_congr (s := s) (by rw [honly])]
  · exact (countCrc_ropeStr_keeps (p := RopeStr.silent) (fun _ _ => rfl) ..).trans hs

theorem respReceived_givenUp {s : State} {f : RespFrame} {y : RxRope} {x : Txn} (hy : rxFrame f.frame = some y)
    (hx : findTxn s f.str f.fromEnd y.addr y.seq = some x) (hbad : y.fails) (h : 3 ≤ x.attempts) :
    ∃ t, exec (.ropeRespReceived f) s = .next t ∧ GivenUp f.str x s t := by
  have hin := countCrc_ropeStr_keeps (p := RopeStr.inflight) (fun _ _ => rfl) f.str y s f.str
  have hfail := countCrc_ropeStr_keeps (p := RopeStr.failCnt) (fun _ _ => rfl) f.str y s f.str
  have hover := attemptFailed_givenUp (s := countCrc f.str y s) (hin ▸ (findTxn_spec hx).1) h (!y.crcOk)
  exact ⟨_, respReceived_failed hy hx hbad, hfail ▸ hover.failCnt, hin ▸ hover.inflight⟩

/-- The RESP of a BAL with status 0 makes the duties sent the acknowledged ones. -/
theorem respReceived_bal {s : State} {f : RespFrame} {y : RxRope} {x : Txn} (hy : rxFrame f.frame = some y)
    (hx : findTxn s f.str f.fromEnd y.addr y.seq = some x) (hcrc : y.crcOk = true) (htyp : y.typ = tResp) (hne : y.payload ≠ [])
    (hok : fieldU y.payload 0 1 = 0) (huse : x.use = .bal) :
    ∃ t, exec (.ropeRespReceived f) s = .next t ∧ (t.mon f.str y.addr).map (·.ack) = (s.mon f.str y.addr).map (·.sent) ∧
      (t.ropeStr f.str).failCnt = (s.ropeStr f.str).failCnt := by
  obtain ⟨-, -, haddr⟩ := findTxn_spec hx
  obtain ⟨u, hu⟩ : ∃ u, u = dropTxn f.str x (stopTie f.str s) := ⟨_, rfl⟩
  obtain ⟨tying, htying⟩ : ∃ b, b = ((s.ropeStr f.str).tie.isSome && !s.stops) := ⟨_, rfl⟩
  have hexec : exec (.ropeRespReceived f) s = .next (stopRopes (afterTie f.str tying (ropeGap f.str (balDone f.str y.addr true u)))) := by
    change execRopeRespReceived f s = _
    simp only [execRopeRespReceived, hy, countCrc_of_ok hcrc, hx, hok]
    rw [if_neg (by simp [hcrc]), if_neg (by simp [htyp, hne]), if_neg (by decide), ← hu, ← htying]
    simp [txnAnswered, huse, haddr]
  have hmon : u.mon f.str y.addr = s.mon f.str y.addr := by
    have hmons : (u.ropeStr f.str).mons = (s.ropeStr f.str).mons := by
      rw [hu, dropTxn_mons, stopTie]
      split
      · exact State.modRope_ropeStr_keeps (p := RopeStr.mons) (fun _ => by rfl) ..
      · rfl
    rw [State.mon, State.mon, hmons]
  have hdropped : Settles s u := by
    rw [hu]
    have hfreed : Settles s ((stopTie f.str s).modRope f.str (fun r => { r with inflight := r.inflight.erase x })) :=
      Moves.modRope (Attends.stopTie (.refl s) f.str).settles f.str (hin := fun z _ => List.erase_sublist.count_le z)
    exact hfreed.serves (Serves.nextTxn (.refl _) f.str)
  refine ⟨_, hexec, ?_, ?_⟩
  · have hthen := congrArg (Option.map Prod.fst) (balDone_then f.str y.addr true tying u)
    rw [hmon] at hthen
    generalize stopRopes _ = t at hthen ⊢
    simpa [RopeStr.duties, State.mon, Function.comp_def] using hthen
  · exact (Settles.stopRopes (Settles.afterTie (Settles.ropeGap (Settles.modMon hdropped ..) f.str) f.str tying)).keeps f.str

/-- Settles O35: an attempt is sent again by `attemptFailed_sentAgain`, and given up by `attemptFailed_givenUp`, whether its time
runs out or a RESP fails it. -/
theorem attemptsRetryAndEnd : Obligations.AttemptsRetryAndEnd := by
  refine fun s n a q e x => ⟨fun hx h hstop => ?again, fun hx h => ?third, fun hx => ?unmatched, fun f hf => ?short, ?resp⟩
  case again =>
    have hagain := attemptFailed_sentAgain hx h hstop false
    refine ⟨_, timeout_failed hx, hagain.frame, hagain.retryCnt, hagain.failCnt, hagain.inflight, ?_⟩
    cases e <;> exact hagain.tx
  case third =>
    have hin := (findTxn_spec hx).1
    have hover := attemptFailed_givenUp hin h false
    exact ⟨_, timeout_failed hx, hover.failCnt, hover.inflight, attemptFailed_bal hin h false⟩
  case unmatched =>
    change execRopeAttemptTimeout n e a q s = _
    simp only [execRopeAttemptTimeout, hx]
  case short =>
    change execRopeRespReceived f s = _
    simp only [execRopeRespReceived, hf]
  case resp =>
    rintro f y hy rfl rfl rfl rfl
    refine ⟨fun hcrc hx => ?good, fun hcrc hx => ?bad, fun hcrc hx h hstop => ?badSent, fun _ htyp hne hbusy hx h hstop => ?busySent,
      fun hbad hx h => ?third, fun hcrc htyp hne hok hx huse => respReceived_bal hy hx hcrc htyp hne hok huse⟩
    case good => rw [respReceived_unmatched hy hx, countCrc_of_ok hcrc]
    case bad => rw [respReceived_unmatched hy hx, countCrc_of_bad hcrc]
    case badSent =>
      obtain ⟨t, hexec, hagain, hframe, hretry, hin, htx⟩ := respReceived_sentAgain hy hx (.inl hcrc) h hstop
      refine ⟨t, hexec, hframe, hagain.crcCnt.trans ?_, hretry, hin, ?_⟩
      · rw [countCrc_of_bad hcrc, State.modRope_ropeStr_same (State.rope_lt_of_inflight (findTxn_spec hx).1)]
      · cases he : f.fromEnd <;> rw [he] at htx <;> exact htx
    case busySent =>
      obtain ⟨t, hexec, -, hframe, hretry, hin, htx⟩ := respReceived_sentAgain hy hx (.inr ⟨htyp, hne, hbusy⟩) h hstop
      refine ⟨t, hexec, hframe, hretry, hin, ?_⟩
      cases he : f.fromEnd <;> rw [he] at htx <;> exact htx
    case third =>
      obtain ⟨t, hexec, hover⟩ := respReceived_givenUp hy hx hbad h
      exact ⟨t, hexec, hover.failCnt, hover.inflight⟩

end Sys2Proof.Machine

namespace Sys2Proof.Machine

/-! ### A write that a command orders (R382, R398, R409, R495) -/

/-- What is written, without the content that a record or a set takes when its write begins. -/
def NvmWrite.bare : NvmWrite → NvmWrite
  | .urgent k _ => .urgent k none
  | .set _ => .set none
  | w => w

/-- What a job writes, and the command that it serves. -/
def NvmJob.order (j : NvmJob) : NvmWrite × Option Submission := (j.what.bare, j.sub)

theorem NvmWrite.rank_bare (w : NvmWrite) : w.bare.rank = w.rank := by cases w <;> rfl

theorem NvmWrite.urgent_of_bare {w : NvmWrite} {k : Nat} (h : w.bare = .urgent k none) : ∃ r, w = .urgent k r := by
  cases w with
  | urgent i r => exact ⟨r, by rw [NvmWrite.bare, NvmWrite.urgent.injEq] at h; rw [h.1]⟩
  | _ => exact absurd h nofun

theorem NvmWrite.set_of_bare {w : NvmWrite} (h : w.bare = .set none) : ∃ c, w = .set c := by
  cases w with
  | set c => exact ⟨c, rfl⟩
  | _ => exact absurd h nofun

theorem NvmWrite.config_of_bare {w : NvmWrite} {b : ConfigBlock} (h : w.bare = .config b) : w = .config b := by
  cases w with
  | config c => exact h
  | _ => exact absurd h nofun

/-- A job that joins the queue is in it. -/
theorem mem_insertJob (j : NvmJob) (l : List NvmJob) : j ∈ insertJob j l :=
  List.mem_append_right _ (List.mem_cons_self ..)

/-- The write at the head that has begun keeps its place. -/
theorem head?_insertJob {h : NvmJob} (hb : h.begun = true) (j : NvmJob) (r : List NvmJob) : (insertJob j (h :: r)).head? = some h := by
  simp [insertJob, hb]

/-- Nothing at the head of the queue is to begin: its write has begun, or a page that was cut off is still being programmed. -/
def State.headRuns (s : State) : Prop := s.nvm.tail = true ∨ s.nvm.jobs.head?.all (·.begun) = true

theorem beginPlain_of_headRuns {s : State} (h : s.headRuns) : beginPlain s = s := by
  unfold beginPlain
  split
  next j r hj =>
    refine if_pos ?_
    rcases h with htail | hb
    · simp [htail]
    · simp [show j.begun = true by simpa [hj] using hb]
  next => rfl

theorem settle_of_headRuns {s : State} (h : s.headRuns) : settle s = s := by
  unfold settle
  split
  next => rfl
  next j r hj =>
    refine if_pos ?_
    rcases h with htail | hb
    · simp [htail]
    · simp [show j.begun = true by simpa [hj] using hb]

/-- The queue with a write that has been ordered and has not begun. -/
def State.ordered (w : NvmWrite) (p : Nat) (sub : Option Submission) (s : State) : State :=
  { s with nvm := { s.nvm with jobs := insertJob { what := w, left := p, sub, begun := false, secs := [], tries := 0 } s.nvm.jobs } }

theorem addJob_eq (w : NvmWrite) (p : Nat) (sub : Option Submission) (s : State) : addJob w p sub s = beginPlain (s.ordered w p sub) := rfl

/-- A write that begins leaves the queue's orders as they were. -/
theorem beginPlain_spec (s : State) :
    beginPlain s = { s with nvm := (beginPlain s).nvm, cfg := { s.cfg with dirOld := (beginPlain s).cfg.dirOld } } ∧
    (beginPlain s).nvm.jobs.map NvmJob.order = s.nvm.jobs.map NvmJob.order := by
  unfold beginPlain
  split
  next j r hj =>
    split
    · exact ⟨rfl, rfl⟩
    split
    · exact ⟨rfl, by rw [hj]; rfl⟩
    · exact ⟨rfl, by rw [hj]; rfl⟩
  next => exact ⟨rfl, rfl⟩

theorem settle_orders (s : State) : (settle s).nvm.jobs.map NvmJob.order = s.nvm.jobs.map NvmJob.order := by
  unfold settle
  split
  next => rfl
  next j r hj =>
    split
    · rfl
    · rw [hj]
      split
      next hw => simp [NvmJob.order, NvmWrite.bare, hw]
      next hw => simp [NvmJob.order, NvmWrite.bare, hw]
      next => rfl
      next => rfl

theorem addJob_frame (w : NvmWrite) (p : Nat) (sub : Option Submission) (s : State) :
    addJob w p sub s = { s with nvm := (addJob w p sub s).nvm, cfg := { s.cfg with dirOld := (addJob w p sub s).cfg.dirOld } } :=
  (beginPlain_spec _).1

/-- The write that a command orders stands in the queue. -/
theorem addJob_orders (w : NvmWrite) (p : Nat) (sub : Option Submission) (s : State) :
    (w.bare, sub) ∈ (addJob w p sub s).nvm.jobs.map NvmJob.order := by
  rw [addJob_eq, (beginPlain_spec _).2]
  exact List.mem_map_of_mem (f := NvmJob.order) (mem_insertJob ..)

/-- Behind a head that runs, a write that is ordered waits. -/
theorem settle_addJob_of_headRuns {s : State} {w : NvmWrite} {p : Nat} {sub : Option Submission} (h : (s.ordered w p sub).headRuns) :
    settle (addJob w p sub s) = s.ordered w p sub := by
  rw [addJob_eq, beginPlain_of_headRuns h, settle_of_headRuns h]

/-- Behind a write that has begun, or on an empty queue, a write that is ordered waits, or the flash is free for it. -/
theorem ordered_headRuns_or_idle {s : State} (h : s.nvm.jobs.head?.all (·.begun) = true) (w : NvmWrite) (p : Nat) (sub : Option Submission) :
    (s.ordered w p sub).headRuns ∨ s.nvm.jobs = [] ∧ s.nvm.tail = false := by
  cases hj : s.nvm.jobs with
  | nil =>
    cases ht : s.nvm.tail with
    | true => exact .inl (.inl ht)
    | false => exact .inr ⟨rfl, rfl⟩
  | cons j r =>
    have hb : j.begun = true := by simpa [hj] using h
    refine .inl (.inr ?_)
    simp only [State.ordered, hj, head?_insertJob hb]
    exact hb

/-- On an empty queue a record or a set is at its head. -/
theorem addJob_of_empty {s : State} (hj : s.nvm.jobs = []) {w : NvmWrite} (hw : (w.rank != 2) = true) (p : Nat) (sub : Option Submission) :
    addJob w p sub s = { s with nvm := { s.nvm with jobs := [{ what := w, left := p, sub, begun := false, secs := [], tries := 0 }] } } := by
  rw [addJob, hj]
  exact if_pos (by simp [hw])

/-- Where nothing holds the flash, a record begins at once. -/
theorem beginUrgent_idle {s : State} (hj : s.nvm.jobs = []) (ht : s.nvm.tail = false) (k : Nat) (sub : Option Submission) :
    beginUrgent k sub s = { s with nvm := { s.nvm with
      urgSeq := (makeUrgent k s).seq
      jobs := [{ what := .urgent k (some (makeUrgent k s)), left := 2, sub, begun := true, secs := [], tries := 0 }] } } := by
  rw [beginUrgent, addJob_of_empty hj rfl]
  exact if_neg (by simp [ht])

/-- Where nothing holds the flash, a set begins at once. -/
theorem beginSet_idle {s : State} (hj : s.nvm.jobs = []) (ht : s.nvm.tail = false) (sub : Option Submission) :
    beginSet sub s = { s with tun := { s.tun with dirty := false }, nvm := { s.nvm with
      setNext := (makeSet s).seq
      jobs := [{ what := .set (some (sealSet (makeSet s))), left := 514, sub, begun := true, secs := [], tries := 0 }] } } := by
  rw [beginSet, addJob_of_empty hj rfl]
  exact if_neg (by simp [ht])

/-- Behind a write that has begun, or on an empty queue, a record that is ordered moves the flash alone. -/
theorem beginUrgent_frame {s : State} (h : s.nvm.jobs.head?.all (·.begun) = true) (k : Nat) (sub : Option Submission) :
    beginUrgent k sub s = { s with nvm := (beginUrgent k sub s).nvm } := by
  rcases ordered_headRuns_or_idle h (.urgent k none) 2 sub with hruns | ⟨hj, ht⟩
  · rw [beginUrgent, settle_addJob_of_headRuns hruns]
    rfl
  · rw [beginUrgent_idle hj ht]

/-- A set moves also whether the refined table is still to be written (R103). -/
theorem beginSet_frame {s : State} (h : s.nvm.jobs.head?.all (·.begun) = true) (sub : Option Submission) :
    beginSet sub s = { s with nvm := (beginSet sub s).nvm, tun := { s.tun with dirty := (beginSet sub s).tun.dirty } } := by
  rcases ordered_headRuns_or_idle h (.set none) 514 sub with hruns | ⟨hj, ht⟩
  · rw [beginSet, settle_addJob_of_headRuns hruns]
    rfl
  · rw [beginSet_idle hj ht]

/-- The record that was ordered stands in the queue, with its content once it has begun. -/
theorem beginUrgent_orders (k : Nat) (sub : Option Submission) (s : State) :
    ∃ j ∈ (beginUrgent k sub s).nvm.jobs, j.sub = sub ∧ ∃ r, j.what = .urgent k r := by
  have hin : (NvmWrite.urgent k none, sub) ∈ (beginUrgent k sub s).nvm.jobs.map NvmJob.order := by
    rw [beginUrgent, settle_orders]
    exact addJob_orders (.urgent k none) 2 sub s
  obtain ⟨j, hj, horder⟩ := List.mem_map.1 hin
  exact ⟨j, hj, congrArg (·.2) horder, NvmWrite.urgent_of_bare (congrArg (·.1) horder)⟩

/-- The set that was ordered stands in the queue. -/
theorem beginSet_orders (sub : Option Submission) (s : State) :
    ∃ j ∈ (beginSet sub s).nvm.jobs, j.sub = sub ∧ ∃ c, j.what = .set c := by
  have hin : (NvmWrite.set none, sub) ∈ (beginSet sub s).nvm.jobs.map NvmJob.order := by
    rw [beginSet, settle_orders]
    exact addJob_orders (.set none) 514 sub s
  obtain ⟨j, hj, horder⟩ := List.mem_map.1 hin
  exact ⟨j, hj, congrArg (·.2) horder, NvmWrite.set_of_bare (congrArg (·.1) horder)⟩

/-! ### A configuration takes force (R385, R394) -/

/-- TIME_SRC alone takes force in the configuration. -/
theorem takeTimeSrc_cfg (new : Nat) (s : State) :
    (takeTimeSrc new s).cfg = { s.cfg with live := { s.cfg.live with glob := { s.cfg.live.glob with timeSrc := new } } } := by
  have hdrop (u : State) : (dropSetAtPps u).cfg = u.cfg := by
    unfold dropSetAtPps
    exact foldl_keeps State.cfg _ (fun _ _ => by simp) _ _
  have hsrc (old : Nat) (u : State) : (srcState old new u).cfg = u.cfg := by
    unfold srcState timeLost
    split
    · simp
    split
    · simp
    · rfl
  unfold takeTimeSrc resetDom
  extract_lets old s1 s2
  split
  · rfl
  split
  · exact (hdrop _).trans (hsrc ..)
  · exact hsrc ..

/-- The block that passed is the one in force, the stored one stays, and the next change has the next number of TAKE_GEN. -/
theorem configForce_cfg (sub : Submission) (b : ConfigBlock) (s : State) :
    (configForce sub b s).cfg.block = some b ∧ (configForce sub b s).cfg.stored = s.cfg.stored ∧
    (configForce sub b s).cfg.takeNext = wrap32 (s.cfg.takeNext + 1) := by
  unfold configForce awaitInstant
  simp only [complete_keeps, takeTimeSrc_cfg, TakeForce.counts, if_true]
  split
  · exact ⟨trivial, rfl, rfl⟩
  · exact ⟨trivial, rfl, rfl⟩

end Sys2Proof.Machine

namespace Sys2Proof.Machine

/-! ### Commands that set -/

/-- Step 8 of R379 lets a block pass whose signature holds, and an unsigned one as long as the device is not sealed (R393, R521). -/
theorem configSig_passes {s : State} {raw : List Byte} {b : ConfigBlock} (hopen : b.signed = false → s.sec.sealed = false)
    (hsig : b.signed = true → judgeSig s .config raw = some true) :
    ∀ c ∈ (if b.signed then sigChecks s .config raw else [(!s.sec.sealed, stSealed)]), c.1 = true := by
  cases hb : b.signed with
  | true => simp [sigChecks, hsig hb]
  | false => simp [hopen hb]

/-- CONFIG_LOAD of a block that passes its checks: with COMMIT its write is ordered, otherwise it is in force (R393, R394). -/
theorem configLoad_passes {s : State} {sub : Submission} {buf : DmaRead} {b : ConfigBlock} (hb : b = parseBlock (bufBytes sub buf)) (hlive : s.live = true)
    (hw : s.cmdWaits 0x02 sub = false) (hform : sub.formOk [(0, 1)] = true) (hbuf : sub.hasBuf (sub.bufLen == 2624 || sub.bufLen == 2696) = true)
    (hread : buf.isSome = true) (hframe : blockFraming (bufBytes sub buf) sub.bufLen = true) (hopen : b.signed = false → s.sec.sealed = false)
    (hsig : b.signed = true → judgeSig s .config (bufBytes sub buf) = some true) (hfields : blockFieldsOk s (bufBytes sub buf) = true)
    (hcommit : sub.pU 0 1 < 2) :
    exec (.configLoad sub buf) s =
      .next (if sub.pU 0 1 = 1 then addJob (.config b) (pagesFor (blockLen b)) (some sub) s else configForce sub b s) := by
  subst hb
  change execConfigLoad sub buf s = _
  rw [execConfigLoad]
  refine runCmd_of_checked hw ?_
  simp only [List.forall_mem_append]
  exact ⟨⟨by simp [hform, hbuf, hcommit, State.accepts_of_live hlive, bufRead, hread, hframe], configSig_passes hopen hsig⟩, by simp [hfields]⟩

/-- The cells that a STATE_WRITE may set lie in enabled strings (R11, R287). -/
theorem enabled_of_swRecordOk {s : State} {r : List Byte} (h : swRecordOk s r = true) : s.enabled (cellStr (fieldU r 0 2)) = true := by
  simp only [swRecordOk, State.used, Bool.and_eq_true] at h
  tauto

/-- PARAM_LOAD of an image that is framed and signed as it must be (R397). -/
theorem paramLoad_framed {s : State} {sub : Submission} {buf : DmaRead} (hlive : s.live = true) (hw : s.cmdWaits 0x04 sub = false)
    (hform : sub.formOk [(0, 1)] = true) (hbuf : sub.hasBuf (within sub.bufLen 136 65536) = true) (hslot : sub.pU 0 1 < 8) (hread : buf.isSome = true)
    (hframe : imgFraming (bufBytes sub buf) sub.bufLen = true) (hsig : (sigChecks s .image (bufBytes sub buf)).all (fun c => c.1) = true) :
    ∃ t, exec (.paramLoad sub buf) s = .next t ∧ (imgFieldsOk { bytes := bufBytes sub buf } = false → t = complete 0x04 sub stBadField [] s) ∧
      (imgFieldsOk { bytes := bufBytes sub buf } = true →
        t.cfg = { s.cfg with pending := s.cfg.pending.set (sub.pU 0 1) (some { bytes := bufBytes sub buf }) }) := by
  have hpass : ∀ c ∈ [(sub.formOk [(0, 1)] && sub.hasBuf (within sub.bufLen 136 65536) && decide (sub.pU 0 1 < 8), stBadField), (s.accepts 0x04, stBusy),
      bufRead buf, (imgFraming (bufBytes sub buf) sub.bufLen, stBadField)] ++ sigChecks s .image (bufBytes sub buf), c.1 = true := by
    rw [List.forall_mem_append]
    exact ⟨by simp [hform, hbuf, hslot, State.accepts_of_live hlive, bufRead, hread, hframe], List.all_eq_true.1 hsig⟩
  change ∃ t, execParamLoad sub buf s = _ ∧ _
  rw [execParamLoad]
  cases hfields : imgFieldsOk { bytes := bufBytes sub buf } with
  | false => exact ⟨_, runCmd_of_failed (c := (false, stBadField)) (r := []) hw hpass rfl, fun _ => rfl, nofun⟩
  | true =>
    exact ⟨_, runCmd_of_checked hw (List.forall_mem_append.2 ⟨hpass, by simp⟩), nofun, fun _ => by simp⟩

/-- NVM_CHECKPOINT that passes its checks orders an urgent record, or with KIND FULL a set (R409). -/
theorem nvmCheckpoint_orders {s : State} {sub : Submission} (hlive : s.live = true) (hw : s.cmdWaits 0x40 sub = false)
    (hform : sub.formOk [(0, 1)] = true) (hbuf : sub.noBuf = true) (hkind : sub.pU 0 1 < 2) (hrun : sub.pU 0 1 = 1 → s.diag.journalStopped = false) :
    exec (.nvmCheckpoint sub) s = .next (if sub.pU 0 1 = 0 then beginUrgent 3 (some sub) s else beginSet (some sub) s) := by
  change execNvmCheckpoint sub s = _
  rw [execNvmCheckpoint]
  refine runCmd_of_checked hw ?_
  have hjournal : (!(sub.pU 0 1 == 1 && s.diag.journalStopped)) = true := by
    by_cases h1 : sub.pU 0 1 = 1 <;> simp [h1, hrun]
  simp [hform, hbuf, hkind, State.accepts_of_live hlive, hjournal]

/-- Settles O57, command by command: its checks pass, and what it then does is what waits, what is in force, or the write that it orders. -/
theorem settingCommands : Obligations.SettingCommands := by
  intro s sub buf hlive
  have haccepts := State.accepts_of_live hlive
  refine ⟨fun hw hform hbuf hstr hbal => ?policy,
    fun hw hform hstr hflags hen => ⟨fun hdur hbuf => ?overrideEnds, fun hpos hmax hbuf hread hcells hpairs => ?override⟩,
    fun n => rfl, fun hw hform hbuf hread => ?caps, fun hw hform hbuf hread hnodup hok => ?states, fun l hl hw hform hbuf halign hslots => ?slots,
    fun b hb hw hform hbuf hread hframe hopen hsig hfields => ⟨fun hforce => ?force, fun hcommit => ?commit⟩,
    fun hw hform hbuf hslot hread hframe hsig => paramLoad_framed hlive hw hform hbuf hslot hread hframe hsig,
    fun hw hform hbuf hmask hnamed => ?images, fun hw hform hbuf => ⟨fun hkind => ?record, fun hkind hrun => ?set, fun hkind hstop => ?stopped⟩⟩
  case policy =>
    change execBalPolicy sub s = _
    rw [execBalPolicy]
    exact runCmd_of_checked hw (by simp [hform, hbuf, hstr, hbal, haccepts])
  case overrideEnds =>
    change execBalOverride sub buf s = _
    unfold execBalOverride
    simp only [hdur]
    exact runCmd_of_checked hw (by simp [hform, hbuf, hstr, hflags, hen, haccepts])
  case override =>
    have hdur : sub.pU 2 2 ≠ 0 := by omega
    change execBalOverride sub buf s = _
    unfold execBalOverride
    simp only [hdur, if_false, bne_iff_ne.2 hdur]
    refine runCmd_of_checked hw ?_
    simp only [List.forall_mem_append]
    refine ⟨by simp [hform, hbuf, hstr, hflags, hmax, hen, haccepts], ?_⟩
    rcases hpairs with hp | hp <;> simp [bufRead, hread, hcells, hp]
  case caps =>
    change execLimitSet sub buf s = _
    rw [execLimitSet]
    exact runCmd_of_checked hw (by simp [hform, hbuf, haccepts, bufRead, hread])
  case states =>
    change execStateWrite sub buf s = _
    rw [execStateWrite]
    refine runCmd_of_checked hw ?_
    have hen : ∀ r ∈ swRecords (bufBytes sub buf), s.enabled (cellStr (fieldU r 0 2)) = true :=
      fun r hr => enabled_of_swRecordOk (List.all_eq_true.1 hok r hr)
    have hnames : ((swRecords (bufBytes sub buf)).map (fun b => fieldU b 0 2)).all (fun g => decide (4095 < g) || s.enabled (cellStr g)) = true :=
      List.all_map.trans (List.all_eq_true.2 fun r hr => by simp [hen r hr])
    simp [hform, hbuf, haccepts, bufRead, hread, hnames, hnodup, hok]
  case slots =>
    subst hl
    change execCairnSetup sub s = _
    rw [execCairnSetup]
    refine runCmd_of_checked hw ?_
    have hplace := Bool.or_eq_true_iff.2 hslots
    simp only [List.forall_mem_cons, hform, hbuf, halign, hplace, haccepts]
    exact ⟨rfl, trivial, nofun⟩
  case force =>
    obtain ⟨hblock, hstored, htake⟩ := configForce_cfg sub b s
    refine ⟨_, (configLoad_passes hb hlive hw hform hbuf hread hframe hopen hsig hfields (by omega)).trans ?_, rfl, hblock, hstored, htake⟩
    rw [if_neg (by omega)]
  case commit =>
    obtain ⟨j, hj, horder⟩ := List.mem_map.1 (addJob_orders (.config b) (pagesFor (blockLen b)) (some sub) s)
    refine ⟨_, (configLoad_passes hb hlive hw hform hbuf hread hframe hopen hsig hfields (by omega)).trans ?_,
      ⟨j, hj, NvmWrite.config_of_bare (congrArg (·.1) horder), congrArg (·.2) horder⟩, addJob_frame ..⟩
    rw [if_pos hcommit]
  case images =>
    obtain ⟨j, hj, horder⟩ := List.mem_map.1 (addJob_orders (.images _ (mustOverwrite s _)) _ (some sub) s)
    change ∃ t, execParamCommit sub s = _ ∧ _
    rw [execParamCommit]
    refine ⟨_, runCmd_of_checked hw (by simp [hform, hbuf, hmask, haccepts, hnamed]),
      ⟨j, hj, congrArg (·.2) horder, ?_⟩, addJob_frame ..⟩
    rw [← NvmWrite.rank_bare, show j.what.bare = _ from congrArg (·.1) horder]
    rfl
  case record =>
    refine ⟨_, (nvmCheckpoint_orders hlive hw hform hbuf (by omega) (by omega)).trans (by rw [if_pos hkind]), beginUrgent_orders 3 (some sub) s,
      fun hj ht => by rw [beginUrgent_idle hj ht], fun hhead => beginUrgent_frame hhead 3 (some sub)⟩
  case set =>
    refine ⟨_, (nvmCheckpoint_orders hlive hw hform hbuf (by omega) (fun _ => hrun)).trans (by rw [if_neg (by omega)]), beginSet_orders (some sub) s,
      fun hj ht => by rw [beginSet_idle hj ht], fun hhead => beginSet_frame hhead (some sub)⟩
  case stopped =>
    change execNvmCheckpoint sub s = _
    rw [execNvmCheckpoint]
    refine runCmd_of_failed (l := [_, _]) (r := []) hw ?_ (c := (!(sub.pU 0 1 == 1 && s.diag.journalStopped), stNvmError)) (by simp [hkind, hstop])
    simp [hform, hbuf, hkind, haccepts]

end Sys2Proof.Machine

namespace Sys2Proof.Machine

/-! ### What works on one rope alone (R166, R201, R205) -/

/-- From `s` to `t` no rope moves but string `n`'s, and that one keeps what `p` says of it. -/
structure OnRope {β : Type} (p : RopeStr → β) (n : Nat) (s t : State) : Prop where
  length : t.rope.strs.length = s.rope.strs.length
  others : ∀ k, k ≠ n → t.ropeStr k = s.ropeStr k
  keeps  : p (t.ropeStr n) = p (s.ropeStr n)

namespace OnRope
variable {β γ : Type} {p : RopeStr → β} {n : Nat} {s t u : State}

theorem refl (s : State) : OnRope p n s s := ⟨rfl, fun _ _ => rfl, rfl⟩

theorem trans (h : OnRope p n s t) (k : OnRope p n t u) : OnRope p n s u :=
  ⟨k.length.trans h.length, fun i hi => (k.others i hi).trans (h.others i hi), k.keeps.trans h.keeps⟩

/-- What says less is kept too. -/
theorem comp (h : OnRope p n s t) (g : β → γ) : OnRope (fun r => g (p r)) n s t := ⟨h.length, h.others, congrArg g h.keeps⟩

theorem of_strs (h : OnRope p n s t) (hstrs : u.rope.strs = t.rope.strs) : OnRope p n s u := by
  have hrope (k : Nat) : u.ropeStr k = t.ropeStr k := by rw [State.ropeStr, State.ropeStr, hstrs]
  exact ⟨(congrArg _ hstrs).trans h.length, fun k hk => (hrope k).trans (h.others k hk), by rw [hrope, h.keeps]⟩

/-- A part of the state beside the ropes moves. -/
theorem of_rope (h : OnRope p n s t) (hrope : u.rope = t.rope) : OnRope p n s u := h.of_strs (congrArg _ hrope)

theorem modRope (h : OnRope p n s t) {f : RopeStr → RopeStr} (hp : p (f (t.ropeStr n)) = p (t.ropeStr n) := by exact rfl) :
    OnRope p n s (t.modRope n f) := by
  refine h.trans ⟨t.modRope_length n f, fun k hk => t.modRope_ropeStr_other hk.symm f, ?_⟩
  rcases t.modRope_ropeStr_cases n n f with hn | ⟨-, hn⟩ <;> rw [hn]
  exact hp

theorem ite {c : Prop} [Decidable c] (h : OnRope p n s t) (k : OnRope p n s u) : OnRope p n s (if c then t else u) := by
  split
  · exact h
  · exact k

theorem foldl {α : Type} {f : State → α → State} (h : OnRope p n s t) (hf : ∀ t a, OnRope p n s t → OnRope p n s (f t a)) (l : List α) :
    OnRope p n s (l.foldl f t) :=
  List.foldlRecOn (motive := OnRope p n s) l f h fun t ht a _ => hf t a ht

end OnRope

/-- A rope whose ends reach other monitors, in its new mode; `turn`: it leaves or reaches RING (R175, R204, R208). -/
def RopeStr.inMode (a b : Nat) (m : RopeMode) (x y : Option Nat) (turn : Bool) (r : RopeStr) : RopeStr :=
  { quietEnds { (setReach a b r) with mode := m, brkA := x, brkB := y } with
    probedN := none, probedF := none, throughRun := if turn then 0 else r.throughRun, probeOut := !turn && r.probeOut, ringNext := !turn && r.ringNext }

theorem setMode_eq (n a b : Nat) (m : RopeMode) (x y : Option Nat) (s : State) : setMode n a b m x y s =
    toneLevel (modeEvent n (s.ropeStr n) (s.modRope n (RopeStr.inMode a b m x y ((s.ropeStr n).mode == .ring || m == .ring)))) := rfl

theorem OnRope.setMode {β : Type} {p : RopeStr → β} {n : Nat} {s t : State} (h : OnRope p n s t) {a b : Nat} {m : RopeMode} {x y : Option Nat}
    (hp : ∀ turn, p ((t.ropeStr n).inMode a b m x y turn) = p (t.ropeStr n)) : OnRope p n s (setMode n a b m x y t) := by
  have hmoved := OnRope.modRope h (hp ((t.ropeStr n).mode == .ring || m == .ring))
  rw [setMode_eq, modeEvent]
  exact .of_strs (.ite (.of_rope hmoved (by simp)) hmoved) rfl

/-- The sweep of a rope, and its transactions in flight that serve what `q` names. -/
def RopeStr.sweepWith (q : TxnUse → Bool) (r : RopeStr) : Option Sweep × List Txn := (r.sweep, r.inflight.filter (fun x => q x.use))

/-- The transaction serves a sweep: it is one of its READs (R201). -/
def TxnUse.isSweep : TxnUse → Bool
  | .sweep _ => true
  | _ => false

/-- From `s` to `t` no rope moves but string `n`'s, and its sweep and the transactions in flight that serve what `q` names stand. -/
abbrev SweepStands (q : TxnUse → Bool) : Nat → State → State → Prop := OnRope (RopeStr.sweepWith q)

namespace SweepStands
variable {q : TxnUse → Bool} {n : Nat} {s t : State}

theorem modMon (h : SweepStands q n s t) (m : Nat) (f : Mon → Mon) : SweepStands q n s (t.modMon n m f) := by
  refine OnRope.modRope h ?_
  split <;> rfl

theorem ropeSend (h : SweepStands q n s t) (e : RopeEnd) (f : TxFrame) : SweepStands q n s (ropeSend n e f t) := by
  unfold Machine.ropeSend
  split
  · cases e
    · exact OnRope.modRope h
    · exact OnRope.modRope h
  · exact h

theorem bumpSeq (h : SweepStands q n s t) (e : RopeEnd) (a : Nat) : SweepStands q n s (bumpSeq n e a t) := OnRope.modRope h

theorem ropeCast (h : SweepStands q n s t) (e : RopeEnd) (y a : Nat) (l : List Byte) : SweepStands q n s (ropeCast n e y a l t) := by
  unfold Machine.ropeCast
  split
  · exact (bumpSeq h ..).ropeSend ..
  · exact h

/-- A transaction that begins, or waits, serves what its use says. -/
theorem startTxn (h : SweepStands q n s t) {u : TxnUse} (hu : q u = false) (e : RopeEnd) (a y : Nat) (l : List Byte) :
    SweepStands q n s (startTxn n e a u y l t) := by
  unfold Machine.startTxn Machine.beginTxn
  split
  · exact h
  split
  · exact ropeSend (OnRope.modRope (bumpSeq h ..) (by simp [RopeStr.sweepWith, hu])) ..
  · exact OnRope.modRope h

theorem authFrame (h : SweepStands q n s t) (e : RopeEnd) (m : Nat) (a : AuthSend) (hq : q (.auth a) = false) : SweepStands q n s (authFrame n e m a t) := by
  cases a with
  | identity => exact startTxn h hq ..
  | certificate => exact startTxn h hq ..
  | challenge =>
    have hdraw : SweepStands q n s t.draw.2 := OnRope.of_rope h rfl
    simp only [Machine.authFrame]
    exact startTxn (modMon hdraw ..) hq ..
  | fetch => exact startTxn h hq ..

theorem safeStep (h : SweepStands q n s t) : SweepStands q n s (safeStep n t) := by
  simp only [Machine.safeStep]
  split
  · exact h
  split
  · exact ropeCast (ropeCast (OnRope.modRope h) ..) ..
  · exact ropeCast (OnRope.modRope h) ..

/-- What runs in the gaps of a rope serves no sweep (R201). -/
theorem ropeGap (h : SweepStands q n s t) (hq : ∀ u, u.isSweep = false → q u = false) : SweepStands q n s (ropeGap n t) := by
  simp only [Machine.ropeGap]
  have hsafe : SweepStands q n s (Machine.safeStep n t) := safeStep h
  generalize Machine.safeStep n t = v at hsafe
  split
  · exact hsafe
  split
  · exact startTxn (OnRope.modRope (modMon hsafe ..)) (hq _ rfl) ..
  split
  · exact startTxn (OnRope.modRope hsafe) (hq _ rfl) ..
  split
  · exact OnRope.foldl (OnRope.modRope hsafe) (fun _ _ h => startTxn h (hq _ rfl) ..) _
  split
  · exact hsafe
  split
  · exact startTxn (OnRope.modRope hsafe) (hq _ rfl) ..
  split
  · exact authFrame (OnRope.modRope hsafe) _ _ _ (hq _ rfl)
  split
  · exact startTxn (OnRope.modRope hsafe) (hq _ rfl) ..
  · exact hsafe

theorem setMode (h : SweepStands q n s t) (a b : Nat) (m : RopeMode) (x y : Option Nat) : SweepStands q n s (setMode n a b m x y t) :=
  OnRope.setMode h fun _ => rfl

theorem applyLocation (h : SweepStands q n s t) (a b : Nat) (x y z : Bool) : SweepStands q n s (applyLocation n a b x y z t) := by
  unfold Machine.applyLocation
  extract_lets old top a' b' s1 s2 s3
  have h1 : SweepStands q n s s1 := OnRope.modRope h
  have h2 : SweepStands q n s s2 := setMode h1 ..
  have h3 : SweepStands q n s s3 := OnRope.ite (OnRope.of_rope h2 (by simp)) h2
  exact OnRope.ite h1 (OnRope.ite (OnRope.of_rope h3 (by simp)) h3)

end SweepStands

end Sys2Proof.Machine

namespace Sys2Proof.Machine

/-! ### What a sweep leaves of the frames (R201, R210) -/

/-- What a sweep does not write of a frame: which it is, when its window closed and whether its sweep has begun. -/
def FrameRec.stamp (f : FrameRec) : Nat × Nat × Bool := (f.epoch, f.closeTick, f.swept)

/-- From `s` to `t` the clock and the configuration stand, and of the frames what a sweep does not write. -/
structure MarksFrames (s t : State) : Prop where
  clk    : t.clk = s.clk
  cfg    : t.cfg = s.cfg
  frm    : t.frm = { s.frm with frames := t.frm.frames }
  stamps : t.frm.frames.map FrameRec.stamp = s.frm.frames.map FrameRec.stamp

namespace MarksFrames
variable {s t u : State}

theorem of_keeps (hclk : t.clk = s.clk) (hcfg : t.cfg = s.cfg) (hfrm : t.frm = s.frm) : MarksFrames s t :=
  ⟨hclk, hcfg, by rw [hfrm], by rw [hfrm]⟩

theorem refl (s : State) : MarksFrames s s := .of_keeps rfl rfl rfl

theorem trans (h : MarksFrames s t) (k : MarksFrames t u) : MarksFrames s u :=
  ⟨k.clk.trans h.clk, k.cfg.trans h.cfg, k.frm.trans (congrArg (fun f : FrameState => { f with frames := u.frm.frames }) h.frm), k.stamps.trans h.stamps⟩

theorem ite {c : Prop} [Decidable c] (h : MarksFrames s t) (k : MarksFrames s u) : MarksFrames s (if c then t else u) := by
  split
  · exact h
  · exact k

theorem foldl {α : Type} {f : State → α → State} (hf : ∀ t a, MarksFrames t (f t a)) (l : List α) (s : State) : MarksFrames s (l.foldl f s) :=
  List.foldlRecOn (motive := MarksFrames s) l f (.refl s) fun t ht a _ => ht.trans (hf t a)

theorem markMode (epoch n : Nat) (s : State) : MarksFrames s (markMode epoch n s) := by
  refine ⟨by simp [Machine.markMode], by simp [Machine.markMode], rfl, ?_⟩
  simp only [Machine.markMode, State.modFrame, List.map_map]
  refine List.map_congr_left fun f _ => ?_
  simp only [Function.comp]
  split <;> rfl

theorem setMode (n a b : Nat) (m : RopeMode) (x y : Option Nat) (s : State) : MarksFrames s (setMode n a b m x y s) := by
  rw [setMode_eq, modeEvent]
  split
  · exact .of_keeps (by simp [toneLevel]) (by simp [toneLevel]) (by simp [toneLevel])
  · exact .of_keeps rfl rfl rfl

theorem applyLocation (n a b : Nat) (x y z : Bool) (s : State) : MarksFrames s (applyLocation n a b x y z s) := by
  unfold Machine.applyLocation
  extract_lets old top a' b' s1 s2 s3
  have h1 : MarksFrames s s1 := .of_keeps rfl rfl rfl
  have h2 : MarksFrames s s2 := h1.trans (setMode ..)
  have hfile (t : State) (u : UnitId) : MarksFrames t (fileReport u t) := .of_keeps (by simp) (by simp) (by simp)
  have h3 : MarksFrames s s3 := ite (h2.trans (hfile ..)) h2
  exact ite h1 (ite (h3.trans (hfile ..)) h3)

theorem sweepEnd (n : Nat) (w : Sweep) (s : State) : MarksFrames s (sweepEnd n w s) := by
  unfold Machine.sweepEnd
  extract_lets s1 s2
  have h1 : MarksFrames s s1 := .of_keeps rfl rfl rfl
  have h2 : MarksFrames s s2 := ite (h1.trans (applyLocation ..)) h1
  exact (h2.trans (markMode w.epoch n s2)).trans (.of_keeps (by simp) (by simp) (by simp))

theorem sweepNext (n : Nat) (s : State) : MarksFrames s (sweepNext n s) := by
  unfold Machine.sweepNext
  split
  · exact .refl s
  refine ite (.refl s) ?_
  extract_lets busy read
  split
  · exact sweepEnd ..
  · exact .of_keeps (by simp [read]) (by simp [read]) (by simp [read])
  · exact .of_keeps (by simp [read]) (by simp [read]) (by simp [read])
  · exact .of_keeps (by simp [read]) (by simp [read]) (by simp [read])
  · exact .refl s

end MarksFrames

/-! ### A rope's sweep begins, and its end (R201, R203) -/

/-- The end of a sweep begins none of its READs: a location and the work of the gaps follow it. -/
theorem sweepEnd_stands {q : TxnUse → Bool} (hq : ∀ u, u.isSweep = false → q u = false) (n : Nat) (w : Sweep) (s : State) :
    SweepStands q n (setSweep n { w with done := true } s) (sweepEnd n w s) := by
  unfold sweepEnd
  extract_lets s1 s2
  have h2 : SweepStands q n s1 s2 := OnRope.ite (SweepStands.applyLocation (.refl s1) ..) (.refl s1)
  have h3 : SweepStands q n s1 (markMode w.epoch n s2) := OnRope.of_rope h2 (by simp [markMode])
  exact SweepStands.ropeGap h3 hq

/-- The epoch of the sweep on a rope. -/
def RopeStr.sweepEpoch (r : RopeStr) : Option Nat := r.sweep.map (·.epoch)

theorem SweepStands.epoch {q : TxnUse → Bool} {n : Nat} {s t : State} (h : SweepStands q n s t) : OnRope RopeStr.sweepEpoch n s t :=
  h.comp fun x : Option Sweep × List Txn => x.1.map Sweep.epoch

/-- A sweep that goes on is the same sweep. -/
theorem setSweep_epoch {n : Nat} {s : State} {w v : Sweep} (hw : (s.ropeStr n).sweep = some w) (hv : v.epoch = w.epoch) :
    OnRope RopeStr.sweepEpoch n s (setSweep n v s) :=
  OnRope.modRope (.refl s) (by simp [RopeStr.sweepEpoch, hw, hv])

/-- A READ that leaves belongs to the sweep that runs. -/
theorem OnRope.sendRead_epoch {n : Nat} {s t : State} (h : OnRope RopeStr.sweepEpoch n s t) (e : RopeEnd) (a p o l : Nat) (u : TxnUse) :
    OnRope RopeStr.sweepEpoch n s (sendRead n e a p o l u t) :=
  h.trans (SweepStands.epoch (SweepStands.startTxn (q := fun _ => false) (.refl t) rfl ..))

theorem sweepNext_epoch (n : Nat) (s : State) : OnRope RopeStr.sweepEpoch n s (sweepNext n s) := by
  unfold sweepNext
  split
  · exact .refl s
  next w hw =>
    have hset (v : Sweep) (hv : v.epoch = w.epoch) : OnRope RopeStr.sweepEpoch n s (setSweep n v s) := setSweep_epoch hw hv
    refine .ite (.refl s) ?_
    extract_lets busy read
    split
    · exact (hset _ (by rfl)).trans (SweepStands.epoch (sweepEnd_stands (q := TxnUse.isSweep) (fun _ h => h) n w s))
    · exact ((hset _ (by rfl)).sendRead_epoch ..).sendRead_epoch ..
    · exact (hset _ (by rfl)).sendRead_epoch ..
    · exact (hset _ (by rfl)).sendRead_epoch ..
    · exact .refl s

/-- A rope that is tying in, or DOWN, is not swept (R201). -/
def RopeStr.noSweep (r : RopeStr) : Bool := r.tie.isSome || r.mode == .down

/-- The return to RING begins no tie-in and is from a mode that is not DOWN. -/
theorem ringReturn_noSweep (n : Nat) (s : State) : OnRope RopeStr.noSweep n s (ringReturn n s) := by
  unfold ringReturn
  extract_lets r
  split
  next h =>
    refine .setMode (.refl s) fun turn => ?_
    have hmode : (r.mode == .down) = false := by
      simp only [Bool.and_eq_true, Bool.or_eq_true, beq_iff_eq] at h
      obtain ⟨⟨⟨-, hm⟩, -⟩, -⟩ := h
      rcases hm with hm | hm <;> rw [hm] <;> rfl
    exact congrArg (r.tie.isSome || ·) hmode.symm
  next => exact .refl s

/-- The rope as its sweep finds it: RING reached anew, old pages gone, and its mode marked in the frame. -/
def sweepFound (epoch n : Nat) (s : State) : State := markMode epoch n ((ringReturn n s).modRope n (agePages epoch))

theorem sweepFound_noSweep (epoch n : Nat) (s : State) : OnRope RopeStr.noSweep n s (sweepFound epoch n s) :=
  have haged : OnRope RopeStr.noSweep n s ((ringReturn n s).modRope n (agePages epoch)) := .modRope (ringReturn_noSweep n s)
  .of_rope haged (by simp [sweepFound, markMode])

/-- The rope with the lists of the sweep that begins, and without the READs of an earlier one (R201, R203). -/
def sweepFresh (epoch n : Nat) (s : State) : State :=
  setSweep n { epoch, todoN := (sweepLists (s.ropeStr n) (s.portUp n .N) (s.portUp n .F)).1, todoF := (sweepLists (s.ropeStr n) (s.portUp n .N) (s.portUp n .F)).2
               failN := none, failF := none, lastN := 0, lastF := (s.ropeStr n).top + 1, suspect := (s.ropeStr n).locate.isSome, done := false }
    (s.modRope n (fun r => { r with
      locate := none, inflight := r.inflight.filter (fun t => match t.use with | .sweep _ => false | .locate => false | _ => true) }))

theorem sweepRope_eq (epoch n : Nat) (s : State) : sweepRope epoch n s =
    if ((sweepFound epoch n s).ropeStr n).noSweep || !(sweepFound epoch n s).enabled n then sweepFound epoch n s
    else sweepNext n (sweepFresh epoch n (sweepFound epoch n s)) := rfl

theorem MarksFrames.sweepFound (epoch n : Nat) (s : State) : MarksFrames s (sweepFound epoch n s) := by
  have hring : MarksFrames s (ringReturn n s) := .ite (.setMode ..) (.refl s)
  have haged : MarksFrames s ((ringReturn n s).modRope n (agePages epoch)) := hring.trans (.of_keeps rfl rfl rfl)
  exact haged.trans (.markMode ..)

theorem MarksFrames.sweepRope (epoch n : Nat) (s : State) : MarksFrames s (sweepRope epoch n s) := by
  have hfound := MarksFrames.sweepFound epoch n s
  have hfresh : MarksFrames s (sweepFresh epoch n (Machine.sweepFound epoch n s)) := hfound.trans (.of_keeps rfl rfl rfl)
  rw [sweepRope_eq]
  exact .ite hfound (hfresh.trans (.sweepNext ..))

theorem sweepRope_others (epoch n : Nat) (s : State) : OnRope (fun _ => ()) n s (sweepRope epoch n s) := by
  have hfound : OnRope (fun _ => ()) n s (sweepFound epoch n s) := (sweepFound_noSweep epoch n s).comp fun _ => ()
  rw [sweepRope_eq]
  exact .ite hfound (.trans (.modRope (.modRope hfound)) ((sweepNext_epoch ..).comp fun _ => ()))

/-- On an enabled rope that is not DOWN nor tying in the frame's sweep begins. -/
theorem sweepRope_begins {n : Nat} {s : State} (hn : n < s.rope.strs.length) (hen : s.enabled n = true) (hr : (s.ropeStr n).noSweep = false) (epoch : Nat) :
    ((sweepRope epoch n s).ropeStr n).sweepEpoch = some epoch := by
  have hfound := sweepFound_noSweep epoch n s
  have hen' : (sweepFound epoch n s).enabled n = true := by
    rw [State.enabled, State.strCfg, (MarksFrames.sweepFound epoch n s).cfg]
    exact hen
  rw [sweepRope_eq, if_neg (by rw [hfound.keeps, hr, hen']; decide), (sweepNext_epoch n _).keeps, sweepFresh, setSweep,
    State.modRope_ropeStr_same (by simpa using hfound.length ▸ hn)]
  rfl

/-! ### SWEEP_START (R201) -/

/-- The frames once the sweep of one has begun. -/
def sweepMarked (epoch : Nat) (s : State) : State :=
  { s with frm := { s.frm with frames := s.frm.frames.map (fun g => if g.epoch == epoch then { g with swept := true } else g) } }

theorem sweepStart_eq {s : State} {f : FrameRec} (hf : s.sweepFrame = some f) (hlive : s.live = true) (hdue : f.closeTick + 4800 ≤ s.clk.ticks) :
    exec .sweepStart s = .next ((List.range 8).foldl (fun s n => sweepRope f.epoch n s) (sweepMarked f.epoch s)) := by
  change execSweepStart s = _
  rw [execSweepStart, hf]
  exact if_neg (by simp [hlive, hdue])

/-- No sweep begins before a window has closed, nor while the device does not run. -/
theorem sweepStart_stands {s : State} (h : s.sweepFrame = none ∨ s.live = false) : exec .sweepStart s = .next s := by
  change execSweepStart s = _
  rw [execSweepStart]
  split
  next => rfl
  next f hf =>
    refine if_pos ?_
    rcases h with hnone | hlive
    · exact absurd (hf.symm.trans hnone) nofun
    · simp [hlive]

/-- Nor before 20 µs have passed since the close. -/
theorem sweepStart_early {s : State} {f : FrameRec} (hf : s.sweepFrame = some f) (h : s.clk.ticks < f.closeTick + 4800) :
    exec .sweepStart s = .next s := by
  change execSweepStart s = _
  rw [execSweepStart, hf]
  exact if_pos (by simp [h])

/-- A frame that a sweep has left is one of before, with its stamp. -/
theorem MarksFrames.frame_of_mem {s t : State} (h : MarksFrames s t) {g : FrameRec} (hg : g ∈ t.frm.frames) :
    ∃ f ∈ s.frm.frames, f.stamp = g.stamp :=
  List.mem_map.1 (h.stamps ▸ List.mem_map_of_mem hg)

theorem sweepMarked_epochs (epoch : Nat) (s : State) : (sweepMarked epoch s).frm.frames.map (·.epoch) = s.frm.frames.map (·.epoch) := by
  rw [sweepMarked, List.map_map]
  refine List.map_congr_left fun g _ => ?_
  simp only [Function.comp]
  split <;> rfl

/-- In the frames the sweep of that epoch has begun, and nothing else has changed but what it writes itself. -/
theorem sweepMarked_frames {epoch : Nat} {s t : State} (h : MarksFrames (sweepMarked epoch s) t) :
    t.frm = { s.frm with frames := t.frm.frames } ∧ t.frm.frames.map (·.epoch) = s.frm.frames.map (·.epoch) ∧
    ∀ g ∈ t.frm.frames, g.epoch = epoch → g.swept = true := by
  refine ⟨h.frm, ?_, fun g hg hepoch => ?_⟩
  · have hepochs := congrArg (List.map Prod.fst) h.stamps
    rw [List.map_map, List.map_map] at hepochs
    exact hepochs.trans (sweepMarked_epochs epoch s)
  · obtain ⟨b, hb, hstamp⟩ := h.frame_of_mem hg
    obtain ⟨f, -, rfl⟩ := List.mem_map.1 hb
    simp only [FrameRec.stamp, Prod.mk.injEq] at hstamp
    obtain ⟨he, -, hswept⟩ := hstamp
    rw [← hswept]
    split
    next => rfl
    next hne =>
      rw [if_neg hne] at he
      exact absurd (beq_iff_eq.2 (he.trans hepoch)) hne

/-- The sweep of an epoch has begun on every rope that may be swept. -/
theorem sweepRopes_begin {n : Nat} {s : State} (hn : n < 8) (hl : n < s.rope.strs.length) (hen : s.enabled n = true)
    (hr : (s.ropeStr n).noSweep = false) (epoch : Nat) :
    (((List.range 8).foldl (fun s n => sweepRope epoch n s) s).ropeStr n).sweepEpoch = some epoch := by
  obtain ⟨s', hs', hfold⟩ := foldl_strings (fun s => (s.ropeStr n, s.cfg, s.rope.strs.length)) (fun s n => sweepRope epoch n s) hn
    (fun s k hk => by
      have hothers := sweepRope_others epoch k s
      rw [hothers.others n hk.symm, hothers.length, (MarksFrames.sweepRope epoch k s).cfg]) s
  simp only [Prod.mk.injEq] at hs' hfold
  obtain ⟨hrope, hcfg, hlen⟩ := hs'
  rw [hfold.1]
  exact sweepRope_begins (hlen ▸ hl) (by rw [State.enabled, State.strCfg, hcfg]; exact hen) (by rw [hrope]; exact hr) epoch

end Sys2Proof.Machine

namespace Sys2Proof.Machine

/-! ### SWEEP_DEADLINE (R189, R203) -/

/-- The sweep of an epoch is over on a rope: it has nothing to read, and none of its READs is in flight. -/
def RopeStr.SweepOver (epoch : Nat) (r : RopeStr) : Prop :=
  ∃ v, r.sweepWith TxnUse.isSweep = (some v, []) ∧ v.epoch = epoch ∧ v.done = true ∧ v.todoN = [] ∧ v.todoF = []

theorem RopeStr.SweepOver.spec {epoch : Nat} {r : RopeStr} (h : r.SweepOver epoch) :
    ∃ v, r.sweep = some v ∧ v.epoch = epoch ∧ v.done = true ∧ v.todoN = [] ∧ v.todoF = [] ∧ ∀ x ∈ r.inflight, x.use ≠ .sweep epoch := by
  obtain ⟨v, hv, hepoch, hdone, hN, hF⟩ := h
  obtain ⟨hsweep, hreads⟩ := Prod.mk.injEq .. ▸ hv
  refine ⟨v, hsweep, hepoch, hdone, hN, hF, fun x hx huse => ?_⟩
  exact List.filter_eq_nil_iff.1 hreads x hx (by rw [huse]; rfl)

/-- What leaves sweeps and their READs alone leaves a sweep that is over. -/
theorem SweepStands.keepsOver {n k epoch : Nat} {s t : State} (h : SweepStands TxnUse.isSweep k s t) (hs : (s.ropeStr n).SweepOver epoch) :
    (t.ropeStr n).SweepOver epoch := by
  by_cases hk : n = k
  · subst hk
    obtain ⟨v, hv, hrest⟩ := hs
    exact ⟨v, h.keeps.trans hv, hrest⟩
  · rwa [h.others n hk]

/-- A sweep that ends with its rope. -/
theorem RopeStr.SweepOver.stopped {epoch : Nat} {r r' : RopeStr} (h : r.SweepOver epoch)
    (hsweep : r'.sweep = r.sweep.map (fun w => { w with todoN := [], todoF := [], done := true })) (hin : r'.inflight = r.inflight) :
    r'.SweepOver epoch := by
  obtain ⟨v, hv, hepoch, -, -, -⟩ := h
  obtain ⟨hs, hreads⟩ := Prod.mk.injEq .. ▸ hv
  refine ⟨{ v with todoN := [], todoF := [], done := true }, ?_, hepoch, rfl, rfl, rfl⟩
  rw [RopeStr.sweepWith, hsweep, hs, hin, hreads]
  rfl

/-- From `s` to `t` the frames and the configuration stand, and the sweeps that are over stay over. -/
structure SweepsStayOver (s t : State) : Prop where
  frm   : t.frm = s.frm
  cfg   : t.cfg = s.cfg
  ended : ∀ n epoch, (s.ropeStr n).SweepOver epoch → (t.ropeStr n).SweepOver epoch

namespace SweepsStayOver
variable {s t u : State}

theorem refl (s : State) : SweepsStayOver s s := ⟨rfl, rfl, fun _ _ h => h⟩

theorem trans (h : SweepsStayOver s t) (k : SweepsStayOver t u) : SweepsStayOver s u :=
  ⟨k.frm.trans h.frm, k.cfg.trans h.cfg, fun n e ho => k.ended n e (h.ended n e ho)⟩

theorem ite {c : Prop} [Decidable c] (h : SweepsStayOver s t) (k : SweepsStayOver s u) : SweepsStayOver s (if c then t else u) := by
  split
  · exact h
  · exact k

theorem foldl {α : Type} {f : State → α → State} (h : SweepsStayOver s t) (hf : ∀ t a, SweepsStayOver s t → SweepsStayOver s (f t a)) (l : List α) :
    SweepsStayOver s (l.foldl f t) :=
  List.foldlRecOn (motive := SweepsStayOver s) l f h fun t ht a _ => hf t a ht

/-- The ropes themselves stand. -/
theorem of_strs (h : SweepsStayOver s t) (hstrs : u.rope.strs = t.rope.strs) (hfrm : u.frm = t.frm) (hcfg : u.cfg = t.cfg) : SweepsStayOver s u :=
  h.trans ⟨hfrm, hcfg, fun n epoch ho => by rwa [State.ropeStr, hstrs]⟩

theorem complete (h : SweepsStayOver s t) (op : Nat) (sub : Submission) (st : Nat) (r : List Byte) : SweepsStayOver s (complete op sub st r t) :=
  h.of_strs (by simp) (by simp) (by simp)

theorem safeStep (h : SweepsStayOver s t) (n : Nat) : SweepsStayOver s (safeStep n t) :=
  h.trans ⟨by simp, by simp, fun _ _ => SweepStands.keepsOver (SweepStands.safeStep (.refl t))⟩

theorem modRope (h : SweepsStayOver s t) (n : Nat) {f : RopeStr → RopeStr} (hf : ∀ r epoch, r.SweepOver epoch → (f r).SweepOver epoch) :
    SweepsStayOver s (t.modRope n f) := by
  refine h.trans ⟨rfl, rfl, fun k epoch ho => ?_⟩
  rcases t.modRope_ropeStr_cases n k f with hk | ⟨-, hk⟩ <;> rw [hk]
  · exact ho
  · exact hf _ _ ho

theorem ropeGone (h : SweepsStayOver s t) (n : Nat) : SweepsStayOver s (ropeGone n t) := by
  unfold Machine.ropeGone
  extract_lets raws auths ties s1 ropes s2 s3 s4
  have h1 : SweepsStayOver s s1 := h.modRope n fun _ _ ho => ho.stopped rfl rfl
  have h2 : SweepsStayOver s s2 := h1.of_strs rfl rfl rfl
  have h3 : SweepsStayOver s s3 := h2.foldl (fun _ _ h => h.complete ..) _
  have h4 : SweepsStayOver s s4 := h3.foldl (fun _ _ h => h.complete ..) _
  exact (h4.foldl (fun _ _ h => h.complete ..) _).of_strs rfl rfl rfl

theorem stopOne (h : SweepsStayOver s t) (n : Nat) : SweepsStayOver s (stopOne n t) := by
  unfold Machine.stopOne
  extract_lets r s1
  have h1 : SweepsStayOver s s1 := (h.modRope n (f := fun r => { r with tie := none, safe := some .due }) fun _ _ ho => ho).safeStep n
  clear_value s1
  split
  · exact h
  split
  · exact h
  · exact h
  · exact ite (h1.ropeGone n) h1

/-- The orderly stop of the ropes (R189). -/
theorem stopRopes (s : State) : SweepsStayOver s (stopRopes s) := by
  unfold Machine.stopRopes
  extract_lets s1
  have h1 : SweepsStayOver s s1 := (refl s).foldl (fun _ n h => h.stopOne n) _
  clear_value s1
  exact ite (ite (h1.of_strs rfl rfl rfl) h1) (refl s)

end SweepsStayOver

/-! The deadline of one rope. -/

/-- The deadline of a sweep has come: its frame's window closed 15 ms ago. -/
def State.sweepDue (s : State) (w : Sweep) : Bool :=
  s.frm.frames.any (fun f => f.epoch == w.epoch && decide (f.closeTick + 3600000 ≤ s.clk.ticks))

/-- The rope without the READs of its sweep. -/
def RopeStr.withoutReads (r : RopeStr) : RopeStr :=
  { r with inflight := r.inflight.filter (fun t => match t.use with | .sweep _ => false | _ => true) }

/-- A sweep is given up: what it had to read is not read, and its READs in flight end. -/
def sweepGivenUp (n : Nat) (w : Sweep) (s : State) : State :=
  sweepEnd n { w with todoN := [], todoF := [] } (s.modRope n RopeStr.withoutReads)

/-- The deadline on one rope. -/
def sweepLate (s : State) (n : Nat) : State :=
  match (s.ropeStr n).sweep with
  | some w => if w.done || !s.sweepDue w then s else sweepGivenUp n w s
  | none => s

theorem sweepDeadline_eq (s : State) : exec .sweepDeadline s = .next (stopRopes ((List.range 8).foldl sweepLate s)) := rfl

/-- A rope at the deadline: nothing happens to it, or its sweep is given up. -/
theorem sweepLate_cases (s : State) (n : Nat) : sweepLate s n = s ∨ ∃ w, sweepLate s n = sweepGivenUp n w s := by
  unfold sweepLate
  split
  next w _ =>
    split
    · exact .inl rfl
    · exact .inr ⟨w, rfl⟩
  next => exact .inl rfl

theorem MarksFrames.sweepGivenUp (n : Nat) (w : Sweep) (s : State) : MarksFrames s (sweepGivenUp n w s) := by
  have hdropped : MarksFrames s (s.modRope n RopeStr.withoutReads) := .of_keeps rfl rfl rfl
  exact hdropped.trans (.sweepEnd ..)

theorem MarksFrames.sweepLate (s : State) (n : Nat) : MarksFrames s (sweepLate s n) := by
  rcases sweepLate_cases s n with h | ⟨w, h⟩ <;> rw [h]
  · exact .refl s
  · exact .sweepGivenUp n w s

/-- What follows the end of a sweep that is given up begins no READ. -/
theorem sweepGivenUp_stands (n : Nat) (w : Sweep) (s : State) :
    SweepStands TxnUse.isSweep n (setSweep n { w with todoN := [], todoF := [], done := true } (s.modRope n RopeStr.withoutReads)) (sweepGivenUp n w s) :=
  sweepEnd_stands (fun _ h => h) n { w with todoN := [], todoF := [] } _

theorem sweepLate_others (s : State) (n : Nat) : OnRope (fun _ => ()) n s (sweepLate s n) := by
  rcases sweepLate_cases s n with h | ⟨w, h⟩ <;> rw [h]
  · exact .refl s
  · exact .trans (.modRope (.modRope (.refl s))) ((sweepGivenUp_stands n w s).comp fun _ => ())

theorem sweepGivenUp_over {n : Nat} {s : State} (hn : n < s.rope.strs.length) (w : Sweep) : ((sweepGivenUp n w s).ropeStr n).SweepOver w.epoch := by
  refine ⟨{ w with todoN := [], todoF := [], done := true }, (sweepGivenUp_stands n w s).keeps.trans ?_, rfl, rfl, rfl, rfl⟩
  rw [setSweep, State.modRope_ropeStr_same (by simpa using hn), State.modRope_ropeStr_same hn]
  refine Prod.ext rfl ?_
  simp only [RopeStr.sweepWith, RopeStr.withoutReads, List.filter_filter]
  refine List.filter_eq_nil_iff.2 fun x _ => ?_
  cases x.use <;> simp [TxnUse.isSweep]

/-- At the deadline of its frame a sweep that runs is over. -/
theorem sweepLates_end {n : Nat} {s : State} {w : Sweep} (hn : n < 8) (hl : n < s.rope.strs.length) (hw : (s.ropeStr n).sweep = some w)
    (hrun : w.done = false) {f : FrameRec} (hf : f ∈ s.frm.frames) (hepoch : f.epoch = w.epoch) (hdue : f.closeTick + 3600000 ≤ s.clk.ticks) :
    (((List.range 8).foldl sweepLate s).ropeStr n).SweepOver w.epoch := by
  obtain ⟨s', hs', hfold⟩ := foldl_strings
    (fun s => (s.ropeStr n, s.clk, s.frm.frames.map FrameRec.stamp, s.rope.strs.length)) sweepLate hn
    (fun s k hk => by
      have hothers := sweepLate_others s k
      have hmarks := MarksFrames.sweepLate s k
      rw [hothers.others n hk.symm, hothers.length, hmarks.clk, hmarks.stamps]) s
  simp only [Prod.mk.injEq] at hs' hfold
  obtain ⟨hrope, hclk, hstamps, hlen⟩ := hs'
  have hdue' : s'.sweepDue w = true := by
    obtain ⟨g, hg, hstamp⟩ := List.mem_map.1 (hstamps.symm ▸ List.mem_map_of_mem (f := FrameRec.stamp) hf)
    simp only [FrameRec.stamp, Prod.mk.injEq] at hstamp
    obtain ⟨hge, hgclose, -⟩ := hstamp
    exact List.any_eq_true.2 ⟨g, hg, by simp [hge, hgclose, hepoch, hclk, hdue]⟩
  have hlate : sweepLate s' n = sweepGivenUp n w s' := by
    rw [sweepLate, hrope, hw]
    exact if_neg (by simp [hrun, hdue'])
  rw [hfold.1, hlate]
  exact sweepGivenUp_over (hlen ▸ hl) w

/-- Settles O34: a sweep's beginning and its end on each rope by the fold over the ropes, whose other steps leave that rope alone; the
orderly stop that follows a deadline begins no READ. -/
theorem sweepsBeginAndEnd : Obligations.SweepsBeginAndEnd := by
  intro s
  refine ⟨fun f hf hlive hdue => ?start, sweepStart_stands, fun f => sweepStart_early, ?deadline⟩
  case start =>
    obtain ⟨hfrm, hepochs, hswept⟩ := sweepMarked_frames (MarksFrames.foldl (fun t n => .sweepRope f.epoch n t) (List.range 8) (sweepMarked f.epoch s))
    refine ⟨_, sweepStart_eq hf hlive hdue, hfrm, hepochs, hswept, fun n hn hl hen hmode htie => ?_⟩
    exact sweepRopes_begin (s := sweepMarked f.epoch s) hn hl hen
      (Bool.or_eq_false_iff.2 ⟨Option.isSome_eq_false_iff.2 (Option.isNone_iff_eq_none.2 htie), beq_eq_false_iff_ne.2 hmode⟩) f.epoch
  case deadline =>
    have hmarks : MarksFrames s ((List.range 8).foldl sweepLate s) := .foldl .sweepLate ..
    have hstop := SweepsStayOver.stopRopes ((List.range 8).foldl sweepLate s)
    refine ⟨_, sweepDeadline_eq s, ?_, hstop.cfg.trans hmarks.cfg, fun n w f hn hl hw hrun hf hepoch hdue => ?_⟩
    · rw [hstop.frm, hmarks.frm]
    · exact (hstop.ended n w.epoch (sweepLates_end hn hl hw hrun hf hepoch hdue)).spec

end Sys2Proof.Machine

namespace Sys2Proof.Machine

/-! ### What moves with a traverse job (R304, R305, R309) -/

/-- From `s` to `t` nothing moves but the traverse engine, what it writes to host memory and the VCORE that follows the work. -/
def TraverseOnly (s t : State) : Prop := t = { s with trv := t.trv, hostMem := t.hostMem, pwr := t.pwr, free := t.free }

theorem TraverseOnly.trans {s t u : State} (h : TraverseOnly s t) (k : TraverseOnly t u) : TraverseOnly s u :=
  Eq.trans k (congrArg (fun v : State => { v with trv := u.trv, hostMem := u.hostMem, pwr := u.pwr, free := u.free }) h)

theorem dealLane_jobs (s : State) (i : Nat) : (dealLane s i).trv.jobs = s.trv.jobs := by
  unfold dealLane
  repeat' split
  all_goals rfl

@[simp] theorem settleWork_jobs (s : State) : (settleWork s).trv.jobs = s.trv.jobs := by
  have hlanes : (settleWork s).trv = (dealLanes s).trv := by simp [settleWork]
  rw [hlanes, dealLanes, foldl_keeps (fun s : State => s.trv.jobs) dealLane dealLane_jobs]

/-- Work that has come or gone reaches the lanes and VCORE. -/
theorem settleWork_traverseOnly (s : State) : TraverseOnly s (settleWork s) := by
  apply State.ext_fields <;> simp

/-- A completion, posted or held, moves neither the link nor whether writes are held. -/
theorem PostsOnly.complete (op : Nat) (sub : Submission) (st : Nat) (r : List Byte) (s : State) : PostsOnly s (complete op sub st r s) := by
  unfold Sys2Proof.Machine.complete
  split
  · exact ⟨rfl, rfl, rfl⟩
  · exact .finishCmd ..

theorem finishAborts_postsOnly (j : Job) (st : Nat) (s : State) : PostsOnly s (finishAborts j st s) :=
  List.foldlRecOn (motive := PostsOnly s) _ _ (.refl s) (fun _ h _ _ => h.trans (.complete ..))

theorem PostsOnly.trv {s t : State} (h : PostsOnly s t) : t.trv = s.trv := by rw [h.frame]

/-- From `s` to `t` jobs move and commands complete. -/
def JobsAndPosts (s t : State) : Prop := t = { s with trv := t.trv, hostMem := t.hostMem, hif := t.hif, pwr := t.pwr, free := t.free }

theorem JobsAndPosts.trans {s t u : State} (h : JobsAndPosts s t) (k : JobsAndPosts t u) : JobsAndPosts s u :=
  Eq.trans k (congrArg (fun v : State => { v with trv := u.trv, hostMem := u.hostMem, hif := u.hif, pwr := u.pwr, free := u.free }) h)

theorem JobsAndPosts.of_traverseOnly {s t : State} (h : TraverseOnly s t) : JobsAndPosts s t := by
  have hhif : t.hif = s.hif := by rw [h]
  exact Eq.trans h (by rw [hhif])

theorem JobsAndPosts.of_postsOnly {s t : State} (h : PostsOnly s t) : JobsAndPosts s t := by
  have hpwr : t.pwr = s.pwr := by rw [h.frame]
  have hfree : t.free = s.free := by rw [h.frame]
  exact h.frame.trans (by rw [h.trv, hpwr, hfree])

/-- From `a` to `b` a job's trajectory points are counted and written to host memory (R309). -/
structure PointsOnly (a b : Job × State) : Prop where
  job   : b.1 = { a.1 with trajDone := b.1.trajDone }
  state : b.2 = { a.2 with hostMem := b.2.hostMem }

namespace PointsOnly
variable {a b c : Job × State}

theorem refl (a : Job × State) : PointsOnly a a := ⟨rfl, rfl⟩

theorem trans (h : PointsOnly a b) (k : PointsOnly b c) : PointsOnly a c where
  job := k.job.trans (congrArg (fun j : Job => { j with trajDone := c.1.trajDone }) h.job)
  state := k.state.trans (congrArg (fun s : State => { s with hostMem := c.2.hostMem }) h.state)

theorem writePoint (t : Nat) (l : List SimStr) (a : Job × State) : PointsOnly a (writePoint t l a) := ⟨rfl, rfl⟩

theorem writePoints (t0 t1 : Nat) (ends : Bool) (l : List StrStep) (dt : Nat) (a : Job × State) : PointsOnly a (writePoints t0 t1 ends l dt a) :=
  List.foldlRecOn (motive := PointsOnly a) _ _ (.refl a) (fun _ h _ _ => h.trans (.writePoint ..))

theorem ite {p : Prop} [Decidable p] (h : PointsOnly a b) : PointsOnly a (if p then b else a) := by
  split
  · exact h
  · exact .refl a

theorem writeFinal (a : Job × State) : PointsOnly a (writeFinal a) := by
  unfold Machine.writeFinal
  exact .ite (.writePoint ..)

theorem jobs (h : PointsOnly a b) : b.2.trv.jobs = a.2.trv.jobs := by rw [h.state]

theorem traverseOnly (h : PointsOnly a b) : TraverseOnly a.2 b.2 := by rw [h.state]; rfl

theorem kept (h : PointsOnly a b) : b.1.desc = a.1.desc ∧ b.1.steps = a.1.steps ∧ b.1.aborts = a.1.aborts := by
  rw [h.job]
  exact ⟨rfl, rfl, rfl⟩

end PointsOnly

/-! ### A job takes its own place (R304) -/

/-- From `s` to `t` job `k` takes the place of the job of its number, and nothing moves but that, the turn and host memory. -/
structure TakesPlace (k : Job) (s t : State) : Prop where
  jobs  : t.trv.jobs = s.trv.jobs.map (fun i => if i.desc.jobId = k.desc.jobId then k else i)
  frame : TraverseOnly s t

namespace TakesPlace
variable {k : Job} {s t : State}

theorem putJob (k : Job) (s : State) : TakesPlace k s (putJob k s) := ⟨rfl, rfl⟩

/-- What kept the jobs before it does not matter. -/
theorem after {u : State} (h : TakesPlace k u t) (hjobs : u.trv.jobs = s.trv.jobs) (hframe : TraverseOnly s u) : TakesPlace k s t :=
  ⟨hjobs ▸ h.jobs, hframe.trans h.frame⟩

theorem afterPoints {a b : Job × State} (h : TakesPlace k b.2 t) (hpoints : PointsOnly a b) : TakesPlace k a.2 t :=
  h.after hpoints.jobs hpoints.traverseOnly

theorem mem (h : TakesPlace k s t) {i : Job} (hi : i ∈ s.trv.jobs) (hid : i.desc.jobId = k.desc.jobId) : k ∈ t.trv.jobs := by
  rw [h.jobs]
  exact List.mem_map.2 ⟨i, hi, if_pos hid⟩

/-- Whatever bears the job's number is the job. -/
theorem eq_of_jobId (h : TakesPlace k s t) {i : Job} (hi : i ∈ t.trv.jobs) (hid : i.desc.jobId = k.desc.jobId) : i = k := by
  rw [h.jobs] at hi
  obtain ⟨x, -, rfl⟩ := List.mem_map.1 hi
  split at hid
  next hx => exact if_pos hx
  next hx => exact absurd hid hx

/-- A job that no command waits to abort goes on after its chunk. -/
theorem abortAtChunk_eq (h : TakesPlace k s t) (hno : k.aborts = []) : abortAtChunk k.desc.jobId t = t := by
  unfold abortAtChunk
  split
  next => rfl
  next i hfind =>
    have hid := List.find?_some hfind
    obtain rfl := h.eq_of_jobId (List.mem_of_find?_eq_some hfind) (by simpa using hid)
    exact if_pos (by simp [hno])

end TakesPlace

theorem leaveTurn_frame (id : Nat) (s : State) : leaveTurn id s = { s with trv := { s.trv with turn := (leaveTurn id s).trv.turn } } := by
  unfold leaveTurn
  split <;> rfl

/-- A job that ends keeps all but its end and the count of its points. -/
theorem endJob_takesPlace (r time : Nat) (j : Job) (s : State) :
    ∃ k, TakesPlace k s (endJob r time j s) ∧ k = { j with endReason := some r, endTime := time, trajDone := k.trajDone } := by
  have hpoints := PointsOnly.writeFinal ({ j with endReason := some r, endTime := time }, leaveTurn j.desc.jobId s)
  have hleft : TakesPlace _ (leaveTurn j.desc.jobId s) (endJob r time j s) := (TakesPlace.putJob ..).afterPoints hpoints
  exact ⟨_, hleft.after (by rw [leaveTurn_frame]) (by rw [leaveTurn_frame]; rfl), hpoints.job⟩

/-- A job put in its place with its points keeps its descriptor, its steps and the commands that wait to abort it. -/
theorem PointsOnly.putJob_keeps {j : Job} {s : State} {b : Job × State} (h : PointsOnly (j, s) b) :
    ∃ k, TakesPlace k s (putJob b.1 b.2) ∧ k.desc = j.desc ∧ k.steps = j.steps ∧ k.aborts = j.aborts :=
  ⟨b.1, (TakesPlace.putJob ..).afterPoints h, h.kept⟩

/-- So does one that ends. -/
theorem PointsOnly.endJob_keeps {j : Job} {s : State} {b : Job × State} (h : PointsOnly (j, s) b) (r time : Nat) (l : List SimStr) :
    ∃ k, TakesPlace k s (endJob r time { b.1 with strs := l } b.2) ∧ k.desc = j.desc ∧ k.steps = j.steps ∧ k.aborts = j.aborts := by
  obtain ⟨k, hplace, hk⟩ := endJob_takesPlace r time { b.1 with strs := l } b.2
  refine ⟨k, hplace.afterPoints h, ?_⟩
  rw [hk]
  exact h.kept

/-- A step counts itself; the job keeps its descriptor and the commands that wait to abort it. -/
theorem jobStep_takesPlace (j : Job) (s : State) :
    ∃ k, TakesPlace k s (jobStep j s) ∧ k.desc = j.desc ∧ k.steps = j.steps + 1 ∧ k.aborts = j.aborts := by
  unfold jobStep
  dsimp only
  split
  next => exact PointsOnly.putJob_keeps (.writePoints ..)
  next => exact PointsOnly.endJob_keeps (.writePoints ..) ..

/-! ### A job is queued and admitted (R292 to R294) -/

/-- TRAVERSE_START in RUN that passes its checks queues its job. -/
theorem traverseStart_queues {s : State} {sub : Submission} {buf : DmaRead} (hrun : s.pwr.state = .run) (hw : s.cmdWaits 0x20 sub = false)
    (hcairn : s.cairn.lastDone.isSome = true) (hwork : s.diag.work ≠ []) (hform : sub.formOk [] = true) (hbuf : sub.hasBuf (sub.bufLen == 64) = true)
    (hread : buf.isSome = true) (hfields : jobFieldsOk s (bufBytes sub buf) = true) :
    ∃ t, exec (.traverseStart sub buf) s = .next t ∧ (∃ j, t.trv.jobs = s.trv.jobs ++ [j] ∧ j.sub = sub ∧ j.desc = parseJob (bufBytes sub buf) ∧
      j.running = false ∧ j.endReason = none) ∧ t = { s with trv := t.trv, pwr := t.pwr, free := t.free } := by
  change ∃ t, execTraverseStart sub buf s = _ ∧ _
  unfold execTraverseStart
  have haccepts : s.accepts 0x20 = true := State.accepts_of_live (by simp [State.live, hrun]) _
  exact ⟨_, runCmd_of_checked hw (by simp [hform, hbuf, haccepts, hrun, hcairn, hwork, bufRead, hread, hfields]),
    ⟨_, rfl, rfl, rfl, rfl, rfl⟩, rfl⟩

/-- A profile that is not read ends its job before it runs. -/
theorem traverseAdmission_unread {s : State} {j : Job} (hnext : (queuedJobs s).head? = some j) (hroom : jobsRunning s < 2 * s.diag.work.length)
    (ambient : DmaRead) : exec (.traverseAdmission none ambient) s =
      .next (settleVcore (complete 0x20 j.sub stDmaError (jobResult j) (dropJob j.desc.jobId s))) := by
  change execTraverseAdmission none ambient s = _
  rw [execTraverseAdmission, hnext]
  exact (if_neg (by omega)).trans (if_pos rfl)

/-- A job whose points have been begun runs as it is, after those admitted before it. -/
theorem PointsOnly.admitted {j : Job} {s : State} {b : Job × State} (h : PointsOnly (j, s) b) :
    (∃ k ∈ (settleWork (admitJob b.1 b.2)).trv.jobs, k.desc = j.desc ∧ k.running = j.running ∧ k.startEpoch = j.startEpoch ∧ k.admitTick = j.admitTick) ∧
    TraverseOnly s (settleWork (admitJob b.1 b.2)) := by
  have hframe : TraverseOnly b.2 (admitJob b.1 b.2) := rfl
  refine ⟨⟨b.1, by simp [admitJob], ?_⟩, (h.traverseOnly.trans hframe).trans (settleWork_traverseOnly _)⟩
  rw [h.job]
  exact ⟨rfl, rfl, rfl, rfl⟩

/-- The job as it is admitted, seeded from the last cairn. -/
def Job.admitted (profile ambient : DmaRead) (s : State) (j : Job) : Job :=
  { j with running := true, profile := (slices j.desc.nSteps 36 (profile.getD [])).map parseProf
           ambient := (slices j.desc.nAmb 8 (ambient.getD [])).map (fun b => (fieldU b 0 4, fieldS b 4 2))
           startEpoch := s.est.seed.epoch, startTime := s.est.seed.tSample, strs := (List.range 8).map (seedStr s j.desc), admitTick := s.clk.ticks }

theorem traverseAdmission_admits {s : State} {j : Job} {profile ambient : DmaRead} (hnext : (queuedJobs s).head? = some j)
    (hroom : jobsRunning s < 2 * s.diag.work.length) (hread : profile.isSome = true) (htrace : j.desc.ambTrace = true → ambient.isSome = true)
    (hprof : (slices j.desc.nSteps 36 (profile.getD [])).all (profOk j.desc) = true)
    (hamb : (slices j.desc.nAmb 8 (ambient.getD [])).all (fun b => fieldU b 6 2 == 0) = true)
    (hrising : ambRising ((slices j.desc.nAmb 8 (ambient.getD [])).map (fun b => (fieldU b 0 4, fieldS b 4 2))) = true) :
    ∃ t, exec (.traverseAdmission profile ambient) s = .next t ∧ (∃ k ∈ t.trv.jobs, k.desc = j.desc ∧ k.running = true ∧
      k.startEpoch = s.est.seed.epoch ∧ k.admitTick = s.clk.ticks) ∧ TraverseOnly s t := by
  change ∃ t, execTraverseAdmission profile ambient s = _ ∧ _
  rw [execTraverseAdmission, hnext]
  dsimp only
  rw [if_neg (by omega), if_neg (by simpa [Option.isNone_eq_false_iff.2 hread, ← Option.isSome_iff_ne_none] using htrace),
    if_neg (by simp [hprof, hamb, hrising])]
  exact ⟨_, rfl, PointsOnly.admitted (j := j.admitted profile ambient s) (.ite (.writePoint ..))⟩

/-! ### A chunk ends, and the wall limit (R304, R305, R311, R314) -/

/-- The job that a chunk or a wall limit names is among the jobs, under that number. -/
theorem mem_of_find_running {s : State} {id : Nat} {j : Job}
    (h : s.trv.jobs.find? (fun j => j.desc.jobId == id && j.running && j.endReason.isNone) = some j) : j ∈ s.trv.jobs ∧ j.desc.jobId = id := by
  have hj := List.find?_some h
  simp only [Bool.and_eq_true, beq_iff_eq] at hj
  obtain ⟨⟨hid, -⟩, -⟩ := hj
  exact ⟨List.mem_of_find?_eq_some h, hid⟩

/-- A chunk ends only on the lane that holds it. -/
theorem traverseChunkEnd_elsewhere {s : State} {id lane : Nat} (h : s.trv.lanes.getD lane .idle ≠ .chunk id) (ok last : Bool) :
    exec (.traverseChunkEnd id lane ok last) s = .next s := by
  change execTraverseChunkEnd id lane ok last s = _
  exact if_pos (by simpa using h)

/-- A result that fails its residue check is discarded, and its lane reported (R499). -/
theorem traverseChunkEnd_discards {s : State} {id lane : Nat} (h : s.trv.lanes.getD lane .idle = .chunk id) (last : Bool) :
    exec (.traverseChunkEnd id lane false last) s =
      .next (settleWork (abortIdle id (fileReport { target := 3, index := lane } (freeLane lane s)))) := by
  change execTraverseChunkEnd id lane false last s = _
  exact (if_neg (by simpa using h)).trans (if_pos rfl)

/-- A good chunk of a running job: the step is taken where it was the last one, and an abort that waits is served. -/
theorem traverseChunkEnd_good {s : State} {id lane : Nat} {j : Job} (h : s.trv.lanes.getD lane .idle = .chunk id)
    (hj : s.trv.jobs.find? (fun j => j.desc.jobId == id && j.running && j.endReason.isNone) = some j) (last : Bool) :
    exec (.traverseChunkEnd id lane true last) s =
      .next (settleWork (abortAtChunk id (if last then jobStep j (freeLane lane s) else freeLane lane s))) := by
  change execTraverseChunkEnd id lane true last s = _
  have hfreed : (freeLane lane s).trv.jobs.find? (fun j => j.desc.jobId == id && j.running && j.endReason.isNone) = some j := hj
  refine (if_neg (by simpa using h)).trans ((if_neg (by simp)).trans ?_)
  rw [hfreed]

/-- The last chunk of a step that no abort waits for. -/
theorem traverseChunkEnd_steps {s : State} {id lane : Nat} {j : Job} (h : s.trv.lanes.getD lane .idle = .chunk id)
    (hj : s.trv.jobs.find? (fun j => j.desc.jobId == id && j.running && j.endReason.isNone) = some j) (hno : j.aborts = []) :
    ∃ t, exec (.traverseChunkEnd id lane true true) s = .next t ∧ t = settleWork (jobStep j (freeLane lane s)) ∧
      (∃ k ∈ t.trv.jobs, k.desc.jobId = id ∧ k.steps = j.steps + 1) ∧ TraverseOnly s t := by
  obtain ⟨hmem, rfl⟩ := mem_of_find_running hj
  obtain ⟨k, hplace, hdesc, hsteps, haborts⟩ := jobStep_takesPlace j (freeLane lane s)
  have hgoes : abortAtChunk j.desc.jobId (jobStep j (freeLane lane s)) = jobStep j (freeLane lane s) :=
    hdesc ▸ hplace.abortAtChunk_eq (haborts.trans hno)
  have hfree : TraverseOnly s (freeLane lane s) := rfl
  refine ⟨_, traverseChunkEnd_good h hj true, congrArg settleWork hgoes, ⟨k, ?_, by rw [hdesc], hsteps⟩, ?_⟩
  · rw [if_pos rfl, hgoes, settleWork_jobs]
    exact hplace.mem hmem (by rw [hdesc])
  · rw [if_pos rfl, hgoes]
    exact (hfree.trans hplace.frame).trans (settleWork_traverseOnly _)

/-- A job's wall limit ends it with END_REASON 5, and the commands that wait for its abort. -/
theorem traverseWallTimeout_ends {s : State} {id : Nat} {j : Job}
    (hj : s.trv.jobs.find? (fun j => j.desc.jobId == id && j.running && j.endReason.isNone) = some j) (hwall : j.desc.maxWall ≠ 0)
    (hlate : j.admitTick + j.desc.maxWall * 24000000 < s.clk.ticks) :
    ∃ t, exec (.traverseWallTimeout id) s = .next t ∧
      (∃ k ∈ t.trv.jobs, k.desc.jobId = id ∧ k.endReason = some 5 ∧ k.endTime = j.simTime ∧ k.aborts = []) ∧
      JobsAndPosts s t := by
  obtain ⟨hmem, rfl⟩ := mem_of_find_running hj
  obtain ⟨k, hplace, hk⟩ := endJob_takesPlace 5 j.simTime { j with aborts := [] } s
  have hposts := finishAborts_postsOnly j stBadState (endJob 5 j.simTime { j with aborts := [] } s)
  have hended : exec (.traverseWallTimeout j.desc.jobId) s =
      .next (settleWork (finishAborts j stBadState (endJob 5 j.simTime { j with aborts := [] } s))) := by
    change execTraverseWallTimeout j.desc.jobId s = _
    rw [execTraverseWallTimeout, hj]
    dsimp only
    rw [if_neg (by simp [hwall, hlate])]
  refine ⟨_, hended, ⟨k, ?mem, ?ended⟩, ?frame⟩
  case mem =>
    rw [settleWork_jobs, hposts.trv]
    exact hplace.mem hmem (by rw [hk])
  case ended =>
    rw [hk]
    exact ⟨rfl, rfl, rfl, rfl⟩
  case frame =>
    exact ((JobsAndPosts.of_traverseOnly hplace.frame).trans (.of_postsOnly hposts)).trans (.of_traverseOnly (settleWork_traverseOnly _))

/-! ### Results and TRAVERSE_ABORT (R310, R311) -/

theorem endStatus_ok {r : Nat} : endStatus r = stOK ↔ r ≤ 3 := by
  unfold endStatus
  split
  · simp [*]
  · split <;> simp [*]

/-- Every write done, or the results alone where the trajectory's failed: the job leaves with its completion and its event. -/
theorem traverseResultsDone_leaves {s : State} {id r : Nat} {j : Job}
    (hj : s.trv.jobs.find? (fun j => j.desc.jobId == id && j.endReason.isSome) = some j) (hr : j.endReason = some r) (hrun : j.running = true)
    (hno : j.aborts = []) (traj : Bool) :
    exec (.traverseResultsDone id ⟨traj, true⟩) s =
      .next (settleVcore (raise (if traj = true ∧ r ≤ 3 then 34 else 35) id
        (complete 0x20 j.sub (if traj then endStatus r else stDmaError) (jobResult j) (dropJob id (s.dma j.desc.resAddr (resultsBlock s j)))))) := by
  change execTraverseResultsDone id ⟨traj, true⟩ s = _
  rw [execTraverseResultsDone, hj]
  cases traj <;> simp [hr, hrun, hno, finishAborts, endStatus_ok]

/-- TRAVERSE_ABORT of a job that has not ended, once its checks pass. -/
theorem traverseAbort_eq {s : State} {sub : Submission} {j : Job} (hlive : s.live = true) (hw : s.cmdWaits 0x21 sub = false)
    (hform : sub.formOk [(0, 2)] = true) (hbuf : sub.noBuf = true)
    (hj : s.trv.jobs.find? (fun j => j.desc.jobId == sub.pU 0 2 && j.endReason.isNone) = some j) :
    exec (.traverseAbort sub) s = .next (if !j.running then settleVcore (abortQueued { j with aborts := j.aborts ++ [sub] } s)
      else if chunkHeld (sub.pU 0 2) s then putJob { j with aborts := j.aborts ++ [sub] } s
      else endJob 4 j.simTime { j with aborts := j.aborts ++ [sub] } s) := by
  change execTraverseAbort sub s = _
  rw [execTraverseAbort, hj]
  exact runCmd_of_checked hw (by simp [hform, hbuf, State.accepts_of_live hlive])

/-- Settles O52, stage by stage of a job's life. -/
theorem traverseJobLife : Obligations.TraverseJobLife := by
  intro s
  refine ⟨fun sub buf => traverseStart_queues, fun j profile ambient hnext hroom => ⟨?unread, traverseAdmission_admits hnext hroom⟩,
    fun id lane j hj => ⟨fun hlane => ⟨traverseChunkEnd_discards hlane true, traverseChunkEnd_good hlane hj false, traverseChunkEnd_steps hlane hj⟩,
      traverseWallTimeout_ends hj⟩,
    fun id lane ok last hlane => traverseChunkEnd_elsewhere hlane ok last, fun id j r hj hr hrun hno => ⟨?done, traverseResultsDone_leaves hj hr hrun hno false⟩,
    fun sub j hlive hw hform hbuf hj => ?abort⟩
  case unread =>
    rintro rfl
    exact traverseAdmission_unread hnext hroom ambient
  case done => simpa using traverseResultsDone_leaves hj hr hrun hno true
  case abort =>
    rw [traverseAbort_eq hlive hw hform hbuf hj]
    exact ⟨fun hrun => by simp [hrun], fun hrun hheld => by simp [hrun, hheld], fun hrun hheld => by simp [hrun, hheld]⟩

end Sys2Proof.Machine

namespace Sys2Proof.Machine

/-! ### Resets of the host interface (R310, R337, R340, R484) -/

/-- The host interface once its reset has come: every ring off, what stands in the table without a completion, every event enabled. -/
structure Cleared (s : State) : Prop where
  rings  : s.hif.rings = Hif.reset.rings
  posts  : s.hif.writesHeld = false
  table  : ∀ e ∈ s.hif.table, e.orphan = true ∧ e.started = true
  events : s.evt.en = Evt.reset.en

theorem Cleared.ring {s : State} (h : Cleared s) (n : Nat) : (s.ring n).en = false := by
  rw [State.ring, h.rings]
  simp only [Hif.reset, List.getD_eq_getElem?_getD, List.getElem?_replicate]
  split <;> rfl

/-- From `s` to `t` commands leave the table without a completion, and EV35 may come. -/
structure Drops (s t : State) : Prop where
  table  : t.hif.table ⊆ s.hif.table
  hif    : t.hif = { s.hif with table := t.hif.table }
  evt    : t.evt = { s.evt with pend := t.evt.pend, hot := t.evt.hot }
  others : ∀ i, i ≠ 35 → t.evt.pend.getLsbD i = s.evt.pend.getLsbD i
  frame  : t = { s with hif := t.hif, evt := t.evt }

namespace Drops
variable {s t u : State}

theorem refl (s : State) : Drops s s := ⟨fun _ h => h, rfl, rfl, fun _ _ => rfl, rfl⟩

theorem trans (h : Drops s t) (k : Drops t u) : Drops s u where
  table := fun _ he => h.table (k.table he)
  hif := k.hif.trans (congrArg (fun x : Hif => { x with table := u.hif.table }) h.hif)
  evt := k.evt.trans (congrArg (fun x : Evt => { x with pend := u.evt.pend, hot := u.evt.hot }) h.evt)
  others := fun i hi => (k.others i hi).trans (h.others i hi)
  frame := k.frame.trans (congrArg (fun v : State => { v with hif := u.hif, evt := u.evt }) h.frame)

theorem cleared (h : Drops s t) (hs : Cleared s) : Cleared t where
  rings := by rw [h.hif]; exact hs.rings
  posts := by rw [h.hif]; exact hs.posts
  table := fun e he => hs.table e (h.table he)
  events := by rw [h.evt]; exact hs.events

/-- A command ends: its table entry goes, and nothing is posted. -/
theorem complete (hs : Cleared s) (op : Nat) (sub : Submission) (st : Nat) (r : List Byte) : Drops s (complete op sub st r s) := by
  have hquiet : finishCmd op sub st r s = s ∨ ∃ e, finishCmd op sub st r s = { s with hif := { s.hif with table := s.hif.table.erase e } } := by
    unfold finishCmd
    cases he : tableEntry op sub s with
    | none => exact .inl (by simp [postCompletion, hs.ring])
    | some e =>
      have horphan := (hs.table e (List.mem_of_find?_eq_some he)).1
      exact .inr ⟨e, by simp [horphan]⟩
  rw [Machine.complete, if_neg (by simp [hs.posts])]
  rcases hquiet with h | ⟨e, h⟩
  · rw [h]; exact .refl s
  · rw [h]; exact ⟨List.erase_subset, rfl, rfl, fun _ _ => rfl, rfl⟩

/-- EV35 comes, and no ring takes an entry of it. -/
theorem raise (hs : Cleared s) (info : Nat) : Drops s (raise 35 info s) := by
  have hen : s.evt.en.getLsbD 35 = true := by rw [hs.events]; decide
  have hraise : Machine.raise 35 info s = { s with evt := { s.evt with pend := s.evt.pend ||| (1#64 <<< 35), hot := s.evt.hot.mark s.clk.ticks (2 ^ 35) } } := by
    rw [raise_eq_of_unlogged info s (by decide), recordEvent, if_pos hen, hs.ring 8]
    rfl
  rw [hraise]
  refine ⟨fun _ h => h, rfl, rfl, fun i hi => ?_, rfl⟩
  have hbit : (1#64 <<< 35).getLsbD i = false := by
    rw [BitVec.getLsbD_shiftLeft, BitVec.getLsbD_one]
    by_cases hlt : i < 35
    · simp [hlt]
    · simp [show i - 35 ≠ 0 by omega]
  rw [BitVec.getLsbD_or, hbit, Bool.or_false]

theorem foldl {α : Type} {f : State → α → State} (l : List α) (hf : ∀ t, Cleared t → ∀ a, Drops t (f t a)) (hs : Cleared s) : Drops s (l.foldl f s) :=
  List.foldlRecOn (motive := Drops s) _ _ (.refl s) (fun t ht a _ => ht.trans (hf t (ht.cleared hs) a))

end Drops

/-- A job goes with its command and those that wait for its abort; EV35 names one that ran (R310). -/
def dropOne (s : State) (j : Job) : State :=
  j.aborts.foldl (fun s a => complete 0x21 a stOK [] s)
    (if j.running then raise 35 j.desc.jobId (complete 0x20 j.sub stAborted (jobResult j) s) else complete 0x20 j.sub stAborted (jobResult j) s)

theorem dropOne_drops {s : State} (hs : Cleared s) (j : Job) :
    Drops s (dropOne s j) ∧ (dropOne s j).evt.pend.getLsbD 35 = (s.evt.pend.getLsbD 35 || j.running) := by
  have hdone := Drops.complete hs 0x20 j.sub stAborted (jobResult j)
  have hcleared := hdone.cleared hs
  have haborts : ∀ t, (j.aborts.foldl (fun s a => complete 0x21 a stOK [] s) t).evt = t.evt := fun t =>
    foldl_keeps (fun s : State => s.evt) _ (fun s a => by simp) _ _
  unfold dropOne
  rw [haborts]
  cases hrun : j.running with
  | false => exact ⟨hdone.trans (.foldl _ (fun t ht a => .complete ht ..) hcleared), by simp⟩
  | true =>
    have hraised := hdone.trans (.raise hcleared j.desc.jobId)
    refine ⟨hraised.trans (.foldl _ (fun t ht a => .complete ht ..) (hraised.cleared hs)), ?_⟩
    rw [Bool.or_true]
    exact raise_pends _ (by rw [hcleared.events]; decide)

theorem dropAll_pends {s : State} (hs : Cleared s) (l : List Job) :
    (l.foldl dropOne s).evt.pend.getLsbD 35 = (s.evt.pend.getLsbD 35 || l.any (·.running)) := by
  induction l generalizing s with
  | nil => simp
  | cons j l ih =>
    obtain ⟨hdrops, hpend⟩ := dropOne_drops hs j
    rw [List.foldl_cons, ih (hdrops.cleared hs), hpend, List.any_cons, Bool.or_assoc]

/-- The host interface, the events and what hangs on them at a reset of the host interface, before the jobs go. -/
def hostCleared (s : State) : State :=
  { s with
    hif := { Hif.reset with
      table := (s.hif.table.filter (fun e => e.started && !s.hif.held.any (fun d => d.opcode == e.opcode && d.sub == e.sub))).map
        (fun e => { e with orphan := true })
      linkUp := s.hif.linkUp, perst := s.hif.perst, heartbeat := s.hif.heartbeat, readData := s.hif.readData, beatTick := s.clk.ticks }
    evt := Evt.reset, cairn := { s.cairn with cut := s.cairn.writing.isSome }, sar := { s.sar with mirror := false }
    trv := { s.trv with jobs := [], turn := none } }

theorem hostReset_eq (s : State) : hostReset s = settleWork (s.trv.jobs.foldl dropOne (hostCleared s)) := rfl

theorem hostCleared_cleared (s : State) : Cleared (hostCleared s) where
  rings := rfl
  posts := rfl
  table := fun e he => by
    obtain ⟨x, hx, rfl⟩ := List.mem_map.1 he
    have hkept := (List.mem_filter.1 hx).2
    simp only [Bool.and_eq_true] at hkept
    exact ⟨rfl, hkept.1⟩
  events := rfl

/-- What a reset of the host interface leaves (R310, R337, R340, R484); the link is the cause's own. -/
structure HostReset (s t : State) : Prop where
  evt    : t.evt = { Evt.reset with pend := t.evt.pend, hot := t.evt.hot }
  others : ∀ i, i ≠ 35 → t.evt.pend.getLsbD i = false
  ran    : t.evt.pend.getLsbD 35 = true ↔ ∃ j ∈ s.trv.jobs, j.running = true
  rings  : t.hif.rings = Hif.reset.rings
  table  : ∀ e ∈ t.hif.table, e.orphan = true ∧ e.started = true
  jobs   : t.trv.jobs = []
  power  : t.pwr.state = s.pwr.state
  frame  : t = { s with hif := t.hif, evt := t.evt, sar := { s.sar with mirror := false }, cairn := { s.cairn with cut := s.cairn.writing.isSome }
                        trv := t.trv, pwr := t.pwr, free := t.free }

theorem HostReset.withHif {s t : State} (h : HostReset s t) {x : Hif} (hrings : x.rings = t.hif.rings) (htable : x.table = t.hif.table) :
    HostReset s { t with hif := x } where
  evt := h.evt
  others := h.others
  ran := h.ran
  rings := hrings.trans h.rings
  table := htable ▸ h.table
  jobs := h.jobs
  power := h.power
  frame := congrArg (fun v : State => { v with hif := x }) h.frame

@[simp] theorem settleVcore_state (s : State) : (settleVcore s).pwr.state = s.pwr.state := rfl

@[simp] theorem settleWork_state (s : State) : (settleWork s).pwr.state = s.pwr.state := by simp [settleWork]

theorem hostReset_resets (s : State) : HostReset s (hostReset s) ∧ (hostReset s).hif.linkUp = s.hif.linkUp := by
  have hclear := hostCleared_cleared s
  have hdrops : Drops (hostCleared s) (s.trv.jobs.foldl dropOne (hostCleared s)) := .foldl _ (fun t ht j => (dropOne_drops ht j).1) hclear
  have hpend := dropAll_pends hclear s.trv.jobs
  rw [hostReset_eq]
  generalize s.trv.jobs.foldl dropOne (hostCleared s) = t at hdrops hpend ⊢
  have hafter := hdrops.cleared hclear
  have hhif : (settleWork t).hif = t.hif := by simp
  have hevt : (settleWork t).evt = t.evt := by simp
  refine ⟨{ evt := ?evt, others := ?others, ran := ?ran, rings := ?rings, table := ?table, jobs := ?jobs, power := ?power, frame := ?frame }, ?link⟩
  case evt =>
    rw [hevt]
    exact hdrops.evt
  case others =>
    intro i hi
    rw [hevt, hdrops.others i hi]
    exact BitVec.getLsbD_zero
  case ran =>
    have hnone : (hostCleared s).evt.pend.getLsbD 35 = false := BitVec.getLsbD_zero
    rw [hevt, hpend, hnone, Bool.false_or, List.any_eq_true]
  case rings =>
    rw [hhif, hafter.rings]
  case table =>
    rw [hhif]
    exact hafter.table
  case jobs =>
    rw [settleWork_jobs, hdrops.frame]; rfl
  case power =>
    rw [settleWork_state, hdrops.frame]; rfl
  case frame =>
    have hwork : settleWork t = { t with trv := (settleWork t).trv, pwr := (settleWork t).pwr, free := (settleWork t).free } := by
      apply State.ext_fields <;> simp
    rw [hhif, hevt]
    exact hwork.trans (congrArg (fun v : State => { v with trv := (settleWork t).trv, pwr := (settleWork t).pwr, free := (settleWork t).free })
      hdrops.frame)
  case link =>
    rw [hhif, hdrops.hif]; rfl

/-- A reset of the host interface that sets the link's bits after it. -/
theorem hostReset_link (s : State) (up perst : Bool) :
    HostReset s { hostReset s with hif := { (hostReset s).hif with linkUp := up, perst := perst } } := by
  obtain ⟨hreset, -⟩ := hostReset_resets s
  generalize hostReset s = t at hreset ⊢
  exact hreset.withHif rfl rfl

theorem perst_resets (s : State) : ∃ t, exec .perst s = .next t ∧ HostReset s t ∧ t.hif.linkUp = false :=
  ⟨{ hostReset s with hif := { (hostReset s).hif with linkUp := false, perst := true } }, rfl, hostReset_link s false true, rfl⟩

theorem linkDown_resets (s : State) : ∃ t, exec .linkDown s = .next t ∧ HostReset s t ∧ t.hif.linkUp = false :=
  ⟨{ hostReset s with hif := { (hostReset s).hif with linkUp := false } }, rfl, hostReset_link s false _, rfl⟩

theorem functionLevelReset_resets (s : State) : ∃ t, exec .functionLevelReset s = .next t ∧ HostReset s t ∧ t.hif.linkUp = s.hif.linkUp :=
  ⟨_, rfl, hostReset_resets s⟩

/-! ### HIF_RING_CTRL (R344 to R346) -/

/-- A write of HIF_RING_CTRL that leaves EN as it is: ERR, the vector of a CQ, and SIZE while the ring is off. -/
def Ring.written (now n : Nat) (v : Reg) (r : Ring) : Ring :=
  { r with errBit := r.errBit && !(r.hot.clears now v).getLsbD 2, vec := if 4 ≤ n && n < 8 then v.toNat / 256 % 16 else r.vec
           size := if r.en then r.size else v.toNat / 16 % 16 }

/-- From `s` to `t` ring `n` takes `r`, the other rings are as they were, and nothing moves but the host interface. -/
structure RingTakes (n : Nat) (r : Ring) (s t : State) : Prop where
  length : t.hif.rings.length = s.hif.rings.length
  same   : t.ring n = r
  others : ∀ k, k ≠ n → t.ring k = s.ring k
  frame  : t = { s with hif := t.hif }

theorem RingTakes.modRing {n : Nat} {r : Ring} {s t : State} (h : RingTakes n r s t) (hlen : n < s.hif.rings.length) (f : Ring → Ring) :
    RingTakes n (f r) s (t.modRing n f) where
  length := (State.modRing_length ..).trans h.length
  same := by rw [State.modRing_ring_same (h.length ▸ hlen), h.same]
  others := fun k hk => (State.modRing_ring_other t hk.symm f).trans (h.others k hk)
  frame := congrArg (fun v : State => { v with hif := (t.modRing n f).hif }) h.frame

theorem RingTakes.withHif {n : Nat} {r : Ring} {s t u : State} (h : RingTakes n r s t) (hrings : u.hif.rings = t.hif.rings)
    (hframe : u = { t with hif := u.hif }) : RingTakes n r s u where
  length := hrings ▸ h.length
  same := by rw [State.ring, hrings]; exact h.same
  others := fun k hk => by rw [State.ring, hrings]; exact h.others k hk
  frame := hframe.trans (congrArg (fun v : State => { v with hif := u.hif }) h.frame)

theorem linkSeen_frame (s : State) : linkSeen s = { s with hif := { s.hif with linkUp := (linkSeen s).hif.linkUp } } := by
  unfold linkSeen
  split <;> rfl

/-- The write as the ring takes it, before EN is judged. -/
def ringWritten (v : Reg) (s : State) : State := (linkSeen s).modRing s.hif.ringSel (Ring.written s.clk.ticks s.hif.ringSel v)

theorem ringWritten_takes {v : Reg} {s : State} {n : Nat} (hsel : s.hif.ringSel = n) (hlen : n < s.hif.rings.length) :
    RingTakes n ((s.ring n).written s.clk.ticks n v) s (ringWritten v s) := by
  subst hsel
  have hrings : (linkSeen s).hif.rings = s.hif.rings := by rw [linkSeen_frame]
  have hring : ∀ k, (linkSeen s).ring k = s.ring k := fun k => by rw [State.ring, hrings]; rfl
  refine ⟨?length, ?same, fun k hk => ?others, ?frame⟩
  case length => rw [ringWritten, State.modRing_length, hrings]
  case same => rw [ringWritten, State.modRing_ring_same (by rwa [hrings]), hring]
  case others => rw [ringWritten, State.modRing_ring_other _ hk.symm, hring]
  case frame => rw [ringWritten, linkSeen_frame]; rfl

/-- What EN of the written value does to the ring selected. -/
theorem writeRingCtrl_eq {v : Reg} {s : State} {n : Nat} (hsel : s.hif.ringSel = n) (hn : n < 12) :
    writeRingCtrl v (linkSeen s) =
      if v.getLsbD 0 then (if (s.ring n).en then ringWritten v s else ringOn n (ringWritten v s))
      else (if (s.ring n).en then ringOff n (ringWritten v s) else ringWritten v s) := by
  subst hsel
  have hseen : (linkSeen s).hif.ringSel = s.hif.ringSel ∧ (linkSeen s).clk = s.clk ∧ (linkSeen s).ring s.hif.ringSel = s.ring s.hif.ringSel := by
    rw [linkSeen_frame]
    exact ⟨rfl, rfl, rfl⟩
  obtain ⟨hsel, hclk, hring⟩ := hseen
  unfold writeRingCtrl
  rw [hsel, hclk]
  dsimp only
  rw [hring, if_neg (by omega)]
  rfl

theorem ringWritten_blocks (v : Reg) (s : State) : (ringWritten v s).dbAddr = s.dbAddr ∧ (ringWritten v s).stAddr = s.stAddr := by
  rw [ringWritten, linkSeen_frame]
  exact ⟨rfl, rfl⟩

theorem ringEnable_eq {v : Reg} {s : State} {n : Nat} (hsel : s.hif.ringSel = n) (hn : n < 12) (hv : v.getLsbD 0 = true) (hoff : (s.ring n).en = false) :
    exec (.ringEnable v) s = .next (ringOn n (ringWritten v s)) := by
  change execRingEnable v s = _
  rw [execRingEnable, writeRingCtrl_eq hsel hn, if_pos hv, if_neg (by simp [hoff])]

/-- A ring switched on: both indexes at 0, phase 1, no error (R345). -/
def Ring.begun (r : Ring) : Ring := { r with en := true, err := false, errBit := false, mine := 0, theirs := 0, phase := true }

theorem ringEnable_begins {v : Reg} {s : State} {n : Nat} (hsel : s.hif.ringSel = n) (hn : n < 12) (hlen : n < s.hif.rings.length)
    (hv : v.getLsbD 0 = true) (hoff : (s.ring n).en = false) (hdb : s.dbAddr ≠ 0) (hst : s.stAddr ≠ 0) (hmin : 4 ≤ v.toNat / 16 % 16)
    (hmax : v.toNat / 16 % 16 ≤ 12) :
    ∃ t, exec (.ringEnable v) s = .next t ∧ RingTakes n ((s.ring n).written s.clk.ticks n v).begun s t := by
  have htakes := ringWritten_takes (v := v) hsel hlen
  obtain ⟨hdbw, hstw⟩ := ringWritten_blocks v s
  refine ⟨_, (ringEnable_eq hsel hn hv hoff).trans (congrArg _ (if_neg ?_)), htakes.modRing hlen Ring.begun⟩
  rw [htakes.same, hdbw, hstw]
  simp [Ring.written, hoff, hdb, hst, hmin, hmax]

/-- Without both block addresses or with another SIZE the ring stays off, and ERR_CFG is set (R344, R349). -/
theorem ringEnable_refused {v : Reg} {s : State} {n : Nat} (hsel : s.hif.ringSel = n) (hn : n < 12) (hlen : n < s.hif.rings.length)
    (hv : v.getLsbD 0 = true) (hoff : (s.ring n).en = false)
    (hbad : s.dbAddr = 0 ∨ s.stAddr = 0 ∨ v.toNat / 16 % 16 < 4 ∨ 12 < v.toNat / 16 % 16) :
    ∃ t, exec (.ringEnable v) s = .next t ∧ (t.ring n).en = false ∧ t.hif.errCfg = true ∧ t = { s with hif := t.hif } := by
  have htakes := ringWritten_takes (v := v) hsel hlen
  obtain ⟨hdbw, hstw⟩ := ringWritten_blocks v s
  refine ⟨hifErr 1 (ringWritten v s), (ringEnable_eq hsel hn hv hoff).trans (congrArg _ (if_pos ?bad)), ?off, by simp [hifErr], ?frame⟩
  case bad =>
    rw [htakes.same, hdbw, hstw]
    simpa [Ring.written, hoff, or_assoc] using hbad
  case off => exact (congrArg Ring.en htakes.same).trans hoff
  case frame => exact congrArg (fun u : State => { u with hif := (hifErr 1 (ringWritten v s)).hif }) htakes.frame

/-! ### A ring switched off (R346, R374) -/

theorem dropFetch_rings (n : Nat) (s : State) : (dropFetch n s).hif.rings = s.hif.rings := by
  unfold dropFetch
  split <;> rfl

theorem dropFetch_fetching (n : Nat) (s : State) : (dropFetch n s).hif.fetching ≠ some n := by
  unfold dropFetch
  split
  next => simp
  next h => simpa using h

theorem dropFetch_frame (n : Nat) (s : State) : dropFetch n s = { s with hif := (dropFetch n s).hif } := by
  unfold dropFetch
  split <;> rfl

/-- Ring `n` is off, and for a queue pair a fetch of it is given up. -/
def ringStopped (n : Nat) (s : State) : State :=
  if n < 8 then dropFetch (n % 4) (s.modRing n (fun r => { r with en := false })) else s.modRing n (fun r => { r with en := false })

theorem ringStopped_takes {n : Nat} {s t : State} {r : Ring} (h : RingTakes n r s t) (hlen : n < s.hif.rings.length) :
    RingTakes n { r with en := false } s (ringStopped n t) ∧ (n < 8 → (ringStopped n t).hif.fetching ≠ some (n % 4)) := by
  have hoff := h.modRing hlen (fun r => { r with en := false })
  unfold ringStopped
  split
  next => exact ⟨hoff.withHif (dropFetch_rings ..) (dropFetch_frame ..), fun _ => dropFetch_fetching (n % 4) _⟩
  next hn => exact ⟨hoff, fun h => absurd h hn⟩

/-- From `s` to `t` what a ring of kind `n` keeps is gone: remembered duplicates with an SQ, completions with a CQ, the events that
wait, the mirror. -/
structure RingEmptied (n : Nat) (s t : State) : Prop where
  rings    : t.hif.rings = s.hif.rings
  fetching : t.hif.fetching = s.hif.fetching
  dups     : n < 4 → ∀ d ∈ t.hif.dups, d.sq ≠ n
  table    : 4 ≤ n → n < 8 → ∀ e ∈ t.hif.table, e.sub.sq = n - 4 → e.orphan = true
  events   : n = 8 → t.evt.queue = []
  mirror   : n = 9 → t.sar.mirror = false
  frame    : t = { s with hif := t.hif, evt := t.evt, sar := t.sar }

theorem ringOff_empties (n : Nat) (s : State) : RingEmptied n (ringStopped n s) (ringOff n s) := by
  unfold ringOff
  dsimp only
  rw [← ringStopped]
  generalize ringStopped n s = u
  split
  · refine ⟨rfl, rfl, fun _ d hd => ?_, by omega, by omega, by omega, rfl⟩
    simpa using (List.mem_filter.1 hd).2
  split
  · refine ⟨rfl, rfl, by omega, fun _ _ e he hsq => ?_, by omega, by omega, rfl⟩
    obtain ⟨x, -, rfl⟩ := List.mem_map.1 he
    split at hsq
    next hx => rw [if_pos hx]
    next hx => exact absurd hsq hx
  split
  · exact ⟨rfl, rfl, by omega, by omega, fun _ => rfl, by omega, rfl⟩
  split
  · exact ⟨rfl, rfl, by omega, by omega, by omega, fun _ => rfl, rfl⟩
  · exact ⟨rfl, rfl, by omega, by omega, by omega, by omega, rfl⟩

theorem ringDisable_stops {v : Reg} {s : State} {n : Nat} (hsel : s.hif.ringSel = n) (hn : n < 12) (hlen : n < s.hif.rings.length)
    (hv : v.getLsbD 0 = false) (hon : (s.ring n).en = true) :
    ∃ t, exec (.ringDisable v) s = .next t ∧ (t.ring n).en = false ∧ (∀ k, k ≠ n → t.ring k = s.ring k) ∧
      (n < 4 → ∀ d ∈ t.hif.dups, d.sq ≠ n) ∧ (4 ≤ n → n < 8 → ∀ e ∈ t.hif.table, e.sub.sq = n - 4 → e.orphan = true) ∧
      (n < 8 → t.hif.fetching ≠ some (n % 4)) ∧ (n = 8 → t.evt.queue = []) ∧ (n = 9 → t.sar.mirror = false) ∧
      t = { s with hif := t.hif, evt := t.evt, sar := t.sar } := by
  have hexec : exec (.ringDisable v) s = .next (ringOff n (ringWritten v s)) := by
    change execRingDisable v s = _
    rw [execRingDisable, writeRingCtrl_eq hsel hn, if_neg (by rw [hv]; decide), if_pos hon]
  obtain ⟨hstopped, hfetch⟩ := ringStopped_takes (ringWritten_takes (v := v) hsel hlen) hlen
  have hempty := ringOff_empties n (ringWritten v s)
  generalize ringStopped n (ringWritten v s) = u at hstopped hfetch hempty
  have htakes : RingTakes n _ s { u with hif := (ringOff n (ringWritten v s)).hif } := hstopped.withHif hempty.rings rfl
  generalize ringOff n (ringWritten v s) = t at hexec hempty htakes
  exact ⟨t, hexec, congrArg Ring.en htakes.same, htakes.others, hempty.dups, hempty.table, hempty.fetching ▸ hfetch, hempty.events,
    hempty.mirror, hempty.frame.trans (congrArg (fun w : State => { w with hif := t.hif, evt := t.evt, sar := t.sar }) hstopped.frame)⟩

/-- Settles O41: a reset of the host interface by the jobs that it ends, a ring by the fields that its write takes. -/
theorem linkResetsAndRings : Obligations.LinkResetsAndRings := by
  intro s
  refine ⟨fun c hc => ?resets, rfl, fun v n hsel hn hlen => ⟨fun hv hoff hdb hst hmin hmax => ?begins, ringEnable_refused hsel hn hlen,
    ringDisable_stops hsel hn hlen⟩⟩
  case resets =>
    obtain ⟨t, hexec, hreset, hlink⟩ : ∃ t, exec c s = .next t ∧ HostReset s t ∧
        t.hif.linkUp = (if c = .functionLevelReset then s.hif.linkUp else false) := by
      rcases hc with rfl | rfl | rfl
      · exact perst_resets s
      · exact functionLevelReset_resets s
      · exact linkDown_resets s
    exact ⟨t, hexec, hreset.evt, hreset.others, hreset.ran, hreset.rings, hreset.table, hlink, hreset.jobs, hreset.power, hreset.frame⟩
  case begins =>
    obtain ⟨t, hexec, htakes⟩ := ringEnable_begins hsel hn hlen hv hoff hdb hst hmin hmax
    refine ⟨t, hexec, ?_⟩
    rw [htakes.same]
    exact ⟨rfl, rfl, rfl, rfl, rfl, rfl, by simp [Ring.begun, Ring.written, hoff], htakes.others, htakes.frame⟩

end Sys2Proof.Machine

namespace Sys2Proof.Machine

/-! ### Host memory reads back (R330, R338, log 4) -/

theorem mapGet_cells_outside {l : List Byte} {a b : Nat} (h : b < a ∨ a + l.length ≤ b) : mapGet (Memory.cells a l) b = none := by
  rw [mapGet, List.find?_eq_none.2, Option.map_none]
  intro c hc heq
  obtain ⟨hlow, hhigh, -⟩ := Memory.mem_cells hc
  have : c.1 = b := by simpa using heq
  omega

/-- Inside its run every byte reads back, a listed one as itself and an unlisted one as 0. -/
theorem mapGet_cells_inside {l : List Byte} {a i : Nat} (h : i < l.length) : (mapGet (Memory.cells a l) (a + i)).getD 0 = l.getD i 0 := by
  induction l generalizing a i with
  | nil => simp at h
  | cons b r ih =>
    cases i with
    | zero =>
      unfold Memory.cells
      split
      next hb => rw [mapGet_cells_outside (by omega)]; simp [hb]
      next => simp [mapGet]
    | succ i =>
      have hrest := ih (a := a + 1) (i := i) (by simpa using h)
      rw [show a + 1 + i = a + (i + 1) by omega] at hrest
      unfold Memory.cells
      split
      next => simpa using hrest
      next => simpa [mapGet] using hrest

theorem Memory.read_write_inside (m : List Host.Cell) (a : Nat) {l : List Byte} {i : Nat} (h : i < l.length) :
    Memory.read (Memory.write m a l) (a + i) = l.getD i 0 := by
  rw [Memory.read, Memory.write, mapGet_append, mapGet_append, mapGet_filter_none (p := fun k => decide (k < a)) (by simp),
    mapGet_filter_none (p := fun k => decide (a + l.length ≤ k)) (by simpa using h), Option.none_or, Option.or_none, mapGet_cells_inside h]

theorem Memory.read_write_outside (m : List Host.Cell) {a b : Nat} {l : List Byte} (h : b < a ∨ a + l.length ≤ b) :
    Memory.read (Memory.write m a l) b = Memory.read m b := by
  rw [Memory.read, Memory.write, mapGet_append, mapGet_append, mapGet_cells_outside h, Option.or_none]
  rcases h with h | h
  · rw [mapGet_filter (p := fun k => decide (k < a)) (by simpa using h),
      mapGet_filter_none (p := fun k => decide (a + l.length ≤ k)) (by simp; omega), Option.or_none, Memory.read]
  · rw [mapGet_filter_none (p := fun k => decide (k < a)) (by simp; omega),
      mapGet_filter (p := fun k => decide (a + l.length ≤ k)) (by simpa using h), Option.none_or, Memory.read]

/-- Settles O7: the form by `Memory.wf_write`, the bytes inside and outside the write by the three runs that it leaves. -/
theorem postedWriteReadsBack : Obligations.PostedWriteReadsBack :=
  ⟨⟨rfl, by decide, rfl, rfl⟩, fun m a _ h =>
    ⟨Memory.wf_write a _ h, fun _ hi => Memory.read_write_inside m a hi, fun _ hb => Memory.read_write_outside m hb⟩⟩

end Sys2Proof.Machine

namespace Sys2Proof.Machine

/-! ### Keys, SEAL and ATTEST (R335, R406, R407, R519, R522) -/

/-- An attempt to authenticate moves its rope alone. -/
@[simp] theorem authStart_sec (n m : Nat) (s : State) : (authStart n m s).sec = s.sec := by
  unfold authStart
  split <;> simp

@[simp] theorem authAgain_sec (n m : Nat) (s : State) : (authAgain n m s).sec = s.sec := by
  unfold authAgain
  split <;> simp

@[simp] theorem authWhere_sec (p : Mon → Bool) (s : State) : (authWhere p s).sec = s.sec := by
  refine foldl_keeps (fun s : State => s.sec) _ (fun s n => ?_) _ _
  have hmons := foldl_keeps (fun s : State => s.sec) (fun s e => if p e.2 then authAgain n e.1 s else s)
    (fun s e => by split <;> simp) (s.ropeStr n).mons s
  simpa using hmons

@[simp] theorem authNotOk_sec (s : State) : (authNotOk s).sec = s.sec := authWhere_sec ..

/-- A record of the event log leaves the saved registers. -/
@[simp] theorem logAdd_saved (c t i n : Nat) (s : State) : (logAdd c t i n s).nvm.saved = s.nvm.saved := by
  unfold logAdd
  dsimp only
  repeat' split
  all_goals rfl

/-- A KEY_INSTALL that gets past a sealed device and a full slot: a key off the curve is refused, one on the curve enters its slot
unless its programming fails. -/
theorem keyInstall_programs {s : State} {sub : Submission} {buf : DmaRead} (hlive : s.live = true) (hw : s.cmdWaits 0x39 sub = false)
    (hform : sub.formOk [(0, 1)] = true) (hbuf : sub.hasBuf (sub.bufLen == 64) = true) (hslot : sub.pU 0 1 < 4)
    (hopen : s.sec.sealed = false) (hempty : s.root (sub.pU 0 1) = none) (hread : buf.isSome = true) :
    ∃ t, exec (.keyInstall sub buf) s = .next t ∧ t.sec.sealed = false ∧
      (Config.onCurve (bufBytes sub buf) = false → t = complete 0x39 sub stBadField [] s) ∧
      (Config.onCurve (bufBytes sub buf) = true → t.sec.slots =
        (if Config.otpFails s.free then s.sec.slots else s.sec.slots.set (sub.pU 0 1) (some (bufBytes sub buf)))) := by
  have hpass : ∀ c ∈ [(sub.formOk [(0, 1)] && sub.hasBuf (sub.bufLen == 64) && decide (sub.pU 0 1 < 4), stBadField), (s.accepts 0x39, stBusy),
      (!s.sec.sealed, stSealed), ((s.root (sub.pU 0 1)).isNone, stBadState), bufRead buf], c.1 = true := by
    simp [hform, hbuf, hslot, State.accepts_of_live hlive, hopen, hempty, bufRead, hread]
  change ∃ t, execKeyInstall sub buf s = _ ∧ _
  rw [execKeyInstall]
  cases hcurve : Config.onCurve (bufBytes sub buf) with
  | false => exact ⟨_, runCmd_of_failed (c := (false, stBadField)) (r := []) hw hpass rfl, by simp [hopen], fun _ => rfl, nofun⟩
  | true =>
    refine ⟨_, runCmd_of_checked hw (List.forall_mem_append.2 ⟨hpass, by simp⟩), ?_⟩
    dsimp only
    rw [State.draw_number]
    split <;> simp [hopen]

/-- SEAL of a device that is ready: it is sealed, and what it locks is stored (R407, R522). -/
theorem sealDevice_seals {s : State} {sub : Submission} (hlive : s.live = true) (hw : s.cmdWaits 0x3A sub = false)
    (hform : sub.formOk [(0, 4)] = true) (hbuf : sub.noBuf = true) (hmagic : sub.pU 0 4 = 0x5345414C)
    (hopen : s.sec.sealed = false) (hready : sealReady s = true) :
    ∃ t, exec (.sealDevice sub) s = .next t ∧ t.sec = { s.sec with sealed := true } ∧ t.nvm.saved.sys = some (sysValues s) ∧
      t.nvm.saved.leg = some (legCtrl s) ∧ t = { s with sec := t.sec, cfg := t.cfg, nvm := t.nvm, hif := t.hif, hostMem := t.hostMem } := by
  change ∃ t, execSealDevice sub s = _ ∧ _
  rw [execSealDevice]
  refine ⟨_, runCmd_of_checked hw (by simp [hform, hbuf, hmagic, State.accepts_of_live hlive, hopen, hready]), ?sec, ?sys, ?leg, ?frame⟩
  case sec => simp
  case sys => simp only [complete_keeps, logAdd_saved]; rfl
  case leg => simp only [complete_keeps, logAdd_saved]; rfl
  case frame => apply State.ext_fields <;> simp

/-- Settles O54: the refusals by the first check that fails, a key and a seal by what their commands do then, ATTEST by the digest kept. -/
theorem keysSealAndAttest : Obligations.KeysSealAndAttest := by
  intro s sub buf hlive
  have haccepts := State.accepts_of_live hlive
  refine ⟨fun hw hform hbuf hslot => ⟨fun hsealed => ?keySealed, fun hopen hfull => ?keyFull, keyInstall_programs hlive hw hform hbuf hslot⟩,
    fun hw hform hbuf hmagic => ⟨fun hsealed => ?sealedAgain, fun hopen hready => ?notReady, sealDevice_seals hlive hw hform hbuf hmagic⟩,
    fun d hw hform hbuf hd => ?attest⟩
  case keySealed =>
    change execKeyInstall sub buf s = _
    unfold execKeyInstall
    exact runCmd_of_failed (l := [_, _]) hw (by simp [hform, hbuf, hslot, haccepts]) (by simp [hsealed])
  case keyFull =>
    change execKeyInstall sub buf s = _
    unfold execKeyInstall
    exact runCmd_of_failed (l := [_, _, _]) hw (by simp [hform, hbuf, hslot, haccepts, hopen]) (by simpa using hfull)
  case sealedAgain =>
    change execSealDevice sub s = _
    exact runCmd_of_failed (l := [_, _]) hw (by simp [hform, hbuf, hmagic, haccepts]) (by simp [hsealed])
  case notReady =>
    change execSealDevice sub s = _
    exact runCmd_of_failed (l := [_, _, _]) hw (by simp [hform, hbuf, hmagic, haccepts, hopen]) hready
  case attest =>
    change execAttest sub s = _
    rw [execAttest, hd]
    exact runCmd_of_checked hw (by simp [hform, hbuf, haccepts])

end Sys2Proof.Machine

namespace Sys2Proof.Machine

/-! ## Host memory keeps its canonical form

Every function of the model that changes the state leaves host memory alone or moves it by posted writes
(`State.dma`). So each has one rule below: from a state with the form it makes a state with the form. A rule is
named after its function and put together from the rules of the functions that one calls; a command's rule speaks
of its answer (`CanonOut`). -/

/-- Host memory has its canonical form (log 4). -/
def Canon (s : State) : Prop := Memory.wf s.hostMem = true

/-- Where a command answers a next state, host memory has its canonical form there. -/
def CanonOut (o : Out) : Prop := ∀ t, o = .next t → Canon t

section
variable {s t : State} {c : Prop} [Decidable c]

/-- What moves other parts of the state keeps the form. -/
theorem Canon.keep (h : Canon s)
    {clk frm met tun sar rope cfg est trv hif evt cairn tim ptp thm pwr nvm diag sec leg sys free pending} :
    Canon ⟨clk, frm, met, tun, sar, rope, cfg, est, trv, hif, evt, cairn, tim, ptp, thm, pwr, nvm, diag, sec, leg, sys,
      s.hostMem, free, pending⟩ := h

theorem Canon.of_eq (h : Canon s) (e : t.hostMem = s.hostMem) : Canon t := by rwa [Canon, e]

theorem Canon.ite (hs : Canon s) (ht : Canon t) : Canon (if c then s else t) := by
  split
  · exact hs
  · exact ht

theorem Canon.when (hs : Canon s) (ht : Canon s → Canon t) : Canon (if c then t else s) := .ite (ht hs) hs

theorem Canon.unless (hs : Canon s) (ht : Canon s → Canon t) : Canon (if c then s else t) := .ite hs (ht hs)

theorem Canon.foldl {α : Type} {f : State → α → State} {l : List α} (h : Canon s)
    (hf : ∀ t a, Canon t → Canon (f t a)) : Canon (l.foldl f s) :=
  List.foldlRecOn (motive := Canon) _ _ h fun t ht a _ => hf t a ht

theorem Canon.dma {a l} (h : Canon s) : Canon (s.dma a l) := Memory.wf_write a l h

theorem CanonOut.next (h : Canon s) : CanonOut (.next s) := fun _ ht => by
  cases ht
  exact h

theorem CanonOut.ite {o p : Out} (ho : CanonOut o) (hp : CanonOut p) : CanonOut (if c then o else p) := by
  split
  · exact ho
  · exact hp

end

variable {s t : State}

/-! ### Events, rings and completions -/

theorem Canon.tick (h : Canon s) : Canon (tick s) := h.of_eq (by simp)

theorem Canon.setTime (h : Canon s) {n keepFrac} : Canon (s.setTime n keepFrac) := by
  rw [Canon, State.setTime_hostMem]
  exact h

theorem Canon.modMet (h : Canon s) {n f} : Canon (State.modMet s n f) := h.keep
theorem Canon.modRope (h : Canon s) {n f} : Canon (State.modRope s n f) := h.keep
theorem Canon.modTun (h : Canon s) {u f} : Canon (State.modTun s u f) := h.keep
theorem Canon.modConv (h : Canon s) {c f} : Canon (State.modConv s c f) := h.keep
theorem Canon.modLim (h : Canon s) {n f} : Canon (State.modLim s n f) := h.keep
theorem Canon.modDom (h : Canon s) {d f} : Canon (State.modDom s d f) := h.keep
theorem Canon.modPort (h : Canon s) {p f} : Canon (State.modPort s p f) := h.keep
theorem Canon.modRing (h : Canon s) {n f} : Canon (State.modRing s n f) := h.keep
theorem Canon.setCell (h : Canon s) {g c} : Canon (State.setCell s g c) := h.keep
theorem Canon.modCell (h : Canon s) {g f} : Canon (State.modCell s g f) := h.of_eq (by simp)
theorem Canon.modFrame (h : Canon s) {epoch f} : Canon (State.modFrame epoch f s) := h.keep

theorem Canon.logAdd (h : Canon s) {code target index info} : Canon (logAdd code target index info s) :=
  h.of_eq (by simp)

theorem Canon.recordEvent (h : Canon s) {e info} : Canon (recordEvent e info s) := h.of_eq (by simp)
theorem Canon.raise (h : Canon s) {e info} : Canon (raise e info s) := h.of_eq (by simp)
theorem Canon.hifErr (h : Canon s) {bits} : Canon (hifErr bits s) := h.of_eq (by simp)
theorem Canon.sendMsg (h : Canon s) {v} : Canon (sendMsg v s) := h.of_eq (by simp)
theorem Canon.moderate (h : Canon s) {v} : Canon (moderate v s) := h.of_eq (by simp)
theorem Canon.signal (h : Canon s) {v} : Canon (signal v s) := h.of_eq (by simp)
theorem Canon.postEntry (h : Canon s) {n bytes} : Canon (postEntry n bytes s) := h.dma.modRing

theorem Canon.postCompletion (h : Canon s) {sub op status orig result merged} :
    Canon (postCompletion sub op status orig result merged s) :=
  .ite h.postEntry.signal.keep h

theorem Canon.finishCmd (h : Canon s) {op sub status result} : Canon (finishCmd op sub status result s) :=
  .unless (by split; exacts [h.keep, h]) fun h => .postCompletion (.ite h.keep h)

theorem Canon.complete (h : Canon s) {op sub status result} : Canon (complete op sub status result s) :=
  .ite h.keep h.finishCmd

/-! ### Lanes, reports and saved registers -/

theorem Canon.setUnitDiag (h : Canon s) {d} : Canon (State.setUnitDiag s d) := h.of_eq (by simp)
theorem Canon.dealLanes (h : Canon s) : Canon (dealLanes s) := h.of_eq (by simp)
theorem Canon.settleVcore (h : Canon s) : Canon (settleVcore s) := h.of_eq (by simp)
theorem Canon.settleWork (h : Canon s) : Canon (settleWork s) := h.of_eq (by simp)
theorem Canon.refreshLane (h : Canon s) {u} : Canon (refreshLane u s) := h.of_eq (by simp)
theorem Canon.enterPower (h : Canon s) {p} : Canon (enterPower p s) := h.of_eq (by simp)
theorem Canon.storeSaved (h : Canon s) {f} : Canon (State.storeSaved f s) := h.of_eq (by simp)
theorem Canon.saveSys (h : Canon s) : Canon (saveSys s) := h.of_eq (by simp)
theorem Canon.saveLeg (h : Canon s) : Canon (saveLeg s) := h.of_eq (by simp)
theorem Canon.savePtp (h : Canon s) : Canon (savePtp s) := h.of_eq (by simp)
theorem Canon.writeStatus (h : Canon s) : Canon (writeStatus s) := .ite h.keep (.ite h.dma.keep h)

theorem Canon.drainWrites (h : Canon s) : Canon (drainWrites s) :=
  .ite (.when (h.keep.foldl fun _ _ h => h.finishCmd) (·.writeStatus)) h

/-! ### The timebase -/

theorem Canon.reanchor (h : Canon s) {r} : Canon (State.reanchor s r) := h.keep
theorem Canon.stepReanchor (h : Canon s) : Canon (State.stepReanchor s) := h.reanchor

theorem Canon.stepTime (h : Canon s) {n keepFrac} : Canon (s.stepTime n keepFrac) := by
  unfold State.stepTime
  exact .stepReanchor (.keep (s := s.setTime n keepFrac) h.setTime)

theorem Canon.judgePeriod (h : Canon s) : Canon (State.judgePeriod s) := .ite h h.reanchor
theorem Canon.fileReport (h : Canon s) {u} : Canon (fileReport u s) := h.of_eq (by simp)
theorem Canon.flashRead (h : Canon s) {n} : Canon (flashRead n s) := .ite h.keep.fileReport h.keep
theorem Canon.clearRref (h : Canon s) : Canon (clearRref s) := .ite h.setUnitDiag h

/-! ### Commands and their checks -/

theorem CanonOut.runCmd {op sub checks act} (h : Canon s) (ha : Canon (act s)) :
    CanonOut (runCmd op sub checks act s) := by
  unfold Machine.runCmd
  split
  · exact .next h
  split
  · exact .next h.complete
  · exact .next ha

/-! ### Ropes: frames, transactions, locations -/

theorem Canon.modMon (h : Canon s) {str m f} : Canon (State.modMon s str m f) := h.modRope
theorem Canon.countCrc (h : Canon s) {str x} : Canon (countCrc str x s) := .ite h h.modRope
theorem Canon.ropeSend (h : Canon s) {str e f} : Canon (ropeSend str e f s) := h.of_eq (by simp)

theorem Canon.ropeCast (h : Canon s) {str e typ addr payload} : Canon (ropeCast str e typ addr payload s) :=
  h.of_eq (by simp)

theorem Canon.ropeCastBoth (h : Canon s) {str typ addr payload} : Canon (ropeCastBoth str typ addr payload s) :=
  h.of_eq (by simp)

theorem Canon.dropTxn (h : Canon s) {str t} : Canon (dropTxn str t s) := h.of_eq (by simp)

theorem Canon.failAttempt (h : Canon s) {str t crc} : Canon (failAttempt str t crc s).2 := by
  unfold Machine.failAttempt
  dsimp only
  split
  · exact .ropeSend (.keep (h.when (·.keep)))
  · exact .keep (.dropTxn (h.when (·.keep)))

theorem Canon.sendEcho (h : Canon s) {str e addr use} : Canon (sendEcho str e addr use s) := h.of_eq (by simp)

theorem Canon.sendRead (h : Canon s) {str e addr page off len use} : Canon (sendRead str e addr page off len use s) :=
  h.of_eq (by simp)

theorem Canon.sendConfigPage (h : Canon s) {str e m} : Canon (sendConfigPage str e m s) := h.of_eq (by simp)
theorem Canon.castTie (h : Canon s) {str e addr payload} : Canon (castTie str e addr payload s) := h.of_eq (by simp)
theorem Canon.castSafe (h : Canon s) {str e} : Canon (castSafe str e s) := h.of_eq (by simp)
theorem Canon.safeStep (h : Canon s) {str} : Canon (safeStep str s) := h.of_eq (by simp)

theorem Canon.safeOver (h : Canon s) {str} : Canon (safeOver str s) := by
  unfold Machine.safeOver
  split
  exacts [h.modRope.castSafe, h.modRope, h]

theorem Canon.sendSafe (h : Canon s) : Canon (sendSafe s) := h.foldl fun _ _ h => .ite h h.modRope.safeStep
theorem Canon.ropeGap (h : Canon s) {str} : Canon (ropeGap str s) := h.of_eq (by simp)
theorem Canon.modeEvent (h : Canon s) {str before} : Canon (modeEvent str before s) := .ite h.raise h
theorem Canon.toneLevel (h : Canon s) : Canon (toneLevel s) := h.keep

theorem Canon.setMode (h : Canon s) {str a b mode brkA brkB} : Canon (setMode str a b mode brkA brkB s) :=
  h.modRope.modeEvent.toneLevel

theorem Canon.applyLocation (h : Canon s) {str a b nEnd fEnd byEcho} :
    Canon (applyLocation str a b nEnd fEnd byEcho s) :=
  h.modRope.unless fun h => .when (h.setMode.when (·.fileReport)) (·.fileReport)

theorem Canon.startLocate (h : Canon s) {str e} : Canon (startLocate str e s) :=
  .ite h (.ite h.modRope (by split; exacts [.ite h h.modRope.ropeGap, h, h.modRope.ropeGap]))

theorem Canon.finishLocate (h : Canon s) {str} : Canon (finishLocate str s) := by
  unfold Machine.finishLocate; split; exacts [.ite h.applyLocation h, h]

theorem Canon.locateResult (h : Canon s) {str t ok} : Canon (locateResult str t ok s) := by
  unfold Machine.locateResult
  dsimp only
  split
  · exact h
  · refine .ite ?ring ?broken
    case ring => split <;> exact .ite (.ite h.keep.finishLocate h.keep) h.keep.finishLocate
    case broken => split <;> exact .ite h.keep.finishLocate (.ite h.keep.finishLocate h.keep)

theorem Canon.suspectBreak (h : Canon s) {str e} : Canon (suspectBreak str e s) := h.modRope.startLocate
theorem Canon.castBelay (h : Canon s) {str e addr} : Canon (castBelay str e addr s) := .ite h.ropeCast.modRope h

theorem CanonOut.execBelaySend (h : Canon s) {str} : CanonOut (execBelaySend str s) :=
  .ite (.next h) (.next (h.foldl fun _ _ h => h.castBelay))

theorem CanonOut.execThroughProbe (h : Canon s) {str} : CanonOut (execThroughProbe str s) :=
  .ite (.next h.modRope.castBelay) (.next h)

theorem CanonOut.execReachProbe (h : Canon s) {str} : CanonOut (execReachProbe str s) :=
  .ite (.next h) (.next h.modRope.ropeGap)

theorem Canon.probeEnd (h : Canon s) {str e} : Canon (probeEnd str e s) := h.modRope.unless (·.setMode)

theorem Canon.reachResult (h : Canon s) {str t ok} : Canon (reachResult str t ok s) :=
  .ite h (.ite h.probeEnd (.ite h.modRope.modRope h.modRope.probeEnd))

theorem Canon.toneBack (h : Canon s) {str e fault monmask unaddr} : Canon (toneBack str e fault monmask unaddr s) :=
  .toneLevel (h.modRope.keep.when (·.raise))

theorem Canon.probeBack (h : Canon s) {str} : Canon (probeBack str s) := .ite h.modRope h

theorem CanonOut.execBelayReturned (h : Canon s) {t} : CanonOut (execBelayReturned t s) := by
  unfold Machine.execBelayReturned
  split
  · exact .next h
  · have hc {str x} : Canon (countCrc str x s) := h.countCrc
    exact .ite (.next hc) (.ite (.next (.ite hc.toneBack hc)) (.ite (.next (.ite hc.probeBack hc)) (.next (.ite hc.toneBack hc))))

theorem CanonOut.execBelayNotReturned (h : Canon s) {str fromEnd} : CanonOut (execBelayNotReturned str fromEnd s) :=
  .ite (.next h.modRope.toneLevel.suspectBreak) (.next h.modRope.toneLevel)

theorem CanonOut.execFaultNMinEnd (h : Canon s) : CanonOut (execFaultNMinEnd s) := .next h.keep.toneLevel

theorem Canon.sendSync (h : Canon s) {kind epoch span} : Canon (sendSync kind epoch span s) :=
  h.foldl fun _ _ h => .ite h.ropeCastBoth h

theorem Canon.ropeGone (h : Canon s) {str} : Canon (ropeGone str s) :=
  .toneLevel (.foldl (.foldl (h.modRope.keep.foldl fun _ _ h => h.complete) fun _ _ h => h.complete) fun _ _ h => h.complete)

theorem Canon.stopTie (h : Canon s) {str} : Canon (stopTie str s) := .ite h.modRope h

theorem Canon.stopOne (h : Canon s) {n} : Canon (stopOne n s) :=
  .ite h (by split; exacts [h, h, h.modRope.safeStep.when (·.ropeGone)])

theorem Canon.stopRopes (h : Canon s) : Canon (stopRopes s) := .ite (.when (h.foldl fun _ _ h => h.stopOne) (·.keep)) h

theorem Canon.stopFrame (h : Canon s) {str} : Canon (stopFrame str s) := by
  unfold Machine.stopFrame; split; exacts [h.safeOver, .stopRopes (.ite h.safeOver.ropeGone h.safeOver), h.modRope.stopRopes]

/-! ### Tie-in -/

theorem Canon.setTie (h : Canon s) {str t} : Canon (setTie str t s) := h.of_eq (by simp)
theorem Canon.tieBegin (h : Canon s) {str attempt} : Canon (tieBegin str attempt s) := h.modRope.castTie
theorem Canon.tieCmdDone (h : Canon s) {str} : Canon (tieCmdDone str s) := h.keep.foldl fun _ _ h => h.complete

theorem Canon.tieReports (h : Canon s) {str a b e} : Canon (tieReports str a b e s) :=
  .when (.ite h.fileReport h) (·.fileReport)

theorem Canon.rawJudge (h : Canon s) {str} : Canon (rawJudge str s) := h.modRope.foldl fun _ _ h => h.complete

theorem Canon.tieEnd (h : Canon s) {str t res mode} : Canon (tieEnd str t res mode s) :=
  .ropeGap (.when (.rawJudge (.tieCmdDone (h.modRope.setMode.modRope.when (·.tieReports)))) (·.modRope.tieBegin))

theorem Canon.castDescending (h : Canon s) {str t} : Canon (castDescending str t s) := h.setTie.castTie

theorem Canon.tieBroken (h : Canon s) {str t} : Canon (tieBroken str t s) :=
  .ite h.modRope.setTie.sendEcho h.modRope.castDescending

theorem Canon.tieRetry (h : Canon s) {str t} : Canon (tieRetry str t s) := .ite h.tieBegin h.tieBroken

theorem Canon.tieConfigFrom (h : Canon s) {str k t} : Canon (tieConfigFrom str k t s) := by
  unfold Machine.tieConfigFrom; split; exacts [h.setTie.sendConfigPage, h.tieEnd]

theorem Canon.tieIdentityFrom (h : Canon s) {str k t} : Canon (tieIdentityFrom str k t s) := by
  unfold Machine.tieIdentityFrom; split; exacts [h.setTie.sendRead, h.tieConfigFrom]

theorem Canon.tieEchoN (h : Canon s) {str k t} : Canon (tieEchoN str k t s) := .ite h.setTie.sendEcho h.setTie.sendEcho
theorem Canon.tieEchoF (h : Canon s) {str k t} : Canon (tieEchoF str k t s) := .ite h.setTie.sendEcho h.tieIdentityFrom

theorem Canon.tieCheck (h : Canon s) {str k t} : Canon (tieCheck str k t s) := by
  unfold Machine.tieCheck; dsimp only; split; exacts [h.tieEchoF, .ite h.tieEchoF (.ite h.setTie.sendEcho h.modMon.modRope.tieEchoF)]

theorem Canon.seeMon (h : Canon s) {str m} : Canon (seeMon str m s) := h.modRope

theorem Canon.tieEchoBroken (h : Canon s) {str k t} : Canon (tieEchoBroken str k t s) := by
  unfold Machine.tieEchoBroken; split; exacts [h.setTie.sendEcho, h.tieIdentityFrom]

theorem Canon.tieEchoOk (h : Canon s) {str e k deltaNs} : Canon (tieEchoOk str e k deltaNs s) := by
  unfold Machine.tieEchoOk
  dsimp only
  split
  · exact h.seeMon.modMon
  · split
    · exact .ite h.seeMon.modMon.setTie.sendEcho h.seeMon.modMon.tieEchoN
    · exact h.seeMon.modMon.tieCheck
    · exact .ite h.seeMon.modMon.setTie.sendEcho h.seeMon.modMon.castDescending
    · exact .ite h.seeMon.modMon.setTie.sendEcho h.seeMon.modMon.tieEchoBroken
    · exact h.seeMon.modMon.tieEchoBroken
    · exact h.seeMon.modMon

theorem Canon.tieEchoFailed (h : Canon s) {str k} : Canon (tieEchoFailed str k s) := by
  unfold Machine.tieEchoFailed
  split
  · exact h
  · split
    · exact .ite h.tieEchoF h.tieEchoN
    · exact h.tieEchoF
    · exact h.castDescending
    · exact h.tieEchoBroken
    · exact h.tieEchoBroken
    · exact h

theorem Canon.tieFindF (h : Canon s) {str t} : Canon (tieFindF str t s) := .ite h.setTie.sendEcho h.tieEchoBroken

theorem Canon.tieIdentity (h : Canon s) {str k data} : Canon (tieIdentity str k data s) := by
  unfold Machine.tieIdentity
  extract_lets u
  have hu : Canon u := by
    unfold u
    split
    · exact h.keep
    · exact h
  split
  · split
    · exact hu.tieIdentityFrom
    · exact hu
  · exact hu

theorem Canon.tieConfigDone (h : Canon s) {str k} : Canon (tieConfigDone str k s) := by
  unfold Machine.tieConfigDone
  split
  · exact by split; exacts [h.tieConfigFrom, h]
  · exact h

theorem Canon.tieAssign (h : Canon s) {str t} : Canon (tieAssign str t s) := h.setTie.castTie

theorem Canon.assignBack (h : Canon s) {str t next overflow delayNs} :
    Canon (assignBack str t next overflow delayNs s) :=
  .ite h.modRope.tieEnd h.modRope.setTie.castTie

theorem Canon.countBack (h : Canon s) {str t counted mismatch} : Canon (countBack str t counted mismatch s) :=
  .ite (.ite h.tieEnd (.tieEchoN (h.foldl fun _ _ h => h.seeMon))) (.ite h.tieBegin h.tieEnd)

theorem Canon.tieLost (h : Canon s) {str t} : Canon (tieLost str t s) := by
  unfold Machine.tieLost; split; exacts [h.setTie.castTie, h.tieAssign, h.tieRetry, h.tieRetry, h.tieFindF, h]

theorem Canon.tieArrived (h : Canon s) {str x delayNs} : Canon (tieArrived str x delayNs s) := by
  unfold Machine.tieArrived
  split
  · exact h
  · exact .ite (by split; exacts [h.tieRetry, h.tieRetry, h]) (.ite h (by split; exacts [h.assignBack, h.countBack, h.tieLost]))

theorem Canon.tieTimeout (h : Canon s) {str} : Canon (tieTimeout str s) := by
  unfold Machine.tieTimeout
  split
  exacts [h, h.tieLost]

theorem CanonOut.execRopeTieIn (h : Canon s) {sub} : CanonOut (execRopeTieIn sub s) := by
  unfold Machine.execRopeTieIn
  exact .runCmd h (h.keep.foldl fun _ _ h => h.tieBegin)

theorem CanonOut.execRopeMapRead (h : Canon s) {sub} : CanonOut (execRopeMapRead sub s) := .runCmd h h.dma.complete

theorem CanonOut.execRopeRaw (h : Canon s) {sub buf} : CanonOut (execRopeRaw sub buf s) := by
  unfold Machine.execRopeRaw
  exact .runCmd h h.modRope.ropeGap

/-! ### Authentication, keys, SEAL and ATTEST -/

theorem Canon.dropAuth (h : Canon s) {str m} : Canon (dropAuth str m s) := h.modRope
theorem Canon.authStart (h : Canon s) {str m} : Canon (authStart str m s) := .ite h.modMon.modRope h.modMon
theorem Canon.authAll (h : Canon s) {str} : Canon (authAll str s) := h.foldl fun _ _ h => h.authStart

theorem Canon.authResume (h : Canon s) {str} : Canon (authResume str s) :=
  .ropeGap (h.foldl fun _ _ h => .ite h.authStart h)

theorem Canon.authWaitsDone (h : Canon s) : Canon (authWaitsDone s) := h.keep.foldl fun _ _ h => h.complete

theorem Canon.authEnd (h : Canon s) {str m r} : Canon (authEnd str m r s) :=
  .authWaitsDone (.keep (.ite h.modMon.dropAuth.keep.raise (.ite h.modMon.dropAuth.keep.raise h.modMon.dropAuth.keep)))

theorem Canon.authAbort (h : Canon s) {str m status} : Canon (authAbort str m status s) :=
  h.modMon.dropAuth.keep.foldl fun _ _ h => h.complete

theorem Canon.authUnreach (h : Canon s) {str} : Canon (authUnreach str s) := h.keep.foldl fun _ _ h => h.complete
theorem Canon.authTied (h : Canon s) {str} : Canon (authTied str s) := h.authUnreach.authAll.ropeGap
theorem Canon.authHold (h : Canon s) : Canon (authHold s) := h.keep

theorem Canon.authAnswer (h : Canon s) {str m a data} : Canon (authAnswer str m a data s) := by
  unfold Machine.authAnswer
  dsimp only
  split
  · exact h
  · exact .ite h.authEnd h
  · split
    · exact h.modMon.modRope
    · exact h.modMon.unless fun h => by split; exacts [h.authEnd, h.modMon]
    · exact h
    · exact .ite h.authEnd (.ite h.modMon h)
    · exact h

theorem CanonOut.execAuthFetchTimer (h : Canon s) {str mon} : CanonOut (execAuthFetchTimer str mon s) := by
  unfold Machine.execAuthFetchTimer; split; exacts [.ite (.next h.modRope.ropeGap) (.next h), .next h]

theorem CanonOut.execAuthVerifyDone (h : Canon s) {str mon} : CanonOut (execAuthVerifyDone str mon s) := by
  unfold Machine.execAuthVerifyDone
  split
  · exact .ite (.ite (.next h.modMon.modRope.ropeGap) (.next h.authEnd)) (.ite (.next h.authEnd) (.next h))
  · exact .next h

theorem CanonOut.execAuthSignatureTimeout (h : Canon s) {str mon} : CanonOut (execAuthSignatureTimeout str mon s) := by
  unfold Machine.execAuthSignatureTimeout; split; exacts [.ite (.next h.authEnd) (.next h), .next h]

theorem CanonOut.execAuthRenewTimer (h : Canon s) {str mon} : CanonOut (execAuthRenewTimer str mon s) :=
  .ite (.next h.authStart.ropeGap) (.next h)

theorem CanonOut.execAuthRetryTimer (h : Canon s) {str mon} : CanonOut (execAuthRetryTimer str mon s) :=
  .ite (.next h.authStart.ropeGap) (.next h)

theorem CanonOut.execAuthChallenge (h : Canon s) {sub} : CanonOut (execAuthChallenge sub s) := by
  unfold Machine.execAuthChallenge
  exact .runCmd h (.authWaitsDone (.ropeGap (h.keep.foldl fun _ _ h => h.authStart)))

theorem Canon.authAgain (h : Canon s) {str m} : Canon (authAgain str m s) := .ite h.modMon h.authStart

theorem Canon.authWhere (h : Canon s) {p} : Canon (authWhere p s) :=
  h.foldl fun _ _ h => .ropeGap (h.foldl fun _ _ h => .ite h.authAgain h)

theorem Canon.authNotOk (h : Canon s) : Canon (authNotOk s) := h.authWhere
theorem Canon.authLocked (h : Canon s) : Canon (authLocked s) := h.authWhere

theorem CanonOut.execKeyInstall (h : Canon s) {sub buf} : CanonOut (execKeyInstall sub buf s) := by
  unfold Machine.execKeyInstall
  exact .runCmd h (.ite h.keep.complete h.keep.complete.authNotOk)

theorem CanonOut.execSealDevice (h : Canon s) {sub} : CanonOut (execSealDevice sub s) :=
  .runCmd h h.keep.saveSys.saveLeg.logAdd.complete

theorem CanonOut.execAttest (h : Canon s) {sub} : CanonOut (execAttest sub s) := by
  unfold Machine.execAttest
  exact .runCmd h (by split; exacts [h.dma.complete, h])

end Sys2Proof.Machine

namespace Sys2Proof.Machine

variable {s t : State}

/-! ### Where windows end -/

theorem Canon.planEnd (h : Canon s) : Canon (planEnd s) := h.keep
theorem Canon.replan (h : Canon s) : Canon (replan s) := .ite h.planEnd h
theorem Canon.holdEnd (h : Canon s) : Canon (holdEnd s) := h.keep
theorem Canon.freezeEnd (h : Canon s) : Canon (freezeEnd s) := h.keep

/-! ### Tuning -/

theorem Canon.suspendTuning (h : Canon s) : Canon (suspendTuning s) := h.keep
theorem Canon.tuneTemperature (h : Canon s) {a b} : Canon (tuneTemperature a b s) := h.keep
theorem Canon.tuneComplete (h : Canon s) : Canon (tuneComplete s) := h.keep.foldl fun _ _ h => h.complete
theorem Canon.tuneNote (h : Canon s) {u ok} : Canon (tuneNote u ok s) := h.keep.tuneComplete

theorem CanonOut.execTuningSlotEnd (h : Canon s) {unit volts} : CanonOut (execTuningSlotEnd unit volts s) :=
  .ite (.next h.modTun) (.next h)

theorem CanonOut.execTuningFitDone (h : Canon s) {unit} : CanonOut (execTuningFitDone unit s) := by
  unfold Machine.execTuningFitDone
  dsimp only
  split
  · exact .next h
  · exact .ite (.next h) (.ite (.next h.modTun.tuneNote) (.next (.tuneNote (h.modTun.raise.when (·.fileReport)))))

theorem Canon.takeUnit (h : Canon s) {unit} : Canon (takeUnit unit s) := by
  unfold Machine.takeUnit; dsimp only; split; exacts [.raise (h.modTun.when (·.keep)), h.modTun]

theorem Canon.takeRrefCorr (h : Canon s) : Canon (takeRrefCorr s) := by
  unfold Machine.takeRrefCorr
  split
  exacts [h, h.keep]

theorem Canon.tuneBoundary (h : Canon s) {win} : Canon (tuneBoundary win s) :=
  .keep (.foldl (h.takeRrefCorr.foldl fun _ _ h => h.takeUnit) fun _ _ h => h.takeUnit)

theorem CanonOut.execRrefRatioCheck (h : Canon s) {ratio} : CanonOut (execRrefRatioCheck ratio s) :=
  .ite (.next h) (.ite (.next h.keep.fileReport) (.ite (.next (h.keep.unless (·.clearRref))) (.next h.keep)))

theorem CanonOut.execTuneNow (h : Canon s) {sub} : CanonOut (execTuneNow sub s) := by
  unfold Machine.execTuneNow
  exact .runCmd h (.tuneComplete (.keep (.when (h.foldl fun _ _ h => h.modTun) (·.keep))))

theorem CanonOut.execTuneNowTimeout (h : Canon s) : CanonOut (execTuneNowTimeout s) := by
  unfold Machine.execTuneNowTimeout; split; exacts [.next h, .next h.keep.complete]

theorem CanonOut.execTuneRead (h : Canon s) {sub} : CanonOut (execTuneRead sub s) := .runCmd h h.dma.complete

/-! ### Charge and open-wire tests -/

theorem Canon.crossCheck (h : Canon s) {n w c ovr} : Canon (crossCheck n w c ovr s) := h.modMet.when (·.fileReport)

theorem Canon.markFrame (h : Canon s) {n num} : Canon (markFrame n num s) := by
  unfold Machine.markFrame
  split
  exacts [h.modMet, h]

theorem Canon.loadFrame (h : Canon s) {epoch} : Canon (loadFrame epoch s) :=
  h.foldl fun _ _ h => .modMet (by split; exacts [h.modLim, h])

theorem Canon.enterCharge (h : Canon s) {str w count ovr} : Canon (enterCharge str w count ovr s) :=
  .markFrame (.when (h.crossCheck.modMet.when (·.modMet)) (·.raise))

theorem Canon.refreshUrgents (h : Canon s) {str num} : Canon (refreshUrgents str num s) := h.keep

theorem CanonOut.execWindowChargeEntry (h : Canon s) {str count ovr} :
    CanonOut (execWindowChargeEntry str count ovr s) := by
  unfold Machine.execWindowChargeEntry; split; exacts [.next h, .next h.enterCharge.refreshUrgents]

theorem Canon.owEvents (h : Canon s) {port info} : Canon (owEvents port info s) :=
  .ite h.raise (h.foldl fun _ _ h => .ite h.raise h)

theorem Canon.rrefDeclareOpen (h : Canon s) : Canon (rrefDeclareOpen s) := h.setUnitDiag.keep.suspendTuning.raise

theorem Canon.advanceTurns {n} (h : Canon s) : Canon (advanceTurns n s) := by
  induction n generalizing s with
  | zero => exact h
  | succ n ih => exact .ite (ih h.keep) h

theorem Canon.scheduleTests (h : Canon s) : Canon (scheduleTests s) := h.advanceTurns.keep

theorem Canon.owDeclared (h : Canon s) {port old new} : Canon (owDeclared port old new s) :=
  .ite (.ite h.owEvents.modMet.fileReport.fileReport h.owEvents.rrefDeclareOpen) (.ite (.owEvents (.ite h h.clearRref)) h)

theorem CanonOut.execOpenWireSlot (h : Canon s) {port failed} : CanonOut (execOpenWireSlot port failed s) :=
  .ite (.next (.ite h h.advanceTurns))
    (.next (.owDeclared (.ite (.modMet (.keep (.ite h h.advanceTurns))) (.keep (.ite h h.advanceTurns)))))

theorem Canon.owBoundary (h : Canon s) : Canon (owBoundary s) := h.keep.scheduleTests
theorem Canon.resnap (h : Canon s) {n} : Canon (resnap s n) := h.modMet

theorem Canon.closeWindow (h : Canon s) {n num start len trans} : Canon (closeWindow n num start len trans s) :=
  .ite h.modMet h.modMet.markFrame

theorem Canon.openWindow (h : Canon s) {n num} : Canon (openWindow n num s) := h.modMet

/-! ### Sweeps -/

theorem Canon.setSweep (h : Canon s) {str w} : Canon (setSweep str w s) := h.of_eq (by simp)
theorem Canon.markMode (h : Canon s) {epoch str} : Canon (markMode epoch str s) := h.modFrame

theorem Canon.sweepEnd (h : Canon s) {str w} : Canon (sweepEnd str w s) :=
  .ropeGap (.markMode (h.setSweep.when (·.applyLocation)))

theorem Canon.sweepNext (h : Canon s) {str} : Canon (sweepNext str s) := by
  unfold Machine.sweepNext
  split
  · exact h
  · exact .ite h (by dsimp only; split; exacts [h.sweepEnd, h.setSweep.sendRead.sendRead, h.setSweep.sendRead, h.setSweep.sendRead, h])

theorem Canon.ringReturn (h : Canon s) {str} : Canon (ringReturn str s) := .ite h.setMode h

theorem Canon.sweepRope (h : Canon s) {epoch str} : Canon (sweepRope epoch str s) :=
  h.ringReturn.modRope.markMode.unless (·.modRope.setSweep.sweepNext)

theorem CanonOut.execSweepStart (h : Canon s) : CanonOut (execSweepStart s) := by
  unfold Machine.execSweepStart; split; exacts [.next h, .ite (.next h) (.next (h.keep.foldl fun _ _ h => h.sweepRope))]

theorem Canon.sweepOk (h : Canon s) {str t epoch data} : Canon (sweepOk str t epoch data s) := by
  unfold Machine.sweepOk; dsimp only; split; exacts [.sweepNext (.setSweep (.ite h.modMon h)), .ite h.modMon h]

theorem Canon.sweepFailed (h : Canon s) {str t} : Canon (sweepFailed str t s) := by
  unfold Machine.sweepFailed; split; exacts [h, h.setSweep.sweepNext]

theorem Canon.sweepPortOut (h : Canon s) {str e} : Canon (sweepPortOut str e s) := by
  unfold Machine.sweepPortOut; split; exacts [h, .ite h h.modRope.setSweep.sweepNext]

theorem CanonOut.execSweepDeadline (h : Canon s) : CanonOut (execSweepDeadline s) :=
  .next (.stopRopes (h.foldl fun _ _ h => by split; exacts [.ite h h.modRope.sweepEnd, h]))

/-! ### What arrives on a rope -/

theorem Canon.rawDone (h : Canon s) {t sub status data} : Canon (rawDone t sub status data s) := h.dma.complete
theorem Canon.balDone (h : Canon s) {str m ok} : Canon (balDone str m ok s) := h.modMon
theorem Canon.afterTie (h : Canon s) {str wasTying} : Canon (afterTie str wasTying s) := .ite h.authTied h

theorem Canon.txnAnswered (h : Canon s) {str t status data deltaNs} :
    Canon (txnAnswered str t status data deltaNs s) := by
  unfold Machine.txnAnswered
  dsimp only
  split
  · exact h.sweepOk
  · exact h.balDone
  · exact .ite h.tieEchoOk h.tieEchoFailed
  · exact h.tieIdentity
  · exact h.tieConfigDone
  · exact h.locateResult
  · exact h.reachResult
  · exact h.authAnswer
  · exact h.rawDone

theorem Canon.txnFailed (h : Canon s) {str t crc} : Canon (txnFailed str t crc s) := by
  unfold Machine.txnFailed
  dsimp only
  split
  · exact h.sweepFailed
  · exact h.balDone
  · exact h.tieEchoFailed
  · exact h.tieIdentity
  · exact h.tieConfigDone
  · exact h.locateResult
  · exact h.reachResult
  · exact h.authAbort
  · exact h.complete

theorem Canon.attemptFailed (h : Canon s) {str t crc} : Canon (attemptFailed str t crc s) := by
  have hfail : Canon (Machine.failAttempt str t crc (Machine.stopTie str s)).2 := h.stopTie.failAttempt
  unfold Machine.attemptFailed
  dsimp only
  split
  next he => rw [he] at hfail; exact hfail.txnFailed.ropeGap.afterTie
  next he => rw [he] at hfail; exact hfail

theorem CanonOut.execRopeRespReceived (h : Canon s) {f} : CanonOut (execRopeRespReceived f s) := by
  unfold Machine.execRopeRespReceived
  split
  · exact .next h
  · dsimp only
    split
    · exact .next h.countCrc
    · exact .ite (.next h.countCrc.attemptFailed.stopRopes) (.ite (.next h.countCrc)
        (.ite (.next h.countCrc.attemptFailed.stopRopes) (.next h.countCrc.stopTie.dropTxn.txnAnswered.ropeGap.afterTie.stopRopes)))

theorem CanonOut.execRopeAttemptTimeout (h : Canon s) {str fromEnd addr seq} :
    CanonOut (execRopeAttemptTimeout str fromEnd addr seq s) := by
  unfold Machine.execRopeAttemptTimeout; split; exacts [.next h, .next h.attemptFailed.stopRopes]

theorem CanonOut.execTieFrameArrived (h : Canon s) {str bytes extraBits delayNs} :
    CanonOut (execTieFrameArrived str bytes extraBits delayNs s) := by
  unfold Machine.execTieFrameArrived
  split
  · exact .next h
  · have hc {str x} : Canon (countCrc str x s) := h.countCrc
    exact .ite (.next (.ite hc.stopFrame hc)) (.ite (.next hc.tieArrived.afterTie) (.next (.ite hc.safeOver hc)))

theorem CanonOut.execTieFrameTimeout (h : Canon s) {str} : CanonOut (execTieFrameTimeout str s) :=
  .ite (.next h.stopFrame) (.ite (.next h.tieTimeout.afterTie) (.next h.safeOver))

/-! ### The fast converters -/

theorem Canon.injectComplete (h : Canon s) : Canon (injectComplete s) := h.keep.foldl fun _ _ h => h.complete
theorem Canon.injectBegins (h : Canon s) {list} : Canon (injectBegins list s) := h.keep
theorem Canon.runEnded (h : Canon s) {r} : Canon (runEnded r s) := .when (.ite h.raise h) (·.keep.injectComplete)
theorem Canon.startConv (h : Canon s) {c use chan tdac lean} : Canon (startConv c use chan tdac lean s) := h.modConv
theorem Canon.startSample (h : Canon s) {c p} : Canon (startSample c p s) := .ite h.keep.startConv h

theorem Canon.startRegular (h : Canon s) {c} : Canon (startRegular c s) := by
  unfold Machine.startRegular; dsimp only; split; exacts [.ite h.modConv.startConv h, h]

theorem Canon.startHk (h : Canon s) {c} : Canon (startHk c s) := by
  unfold Machine.startHk; dsimp only; split; exacts [.ite h.modConv.modConv.startConv h, h.modConv.startRegular]

theorem Canon.startWide (h : Canon s) {c e} : Canon (startWide c e s) := h.modConv.startConv

theorem Canon.sarNext {c n} (h : Canon s) : Canon (sarNext c n s) := by
  induction n generalizing s with
  | zero => exact h
  | succ n ih =>
    unfold Machine.sarNext
    dsimp only
    refine .ite h (.ite ?hold ?run)
    case hold =>
      split
      · exact h.startWide
      · exact h
    case run =>
      split
      · split
        · exact h.modConv.startConv
        · exact ih h.modConv.runEnded
      split
      · exact h.startWide
      split
      · split
        · exact h.startWide
        · exact ih (.modConv (h.modConv.when (·.injectBegins)))
      split
      · exact h.startWide
      refine .ite h.startHk ?_
      split
      · exact h.startSample
      · exact h.startRegular

theorem Canon.sarKick (h : Canon s) : Canon (sarKick s) := h.sarNext.sarNext
theorem Canon.queueStamp (h : Canon s) {port e} : Canon (queueStamp port e s) := h.modPort.raise
theorem Canon.dropLate (h : Canon s) {port} : Canon (dropLate port s) := .ite h (h.modPort.when (·.raise))
theorem Canon.idle (h : Canon s) : Canon (idle s) := h.dropLate.dropLate.tick.sarKick
theorem Canon.abortConv (h : Canon s) {w b} : Canon (abortConv w b s) := h.of_eq (by simp)
theorem Canon.setPending (h : Canon s) {c t} : Canon (setPending c t s) := h.of_eq (by simp)
theorem Canon.triggerBoth (h : Canon s) {t} : Canon (triggerBoth t s) := h.setPending.setPending.sarKick
theorem Canon.seqComplete (h : Canon s) : Canon (seqComplete s) := h.keep.foldl fun _ _ h => h.complete
theorem Canon.endPeriod (h : Canon s) : Canon (endPeriod s) := h.keep
theorem Canon.roundOn (h : Canon s) {c r} : Canon (roundOn c r s) := .ite h h.modConv

theorem CanonOut.execSarRoundStart (h : Canon s) : CanonOut (execSarRoundStart s) :=
  .ite (.next h) (.next (.sarKick (.seqComplete (.roundOn (.roundOn (.ite h.keep.endPeriod h.keep))))))

theorem Canon.queuePush (h : Canon s) {e} : Canon (queuePush e s) :=
  .ite (.ite h.keep.raise h.keep) (.ite h.keep.raise h.keep)

theorem Canon.queuePop (h : Canon s) : Canon (queuePop s) := h.of_eq (by simp)
theorem Canon.addWide (h : Canon s) {n x nbr} : Canon (addWide n x nbr s) := h.modMet
theorem Canon.countInject (h : Canon s) {list pair} : Canon (countInject list pair s) := h.keep
theorem Canon.captureEnd (h : Canon s) : Canon (captureEnd s) := h.keep.injectComplete
theorem Canon.setStv (h : Canon s) {n mv} : Canon (setStv n mv s) := h.keep

theorem Canon.useHk (h : Canon s) {c b t raw v rail nbr} : Canon (useHk c b t raw v rail nbr s) :=
  .ite h.modConv (by split; exacts [h.keep, .ite h.modTun h, .ite h.keep h, h.keep])

theorem Canon.useResult (h : Canon s) {c b raw v rail nbr} : Canon (useResult c b raw v rail nbr s) := by
  unfold Machine.useResult
  dsimp only
  split
  · exact h.addWide
  · exact h.useHk
  · exact h.queuePush
  · exact .when (h.queuePush.when (·.setStv)) (·.countInject)
  · split
    · exact .ite h.queuePush.countInject.captureEnd h.queuePush.countInject.keep
    · exact h.queuePush.countInject

theorem CanonOut.execSarConversionEnd (h : Canon s) {conv volts rail} :
    CanonOut (execSarConversionEnd conv volts rail s) := by
  unfold Machine.execSarConversionEnd; split; exacts [.next h, .ite (.next h) (.next h.modConv.useResult.sarKick)]

theorem Canon.failChannels (h : Canon s) {m} : Canon (failChannels m s) :=
  h.foldl fun _ _ h => .ite h.keep.logAdd.recordEvent h

theorem CanonOut.execTdacDiagnosis (h : Canon s) {n m} : CanonOut (execTdacDiagnosis n m s) :=
  .ite (.next h.keep) (.next (.when (h.keep.failChannels.when (·.fileReport)) (·.fileReport)))

theorem CanonOut.execTdacCheck (h : Canon s) {n} : CanonOut (execTdacCheck n s) := .ite (.next h) (.next h.keep)
theorem Canon.ocPin (h : Canon s) : Canon (ocPin s) := h.keep
theorem Canon.askCapture (h : Canon s) {n} : Canon (askCapture n s) := .ite h (by split <;> exact h.keep)

theorem CanonOut.execOcTrip (h : Canon s) {x} : CanonOut (execOcTrip x s) :=
  .ite (.next h) (.next (.ite (.triggerBoth (.when h.keep (·.askCapture))) (.sarKick (.when h.keep (·.askCapture)))))

theorem CanonOut.execOcRelease (h : Canon s) {x} : CanonOut (execOcRelease x s) := .ite (.next h.keep.ocPin) (.next h)
theorem CanonOut.execOcTripNMinEnd (h : Canon s) : CanonOut (execOcTripNMinEnd s) := .next h.keep

theorem CanonOut.execSarSeqSet (h : Canon s) {sub buf} : CanonOut (execSarSeqSet sub buf s) := by
  unfold Machine.execSarSeqSet
  exact .runCmd h (.keep (h.foldl fun _ _ h => .ite h.modConv h))

theorem CanonOut.execSarInject (h : Canon s) {sub} : CanonOut (execSarInject sub s) := by
  unfold Machine.execSarInject
  exact .runCmd h (.sarKick (.when (.when (.ite h.keep.askCapture h.keep) (·.setPending)) (·.setPending)))

/-! ### Temperatures -/

theorem Canon.enterPins (h : Canon s) {l} : Canon (enterPins l s) := h.keep
theorem Canon.pinsRestart (h : Canon s) {old new} : Canon (pinsRestart old new s) := h.keep

theorem Canon.judgeInputs (h : Canon s) {str m epoch span} : Canon (judgeInputs str m epoch span s) := by
  unfold Machine.judgeInputs; split; exacts [h, .ite h h.modMon]

end Sys2Proof.Machine

namespace Sys2Proof.Machine

variable {s t : State}

/-! ### Estimation -/

theorem Canon.onEst (h : Canon s) {f} (hf : ∀ {t}, Canon t → Canon (f t)) : Canon (onEst f s) := .keep (hf h.keep)

theorem Canon.takeWrite (h : Canon s) {epoch reinit b} : Canon (takeWrite epoch reinit b s) := by
  unfold Machine.takeWrite; dsimp only; split; exacts [.ite h.setCell h, .modCell (.ite h.setCell h)]

/-! ### Limits -/

theorem Canon.setFrozen (h : Canon s) {n v} : Canon (setFrozen n v s) := h.storeSaved

theorem Canon.gaugeFrame (h : Canon s) {n adv b} : Canon (gaugeFrame n adv b s) := by
  unfold Machine.gaugeFrame; split; exacts [.ite (.ite h.keep h) (.ite h.keep.setFrozen (.ite h.keep h.keep)), h]

/-! ### Balancing -/

theorem Canon.mapCells (h : Canon s) {n f} : Canon (mapCells n f s) := h.keep

theorem Canon.balanceString (h : Canon s) {n adv f} : Canon (balanceString n adv f s) :=
  h.mapCells.mapCells.mapCells.mapCells

theorem Canon.sendBal (h : Canon s) {epoch n} : Canon (sendBal epoch n s) := .ite h h.modRope.ropeGap
theorem CanonOut.execBalOverrideExpiry (h : Canon s) {str} : CanonOut (execBalOverrideExpiry str s) := .next h.modLim

/-! ### The frame's updates -/

theorem Canon.dropFrames (h : Canon s) : Canon (State.dropFrames s) := h.keep
theorem Canon.modStaging (h : Canon s) {epoch hd} : Canon (modStaging epoch hd s) := h.keep
theorem Canon.stageString (h : Canon s) {n f} : Canon (stageString n f s) := h.modStaging

theorem Canon.finishString (h : Canon s) {n adv f} : Canon (finishString n adv f s) :=
  .ite (.stageString (h.modLim.when (·.raise))) (.stageString (.balanceString (h.modLim.when (·.raise))))

theorem Canon.openStaging (h : Canon s) {f} : Canon (openStaging f s) := h.modStaging
theorem Canon.abortGauge (h : Canon s) {n} : Canon (abortGauge n s) := h.keep

theorem Canon.judgeGauges (h : Canon s) {adv} : Canon (judgeGauges adv s) :=
  h.foldl fun _ _ h => .ite h.gaugeFrame h.abortGauge

theorem Canon.finishFrame (h : Canon s) {f} : Canon (finishFrame f s) :=
  h.judgeGauges.keep.modStaging.modFrame.dropFrames.keep

theorem Canon.newImages (h : Canon s) {n old new} : Canon (newImages n old new s) := by
  unfold Machine.newImages
  split
  exacts [.ite h h.mapCells, h]

theorem Canon.takeCaps (h : Canon s) {l} : Canon (takeCaps l s) := h.foldl fun _ _ h => h.modLim
theorem Canon.dropUnused (h : Canon s) : Canon (dropUnused s) := h.keep

theorem Canon.adoptTake (h : Canon s) {x} : Canon (adoptTake x s) := by
  unfold Machine.adoptTake
  dsimp only
  refine .onEst ?_ fun h => h.foldl fun _ _ h => h.takeWrite
  split
  case' h_1 => refine .takeCaps ?_
  all_goals exact .foldl (.onEst (h.keep.foldl fun _ _ h => h.newImages) (·.dropUnused)) fun _ _ h => .ite h h.abortGauge

theorem Canon.adoptFrame (h : Canon s) {f} : Canon (adoptFrame f s) := h.keep.foldl fun _ _ h => h.adoptTake
theorem Canon.sendBals (h : Canon s) {epoch l} : Canon (sendBals epoch l s) := h.foldl fun _ _ h => h.sendBal

theorem Canon.timeUpdate (h : Canon s) {f adv} : Canon (timeUpdate f adv s) := by
  unfold Machine.timeUpdate
  generalize usedCells s = used
  exact .when (h.keep.openStaging.modFrame.foldl fun _ _ h => h.when (·.finishString)) (·.finishFrame)

theorem Canon.judgeBare (h : Canon s) {epoch} : Canon (judgeBare epoch s) :=
  h.foldl fun _ _ h => h.foldl fun _ _ h => .ite h (h.foldl fun _ _ h => h.judgeInputs)

theorem CanonOut.execTimeUpdateDone (h : Canon s) : CanonOut (execTimeUpdateDone s) := by
  unfold Machine.execTimeUpdateDone
  split
  · exact .next h
  · exact .ite (.next h) (.next (h.judgeBare.adoptFrame.loadFrame.onEst (·.timeUpdate)).sendBals.settleWork)

theorem Canon.measureUpdate (h : Canon s) {f g} : Canon (measureUpdate f g s) :=
  .when (.when (.keep (h.judgeInputs.setCell.modStaging.when (·.raise))) (·.finishString)) (·.finishFrame)

theorem Canon.reportResidues (h : Canon s) {l} : Canon (reportResidues l s) := h.foldl fun _ _ h => h.fileReport

theorem CanonOut.execMeasurementUpdateDone (h : Canon s) {d} : CanonOut (execMeasurementUpdateDone d s) := by
  unfold Machine.execMeasurementUpdateDone
  dsimp only
  split
  · exact .next (.ite h.reportResidues h)
  · exact .ite (.next (.ite h.reportResidues h))
      (.next (.settleWork (.when (.onEst (.ite h.reportResidues h) (·.measureUpdate)) (·.sendBals))))

/-! ### TRAVERSE jobs -/

theorem CanonOut.execTraverseStart (h : Canon s) {sub buf} : CanonOut (execTraverseStart sub buf s) := by
  unfold Machine.execTraverseStart
  exact .runCmd h h.keep.settleVcore

theorem Canon.writePoint {js : Job × State} (h : Canon js.2) {t l} : Canon (writePoint t l js).2 := .dma h

theorem Canon.writePoints {js : Job × State} (h : Canon js.2) {t0 t1 ends l dt} :
    Canon (writePoints t0 t1 ends l dt js).2 :=
  List.foldlRecOn (motive := fun js : Job × State => Canon js.2) _ _ h fun _ h _ _ => h.writePoint

theorem Canon.writeFinal {js : Job × State} (h : Canon js.2) : Canon (writeFinal js).2 := by
  unfold Machine.writeFinal
  dsimp only
  split
  · exact h.writePoint
  · exact h

theorem Canon.putJob (h : Canon s) {j} : Canon (putJob j s) := h.of_eq (by simp)
theorem Canon.dropJob (h : Canon s) {id} : Canon (dropJob id s) := h.of_eq (by simp)
theorem Canon.leaveTurn (h : Canon s) {id} : Canon (leaveTurn id s) := .ite h.keep h
theorem Canon.endJob (h : Canon s) {reason time j} : Canon (endJob reason time j s) := .keep (.writeFinal h.leaveTurn)
theorem Canon.finishAborts (h : Canon s) {j status} : Canon (finishAborts j status s) := h.foldl fun _ _ h => h.complete

theorem CanonOut.execTraverseResultsDone (h : Canon s) {jobId writes} :
    CanonOut (execTraverseResultsDone jobId writes s) := by
  unfold Machine.execTraverseResultsDone
  split
  · exact .next h
  · exact .next (.settleVcore (.finishAborts (.when (.complete (.dropJob (.ite h.dma h))) (·.raise))))

theorem Canon.abortQueued (h : Canon s) {j} : Canon (abortQueued j s) := h.putJob
theorem Canon.abortJobs (h : Canon s) : Canon (abortJobs s) := h.foldl fun _ _ h => .ite h (.ite h.endJob h.abortQueued)

theorem CanonOut.execTraverseAdmission (h : Canon s) {profile ambient} :
    CanonOut (execTraverseAdmission profile ambient s) := by
  unfold Machine.execTraverseAdmission
  split
  · exact .next h
  next j _ =>
    have hrefuse : ∀ st,
        CanonOut (.next (settleVcore (complete 0x20 j.sub st (jobResult j) (Machine.dropJob j.desc.jobId s)))) :=
      fun _ => .next h.keep.complete.settleVcore
    refine .ite (.next h) (.ite (hrefuse _) (.ite (hrefuse _) (.next (.settleWork (.keep ?_)))))
    split
    · exact h.dma
    · exact h

theorem Canon.jobStep (h : Canon s) {j} : Canon (jobStep j s) := by
  unfold Machine.jobStep
  dsimp only
  split
  · exact .keep (.writePoints h)
  · exact .endJob (.writePoints h)

theorem Canon.freeLane (h : Canon s) {lane} : Canon (freeLane lane s) := h.keep

theorem Canon.abortAtChunk (h : Canon s) {jobId} : Canon (abortAtChunk jobId s) := by
  unfold Machine.abortAtChunk
  split
  · exact h
  · exact .ite h (by split; exacts [h.endJob, h, h.putJob.finishAborts])

theorem Canon.abortIdle (h : Canon s) {jobId} : Canon (abortIdle jobId s) := .ite h h.abortAtChunk

theorem CanonOut.execTraverseChunkEnd (h : Canon s) {jobId lane residueOk last} :
    CanonOut (execTraverseChunkEnd jobId lane residueOk last s) :=
  .ite (.next h) (.ite (.next h.freeLane.fileReport.abortIdle.settleWork) (by
    split
    · exact .next h.freeLane.settleWork
    · exact .next (.settleWork (.abortAtChunk (.ite h.freeLane.jobStep h.freeLane)))))

theorem CanonOut.execLaneChunkTimeout (h : Canon s) {lane} : CanonOut (execLaneChunkTimeout lane s) := by
  unfold Machine.execLaneChunkTimeout
  dsimp only
  split
  · exact .next h
  · exact .next h.freeLane.fileReport.settleWork
  · exact .next h.freeLane.fileReport.abortIdle.settleWork

theorem CanonOut.execTraverseWallTimeout (h : Canon s) {jobId} : CanonOut (execTraverseWallTimeout jobId s) := by
  unfold Machine.execTraverseWallTimeout; split; exacts [.next (.ite h h.endJob.finishAborts.settleWork), .next h]

theorem CanonOut.execTraverseAbort (h : Canon s) {sub} : CanonOut (execTraverseAbort sub s) := by
  unfold Machine.execTraverseAbort
  exact .runCmd h (by split; exacts [h, .ite h.abortQueued.settleVcore (.ite h.putJob h.endJob)])

theorem CanonOut.execTraverseStatus (h : Canon s) {sub} : CanonOut (execTraverseStatus sub s) :=
  .runCmd h h.dma.complete

/-! ### Cairns -/

theorem Canon.takeSlots (h : Canon s) : Canon (takeSlots s) := by unfold Machine.takeSlots; split; exacts [h.keep, h]

theorem CanonOut.execCairnBegin (h : Canon s) : CanonOut (execCairnBegin s) := by
  unfold Machine.execCairnBegin
  split
  · exact .next h
  · exact .ite (.next h) (.next (.keep (.dma (.dma (.keep h.takeSlots)))))

theorem Canon.endFrame (h : Canon s) {epoch} : Canon (endFrame epoch s) := h.modFrame.dropFrames

theorem CanonOut.execCairnComplete (h : Canon s) : CanonOut (execCairnComplete s) := by
  unfold Machine.execCairnComplete
  split
  · exact .ite (.next h) (.next h.drainWrites.dma.dma.dma.keep.writeStatus.raise.endFrame)
  · exact .next h

theorem Canon.countOutage (h : Canon s) {writesHeld} : Canon (countOutage writesHeld s) := h.keep

theorem Canon.abandonCairn (h : Canon s) {epoch writesHeld} : Canon (abandonCairn epoch writesHeld s) :=
  .ite h.keep.endFrame (.ite h.keep.countOutage.endFrame h.keep.countOutage.endFrame.raise)

theorem CanonOut.execCairnDeadline (h : Canon s) {writesHeld} : CanonOut (execCairnDeadline writesHeld s) := by
  unfold Machine.execCairnDeadline; split; exacts [.next h, .next (.ite (.abandonCairn (.ite h.keep h.drainWrites)) h)]

theorem CanonOut.execAliveToggle (h : Canon s) : CanonOut (execAliveToggle s) :=
  .ite (.next h) (by dsimp only; split; exacts [.next (.ite h.keep h), .next h])

theorem CanonOut.execCairnSetup (h : Canon s) {sub} : CanonOut (execCairnSetup sub s) := by
  unfold Machine.execCairnSetup
  exact .runCmd h h.keep.complete

theorem CanonOut.execStateRead (h : Canon s) {sub} : CanonOut (execStateRead sub s) := by
  unfold Machine.execStateRead
  exact .runCmd h h.dma.complete

/-! ### Jobs of the flash -/

theorem Canon.addJob (h : Canon s) {what pages sub} : Canon (addJob what pages sub s) := h.of_eq (by simp)

end Sys2Proof.Machine

namespace Sys2Proof.Machine

variable {s t : State}

/-! ### Time -/

theorem Canon.setFreq (h : Canon s) {c} : Canon (setFreq c s) := h.of_eq (by simp)
theorem Canon.setSlew (h : Canon s) {rate total} : Canon (setSlew rate total s) := h.of_eq (by simp)
theorem Canon.timeLost (h : Canon s) {reason} : Canon (timeLost reason s) := h.keep.setSlew.raise
theorem Canon.enterLocked (h : Canon s) : Canon (enterLocked s) := .ite h.keep.authLocked h.keep

theorem Canon.srcState (h : Canon s) {old new} : Canon (srcState old new s) :=
  .keep (.ite h.keep.setSlew (.ite h.timeLost h))

theorem Canon.resetDom (h : Canon s) {d} : Canon (resetDom d s) := h.modDom
theorem Canon.dropSetAtPps (h : Canon s) : Canon (dropSetAtPps s) := h.keep.foldl fun _ _ h => h.complete

theorem Canon.takeTimeSrc (h : Canon s) {new} : Canon (takeTimeSrc new s) :=
  .ite h.keep (h.keep.srcState.resetDom.resetDom.when (·.dropSetAtPps))

theorem Canon.timeHold (h : Canon s) : Canon (timeHold s) := .resetDom (.resetDom (.keep (.ite h.timeLost h)))

theorem CanonOut.execXoCorrectionUpdate (h : Canon s) : CanonOut (execXoCorrectionUpdate s) := by
  unfold Machine.execXoCorrectionUpdate; dsimp only; split; exacts [.next h.setFreq, .next h.setFreq, .next h]

theorem CanonOut.execTime64Second (h : Canon s) : CanonOut (execTime64Second s) := .ite (.next h) (.next h.keep)
theorem CanonOut.execPpsOutPulseEnd (h : Canon s) : CanonOut (execPpsOutPulseEnd s) := .next h.keep

theorem CanonOut.execCmpFire (h : Canon s) {unit} : CanonOut (execCmpFire unit s) :=
  .ite (.next (.ite h.keep.triggerBoth h.keep)) (.next h)

theorem CanonOut.execTrigOutPulseEnd (h : Canon s) {unit} : CanonOut (execTrigOutPulseEnd unit s) := .next h.keep

theorem Canon.hostLock (h : Canon s) {mode} : Canon (hostLock mode s) :=
  .ite h (.ite (.ite h.keep h.keep.enterLocked) h)

theorem CanonOut.execHostServoTimeout (h : Canon s) : CanonOut (execHostServoTimeout s) :=
  .ite (.next h.timeLost) (.next h)

theorem Canon.ppsEnter (h : Canon s) : Canon (ppsEnter s) := .ite h.enterLocked h

theorem Canon.ppsServo (h : Canon s) {e} : Canon (ppsServo e s) :=
  .ite (.ite h.keep h.keep.stepTime) h.keep.setFreq.ppsEnter

theorem Canon.ppsSets (h : Canon s) : Canon (ppsSets s) := by
  unfold Machine.ppsSets; split; exacts [h, .hostLock (h.keep.stepTime.foldl fun _ _ h => h.complete)]

theorem CanonOut.execPpsInEdge (h : Canon s) : CanonOut (execPpsInEdge s) :=
  .ite (.next h) (.ite (.next (.ite h.keep.ppsSets.ppsEnter h.keep.ppsSets.ppsServo)) (.next h.keep.ppsSets))

theorem CanonOut.execPpsLoss (h : Canon s) : CanonOut (execPpsLoss s) :=
  .ite (.next h) (.next (.ite h.keep.timeLost h.keep))

theorem Canon.timeSetAct (h : Canon s) {sub mode} : Canon (timeSetAct sub mode s) := by
  unfold Machine.timeSetAct; dsimp only; split; exacts [h.stepTime, .ite h h.stepTime, h.setSlew, h.setFreq]

theorem CanonOut.execTimeSet (h : Canon s) {sub} : CanonOut (execTimeSet sub s) := by
  unfold Machine.execTimeSet
  exact .runCmd h (.ite h.keep h.timeSetAct.hostLock.complete)

theorem CanonOut.execSetAtPpsTimeout (h : Canon s) : CanonOut (execSetAtPpsTimeout s) := by
  unfold Machine.execSetAtPpsTimeout; split; exacts [.next h, .next h.keep.complete]

theorem CanonOut.execSlewEnd (h : Canon s) : CanonOut (execSlewEnd s) := .next h.setSlew
theorem CanonOut.execTimeStatus (h : Canon s) {sub} : CanonOut (execTimeStatus sub s) := .runCmd h h.dma.complete

/-! ### PTP -/

theorem Canon.sendFrames (h : Canon s) {port l} : Canon (sendFrames port l s) := h.of_eq (by simp)
theorem Canon.servoLead (h : Canon s) {d} : Canon (servoLead d s) := h.keep.setSlew

theorem Canon.servoStep (h : Canon s) {o} : Canon (servoStep o s) := by
  unfold Machine.servoStep Machine.stepTime
  exact .modDom (.keep (s := s.stepTime (s.now + o) true) h.stepTime)

theorem Canon.takeLead (h : Canon s) {d} : Canon (takeLead d s) :=
  .enterLocked (.servoLead (.ite h.keep h.keep.servoStep))

theorem Canon.domLocked (h : Canon s) {d} : Canon (domLocked d s) := by
  unfold Machine.domLocked; split; exacts [.takeLead (.ite h h.servoStep), h.takeLead, .ite h.servoLead h]

theorem Canon.loseLead (h : Canon s) {gone d} : Canon (loseLead gone d s) :=
  .ite h.keep.servoLead.enterLocked.raise (.ite h.keep.timeLost h.keep)

theorem Canon.unlockDom (h : Canon s) {d} : Canon (unlockDom d s) := h.modDom.when (·.loseLead)

theorem Canon.domOffset (h : Canon s) {d rx origin} : Canon (domOffset d rx origin s) :=
  h.modDom.unless fun h => h.modDom.when (·.domLocked)

theorem CanonOut.execPtpSyncReceived (h : Canon s) {m} : CanonOut (execPtpSyncReceived m s) := by
  unfold Machine.execPtpSyncReceived; split; exacts [.next h, .ite (.next h.modDom.modDom) (.next h.modDom.domOffset)]

theorem CanonOut.execPtpFollowUpReceived (h : Canon s) {hd originNs corrNs} :
    CanonOut (execPtpFollowUpReceived hd originNs corrNs s) := by
  unfold Machine.execPtpFollowUpReceived
  split
  · exact .next h
  · exact by split; exacts [.ite (.next h.modDom.domOffset) (.next h), .next h]

theorem Canon.freezeDom (h : Canon s) {d delay} : Canon (freezeDom d delay s) := h.modDom.raise

theorem Canon.pathMeasured (h : Canon s) {d delay} : Canon (pathMeasured d delay s) := by
  refine .ite h.keep ?_
  split
  · exact h.keep
  · exact .ite (.ite h.keep h.keep.freezeDom) h.keep

theorem CanonOut.execPtpDelayRespReceived (h : Canon s) {hd recvNs} :
    CanonOut (execPtpDelayRespReceived hd recvNs s) := by
  unfold Machine.execPtpDelayRespReceived
  split
  · exact .next h
  · exact by split; exacts [.ite (.next h.modDom.pathMeasured) (.next h), .next h]

theorem CanonOut.execPtpPdelayRespReceived (h : Canon s) {hd twoStep rxNs recvNs corrNs} :
    CanonOut (execPtpPdelayRespReceived hd twoStep rxNs recvNs corrNs s) := by
  unfold Machine.execPtpPdelayRespReceived; split; exacts [.next h, .ite (.next h.modDom) (.next h.modDom.pathMeasured)]

theorem CanonOut.execPtpPdelayRespFollowUpReceived (h : Canon s) {hd originNs corrNs} :
    CanonOut (execPtpPdelayRespFollowUpReceived hd originNs corrNs s) := by
  unfold Machine.execPtpPdelayRespFollowUpReceived
  split
  · exact .next h
  · exact by split; exacts [.ite (.next h.modDom.pathMeasured) (.next h), .next h]

theorem Canon.takePath (h : Canon s) {d st} : Canon (takePath d st s) := h.modDom
theorem Canon.watchPath (h : Canon s) {d} : Canon (watchPath d s) := h.modDom
theorem Canon.timeSuspect (h : Canon s) {d} : Canon (timeSuspect d s) := .watchPath (.keep (.ite h.timeLost h.raise))

theorem CanonOut.execPtpFreezeEnd (h : Canon s) {dom n m} : CanonOut (execPtpFreezeEnd dom n m s) :=
  .ite (.next h) (.ite (.ite (.next h.takePath.domLocked) (.next (h.takePath.watchPath.when (·.loseLead))))
    (.ite (.next h.takePath.watchPath) (.next h.timeSuspect)))

theorem CanonOut.execPtpPathDelayStable (h : Canon s) {dom n m} : CanonOut (execPtpPathDelayStable dom n m s) :=
  .ite (.next h) (.ite (.next h.modDom.domLocked) (.ite (.next h)
    (.ite (.next h.keep.takePath.servoLead.enterLocked) (.next h.takePath.domLocked))))

theorem Canon.selectMaster (h : Canon s) {d l} : Canon (selectMaster d l s) := by
  unfold Machine.selectMaster
  dsimp only
  split
  · exact h.modDom
  · exact .ite h.modDom.modDom h.modDom
  · exact h.modDom.modDom.unlockDom
  · exact .ite h.modDom.modDom.unlockDom h.modDom

theorem CanonOut.execPtpAnnounceReceived (h : Canon s) {m} : CanonOut (execPtpAnnounceReceived m s) := by
  unfold Machine.execPtpAnnounceReceived; split; exacts [.next h, .next h.selectMaster]

theorem CanonOut.execPtpAnnounceTimeout (h : Canon s) {dom} : CanonOut (execPtpAnnounceTimeout dom s) := by
  unfold Machine.execPtpAnnounceTimeout; split; exacts [.ite (.next h.selectMaster) (.next h), .next h]

theorem CanonOut.execPtpSyncTimeout (h : Canon s) {dom} : CanonOut (execPtpSyncTimeout dom s) :=
  .ite (.next h.unlockDom) (.next h)

theorem CanonOut.execPtpPdelayReqReceived (h : Canon s) {hd x} : CanonOut (execPtpPdelayReqReceived hd x s) :=
  .ite (.next h.sendFrames) (.next h)

theorem CanonOut.execPtpDelayReqSend (h : Canon s) {r} : CanonOut (execPtpDelayReqSend r s) :=
  .ite (.next h.modDom.sendFrames) (.next h)

theorem CanonOut.execArpRequestReceived (h : Canon s) {port target} : CanonOut (execArpRequestReceived port target s) :=
  .ite (.next h.sendFrames) (.next h)

theorem CanonOut.execEthernetFrameDiscarded (h : Canon s) {port} : CanonOut (execEthernetFrameDiscarded port s) :=
  .next h

theorem CanonOut.execPrxFrameReceived (h : Canon s) {f} : CanonOut (execPrxFrameReceived f s) :=
  .ite (.next h.dma.postEntry.raise) (.next h)

theorem CanonOut.execPtxFetch (h : Canon s) {d} : CanonOut (execPtxFetch d s) :=
  .ite (.next h) (by split; exacts [.next h.modRing.hifErr, .ite (.next (h.modRing.sendFrames.when (·.modPort))) (.next h.modRing)])

theorem CanonOut.execPtpFrameTransmitted (h : Canon s) {port n stampNs} :
    CanonOut (execPtpFrameTransmitted port n stampNs s) := by
  unfold Machine.execPtpFrameTransmitted
  dsimp only
  split
  · exact .next h
  · exact .ite (.next h.modPort.dropLate.queueStamp) (.next h.modPort.dropLate.modPort)

theorem Canon.popTxStamp (h : Canon s) : Canon (popTxStamp s) := by
  unfold Machine.popTxStamp
  dsimp only
  split
  · exact h.keep
  · exact .keep (by split; exacts [h.modPort.queueStamp, h.modPort])

theorem CanonOut.execPtpTxtsTagRead (h : Canon s) : CanonOut (execPtpTxtsTagRead s) :=
  .ite (.next h.popTxStamp) (.next h.keep)

theorem Canon.relisten (h : Canon s) {d} : Canon (relisten d s) := h.resetDom.when (·.loseLead)
theorem Canon.setPtpCtrl (h : Canon s) {v} : Canon (setPtpCtrl v s) := .when (.ite h.keep.relisten h.keep) (·.relisten)
theorem Canon.setDomCfg (h : Canon s) {v} : Canon (setDomCfg v s) := .ite h h.modDom.relisten

theorem CanonOut.execPtpDomainReconfigure (h : Canon s) {off v} : CanonOut (execPtpDomainReconfigure off v s) :=
  .ite (.next h) (.ite (.next h.setPtpCtrl) (.ite (.next h.setDomCfg) (.next h)))

theorem CanonOut.execPtpMdioGo (h : Canon s) {v} : CanonOut (execPtpMdioGo v s) := .ite (.next h) (.next h.modPort)

theorem CanonOut.execMdioAccessDone (h : Canon s) {x} : CanonOut (execMdioAccessDone x s) :=
  .ite (.next h) (.next h.modPort)

/-! ### What takes force -/

theorem Canon.rewriteMons (h : Canon s) {n} : Canon (rewriteMons n s) := h.modRope.ropeGap

theorem Canon.stopRope (h : Canon s) {n} : Canon (stopRope n s) :=
  .toneLevel (.authUnreach (.when (h.modRope.modeEvent.foldl fun _ _ h => h.complete) (·.tieCmdDone)))

theorem Canon.retie (h : Canon s) {n} : Canon (retie n s) := .ite h.modRope h.tieBegin

theorem Canon.takeSection (h : Canon s) {old n} : Canon (takeSection old n s) := by
  unfold Machine.takeSection
  extract_lets _ _ _ u
  have hu : Canon u := by
    unfold u
    split
    · exact .ite h.keep h
    · exact h
  exact .ite hu.stopRope (.ite hu (.when (hu.when (·.rewriteMons)) (·.retie)))

theorem Canon.takeConfig (h : Canon s) {b} : Canon (takeConfig b s) :=
  .judgePeriod (h.keep.pinsRestart.foldl fun _ _ h => h.takeSection)

theorem Canon.takeImages (h : Canon s) {l} : Canon (takeImages l s) := h.keep.judgePeriod
theorem Canon.takePolicy (h : Canon s) {n c} : Canon (takePolicy n c s) := .ite h.keep.rewriteMons h.keep

theorem Canon.takeOne (h : Canon s) {t} : Canon (takeOne t s) := by
  unfold Machine.takeOne; split; exacts [h.takeConfig, h.takeImages, h.takePolicy, h, h, h.modLim]

theorem Canon.awaitInstant (h : Canon s) {t} : Canon (awaitInstant t s) := h.of_eq (by simp)

theorem Canon.takeForces (h : Canon s) {epoch} : Canon (takeForces epoch s) :=
  .keep (h.keep.foldl fun _ _ h => h.takeOne)

/-! ### Windows and frames -/

theorem Canon.loseLine (h : Canon s) : Canon (loseLine s) := h.keep.holdEnd.unless (·.raise)
theorem Canon.lineReanchor (h : Canon s) : Canon (lineReanchor s) := .ite h h.reanchor
theorem Canon.regainLine (h : Canon s) {p} : Canon (regainLine p s) := h.keep.lineReanchor

theorem Canon.judgeMains (h : Canon s) {p} : Canon (judgeMains p s) :=
  .ite (.ite h.regainLine h.keep) (.ite (.ite h.loseLine h.keep) (.ite h.keep h.keep.lineReanchor))

theorem CanonOut.execLineZeroCrossing (h : Canon s) : CanonOut (execLineZeroCrossing s) :=
  .next (.replan (.keep (by split; exacts [h.judgeMains, h])))

theorem CanonOut.execLineCrossingTimeout (h : Canon s) : CanonOut (execLineCrossingTimeout s) :=
  .ite (.next (.keep (.ite h h.loseLine))) (.next h)

theorem Canon.applyPower (h : Canon s) {l} : Canon (applyPower l s) := by
  unfold Machine.applyPower; split; exacts [h.enterPower.abortJobs.settleWork, h.enterPower.settleWork, h]

theorem Canon.reanchorAt (h : Canon s) {b} : Canon (reanchorAt b s) :=
  .ite h.keep (.applyPower (.ite h.keep.judgePeriod h.keep))

theorem Canon.closeFrame (h : Canon s) {b} : Canon (closeFrame b s) := .ite h.keep.settleWork h.keep
theorem Canon.passNominal (h : Canon s) : Canon (passNominal s) := .ite h h.keep

theorem Canon.nextWindow (h : Canon s) : Canon (nextWindow s) :=
  h.keep.passNominal.planEnd.owBoundary.tuneBoundary.foldl fun _ _ h => h.openWindow

theorem CanonOut.execWindowBoundary (h : Canon s) {n} : CanonOut (execWindowBoundary n s) :=
  .ite (.next h) (.next (.nextWindow (.reanchorAt (.closeFrame (h.keep.foldl fun _ _ h => h.closeWindow)))))

theorem Canon.startMeasurement (h : Canon s) : Canon (startMeasurement s) :=
  .foldl (h.keep.planEnd.foldl fun _ _ h => h.modTun) fun _ _ h => h.openWindow

theorem CanonOut.execStartSync (h : Canon s) : CanonOut (execStartSync s) :=
  .ite (.next h) (.ite (.next h.keep) (.ite (.next h) (.next h.keep.freezeEnd.sendSync)))

theorem CanonOut.execEndSync (h : Canon s) : CanonOut (execEndSync s) := by
  unfold Machine.execEndSync; split; exacts [.next h, .ite (.next h) (.next h.modFrame.freezeEnd.keep.sendSync)]

theorem Canon.takeAuth (h : Canon s) : Canon (takeAuth s) := h.keep

theorem CanonOut.execSampleInstant (h : Canon s) : CanonOut (execSampleInstant s) := by
  unfold Machine.execSampleInstant
  split
  · exact .next h
  · exact .ite (.next h) (.next (.modFrame (.triggerBoth (h.takeAuth.takeForces.foldl fun _ _ h => h.resnap))))

theorem CanonOut.execPwrModeWrite (h : Canon s) {v} : CanonOut (execPwrModeWrite v s) :=
  .ite (.next h) (.ite (.next h.keep) (.next h.keep.reanchor))

/-! ### Configuration commands -/

theorem Canon.configForce (h : Canon s) {sub b} : Canon (configForce sub b s) :=
  .complete (.awaitInstant (.takeTimeSrc (.keep (.ite h h.reanchor))))

theorem CanonOut.execConfigLoad (h : Canon s) {sub buf} : CanonOut (execConfigLoad sub buf s) := by
  unfold Machine.execConfigLoad
  exact .runCmd h (.ite h.addJob h.configForce)

theorem CanonOut.execConfigRead (h : Canon s) {sub} : CanonOut (execConfigRead sub s) := by
  unfold Machine.execConfigRead
  exact .runCmd h (by split; exacts [.complete (.dma (.ite h.flashRead h)), h])

theorem CanonOut.execParamLoad (h : Canon s) {sub buf} : CanonOut (execParamLoad sub buf s) := by
  unfold Machine.execParamLoad
  exact .runCmd h h.keep.complete

theorem CanonOut.execParamCommit (h : Canon s) {sub} : CanonOut (execParamCommit sub s) := by
  unfold Machine.execParamCommit
  exact .runCmd h h.addJob

theorem CanonOut.execParamRead (h : Canon s) {sub} : CanonOut (execParamRead sub s) := by
  unfold Machine.execParamRead
  exact .runCmd h (by split; exacts [h.dma.complete, h])

theorem CanonOut.execNop (h : Canon s) {sub} : CanonOut (execNop sub s) := .runCmd h h.complete
theorem CanonOut.execIdentify (h : Canon s) {sub} : CanonOut (execIdentify sub s) := .runCmd h h.dma.complete

theorem CanonOut.execBalPolicy (h : Canon s) {sub} : CanonOut (execBalPolicy sub s) := by
  unfold Machine.execBalPolicy
  exact .runCmd h h.awaitInstant.complete

theorem CanonOut.execBalOverride (h : Canon s) {sub buf} : CanonOut (execBalOverride sub buf s) := by
  unfold Machine.execBalOverride
  exact .runCmd h h.awaitInstant.complete

theorem CanonOut.execLimitSet (h : Canon s) {sub buf} : CanonOut (execLimitSet sub buf s) :=
  .runCmd h h.awaitInstant.complete

theorem CanonOut.execStateWrite (h : Canon s) {sub buf} : CanonOut (execStateWrite sub buf s) := by
  unfold Machine.execStateWrite
  exact .runCmd h h.awaitInstant.complete

/-! ### Resets -/

theorem Canon.wholeReset (h : Canon s) {cause} : Canon (wholeReset cause s) := h.keep

/-! ### The flash -/

theorem Canon.announceWear (h : Canon s) : Canon (announceWear s) := h.foldl fun _ _ h => .ite h.keep.raise h
theorem Canon.setInactive (h : Canon s) {f} : Canon (State.setInactive f s) := .ite h.keep h.keep
theorem Canon.setBank (h : Canon s) {b st} : Canon (State.setBank b st s) := .ite h.keep h.keep
theorem Canon.dropPending (h : Canon s) : Canon (dropPending s) := .ite h.setBank.keep h

theorem Canon.settle (h : Canon s) : Canon (settle s) := by
  unfold Machine.settle
  split
  · exact h
  · exact .ite h (by dsimp only; split; exacts [h.keep, h.keep, h.dropPending.setInactive.keep, h.keep])

theorem Canon.beginUrgent (h : Canon s) {kind sub} : Canon (beginUrgent kind sub s) := h.addJob.settle
theorem Canon.beginSet (h : Canon s) {sub} : Canon (beginSet sub s) := h.addJob.settle

theorem CanonOut.execUrgentRecordTimer (h : Canon s) : CanonOut (execUrgentRecordTimer s) :=
  .ite (.next h.beginUrgent) (.next h)

theorem CanonOut.execFullSetTimer (h : Canon s) : CanonOut (execFullSetTimer s) := .ite (.next h.beginSet) (.next h)

theorem CanonOut.execNvmCheckpoint (h : Canon s) {sub} : CanonOut (execNvmCheckpoint sub s) := by
  unfold Machine.execNvmCheckpoint
  exact .runCmd h (.ite h.beginUrgent h.beginSet)

theorem Canon.completeOpt (h : Canon s) {op sub status result} : Canon (completeOpt op sub status result s) := by
  unfold Machine.completeOpt; split; exacts [h.complete, h]

theorem Canon.urgentDone (h : Canon s) {r sub secs} : Canon (urgentDone r sub secs s) :=
  .ite h.keep.raise.completeOpt (.ite h.keep.completeOpt.keep h.keep)

theorem Canon.setDone (h : Canon s) {c sub secs} : Canon (setDone c sub secs s) :=
  .completeOpt (.raise (.ite h.keep h.keep))

theorem Canon.imagesDone (h : Canon s) {l inPlace secs sub} : Canon (imagesDone l inPlace secs sub s) :=
  .completeOpt (.awaitInstant (h.keep.foldl fun _ _ h => h.keep))

theorem Canon.firmwareDone (h : Canon s) {image sub} : Canon (firmwareDone image sub s) := h.setInactive.completeOpt

theorem Canon.finishJob (h : Canon s) {j} : Canon (finishJob j s) := by
  unfold Machine.finishJob
  split
  · exact h.urgentDone
  · exact h.setDone
  · exact h
  · exact h
  · exact by split; exacts [h.keep.configForce, h]
  · exact h.imagesDone
  · exact h.firmwareDone

theorem Canon.nvmJobSpoil (h : Canon s) {j} : Canon (NvmJob.spoil j s) :=
  .ite h (by split; exacts [h.keep, h.keep, h.keep, h, h])

theorem Canon.nvmJobTear (h : Canon s) {j} : Canon (NvmJob.tear j s) := h.keep
theorem Canon.failJob (h : Canon s) {j} : Canon (failJob j s) := h.nvmJobSpoil.completeOpt

theorem Canon.openSector (h : Canon s) (e : openSector s = some t) : Canon t := by
  unfold Machine.openSector at e
  split at e
  · cases e
  · obtain ⟨i, -, rfl⟩ := Option.map_eq_some_iff.1 e
    exact h.keep

theorem Canon.placePage (h : Canon s) {j p} (e : placePage j s = some p) : Canon p.2 := by
  unfold Machine.placePage at e
  split at e
  · cases e
    exact h
  · obtain ⟨u, hu, rfl⟩ := Option.map_eq_some_iff.1 e
    split at hu
    · cases hu
      exact h.keep
    · exact .keep (h.openSector hu)

theorem Canon.dropSets (h : Canon s) : Canon (dropSets s) := h.keep.foldl fun _ _ h => h.failJob
theorem Canon.markBad (h : Canon s) {i} : Canon (markBad i s) := .ite h (h.keep.raise.when (·.keep.dropSets.raise))
theorem Canon.pageFailed (h : Canon s) {at_} : Canon (pageFailed at_ s) := h.keep.fileReport
theorem Canon.logPage (h : Canon s) {l} : Canon (logPage l s) := h.keep
theorem Canon.flushLog (h : Canon s) : Canon (flushLog s) := .ite h h.logPage.keep
theorem Canon.flushAll (h : Canon s) : Canon (flushAll s) := h.foldl fun _ _ h => .ite h h.flushLog

theorem Canon.stopFlash (h : Canon s) : Canon (stopFlash s) :=
  .ite h (by split; exacts [h.keep.beginUrgent, .ite h.keep.flushAll.stopRopes h, h])

theorem Canon.leaveHold (h : Canon s) : Canon (leaveHold s) := h.logAdd

theorem Canon.resetFromHold (h : Canon s) {cause} : Canon (resetFromHold cause s) :=
  .wholeReset (.ite h (.ite h.leaveHold h.leaveHold.flushAll))

theorem Canon.restartIf (h : Canon s) : Canon (restartIf s) := .ite h.resetFromHold h

theorem Canon.jobPage (h : Canon s) {ok j r} : Canon (jobPage ok j r s) :=
  .ite (.ite h.keep.finishJob.settle h.keep.settle)
    (.ite h.pageFailed.keep.settle (.settle (.failJob (.ite h.pageFailed.keep.markBad h.pageFailed.keep.raise))))

theorem Canon.logPageEnd (h : Canon s) {ok} : Canon (logPageEnd ok s) := .ite h.flushLog h.logPage.pageFailed

theorem Canon.tailEnd (h : Canon s) {ok} : Canon (tailEnd ok s) :=
  .ite h.keep.logPageEnd (.ite h.keep h.keep.pageFailed)

theorem Canon.pageEnd (h : Canon s) {ok} : Canon (pageEnd ok s) := by
  refine .ite h.tailEnd.settle ?_
  split
  · exact .ite h.logPageEnd h
  · split
    next he => exact .jobPage (h.placePage he)
    next => exact h

theorem CanonOut.execNvmPageProgrammed (h : Canon s) {ok} : CanonOut (execNvmPageProgrammed ok s) :=
  .ite (.next h) (.next h.pageEnd.stopFlash.restartIf)

theorem Canon.eraseJournal (h : Canon s) {i} : Canon (eraseJournal i s) := h.keep
theorem Canon.eraseLog (h : Canon s) : Canon (eraseLog s) := h.keep

theorem CanonOut.execNvmSectorErased (h : Canon s) {e ok} : CanonOut (execNvmSectorErased e ok s) :=
  .ite (.next h) (.ite (.next h.pageFailed) (.next (.announceWear (.ite h.keep.eraseJournal (.ite h.keep.eraseLog h.keep)))))

theorem Canon.cutJob (h : Canon s) {j} : Canon (cutJob j s) := h.nvmJobSpoil.nvmJobTear.completeOpt

theorem Canon.cutJobs (h : Canon s) {logging} : Canon (cutJobs logging s) := by
  unfold Machine.cutJobs
  extract_lets _ _ _ u
  have hu : Canon u := by
    unfold u
    split
    · refine .ite ?_ h
      split
      next he => exact h.placePage he
      next => exact h
    · exact h
  exact hu.keep.foldl fun _ _ h => h.cutJob

theorem Canon.restPages {n j p} (h : Canon s) (e : restPages n j s = some p) : Canon p.2 := by
  induction n generalizing j s with
  | zero =>
    cases e
    exact h
  | succ n ih =>
    obtain ⟨x, hx, he⟩ := Option.bind_eq_some_iff.1 e
    exact ih (h.placePage hx) he

theorem Canon.headDone (h : Canon s) : Canon (headDone s) := by
  unfold Machine.headDone
  dsimp only
  split
  · exact h.settle
  · split
    next he => exact .finishJob (.keep (h.settle.restPages he))
    next => exact h.settle.keep.failJob

theorem Canon.urgentsDone (h : Canon s) : Canon (urgentsDone s) := .foldl (.ite h.tailEnd h) fun _ _ h => h.headDone
theorem Canon.dropSaves (h : Canon s) : Canon (dropSaves s) := h.keep

theorem Canon.saveReqStore (h : Canon s) {q} : Canon (SaveReq.store q s) := by
  unfold Machine.SaveReq.store; split; exacts [h.saveSys, h.savePtp, h.storeSaved]

theorem Canon.doSaves (h : Canon s) : Canon (doSaves s) := .dropSaves (h.foldl fun _ _ h => h.saveReqStore)
theorem Canon.markSave (h : Canon s) {q} : Canon (markSave q s) := by unfold Machine.markSave; split <;> exact h.keep
theorem Canon.askSave (h : Canon s) {q} : Canon (askSave q s) := .ite h.markSave.keep.doSaves (.ite h.markSave.keep h)
theorem CanonOut.execSysCtrlSave (h : Canon s) : CanonOut (execSysCtrlSave s) := .ite (.next h) (.next h.askSave)

theorem CanonOut.execPtpCtrlSave (h : Canon s) {v} : CanonOut (execPtpCtrlSave v s) :=
  .ite (.next h) (.ite (.next h.setPtpCtrl.askSave) (.next h.setPtpCtrl))

theorem Canon.setLegCtrl (h : Canon s) {v} : Canon (setLegCtrl v s) := .ite h h.keep

theorem CanonOut.execLegCtrlSave (h : Canon s) {v} : CanonOut (execLegCtrlSave v s) :=
  .ite (.next h) (.ite (.next h.setLegCtrl.askSave) (.next h.setLegCtrl))

theorem CanonOut.execLogRead (h : Canon s) {sub} : CanonOut (execLogRead sub s) := .runCmd h h.flashRead.dma.complete
theorem Canon.scanJournal (h : Canon s) {bad} : Canon (scanJournal bad s) := h.keep

theorem Canon.readCopies (h : Canon s) {bad} : Canon (readCopies bad s) :=
  .when (.when (.when (.ite h.keep h) (·.keep)) (·.keep)) (·.keep)

theorem Canon.restoreCounters (h : Canon s) : Canon (restoreCounters s) := by
  unfold Machine.restoreCounters
  split
  exacts [h, h.keep]

theorem Canon.restoreCells (h : Canon s) : Canon (restoreCells s) := h.keep

theorem Canon.restoreTuning (h : Canon s) : Canon (restoreTuning s) := by
  unfold Machine.restoreTuning
  split
  exacts [h.keep, h]

theorem Canon.loadSaved (h : Canon s) : Canon (loadSaved s) := by
  unfold Machine.loadSaved
  dsimp only
  repeat' split
  all_goals exact h.keep

/-! ### Power -/

theorem Canon.runBank (h : Canon s) {b trial fallback} : Canon (runBank b trial fallback s) := .ite h.keep.logAdd h.keep

theorem Canon.selectBank (h : Canon s) {r wdog} (e : selectBank r wdog s = some t) : Canon t := by
  unfold Machine.selectBank at e
  dsimp only at e
  repeat' split at e
  all_goals cases e
  exacts [h.setBank.runBank, h.setBank.runBank, h.runBank, h.runBank, h.runBank]

theorem Canon.bootStart (h : Canon s) {mv} : Canon (bootStart mv s) := h.keep.logAdd
theorem Canon.markRetired (h : Canon s) {u} : Canon (markRetired u s) := h.keep
theorem Canon.bootRead (h : Canon s) {r} : Canon (bootRead r s) := h.readCopies.scanJournal
theorem Canon.bootRetired (h : Canon s) : Canon (bootRetired s) := .keep (h.foldl fun _ _ h => h.markRetired)
theorem Canon.bootFails (h : Canon s) : Canon (bootFails s) := h.keep

theorem Canon.bootLoad (h : Canon s) {r} : Canon (bootLoad r s) :=
  h.loadSaved.keep.restoreTuning.restoreCounters.restoreCells.resetDom.resetDom

theorem Canon.bootFinish (h : Canon s) : Canon (bootFinish s) :=
  h.keep.enterPower.startMeasurement.settleWork.doSaves.foldl fun _ _ h => .ite h.tieBegin h

theorem Canon.bootReports (h : Canon s) {r} : Canon (bootReports r s) :=
  .when (h.foldl fun _ _ h => h.fileReport) (·.fileReport)

theorem CanonOut.execPowerGood (h : Canon s) {r} : CanonOut (execPowerGood r s) := by
  have hold : Canon (bootRetired (bootRead r (bootClock (bootStart r.vauxMv s)))) := h.bootStart.keep.bootRead.bootRetired
  refine .ite (.next h) ?_
  dsimp only
  split
  next => exact .next hold.keep
  next he =>
    have hbank := hold.selectBank he
    exact .ite (.next hbank.keep.bootReports.keep) (.next (hbank.keep.bootReports.bootLoad.unless (·.bootFinish)))

theorem CanonOut.execBootResume (h : Canon s) : CanonOut (execBootResume s) :=
  .ite (.next h) (.next (.when (.ite h.keep.enterPower.leaveHold h.keep) (·.bootFinish)))

theorem CanonOut.execBootXtalTimeout (h : Canon s) : CanonOut (execBootXtalTimeout s) :=
  .ite (.next h) (.next h.bootStart.bootFails.keep)

theorem CanonOut.execFwTrialConfirm (h : Canon s) : CanonOut (execFwTrialConfirm s) :=
  .ite (.next (.keep (h.setBank.unless (·.setBank)))) (.next h)

theorem CanonOut.execPorstNAssert (h : Canon s) : CanonOut (execPorstNAssert s) := .next h.wholeReset.keep
theorem CanonOut.execBrownOut (h : Canon s) {vauxMv} : CanonOut (execBrownOut vauxMv s) := .next h.wholeReset.keep

theorem CanonOut.execWatchdogReset (h : Canon s) : CanonOut (execWatchdogReset s) :=
  .ite (.next h.resetFromHold) (.next h)

theorem CanonOut.execHardCut (h : Canon s) : CanonOut (execHardCut s) := .next h.wholeReset.keep
theorem Canon.stopTests (h : Canon s) : Canon (stopTests s) := h.keep.foldl fun _ _ h => h.complete

theorem Canon.orderlyStop (h : Canon s) {cause sub committed} : Canon (orderlyStop cause sub committed s) := by
  unfold Machine.orderlyStop
  extract_lets _ _ _ _ _ u
  have hu : Canon u := h.keep.enterPower.writeStatus.raise.abortJobs.cutJobs.dropSaves.stopTests
  exact .ite hu.keep.stopRopes (.ite hu.keep hu.keep.beginUrgent)

theorem Canon.haltPins (h : Canon s) : Canon (haltPins s) := h.keep

theorem CanonOut.execBleedOpenWaitEnd (h : Canon s) : CanonOut (execBleedOpenWaitEnd s) :=
  .ite (.next h.completeOpt.keep.haltPins.enterPower.writeStatus) (.next h)

theorem CanonOut.execShutdown (h : Canon s) {sub} : CanonOut (execShutdown sub s) := .runCmd h h.orderlyStop

theorem CanonOut.execXtalLost (h : Canon s) : CanonOut (execXtalLost s) := by
  refine .ite (.next h) ?_
  dsimp only
  split
  · exact .next h.keep.logAdd.orderlyStop
  · exact .next h.keep.logAdd.orderlyStop
  · exact .next (.ite (.ite h.keep.logAdd.leaveHold.orderlyStop h.keep.logAdd) (.ite h.keep.logAdd.leaveHold.orderlyStop h.keep.logAdd))
  · exact .next (.ite h.keep.logAdd.orderlyStop h.keep.logAdd)
  · exact .next h.keep.logAdd
  · exact .next h.keep.logAdd
  · exact .next h.keep.logAdd

theorem CanonOut.execVauxWarning (h : Canon s) {mv} : CanonOut (execVauxWarning mv s) :=
  .ite (.next h.keep.raise) (.next h.keep)

theorem CanonOut.execVauxWarningRearm (h : Canon s) {mv} : CanonOut (execVauxWarningRearm mv s) :=
  .ite (.next h.keep) (.next h.keep)

theorem Canon.holdFrames (h : Canon s) : Canon (holdFrames s) := h.keep
theorem Canon.holdRopes (h : Canon s) : Canon (holdRopes s) := h.keep
theorem Canon.holdTests (h : Canon s) : Canon (holdTests s) := h.keep
theorem Canon.countHold (h : Canon s) : Canon (countHold s) := h.keep.logAdd

theorem CanonOut.execHoldEntry (h : Canon s) {mv} : CanonOut (execHoldEntry mv s) :=
  .ite (.next h.keep) (.ite
    (.next h.keep.countHold.authHold.holdRopes.sendSafe.timeHold.enterPower.holdFrames.holdTests.dealLanes.cutJobs.beginUrgent)
    (.ite (.next h.keep.countHold.enterPower) (.next h.keep)))

theorem CanonOut.execHoldCommitDone (h : Canon s) : CanonOut (execHoldCommitDone s) :=
  .ite (.next (.restartIf (h.urgentsDone.flushAll.keep.raise.writeStatus.when (·.leaveHold.orderlyStop)))) (.next h)

theorem CanonOut.execHoldReturn (h : Canon s) {mv} : CanonOut (execHoldReturn mv s) :=
  .ite (.ite (.next (h.keep.enterPower.settleWork.leaveHold.doSaves.foldl fun _ _ h => h.authResume))
    (.next h.keep.resetFromHold)) (.next h.keep)

theorem Canon.activate (h : Canon s) : Canon (activate s) := h.dropPending.when (·.setBank)

theorem CanonOut.execFwUpdate (h : Canon s) {sub buf} : CanonOut (execFwUpdate sub buf s) := by
  unfold Machine.execFwUpdate
  exact .runCmd h (.ite h.addJob.settle (.ite h.activate.complete h.activate.beginUrgent))

end Sys2Proof.Machine

namespace Sys2Proof.Machine

variable {s t : State}

/-! ### The host interface -/

theorem Canon.dropJobs (h : Canon s) : Canon (dropJobs s) :=
  .settleWork (h.keep.foldl fun _ _ h => .foldl (h.complete.when (·.raise)) fun _ _ h => h.complete)

theorem Canon.hostReset (h : Canon s) : Canon (hostReset s) := h.keep.dropJobs
theorem CanonOut.execPerst (h : Canon s) : CanonOut (execPerst s) := .next h.hostReset.keep
theorem CanonOut.execFunctionLevelReset (h : Canon s) : CanonOut (execFunctionLevelReset s) := .next h.hostReset
theorem CanonOut.execLinkDown (h : Canon s) : CanonOut (execLinkDown s) := .next h.hostReset.keep
theorem CanonOut.execPerstRelease (h : Canon s) : CanonOut (execPerstRelease s) := .next h.keep

theorem CanonOut.execBar0MisalignedAccess (h : Canon s) {isWrite} : CanonOut (execBar0MisalignedAccess isWrite s) :=
  .next h.hifErr.keep

theorem Canon.dropFetch (h : Canon s) {n} : Canon (dropFetch n s) := .ite h.keep h

theorem Canon.ringOff (h : Canon s) {n} : Canon (ringOff n s) := by
  unfold Machine.ringOff
  extract_lets _ u
  have hu : Canon u := h.keep.when (·.dropFetch)
  exact .ite hu.keep (.ite hu.keep (.ite hu.keep (.ite hu.keep hu)))

theorem Canon.ringOn (h : Canon s) {n} : Canon (ringOn n s) := .ite h.hifErr h.modRing

theorem Canon.writeRingCtrl (h : Canon s) {v} : Canon (writeRingCtrl v s) :=
  .ite h (.ite (.ite h.modRing h.modRing.ringOn) (.ite h.modRing.ringOff h.modRing))

theorem Canon.linkSeen (h : Canon s) : Canon (linkSeen s) := .ite h.keep h
theorem CanonOut.execRingEnable (h : Canon s) {v} : CanonOut (execRingEnable v s) := .next h.linkSeen.writeRingCtrl
theorem CanonOut.execRingDisable (h : Canon s) {v} : CanonOut (execRingDisable v s) := .next h.linkSeen.writeRingCtrl
theorem Canon.judgeStalls (h : Canon s) : Canon (judgeStalls s) := h.foldl fun _ _ h => .ite h.keep.raise h.keep

theorem CanonOut.execDoorbellPoll (h : Canon s) : CanonOut (execDoorbellPoll s) :=
  .ite (.next h) (.next (.ite h.keep h.keep.writeStatus))

theorem Canon.takeIndex (h : Canon s) {b n} : Canon (takeIndex b s n) := .ite h (.ite h.modRing.hifErr.keep h.modRing)
theorem Canon.judgeBeat (h : Canon s) {beat} : Canon (judgeBeat beat s) := .ite h.keep (.ite h.keep.raise h)

theorem CanonOut.execDoorbellReadDone (h : Canon s) {d} : CanonOut (execDoorbellReadDone d s) :=
  .ite (.next h) (by split; exacts [.next h.keep, .next (.judgeStalls (.judgeBeat (h.drainWrites.keep.foldl fun _ _ h => h.takeIndex)))])

theorem CanonOut.execStatusBlockTimer (h : Canon s) : CanonOut (execStatusBlockTimer s) := .next h.writeStatus

theorem CanonOut.execSubmissionFetch (h : Canon s) : CanonOut (execSubmissionFetch s) :=
  .ite (.next h) (by split; exacts [.next h.judgeStalls, .next h.keep.judgeStalls])

theorem Canon.releaseSlot (h : Canon s) {n} : Canon (releaseSlot n s) := h.keep
theorem Canon.countDup (h : Canon s) {sub} : Canon (countDup sub s) := h.keep.raise

theorem Canon.answerDup (h : Canon s) {op sub status orig result} : Canon (answerDup op sub status orig result s) :=
  h.countDup.releaseSlot.postCompletion

theorem Canon.mergeDup (h : Canon s) {e sub} : Canon (mergeDup e sub s) := .ite h.keep h.keep.releaseSlot

theorem Canon.enterTable (h : Canon s) {op sub} : Canon (enterTable op sub s) :=
  .ite h.keep (by split; exacts [.ite h.mergeDup.countDup h.answerDup, by split; exacts [.ite h.answerDup h.answerDup, h.keep]])

theorem Canon.putBack (h : Canon s) {n} : Canon (putBack n s) := h.keep

theorem CanonOut.execSubmissionFetchDone (h : Canon s) {d} : CanonOut (execSubmissionFetchDone d s) := by
  unfold Machine.execSubmissionFetchDone
  split
  · exact .next h
  · dsimp only
    split
    · exact .next h.keep.releaseSlot.modRing.hifErr.judgeStalls
    · exact .ite (.next h.keep.drainWrites.releaseSlot.putBack.judgeStalls) (.next h.keep.drainWrites.keep.modRing.enterTable.judgeStalls)

theorem CanonOut.execCommandStart (h : Canon s) {sq} : CanonOut (execCommandStart sq s) := by
  unfold Machine.execCommandStart; split; exacts [.next h, .ite (.next h) (.next (.ite h.keep h.keep.complete))]

theorem CanonOut.execEventEntryWrite (h : Canon s) : CanonOut (execEventEntryWrite s) := by
  unfold Machine.execEventEntryWrite
  dsimp only
  split
  · exact .next h
  · exact .ite (.next h) (.next (h.drainWrites.keep.postEntry.unless (·.signal)))

theorem CanonOut.execMsixModerationTimeout (h : Canon s) {vec} : CanonOut (execMsixModerationTimeout vec s) :=
  .next (.ite h h.sendMsg)

theorem Canon.msixWritten (h : Canon s) {w} : Canon (msixWritten w s) := h.keep
theorem Canon.sendPending (h : Canon s) {v} : Canon (sendPending v s) := .ite h.sendMsg h

theorem CanonOut.execMsixVectorUnmask (h : Canon s) {w} : CanonOut (execMsixVectorUnmask w s) :=
  .next (h.msixWritten.foldl fun _ _ h => h.sendPending)

theorem CanonOut.execSmrEntryWrite (h : Canon s) : CanonOut (execSmrEntryWrite s) := by
  unfold Machine.execSmrEntryWrite; dsimp only; split; exacts [.next h, .ite (.next h) (.next h.drainWrites.queuePop.postEntry)]

/-! ### Registers -/

theorem Canon.readWith (h : Canon s) {off latch} (hl : ∀ {t}, Canon t → Canon (latch t)) :
    Canon (readWith off latch s) :=
  .keep (h.when hl)

theorem CanonOut.execMetLoRead (h : Canon s) {off} : CanonOut (execMetLoRead off s) :=
  .next (h.readWith fun h => .ite h.keep (.ite h.keep (.ite h.keep (.ite h.keep h))))

theorem CanonOut.execTimNowLoRead (h : Canon s) : CanonOut (execTimNowLoRead s) := .next (h.readWith (·.keep))
theorem CanonOut.execTimLatLoRead (h : Canon s) : CanonOut (execTimLatLoRead s) := .next (h.readWith (·.keep))
theorem CanonOut.execTimPpsinLoRead (h : Canon s) : CanonOut (execTimPpsinLoRead s) := .next (h.readWith (·.keep))
theorem CanonOut.execPtpDomGmLoRead (h : Canon s) : CanonOut (execPtpDomGmLoRead s) := .next (h.readWith (·.keep))
theorem CanonOut.execSysEpochLoRead (h : Canon s) : CanonOut (execSysEpochLoRead s) := .next (h.readWith (·.keep))
theorem CanonOut.execDiagFramesLoRead (h : Canon s) : CanonOut (execDiagFramesLoRead s) := .next (h.readWith (·.keep))

theorem CanonOut.execSarQLoRead (h : Canon s) : CanonOut (execSarQLoRead s) :=
  .next (h.readWith fun h => by split; exacts [.ite h h.keep, h])

theorem Canon.stateOf (h : Canon s) {o} (ho : CanonOut o) : Canon (stateOf o s) := by
  unfold Machine.stateOf
  split
  · exact ho _ rfl
  · exact h

theorem Canon.writeSysB (h : Canon s) {off v} : Canon (writeSysB off v s) :=
  .ite h.keep (.ite (h.stateOf (.execSysCtrlSave h)) h)

theorem Canon.writeHif (h : Canon s) {off v} : Canon (writeHif off v s) := by
  unfold Machine.writeHif
  dsimp only
  split
  · exact .ite h h.keep
  · exact .ite h h.keep
  · exact .ite h h.keep
  · exact .ite h h.keep
  · exact h.keep
  · exact h.keep
  · exact h.keep
  · exact .ite h.modRing h
  · exact .ite h.modRing h
  · exact h.writeRingCtrl
  · exact h.keep
  · exact h.keep
  · exact h

theorem Canon.writeEvt (h : Canon s) {off v} : Canon (writeEvt off v s) := .ite h.keep.moderate h.keep
theorem Canon.captureTime (h : Canon s) : Canon (captureTime s) := h.keep

theorem Canon.writeTim (h : Canon s) {off v} : Canon (writeTim off v s) := by
  unfold Machine.writeTim; dsimp only; split; exacts [.ite h.captureTime h, h.keep, h.keep, h.keep, h.keep, h.keep, h]

theorem Canon.writePtp (h : Canon s) {off v} : Canon (writePtp off v s) := by
  unfold Machine.writePtp
  dsimp only
  split
  · exact h.stateOf (.execPtpCtrlSave h)
  · exact h.keep
  · exact h.keep
  · exact h.setDomCfg
  · exact h.keep
  · exact h.modPort
  · exact h.modPort
  · exact h.modPort
  · exact h.modPort
  · exact h.stateOf (.execPtpMdioGo h)
  · exact h.keep
  · exact .ite h h.keep
  · exact .ite h h.keep
  · exact h

theorem Canon.writeMet (h : Canon s) {off v} : Canon (writeMet off v s) := by
  unfold Machine.writeMet; split; exacts [h.keep, h.modMet, .ite h h.keep, h]

theorem Canon.writeSar (h : Canon s) {off v} : Canon (writeSar off v s) := by
  unfold Machine.writeSar; dsimp only; split; exacts [h.keep, h.keep, h.keep, h.keep.ocPin, h.keep.ocPin, h.keep, h.keep, h]

theorem Canon.writeRope (h : Canon s) {off v} : Canon (writeRope off v s) := by
  unfold Machine.writeRope
  split
  exacts [h.keep, h.modRope, h]

theorem Canon.clearPeak (h : Canon s) : Canon (clearPeak s) := h.keep

theorem Canon.writeThm (h : Canon s) {off v} : Canon (writeThm off v s) := by
  unfold Machine.writeThm; dsimp only; split; exacts [h.keep, h.keep, h.keep, .ite h.clearPeak h, .ite h h.keep, .ite h h.keep, h]

theorem Canon.writePwr (h : Canon s) {off v} : Canon (writePwr off v s) := by
  unfold Machine.writePwr; split; exacts [h.stateOf (.execPwrModeWrite h), .ite h h.keep, .ite h h.keep, h.keep, h.keep, h]

theorem Canon.writeNvm (h : Canon s) {off v} : Canon (writeNvm off v s) := by
  unfold Machine.writeNvm; split; exacts [.ite h h.keep, h.keep, h.keep, h]

theorem Canon.writeSec (h : Canon s) {off v} : Canon (writeSec off v s) := .ite h.keep h

theorem Canon.writeLeg (h : Canon s) {off v} : Canon (writeLeg off v s) := by
  unfold Machine.writeLeg
  split
  exacts [h.stateOf (.execLegCtrlSave h), h.keep, h.keep, h]

theorem Canon.writeDiag (h : Canon s) {off v} : Canon (writeDiag off v s) := .ite h.keep h

theorem Canon.writeReg (h : Canon s) {off v} : Canon (writeReg off v s) := by
  unfold Machine.writeReg
  split
  · exact h.writeSysB
  · exact h.writeHif
  · exact h.writeEvt
  · exact h.writeTim
  · exact h.writePtp
  · exact h.writeMet
  · exact h.writeSar
  · exact h.writeRope
  · exact h.writeThm
  · exact h.writePwr
  · exact h.writeNvm
  · exact h.writeSec
  · exact h.writeLeg
  · exact h.writeDiag
  · exact h

theorem CanonOut.execRegisterWrite (h : Canon s) {off v} : CanonOut (execRegisterWrite off v s) :=
  .next (h.linkSeen.when (·.writeReg))

theorem CanonOut.execTimLatchCapture (h : Canon s) : CanonOut (execTimLatchCapture s) := .next (.ite h.captureTime h)
theorem CanonOut.execThmDiePeakClr (h : Canon s) : CanonOut (execThmDiePeakClr s) := .next (.ite h.clearPeak h)

/-! ### Diagnosis and self-tests -/

theorem Canon.enterWarn (h : Canon s) : Canon (enterWarn s) := h.keep.settleWork.raise
theorem Canon.leaveWarn (h : Canon s) : Canon (leaveWarn s) := h.keep.settleWork
theorem Canon.dieRuns (h : Canon s) : Canon (dieRuns s) := h.keep

theorem Canon.judgeWarn (h : Canon s) : Canon (judgeWarn s) :=
  .ite (.ite (.ite h.leaveWarn h) (.ite h.leaveWarn h)) (.ite h.enterWarn (.ite h.keep.enterWarn h))

theorem Canon.enterDie (h : Canon s) {a b} : Canon (enterDie a b s) := h.keep

theorem Canon.judgePeriodTemps (h : Canon s) {l} : Canon (judgePeriodTemps l s) :=
  h.enterPins.tuneTemperature.enterDie.dieRuns.judgeWarn

theorem CanonOut.execHousekeepingPeriodEnd (h : Canon s) {n} : CanonOut (execHousekeepingPeriodEnd n s) := by
  unfold Machine.execHousekeepingPeriodEnd
  split
  · exact .next h
  · exact .ite (.next h.keep) (.next (h.keep.judgePeriodTemps.when (·.orderlyStop)))

theorem CanonOut.execTraverseShareHalving (h : Canon s) : CanonOut (execTraverseShareHalving s) :=
  .ite (.next h) (.next h.keep.settleWork)

theorem Canon.tuneOut (h : Canon s) {u} : Canon (tuneOut u s) := h.keep

theorem Canon.fastOut (h : Canon s) {c} : Canon (fastOut c s) := by
  unfold Machine.fastOut
  extract_lets run u _ _ v w
  clear_value run
  have hu : Canon u := by
    unfold u
    split
    · exact h.abortConv
    · exact h
  have hv : Canon v := hu.modConv.modConv
  have hw : Canon w := by
    unfold w
    split
    · exact hv.runEnded
    · exact hv
  exact hw.captureEnd.sarKick

theorem Canon.portOut (h : Canon s) {str e} : Canon (portOut str e s) :=
  .ropeGap (.sweepPortOut (.modRope (.ite h h.setMode)))

theorem Canon.limitJobs (h : Canon s) : Canon (limitJobs s) := h.foldl fun _ _ h => .ite h.endJob h

theorem Canon.bankOut (h : Canon s) {b} : Canon (bankOut b s) :=
  .ite h.keep (.ite h.keep (by dsimp only; split; exacts [h.keep, .ite h.keep.limitJobs (.ite h.keep.orderlyStop h.keep.limitJobs)]))

theorem Canon.retireUnit (h : Canon s) {u} : Canon (retireUnit u s) := by
  unfold Machine.retireUnit
  dsimp only
  split
  · exact h.markRetired.storeSaved.raise.tuneOut
  · exact h.markRetired.storeSaved.raise.tuneOut.fastOut
  · exact h.markRetired.storeSaved.raise.portOut
  · exact h.markRetired.storeSaved.raise.judgePeriod.dealLanes
  · exact h.markRetired.storeSaved.raise.bankOut
  · exact h.markRetired.storeSaved.raise

theorem Canon.restoreUnit (h : Canon s) {u} : Canon (restoreUnit u s) := h.keep.storeSaved.refreshLane
theorem Canon.clearSuspect (h : Canon s) : Canon (clearSuspect s) := h.keep

theorem Canon.lasting (h : Canon s) {u} : Canon (lasting u s) := by
  unfold Machine.lasting
  dsimp only
  split
  · exact .retireUnit (.ite h.raise.setUnitDiag h.raise)
  · exact .retireUnit (.ite h.raise.setUnitDiag h.raise)
  · exact .ite h.raise.setUnitDiag h.raise.retireUnit
  · exact .ite h.raise.setUnitDiag h.raise.retireUnit
  · exact h.raise.retireUnit
  · exact by split; exacts [h.raise.clearSuspect.markBad, h.raise.clearSuspect]
  · exact h.raise.keep.suspendTuning.setUnitDiag

theorem Canon.transient (h : Canon s) {u} : Canon (transient u s) := .raise (.setUnitDiag (.ite h.clearSuspect h))

theorem CanonOut.execSelfTestStart (h : Canon s) {unit} : CanonOut (execSelfTestStart unit s) :=
  .ite (.next h) (by
    split
    · exact .ite (.next h.setUnitDiag) (.next h.judgePeriod)
    · exact .ite (.next h) (.ite (.next h.setUnitDiag) (.next h.keep))
    · exact .next h.setUnitDiag)

theorem CanonOut.execSramBankCopyDone (h : Canon s) {bank} : CanonOut (execSramBankCopyDone bank s) :=
  .ite (by split; exacts [.next h.keep.setUnitDiag, .next h]) (.next h)

theorem Canon.testCmdDone (h : Canon s) {u pass restored detail c} : Canon (testCmdDone u pass restored detail c s) :=
  .ite h.logAdd.complete h.complete

theorem Canon.testOver (h : Canon s) {r} : Canon (testOver r s) := h.setUnitDiag.refreshLane
theorem Canon.bankBack (h : Canon s) {b} : Canon (bankBack b s) := .ite h.keep h

theorem CanonOut.execSelfTestDone (h : Canon s) {r} : CanonOut (execSelfTestDone r s) := by
  refine .ite (.next h) (.next (.foldl (.when (.when (.testOver (.when ?_ (·.bankBack))) (·.restoreUnit)) (·.judgePeriod)) ?_))
  · exact .ite h.logAdd.lasting (.ite h.logAdd.transient h.logAdd)
  · exact fun _ _ h => h.testCmdDone

theorem CanonOut.execTransientHistoryExpiry (h : Canon s) {unit} : CanonOut (execTransientHistoryExpiry unit s) :=
  .ite (.next h) (.next h.setUnitDiag)

theorem Canon.askTest (h : Canon s) {sub restore} : Canon (askTest sub restore s) := h.setUnitDiag.refreshLane
theorem CanonOut.execSelftest (h : Canon s) {sub} : CanonOut (execSelftest sub s) := .runCmd h h.askTest

theorem Canon.endTest (h : Canon s) {u} : Canon (endTest u s) :=
  .ite (h.logAdd.testOver.foldl fun _ _ h => h.testCmdDone) h

theorem CanonOut.execRetire (h : Canon s) {sub} : CanonOut (execRetire sub s) := by
  unfold Machine.execRetire
  exact .runCmd h h.retireUnit.endTest.complete

theorem CanonOut.execRestore (h : Canon s) {sub} : CanonOut (execRestore sub s) := by
  unfold Machine.execRestore
  exact .runCmd h h.askTest

theorem Canon.loseCell (h : Canon s) {g} : Canon (loseCell g s) :=
  .ite h (by
    dsimp only
    split
    · exact .ite (.setCell (.ite h.flashRead h)) (.ite (.onEst (.ite h.flashRead h) (·.keep)) (.keep (.ite h.flashRead h)))
    · exact .setCell (.ite h.flashRead h))

theorem Canon.eccLoss (h : Canon s) {p} : Canon (eccLoss p s) := by
  unfold Machine.eccLoss
  split
  · exact h.loseCell
  · exact by split; exacts [h.abandonCairn, h]
  · exact by split; exacts [h.endJob, h]
  · exact h

theorem CanonOut.execSramEccError (h : Canon s) {bank correctable place} :
    CanonOut (execSramEccError bank correctable place s) :=
  .ite (.next h) (.ite (.next (.ite h.keep.fileReport h.keep)) (.next h.eccLoss.fileReport))

/-! ### The legacy window -/

theorem Canon.legXfer (h : Canon s) {code write discarded acked} : Canon (legXfer code write discarded acked s) :=
  h.of_eq (by simp)

theorem Canon.legHot (h : Canon s) {k} : Canon (legHot k s) := h.of_eq (by simp)
theorem Canon.legSilent (h : Canon s) : Canon (legSilent s) := h.keep
theorem Canon.legReturn (h : Canon s) {code bytes} : Canon (legReturn code bytes s) := h.keep.legXfer

theorem CanonOut.execSmbusReadWord (h : Canon s) {code} : CanonOut (execSmbusReadWord code s) :=
  .ite (.next h.legReturn) (.next h.legSilent)

theorem CanonOut.execSmbusReadByte (h : Canon s) {code} : CanonOut (execSmbusReadByte code s) :=
  .ite (.next h.legSilent) (.ite (.next h.keep.legReturn) (.next h.legReturn))

theorem Canon.gaugeReset (h : Canon s) : Canon (gaugeReset s) := h.keep.setFrozen
theorem Canon.legDiscard (h : Canon s) {code} : Canon (legDiscard code s) := h.legXfer
theorem Canon.writePage (h : Canon s) {v} : Canon (writePage v s) := .ite h.keep.legXfer h.keep.legHot.legDiscard
theorem Canon.writeKey (h : Canon s) {v} : Canon (writeKey v s) := h.legXfer.keep

theorem Canon.writeGauge (h : Canon s) {v} : Canon (writeGauge v s) :=
  .ite h.keep.gaugeReset.legXfer (.ite h.keep.legXfer h.legDiscard)

theorem CanonOut.legWrite (h : Canon s) {w bytes act} (ha : Canon (act s)) : CanonOut (legWrite w bytes act s) :=
  .ite (.next h.keep) (.ite (.next h.keep.legXfer) (.ite (.next h.legDiscard) (.ite (.next h.keep.legDiscard) (.next ha))))

theorem Canon.wordEffect (h : Canon s) {code v} : Canon (wordEffect code v s) := by
  unfold Machine.wordEffect; split; exacts [h.writeKey, h.writeGauge, h.writePage, h.legDiscard]

theorem CanonOut.execSmbusWriteWord (h : Canon s) {w} : CanonOut (execSmbusWriteWord w s) := .legWrite h h.wordEffect

theorem CanonOut.execSmbusWriteByte (h : Canon s) {w} : CanonOut (execSmbusWriteByte w s) :=
  .legWrite h (by split; exacts [h.writePage, h.legDiscard])

theorem CanonOut.execSmbusUnsupportedProtocol (h : Canon s) {code} : CanonOut (execSmbusUnsupportedProtocol code s) :=
  .ite (.next h.legXfer) (.next h.legSilent)

theorem CanonOut.execSmbusBusTimeout (h : Canon s) : CanonOut (execSmbusBusTimeout s) :=
  .ite (.next h.keep) (.next h.legSilent)

theorem CanonOut.execGaugeKeyExpiry (h : Canon s) : CanonOut (execGaugeKeyExpiry s) := .next h.keep
theorem CanonOut.gaugeWord (h : Canon s) {v} : CanonOut (gaugeWord v s) := .execSmbusWriteWord h
theorem CanonOut.execGaugeReset (h : Canon s) : CanonOut (execGaugeReset s) := .gaugeWord h
theorem CanonOut.execGaugeNop (h : Canon s) : CanonOut (execGaugeNop s) := .gaugeWord h

/-! ### Every command and every step -/

theorem CanonOut.exec (h : Canon s) : ∀ i, CanonOut (exec i s)
  | .powerGood .. => .execPowerGood h
  | .bootResume => .execBootResume h
  | .bootXtalTimeout => .execBootXtalTimeout h
  | .porstNAssert => .execPorstNAssert h
  | .brownOut .. => .execBrownOut h
  | .watchdogReset => .execWatchdogReset h
  | .hardCut => .execHardCut h
  | .xtalLost => .execXtalLost h
  | .vauxWarning .. => .execVauxWarning h
  | .holdEntry .. => .execHoldEntry h
  | .holdCommitDone => .execHoldCommitDone h
  | .holdReturn .. => .execHoldReturn h
  | .fwTrialConfirm => .execFwTrialConfirm h
  | .pwrModeWrite .. => .execPwrModeWrite h
  | .windowBoundary a => .execWindowBoundary h (n := a)
  | .windowChargeEntry .. => .execWindowChargeEntry h
  | .tuningSlotEnd .. => .execTuningSlotEnd h
  | .tuningFitDone .. => .execTuningFitDone h
  | .openWireSlot .. => .execOpenWireSlot h
  | .rrefRatioCheck .. => .execRrefRatioCheck h
  | .sarRoundStart => .execSarRoundStart h
  | .sarConversionEnd .. => .execSarConversionEnd h
  | .housekeepingPeriodEnd a => .execHousekeepingPeriodEnd h (n := a)
  | .tdacDiagnosis a b => .execTdacDiagnosis h (n := a) (m := b)
  | .tdacCheck a => .execTdacCheck h (n := a)
  | .ocTrip .. => .execOcTrip h
  | .ocRelease .. => .execOcRelease h
  | .ocTripNMinEnd => .execOcTripNMinEnd h
  | .lineZeroCrossing => .execLineZeroCrossing h
  | .lineCrossingTimeout => .execLineCrossingTimeout h
  | .startSync => .execStartSync h
  | .endSync => .execEndSync h
  | .sampleInstant => .execSampleInstant h
  | .sweepStart => .execSweepStart h
  | .ropeRespReceived .. => .execRopeRespReceived h
  | .ropeAttemptTimeout .. => .execRopeAttemptTimeout h
  | .belaySend .. => .execBelaySend h
  | .reachProbe .. => .execReachProbe h
  | .throughProbe .. => .execThroughProbe h
  | .belayReturned .. => .execBelayReturned h
  | .belayNotReturned .. => .execBelayNotReturned h
  | .faultNMinEnd => .execFaultNMinEnd h
  | .tieFrameArrived .. => .execTieFrameArrived h
  | .tieFrameTimeout .. => .execTieFrameTimeout h
  | .timeUpdateDone => .execTimeUpdateDone h
  | .measurementUpdateDone .. => .execMeasurementUpdateDone h
  | .cairnBegin => .execCairnBegin h
  | .cairnComplete => .execCairnComplete h
  | .cairnDeadline .. => .execCairnDeadline h
  | .aliveToggle => .execAliveToggle h
  | .statusBlockTimer => .execStatusBlockTimer h
  | .doorbellPoll => .execDoorbellPoll h
  | .doorbellReadDone .. => .execDoorbellReadDone h
  | .submissionFetch => .execSubmissionFetch h
  | .submissionFetchDone .. => .execSubmissionFetchDone h
  | .commandStart .. => .execCommandStart h
  | .eventEntryWrite => .execEventEntryWrite h
  | .msixModerationTimeout .. => .execMsixModerationTimeout h
  | .msixVectorUnmask .. => .execMsixVectorUnmask h
  | .smrEntryWrite => .execSmrEntryWrite h
  | .ptxFetch .. => .execPtxFetch h
  | .ptpFrameTransmitted _ a _ => .execPtpFrameTransmitted h (n := a)
  | .perst => .execPerst h
  | .functionLevelReset => .execFunctionLevelReset h
  | .linkDown => .execLinkDown h
  | .bar0MisalignedAccess .. => .execBar0MisalignedAccess h
  | .registerWrite .. => .execRegisterWrite h
  | .ringEnable .. => .execRingEnable h
  | .ringDisable .. => .execRingDisable h
  | .metLoRead .. => .execMetLoRead h
  | .timNowLoRead => .execTimNowLoRead h
  | .timLatLoRead => .execTimLatLoRead h
  | .timPpsinLoRead => .execTimPpsinLoRead h
  | .ptpDomGmLoRead => .execPtpDomGmLoRead h
  | .sysEpochLoRead => .execSysEpochLoRead h
  | .diagFramesLoRead => .execDiagFramesLoRead h
  | .sarQLoRead => .execSarQLoRead h
  | .ptpTxtsTagRead => .execPtpTxtsTagRead h
  | .timLatchCapture => .execTimLatchCapture h
  | .thmDiePeakClr => .execThmDiePeakClr h
  | .sysCtrlSave => .execSysCtrlSave h
  | .ptpCtrlSave .. => .execPtpCtrlSave h
  | .legCtrlSave .. => .execLegCtrlSave h
  | .ptpDomainReconfigure .. => .execPtpDomainReconfigure h
  | .ptpMdioGo .. => .execPtpMdioGo h
  | .mdioAccessDone .. => .execMdioAccessDone h
  | .time64Second => .execTime64Second h
  | .ppsOutPulseEnd => .execPpsOutPulseEnd h
  | .cmpFire .. => .execCmpFire h
  | .trigOutPulseEnd .. => .execTrigOutPulseEnd h
  | .ppsInEdge => .execPpsInEdge h
  | .ppsLoss => .execPpsLoss h
  | .xoCorrectionUpdate => .execXoCorrectionUpdate h
  | .ptpSyncReceived .. => .execPtpSyncReceived h
  | .ptpFollowUpReceived .. => .execPtpFollowUpReceived h
  | .ptpDelayRespReceived .. => .execPtpDelayRespReceived h
  | .ptpPdelayReqReceived .. => .execPtpPdelayReqReceived h
  | .ptpPdelayRespReceived .. => .execPtpPdelayRespReceived h
  | .ptpPdelayRespFollowUpReceived .. => .execPtpPdelayRespFollowUpReceived h
  | .ptpAnnounceReceived .. => .execPtpAnnounceReceived h
  | .arpRequestReceived .. => .execArpRequestReceived h
  | .ethernetFrameDiscarded a => .execEthernetFrameDiscarded h (port := a)
  | .prxFrameReceived .. => .execPrxFrameReceived h
  | .ptpDelayReqSend .. => .execPtpDelayReqSend h
  | .ptpSyncTimeout .. => .execPtpSyncTimeout h
  | .ptpAnnounceTimeout .. => .execPtpAnnounceTimeout h
  | .ptpFreezeEnd _ a b => .execPtpFreezeEnd h (n := a) (m := b)
  | .ptpPathDelayStable _ a b => .execPtpPathDelayStable h (n := a) (m := b)
  | .hostServoTimeout => .execHostServoTimeout h
  | .urgentRecordTimer => .execUrgentRecordTimer h
  | .fullSetTimer => .execFullSetTimer h
  | .nvmPageProgrammed .. => .execNvmPageProgrammed h
  | .nvmSectorErased .. => .execNvmSectorErased h
  | .selfTestStart .. => .execSelfTestStart h
  | .selfTestDone .. => .execSelfTestDone h
  | .sramEccError .. => .execSramEccError h
  | .sramBankCopyDone .. => .execSramBankCopyDone h
  | .laneChunkTimeout .. => .execLaneChunkTimeout h
  | .traverseAdmission .. => .execTraverseAdmission h
  | .traverseChunkEnd .. => .execTraverseChunkEnd h
  | .traverseResultsDone .. => .execTraverseResultsDone h
  | .traverseWallTimeout .. => .execTraverseWallTimeout h
  | .traverseShareHalving => .execTraverseShareHalving h
  | .authFetchTimer .. => .execAuthFetchTimer h
  | .authVerifyDone .. => .execAuthVerifyDone h
  | .authRenewTimer .. => .execAuthRenewTimer h
  | .authRetryTimer .. => .execAuthRetryTimer h
  | .balOverrideExpiry .. => .execBalOverrideExpiry h
  | .smbusReadWord .. => .execSmbusReadWord h
  | .smbusWriteWord .. => .execSmbusWriteWord h
  | .smbusReadByte .. => .execSmbusReadByte h
  | .smbusWriteByte .. => .execSmbusWriteByte h
  | .smbusUnsupportedProtocol .. => .execSmbusUnsupportedProtocol h
  | .smbusBusTimeout => .execSmbusBusTimeout h
  | .gaugeKeyExpiry => .execGaugeKeyExpiry h
  | .gaugeReset => .execGaugeReset h
  | .gaugeNop => .execGaugeNop h
  | .nop .. => .execNop h
  | .identify .. => .execIdentify h
  | .configLoad .. => .execConfigLoad h
  | .configRead .. => .execConfigRead h
  | .paramLoad .. => .execParamLoad h
  | .paramCommit .. => .execParamCommit h
  | .paramRead .. => .execParamRead h
  | .ropeTieIn .. => .execRopeTieIn h
  | .ropeRaw .. => .execRopeRaw h
  | .ropeMapRead .. => .execRopeMapRead h
  | .balPolicy .. => .execBalPolicy h
  | .balOverride .. => .execBalOverride h
  | .traverseStart .. => .execTraverseStart h
  | .traverseAbort .. => .execTraverseAbort h
  | .traverseStatus .. => .execTraverseStatus h
  | .cairnSetup .. => .execCairnSetup h
  | .stateRead .. => .execStateRead h
  | .stateWrite .. => .execStateWrite h
  | .tuneNow .. => .execTuneNow h
  | .tuneRead .. => .execTuneRead h
  | .selftest .. => .execSelftest h
  | .authChallenge .. => .execAuthChallenge h
  | .keyInstall .. => .execKeyInstall h
  | .sealDevice .. => .execSealDevice h
  | .attest .. => .execAttest h
  | .nvmCheckpoint .. => .execNvmCheckpoint h
  | .logRead .. => .execLogRead h
  | .timeSet .. => .execTimeSet h
  | .timeStatus .. => .execTimeStatus h
  | .sarSeqSet .. => .execSarSeqSet h
  | .sarInject .. => .execSarInject h
  | .limitSet .. => .execLimitSet h
  | .retire .. => .execRetire h
  | .restore .. => .execRestore h
  | .fwUpdate .. => .execFwUpdate h
  | .shutdown .. => .execShutdown h
  | .sweepDeadline => .execSweepDeadline h
  | .tuneNowTimeout => .execTuneNowTimeout h
  | .setAtPpsTimeout => .execSetAtPpsTimeout h
  | .authSignatureTimeout .. => .execAuthSignatureTimeout h
  | .slewEnd => .execSlewEnd h
  | .vauxWarningRearm .. => .execVauxWarningRearm h
  | .perstRelease => .execPerstRelease h
  | .bleedOpenWaitEnd => .execBleedOpenWaitEnd h
  | .transientHistoryExpiry .. => .execTransientHistoryExpiry h

theorem CanonOut.step (h : Canon s) : CanonOut (step s) := by
  unfold Machine.step
  split
  · exact .exec h.keep _
  · exact .next h.idle

/-- Settles O6: a posted write keeps the form by `Memory.wf_write`, and no step moves host memory but by posted writes. -/
theorem hostMemoryStaysCanonical : Obligations.HostMemoryStaysCanonical := fun _ t hs ht => CanonOut.step hs t ht

end Sys2Proof.Machine

namespace Sys2Proof.Machine

/-! ### Registers after reset, and accesses that are not one aligned word (R339, R558) -/

/-- Settles O9: each register of the table reads its value in the state after reset. -/
theorem resetRegisterValues : Obligations.ResetRegisterValues := by
  unfold Obligations.ResetRegisterValues
  decide +kernel

theorem hifErr_align (s : State) :
    hifErr 8 s = { s with hif := { s.hif with errAlign := true, hot := s.hif.hot.mark s.clk.ticks 8 } } := by
  have hbits : Nat.testBit 8 0 = false ∧ Nat.testBit 8 1 = false ∧ Nat.testBit 8 2 = false ∧ Nat.testBit 8 3 = true := by decide
  simp [hifErr, hbits]

/-- Settles O12: the access sets ERR_ALIGN, and what the host reads is all ones. -/
theorem misalignedAccessSetsErrAlign : Obligations.MisalignedAccessSetsErrAlign := by
  intro s
  have hx (w : Bool) : exec (.bar0MisalignedAccess w) s = execBar0MisalignedAccess w s := rfl
  simp only [hx, execBar0MisalignedAccess, hifErr_align]
  exact ⟨rfl, rfl⟩

/-! ### Events in the event block (R365) -/

theorem logAdd_frame (c t i n : Nat) (s : State) : logAdd c t i n s = { s with nvm := (logAdd c t i n s).nvm } := by
  apply State.ext_fields <;> simp

theorem recordEvent_withNvm (e i : Nat) (s : State) (v : Nvm) : recordEvent e i { s with nvm := v } = { recordEvent e i s with nvm := v } := by
  unfold recordEvent
  split <;> rfl

/-- The record that the log takes first leaves the event as it is. -/
theorem raise_evt (e i : Nat) (s : State) : (raise e i s).evt = (recordEvent e i s).evt := by
  have hlogged (c t i' n : Nat) : (recordEvent e i (logAdd c t i' n s)).evt = (recordEvent e i s).evt := by
    rw [logAdd_frame, recordEvent_withNvm]
  unfold raise
  split
  · split
    · exact hlogged ..
    · exact hlogged ..
  · rfl

theorem recordEvent_of_disabled {e : Nat} (i : Nat) {s : State} (h : s.evt.en.getLsbD e = false) : recordEvent e i s = s :=
  if_neg (by simp [h])

theorem recordEvent_evt {e : Nat} (i : Nat) {s : State} (h : s.evt.en.getLsbD e = true) :
    (recordEvent e i s).evt = { s.evt with pend := s.evt.pend ||| (1#64 <<< e), hot := s.evt.hot.mark s.clk.ticks (2 ^ e)
                                           queue := if (s.ring 8).en then queueEvent e i s else s.evt.queue } := by
  rw [recordEvent, if_pos h]

theorem queueEvent_joins {e : Nat} (i : Nat) {s : State} (h : ∃ q ∈ s.evt.queue, q.event = e) :
    queueEvent e i s = s.evt.queue.map (fun q => if q.event == e then { q with count := min 0xFFFF (q.count + 1), last := i } else q) :=
  if_pos (by simpa using h)

theorem queueEvent_queues {e : Nat} (i : Nat) {s : State} (h : ∀ q ∈ s.evt.queue, q.event ≠ e) :
    queueEvent e i s = s.evt.queue ++ [{ event := e, count := 1, info := i, time := s.now, epoch := s.frm.epoch, last := i }] :=
  if_neg (by simpa using h)

/-- Settles O60: an enabled event by what it writes into the event block and how its entry is queued, a disabled one by nothing. -/
theorem eventsAreRecordedOnce : Obligations.EventsAreRecordedOnce := by
  intro s e info
  rw [raise_evt]
  refine ⟨fun hen => ?_, fun hdis => by rw [recordEvent_of_disabled info hdis]⟩
  rw [recordEvent_evt info hen]
  exact ⟨rfl, fun hring hnew => (if_pos hring).trans (queueEvent_queues info hnew),
    fun hring hold => (if_pos hring).trans (queueEvent_joins info hold), fun hring => if_neg (by simp [hring])⟩

end Sys2Proof.Machine

namespace Sys2Proof.Machine

/-! ### Rings, stalls and the flags of HIF_ERR (R349, R358, R374) -/

/-- What one step of a fold sets, where a fact that every step keeps holds, and no step takes back, is set after the fold. -/
theorem foldl_sets {α σ : Type} {P Q : σ → Prop} {f : σ → α → σ} {a : α} {l : List α} (hQ : ∀ s b, Q s → Q (f s b)) (hP : ∀ s b, P s → P (f s b))
    (hset : ∀ s, Q s → P (f s a)) (ha : a ∈ l) {s : σ} (h : Q s) : P (l.foldl f s) := by
  obtain ⟨before, after, rfl⟩ := List.append_of_mem ha
  rw [List.foldl_append, List.foldl_cons]
  have hbefore : Q (before.foldl f s) := List.foldlRecOn before f h (fun t ht b _ => hQ t b ht)
  exact List.foldlRecOn after f (hset _ hbefore) (fun t ht b _ => hP t b ht)

/-- A ring that is enabled is one of the rings. -/
theorem State.ring_lt_of_en {s : State} {n : Nat} (h : (s.ring n).en = true) : n < s.hif.rings.length := by
  by_contra hn
  rw [State.ring, List.getD_eq_default _ _ (not_lt.1 hn)] at h
  exact absurd h (by decide)

theorem hifErr_dbIdx (s : State) :
    hifErr 2 s = { s with hif := { s.hif with errDbIdx := true, hot := s.hif.hot.mark s.clk.ticks 2 } } := by
  have hbits : Nat.testBit 2 0 = false ∧ Nat.testBit 2 1 = true ∧ Nat.testBit 2 2 = false ∧ Nat.testBit 2 3 = false := by decide
  simp [hifErr, hbits]

theorem hifErr_fetch (s : State) :
    hifErr 4 s = { s with hif := { s.hif with errFetch := true, hot := s.hif.hot.mark s.clk.ticks 4 } } := by
  have hbits : Nat.testBit 4 0 = false ∧ Nat.testBit 4 1 = false ∧ Nat.testBit 4 2 = true ∧ Nat.testBit 4 3 = false := by decide
  simp [hifErr, hbits]

/-- From `s` to `t` nothing moves but the stalls under way and the events. -/
def StallsOnly (s t : State) : Prop := t = { s with hif := { s.hif with stalled := t.hif.stalled }, evt := t.evt }

theorem StallsOnly.trans {s t u : State} (h : StallsOnly s t) (k : StallsOnly t u) : StallsOnly s u :=
  Eq.trans k (congrArg (fun v : State => { v with hif := { v.hif with stalled := u.hif.stalled }, evt := u.evt }) h)

theorem judgeStalls_stallsOnly (s : State) : StallsOnly s (judgeStalls s) := by
  unfold judgeStalls
  refine List.foldlRecOn (motive := StallsOnly s) _ _ rfl (fun t ht n _ => ht.trans ?_)
  dsimp only
  split
  · rw [raise_eq_of_unlogged n _ (by decide), recordEvent_frame]
    rfl
  · rfl

/-! ### Messages and entries (R355, R367 to R369) -/

/-- A message moves what is pending, sent and unsignalled. -/
theorem sendMsg_frame (v : Nat) (s : State) : sendMsg v s = { s with hif := { s.hif with
    pba := (sendMsg v s).hif.pba, msgs := (sendMsg v s).hif.msgs, unsig := (sendMsg v s).hif.unsig } } := by
  unfold sendMsg
  split <;> rfl

theorem signal_frame (v : Nat) (s : State) : signal v s = { s with hif := { s.hif with
    pba := (signal v s).hif.pba, msgs := (signal v s).hif.msgs, unsig := (signal v s).hif.unsig } } := by
  unfold signal moderate
  dsimp only
  split
  · rw [sendMsg_frame]
  · rfl

@[simp] theorem signal_rings (v : Nat) (s : State) : (signal v s).hif.rings = s.hif.rings := by rw [signal_frame]

/-- From `s` to `t` rings take entries of the device: their own index and its phase move, of rings that are enabled. -/
structure PostsEntries (s t : State) : Prop where
  rings : ∀ n, t.ring n = { s.ring n with mine := (t.ring n).mine, phase := (t.ring n).phase }
  off   : ∀ n, (s.ring n).en = false → t.ring n = s.ring n

namespace PostsEntries
variable {s t u : State}

theorem of_rings (h : t.hif.rings = s.hif.rings) : PostsEntries s t := by
  have hring (n : Nat) : t.ring n = s.ring n := by rw [State.ring, State.ring, h]
  exact ⟨fun n => by rw [hring], fun n _ => hring n⟩

theorem trans (h : PostsEntries s t) (k : PostsEntries t u) : PostsEntries s u where
  rings n := by rw [k.rings n, h.rings n]
  off n hn := (k.off n (by rw [h.off n hn, hn])).trans (h.off n hn)

theorem postEntry {n : Nat} (hn : (s.ring n).en = true) (b : List Byte) : PostsEntries s (postEntry n b s) := by
  have hsame : (Machine.postEntry n b s).ring n = (s.ring n).advance := State.modRing_ring_same (State.ring_lt_of_en hn) _
  have hother (k : Nat) (hk : n ≠ k) : (Machine.postEntry n b s).ring k = s.ring k := State.modRing_ring_other _ hk _
  refine ⟨fun k => ?_, fun k hoff => hother k (fun h => ?_)⟩
  · by_cases hk : n = k
    · rw [← hk, hsame]; rfl
    · rw [hother k hk]
  · rw [h, hoff] at hn
    exact absurd hn (by decide)

theorem postCompletion (sub : Submission) (op st orig : Nat) (r : List Byte) (m : Bool) (s : State) :
    PostsEntries s (postCompletion sub op st orig r m s) := by
  unfold Machine.postCompletion
  dsimp only
  split
  next h =>
    have hen : (s.ring (4 + sub.sq)).en = true := by simp_all
    exact (postEntry hen _).trans (of_rings (signal_rings ..))
  next => exact of_rings rfl

theorem finishCmd (op : Nat) (sub : Submission) (st : Nat) (r : List Byte) (s : State) : PostsEntries s (finishCmd op sub st r s) := by
  unfold Machine.finishCmd
  extract_lets e merged orphan live hif freed hif' noted
  have hfreed : PostsEntries s freed := by
    unfold freed
    clear_value e
    cases e <;> exact of_rings rfl
  have hnoted : PostsEntries s noted := by
    refine hfreed.trans ?_
    unfold noted
    split <;> exact of_rings rfl
  split
  · exact hfreed
  · exact hnoted.trans (.postCompletion ..)

theorem writeStatus (s : State) : PostsEntries s (writeStatus s) := by
  unfold Machine.writeStatus
  split
  · exact of_rings rfl
  split
  · exact of_rings rfl
  · exact of_rings rfl

/-- What waited while writes were held goes to rings that are enabled. -/
theorem drainWrites (s : State) : PostsEntries s (drainWrites s) := by
  unfold Machine.drainWrites
  split
  · extract_lets held waits hif accepted done
    have hdone : PostsEntries s done :=
      List.foldlRecOn (motive := PostsEntries s) _ _ (of_rings rfl) (fun _ ht _ _ => ht.trans (.finishCmd ..))
    split
    · exact hdone.trans (.writeStatus _)
    · exact hdone
  · exact of_rings rfl

end PostsEntries

/-! ### The doorbell block (R347 to R349, R370) -/

/-- A ring takes the host's index; an index outside the ring stops it (R349). -/
def Ring.taken (now i : Nat) (r : Ring) : Ring := if !r.en then r else if r.len ≤ i then r.fail now else { r with theirs := i }

theorem takeIndex_ring_same (b : List Byte) (s : State) (n : Nat) :
    (takeIndex b s n).ring n = (s.ring n).taken s.clk.ticks (doorbellIndex b n) := by
  unfold takeIndex Ring.taken
  simp only [hifErr_dbIdx]
  by_cases hoff : (!(s.ring n).en) = true
  · rw [if_pos hoff, if_pos hoff]
  · have hn := State.ring_lt_of_en (s := s) (n := n) (by simpa using hoff)
    rw [if_neg hoff, if_neg hoff]
    by_cases hbad : (s.ring n).len ≤ doorbellIndex b n
    · rw [if_pos hbad, if_pos hbad]
      exact State.modRing_ring_same hn _
    · rw [if_neg hbad, if_neg hbad]
      exact State.modRing_ring_same hn _

theorem takeIndex_ring_other (b : List Byte) (s : State) {n k : Nat} (h : n ≠ k) : (takeIndex b s n).ring k = s.ring k := by
  unfold takeIndex
  simp only [hifErr_dbIdx]
  split
  · rfl
  split
  · exact State.modRing_ring_other s h _
  · exact State.modRing_ring_other s h _

/-- From `s` to `t` nothing moves but the rings and the flags of a bad index. -/
def IndexesOnly (s t : State) : Prop := t = { s with hif := { s.hif with
  rings := t.hif.rings, errDbIdx := t.hif.errDbIdx, dbErrIdx := t.hif.dbErrIdx, hot := t.hif.hot } }

theorem IndexesOnly.trans {s t u : State} (h : IndexesOnly s t) (k : IndexesOnly t u) : IndexesOnly s u :=
  Eq.trans k (congrArg (fun v : State => { v with hif := { v.hif with
    rings := u.hif.rings, errDbIdx := u.hif.errDbIdx, dbErrIdx := u.hif.dbErrIdx, hot := u.hif.hot } }) h)

theorem takeIndex_indexesOnly (b : List Byte) (s : State) (n : Nat) : IndexesOnly s (takeIndex b s n) := by
  unfold takeIndex
  simp only [hifErr_dbIdx]
  split
  · rfl
  split
  · rfl
  · rfl

/-- An index outside its ring has been found in this block or an earlier one. -/
def badIndexFound (s : State) : Prop := s.hif.errDbIdx = true ∧ s.hif.dbErrIdx = true

theorem takeIndex_keeps_badIndexFound {b : List Byte} {s : State} {n : Nat} (h : badIndexFound s) : badIndexFound (takeIndex b s n) := by
  unfold takeIndex
  simp only [hifErr_dbIdx]
  split
  · exact h
  split
  · exact ⟨rfl, rfl⟩
  · exact h

theorem takeIndex_finds {b : List Byte} {s : State} {n : Nat} (hen : (s.ring n).en = true) (hbad : (s.ring n).len ≤ doorbellIndex b n) :
    badIndexFound (takeIndex b s n) := by
  unfold takeIndex
  simp only [hifErr_dbIdx, hen, Bool.not_true, Bool.false_eq_true, if_false, if_pos hbad]
  exact ⟨rfl, rfl⟩

/-- A ring takes an index and keeps EN and its size. -/
theorem Ring.taken_keeps (now i : Nat) (r : Ring) : (r.taken now i).en = r.en ∧ (r.taken now i).len = r.len := by
  unfold Ring.taken
  split
  · exact ⟨rfl, rfl⟩
  split <;> exact ⟨rfl, rfl⟩

/-- Every ring takes its index of the block, and an index outside an enabled ring is found. -/
theorem takeIndexes_spec (b : List Byte) (s : State) :
    IndexesOnly s ((List.range 12).foldl (takeIndex b) s) ∧
    (∀ n, n < 12 → ((List.range 12).foldl (takeIndex b) s).ring n = (s.ring n).taken s.clk.ticks (doorbellIndex b n)) ∧
    (∀ n, ¬ n < 12 → ((List.range 12).foldl (takeIndex b) s).ring n = s.ring n) ∧
    ∀ n, n < 12 → (s.ring n).en = true → (s.ring n).len ≤ doorbellIndex b n → badIndexFound ((List.range 12).foldl (takeIndex b) s) := by
  refine ⟨?only, fun n hn => ?taken, fun n hn => ?beyond, fun n hn hen hbad => ?found⟩
  case only => exact List.foldlRecOn (motive := IndexesOnly s) _ _ rfl (fun t ht n _ => ht.trans (takeIndex_indexesOnly b t n))
  case taken =>
    have hclk (t : State) (k : Nat) : (takeIndex b t k).clk = t.clk := by rw [takeIndex_indexesOnly b t k]
    obtain ⟨u, hu, hfold⟩ := foldl_at (fun t => (t.ring n, t.clk)) (takeIndex b) n
      (fun t k hk => Prod.ext (takeIndex_ring_other b t hk) (hclk t k)) List.nodup_range (List.mem_range.2 hn) s
    simp only [Prod.mk.injEq] at hu hfold
    rw [hfold.1, takeIndex_ring_same, hu.1, hu.2]
  case beyond =>
    refine List.foldlRecOn (motive := fun t => t.ring n = s.ring n) _ _ rfl (fun t ht k hk => (takeIndex_ring_other b t ?_).trans ht)
    have hk12 := List.mem_range.1 hk
    omega
  case found =>
    refine foldl_sets (Q := fun t => (t.ring n).en = true ∧ (t.ring n).len ≤ doorbellIndex b n) (fun t k ht => ?_)
      (fun _ _ => takeIndex_keeps_badIndexFound) (fun t ht => takeIndex_finds ht.1 ht.2) (List.mem_range.2 hn) ⟨hen, hbad⟩
    by_cases hk : k = n
    · subst hk
      obtain ⟨hen', hlen'⟩ := Ring.taken_keeps t.clk.ticks (doorbellIndex b k) (t.ring k)
      rwa [takeIndex_ring_same, hen', hlen']
    · rwa [takeIndex_ring_other b t hk]

theorem judgeBeat_frame (beat : Nat) (s : State) : judgeBeat beat s = { s with
    hif := { s.hif with beat := (judgeBeat beat s).hif.beat, beatTick := (judgeBeat beat s).hif.beatTick, hostLate := (judgeBeat beat s).hif.hostLate }
    evt := (judgeBeat beat s).evt } := by
  unfold judgeBeat
  split
  · rfl
  split
  · rw [raise_eq_of_unlogged 0 _ (by decide), recordEvent_frame]
  · rfl

/-- A good doorbell read as it finds the device that has written what waited. -/
theorem doorbellTaken_spec (b : List Byte) {s t : State}
    (h : t = judgeStalls (judgeBeat (fieldU b 24 4) ((List.range 12).foldl (takeIndex b)
      { s with hif := { s.hif with dbBusy := false, dbErrRead := false, dbErrIdx := false } }))) :
    t.hif.dbBusy = false ∧ t.hif.dbErrRead = false ∧ t.hif.writesHeld = s.hif.writesHeld ∧ t = { s with hif := t.hif, evt := t.evt } ∧
    (∀ n, n < 12 → t.ring n = (s.ring n).taken s.clk.ticks (doorbellIndex b n)) ∧ (∀ n, ¬ n < 12 → t.ring n = s.ring n) ∧
    ∀ n, n < 12 → (s.ring n).en = true → (s.ring n).len ≤ doorbellIndex b n → badIndexFound t := by
  obtain ⟨honly, htaken, hbeyond, hfound⟩ :=
    takeIndexes_spec b { s with hif := { s.hif with dbBusy := false, dbErrRead := false, dbErrIdx := false } }
  generalize (List.range 12).foldl (takeIndex b) _ = u at h honly htaken hbeyond hfound
  have hstalls := judgeStalls_stallsOnly (judgeBeat (fieldU b 24 4) u)
  rw [← h, StallsOnly, judgeBeat_frame] at hstalls
  have hring (n : Nat) : t.ring n = u.ring n := by rw [hstalls]; rfl
  refine ⟨by rw [hstalls, honly], by rw [hstalls, honly], by rw [hstalls, honly], by rw [hstalls, honly],
    fun n hn => (hring n).trans (htaken n hn), fun n hn => (hring n).trans (hbeyond n hn), fun n hn hen hbad => ?_⟩
  rw [badIndexFound, hstalls]
  exact hfound n hn hen hbad

theorem doorbellRead_good (b : List Byte) {s : State} (hbusy : s.hif.dbBusy = true) :
    ∃ t, exec (.doorbellReadDone (some b)) s = .next t ∧ t.hif.dbBusy = false ∧ t.hif.dbErrRead = false ∧
      (∀ n, n < 12 → (s.ring n).en = true → doorbellIndex b n < (s.ring n).len → (t.ring n).theirs = doorbellIndex b n ∧ (t.ring n).err = (s.ring n).err) ∧
      (∀ n, n < 12 → (s.ring n).en = true → (s.ring n).len ≤ doorbellIndex b n → (t.ring n).err = true ∧ t.hif.errDbIdx = true ∧ t.hif.dbErrIdx = true) ∧
      (∀ n, (s.ring n).en = false → t.ring n = s.ring n) ∧ t.hif.writesHeld = false ∧
      (s.hif.writesHeld = false → t = { s with hif := t.hif, evt := t.evt }) ∧ t = { s with hif := t.hif, evt := t.evt, hostMem := t.hostMem } := by
  obtain ⟨t, ht, hexec⟩ : ∃ t, t = _ ∧ exec (.doorbellReadDone (some b)) s = .next t := ⟨_, rfl, if_neg (by simp [hbusy])⟩
  obtain ⟨hbusy', hread, hheld, hframe, htaken, hbeyond, hfound⟩ := doorbellTaken_spec b ht
  obtain ⟨hdrain, -, hdrained⟩ := drainWrites_postsOnly s
  have hposts := PostsEntries.drainWrites s
  have hsame : s.hif.writesHeld = false → drainWrites s = s := drainWrites_eq
  generalize drainWrites s = v at hframe hheld htaken hbeyond hfound hdrain hdrained hposts hsame
  have hkept (n : Nat) : (v.ring n).en = (s.ring n).en ∧ (v.ring n).len = (s.ring n).len ∧ (v.ring n).err = (s.ring n).err := by
    rw [hposts.rings n]
    exact ⟨rfl, rfl, rfl⟩
  refine ⟨t, hexec, hbusy', hread, fun n hn hen hin => ?good, fun n hn hen hbad => ?bad, fun n hoff => ?off, hheld.trans hdrained,
    fun hfree => ?unheld, ?frame⟩
  case good =>
    obtain ⟨hven, hvlen, hverr⟩ := hkept n
    have htheirs : t.ring n = { v.ring n with theirs := doorbellIndex b n } :=
      (htaken n hn).trans ((if_neg (by simp [hven, hen])).trans (if_neg (by rw [hvlen]; omega)))
    rw [htheirs]
    exact ⟨rfl, hverr⟩
  case bad =>
    obtain ⟨hven, hvlen, -⟩ := hkept n
    have hfail : t.ring n = (v.ring n).fail v.clk.ticks :=
      (htaken n hn).trans ((if_neg (by simp [hven, hen])).trans (if_pos (by rw [hvlen]; exact hbad)))
    exact ⟨congrArg Ring.err hfail, hfound n hn (hven.trans hen) (hvlen ▸ hbad)⟩
  case off =>
    refine Eq.trans ?_ (hposts.off n hoff)
    by_cases hn : n < 12
    · exact (htaken n hn).trans (if_pos (by simp [(hkept n).1, hoff]))
    · exact hbeyond n hn
  case unheld =>
    exact hsame hfree ▸ hframe
  case frame =>
    have hmem : t.hostMem = v.hostMem := by rw [hframe]
    rw [hmem]
    exact hframe.trans (congrArg (fun u : State => { u with hif := t.hif, evt := t.evt }) hdrain)

/-! ### The status block (R350, R351, R373) -/

theorem writeStatus_held {s : State} (h : s.hif.writesHeld = true) : writeStatus s = { s with hif := { s.hif with stWait := true } } := if_pos h

theorem writeStatus_posts {s : State} (hheld : s.hif.writesHeld = false) (haddr : s.stAddr ≠ 0) (hup : s.hif.linkUp = true) :
    writeStatus s = { s with
      hif := { s.hif with heartbeat := wrap32 (s.hif.heartbeat + 1), stLast := statusFields s }
      hostMem := Memory.write s.hostMem s.stAddr (statusBytes s (wrap32 (s.hif.heartbeat + 1))) } :=
  (if_neg (by simp [hheld])).trans (if_pos (by simp [haddr, hup]))

theorem writeStatus_stands {s : State} (hheld : s.hif.writesHeld = false) (h : s.stAddr = 0 ∨ s.hif.linkUp = false) : writeStatus s = s :=
  (if_neg (by simp [hheld])).trans (if_neg (by rcases h with h | h <;> simp [h]))

@[simp] theorem writeStatus_dbBusy (s : State) : (writeStatus s).hif.dbBusy = s.hif.dbBusy := by
  unfold writeStatus
  split
  · rfl
  split <;> rfl

theorem doorbellPoll_reads {s : State} (hen : s.hif.rings.any (·.en) = true) (hup : s.hif.linkUp = true) :
    exec .doorbellPoll s = .next (if statusFields s = s.hif.stLast then { s with hif := { s.hif with dbBusy := true } }
      else writeStatus { s with hif := { s.hif with dbBusy := true } }) :=
  if_neg (by simp [hen, hup])

/-- Settles O42: the status block by the cases of its write, a good doorbell read by what each ring takes after what waited is posted. -/
theorem doorbellAndStatusBlocks : Obligations.DoorbellAndStatusBlocks := by
  intro s
  have hstatus : exec .statusBlockTimer s = .next (writeStatus s) := rfl
  refine ⟨fun hheld => ?_, fun hheld haddr hup => ⟨_, hstatus, ?_⟩, fun hheld hno => ?_, fun hen hup => ⟨_, doorbellPoll_reads hen hup, ?_, fun heq => if_pos heq⟩,
    fun hoff => if_pos (by simp [hoff]), fun hbusy => if_neg (by simp [hbusy]), fun b hbusy => doorbellRead_good b hbusy⟩
  · rw [hstatus, writeStatus_held hheld]
  · rw [writeStatus_posts hheld haddr hup]
    exact ⟨rfl, rfl, rfl⟩
  · rw [hstatus, writeStatus_stands hheld hno]
  · split
    · rfl
    · rw [writeStatus_dbBusy]

end Sys2Proof.Machine

namespace Sys2Proof.Machine

/-! ### Fetch and arbitration (R356 to R359, R371) -/

/-- A fetch begins: a completion slot is reserved, and the entry is read (R356 to R358). -/
theorem submissionFetch_begins {s : State} {n turn left : Nat} (hidle : s.hif.fetching = none) (hchoice : chooseSq s = some (n, turn, left)) :
    exec .submissionFetch s = .next (judgeStalls { s with hif := { s.hif with
      fetching := some n, arbBack := (s.hif.turn, s.hif.turnUsed, s.hif.passed), turn := turn, turnUsed := left, passed := passedOver s n
      reserved := s.hif.reserved.modify n (· + 1) } }) := by
  have hx : exec .submissionFetch s = execSubmissionFetch s := rfl
  simp only [hx, execSubmissionFetch, hidle, hchoice]
  rfl

theorem submissionFetch_reserves {s : State} {n turn left : Nat} (hidle : s.hif.fetching = none) (hchoice : chooseSq s = some (n, turn, left)) :
    ∃ t, exec .submissionFetch s = .next t ∧ t.hif.fetching = some n ∧ t.hif.reserved = s.hif.reserved.modify n (· + 1) ∧
      t.hif.rings = s.hif.rings ∧ t = { s with hif := t.hif, evt := t.evt } := by
  refine ⟨_, submissionFetch_begins hidle hchoice, ?_⟩
  rw [judgeStalls_stallsOnly]
  exact ⟨rfl, rfl, rfl, rfl⟩

/-- While no SQ is starved, SQ0 comes first (R357). -/
theorem chooseSq_first {s : State} (h0 : fetchable s 0 = true) (hfed : ∀ n, 1 ≤ n → n ≤ 3 → s.hif.passed.getD n 0 < starve s) :
    chooseSq s = some (0, s.hif.turn, s.hif.turnUsed) := by
  have hnone : [1, 2, 3].find? (fun n => fetchable s n && starve s ≤ s.hif.passed.getD n 0) = none := by
    rw [List.find?_eq_none]
    intro n hn
    have hrange : 1 ≤ n ∧ n ≤ 3 := by
      simp only [List.mem_cons, List.not_mem_nil, or_false] at hn
      omega
    have hpassed := hfed n hrange.1 hrange.2
    simp only [Bool.and_eq_true, decide_eq_true_eq, not_and, not_le]
    exact fun _ => hpassed
  rw [chooseSq, hnone]
  exact if_pos h0

theorem submissionFetchDone_eq {s : State} {n : Nat} (h : s.hif.fetching = some n) (hheld : s.hif.writesHeld = false) (b : List Byte) :
    exec (.submissionFetchDone (some b)) s = .next (judgeStalls
      (if startsHeld s (parseEntry n b).1 then putBack n (releaseSlot n { s with hif := { s.hif with fetching := none } })
      else enterTable (parseEntry n b).1 (parseEntry n b).2
        (({ s with hif := { s.hif with fetching := none, startHead := s.hif.startHead.set n false } } : State).modRing n Ring.advance))) := by
  have hx : exec (.submissionFetchDone (some b)) s = execSubmissionFetchDone (some b) s := rfl
  simp only [hx, execSubmissionFetchDone, h]
  have hdrain : drainWrites { s with hif := { s.hif with fetching := none } } = { s with hif := { s.hif with fetching := none } } := drainWrites_eq hheld
  rw [hdrain]
  exact (apply_ite (fun t => Host.Outcome.next (judgeStalls t)) ..).symm

/-- An entry without REQ_ID takes the last place of the table (R352, R362). -/
theorem enterTable_without_reqId (op : Nat) {sub : Submission} (h : sub.reqId = 0) (s : State) :
    enterTable op sub s = { s with hif := { s.hif with
      table := s.hif.table ++ [{ opcode := op, sub, started := false, merged := false, orphan := false }] } } := if_pos h

theorem fetchDone_enters {s : State} {n : Nat} {b : List Byte} (h : s.hif.fetching = some n) (hn : n < s.hif.rings.length)
    (hheld : s.hif.writesHeld = false) (hreq : (parseEntry n b).2.reqId = 0) (hroom : startsHeld s (parseEntry n b).1 = false) :
    ∃ t, exec (.submissionFetchDone (some b)) s = .next t ∧ t.hif.fetching = none ∧ t.ring n = (s.ring n).advance ∧
      t.hif.table = s.hif.table ++ [{ opcode := (parseEntry n b).1, sub := (parseEntry n b).2, started := false, merged := false, orphan := false }] ∧
      t = { s with hif := { s.hif with fetching := none, rings := t.hif.rings, table := t.hif.table, startHead := t.hif.startHead, stalled := t.hif.stalled }, evt := t.evt } := by
  refine ⟨_, submissionFetchDone_eq h hheld b, ?_⟩
  rw [if_neg (by simp [hroom]), enterTable_without_reqId _ hreq, judgeStalls_stallsOnly]
  exact ⟨rfl, getD_modify_same hn _ _, rfl, rfl⟩

/-- A TRAVERSE_START that the table has no room for stays at its ring's head, and its reservation goes (R359, log 64). -/
theorem fetchDone_puts_back {s : State} {n : Nat} {b : List Byte} (h : s.hif.fetching = some n) (hheld : s.hif.writesHeld = false)
    (hfull : startsHeld s (parseEntry n b).1 = true) :
    ∃ t, exec (.submissionFetchDone (some b)) s = .next t ∧ t.hif.fetching = none ∧ t.hif.rings = s.hif.rings ∧ t.hif.table = s.hif.table ∧
      t.hif.reserved = s.hif.reserved.modify n (· - 1) ∧ t = { s with hif := t.hif, evt := t.evt } := by
  refine ⟨_, submissionFetchDone_eq h hheld b, ?_⟩
  obtain ⟨u, hu⟩ : ∃ u, u = putBack n (releaseSlot n { s with hif := { s.hif with fetching := none } }) := ⟨_, rfl⟩
  have hstalls := judgeStalls_stallsOnly u
  have hframe : u = { s with hif := u.hif } := by rw [hu]; rfl
  rw [if_pos hfull, ← hu]
  generalize judgeStalls u = t at hstalls
  refine ⟨?_, ?_, ?_, ?_, ?_⟩
  iterate 4 rw [hstalls, hu]; rfl
  rw [hstalls, hframe]

/-- A failed read stops the ring with FETCH (R349, R371). -/
theorem fetchDone_fails {s : State} {n : Nat} (h : s.hif.fetching = some n) (hn : n < s.hif.rings.length) :
    ∃ t, exec (.submissionFetchDone none) s = .next t ∧ t.hif.fetching = none ∧ (t.ring n).err = true ∧ (t.ring n).errBit = true ∧ t.hif.errFetch = true ∧
      t.hif.reserved = s.hif.reserved.modify n (· - 1) ∧ t.hif.table = s.hif.table ∧ t = { s with hif := t.hif, evt := t.evt } := by
  have hx : exec (.submissionFetchDone none) s = execSubmissionFetchDone none s := rfl
  simp only [hx, execSubmissionFetchDone, h]
  refine ⟨_, rfl, ?_⟩
  rw [hifErr_fetch, judgeStalls_stallsOnly]
  have hring : (s.hif.rings.modify n (Ring.fail s.clk.ticks)).getD n Ring.reset = (s.ring n).fail s.clk.ticks := getD_modify_same hn _ _
  exact ⟨rfl, congrArg Ring.err hring, congrArg Ring.errBit hring, rfl, rfl, rfl, rfl⟩

/-! ### The start of commands (R360, R361, R379) -/

theorem commandStart_eq {s : State} {sq : Nat} {e : TableEntry} {before : List TableEntry} (h : nextStart sq [] s.hif.table = some (e, before)) :
    exec (.commandStart sq) s = if mayStart e before then
        .next (if opcodes.contains e.opcode then { s with hif := { s.hif with table := markStarted e s.hif.table } }
          else complete e.opcode e.sub stBadOpcode [] { s with hif := { s.hif with table := markStarted e s.hif.table } })
      else .next s := by
  have hx : exec (.commandStart sq) s = execCommandStart sq s := rfl
  simp only [hx, execCommandStart, h]
  cases mayStart e before <;> rfl

/-- Settles O43: the fetch by the SQ that arbitration gives, its end by what the entry is, the start by barriers and the opcode. -/
theorem fetchAndStart : Obligations.FetchAndStart := by
  intro s
  refine ⟨fun n turn left => submissionFetch_reserves, fun hidle h0 hfed => ?first, fun hbusy => if_pos hbusy, fun n b h hn hheld =>
    ⟨fetchDone_enters h hn hheld, fetchDone_puts_back h hheld, fetchDone_fails h hn⟩, fun sq e before h => ⟨fun hmay hop => ?known, fun hmay hop => ?unknown,
    fun hmay => ?waits⟩⟩
  case first =>
    obtain ⟨t, hexec, hfetching, -⟩ := submissionFetch_reserves hidle (chooseSq_first h0 hfed)
    exact ⟨t, hexec, hfetching⟩
  case known => rw [commandStart_eq h, if_pos hmay, if_pos hop]
  case unknown => rw [commandStart_eq h, if_pos hmay, if_neg (by rw [hop]; decide)]
  case waits => rw [commandStart_eq h, if_neg (by simp [hmay])]

end Sys2Proof.Machine

namespace Sys2Proof.Machine

/-! ### Event entries and MSI-X messages (R355, R365 to R369) -/

theorem eventEntryWrite_eq {s : State} {q : EvEntry} {rest : List EvEntry} (hheld : s.hif.writesHeld = false) (hq : s.evt.queue = q :: rest)
    (hen : (s.ring 8).en = true) (herr : (s.ring 8).err = false) (hfull : (s.ring 8).full = false) :
    ∃ t, t = postEntry 8 (eventBytes q (eventVec s q.event) (s.ring 8).phase) { s with evt := { s.evt with queue := rest } } ∧
      exec .eventEntryWrite s = .next (if s.evt.mask.getLsbD q.event then t else signal (eventVec s q.event) t) := by
  have hx : exec .eventEntryWrite s = execEventEntryWrite s := rfl
  simp only [hx, execEventEntryWrite, hq, drainWrites_eq hheld]
  exact ⟨_, rfl, if_neg (by simp [hen, herr, hfull])⟩

/-- The oldest event leaves the queue for its ring; a masked one sends no message (R355, R366). -/
theorem eventEntryWrite_posts {s : State} {q : EvEntry} {rest : List EvEntry} (hheld : s.hif.writesHeld = false) (hq : s.evt.queue = q :: rest)
    (hen : (s.ring 8).en = true) (herr : (s.ring 8).err = false) (hfull : (s.ring 8).full = false) :
    ∃ t, exec .eventEntryWrite s = .next t ∧ t.evt = { s.evt with queue := rest } ∧ t.ring 8 = (s.ring 8).advance ∧
      t.hostMem = Memory.write s.hostMem ((s.ring 8).base + 32 * (s.ring 8).mine) (eventBytes q (eventVec s q.event) (s.ring 8).phase) ∧
      (s.evt.mask.getLsbD q.event = true → t.hif.msgs = s.hif.msgs ∧ t.hif.pba = s.hif.pba) ∧
      t = { s with evt := t.evt, hif := t.hif, hostMem := t.hostMem } := by
  obtain ⟨t, ht, hexec⟩ := eventEntryWrite_eq hheld hq hen herr hfull
  have hring : t.ring 8 = (s.ring 8).advance := by rw [ht]; exact State.modRing_ring_same (State.ring_lt_of_en hen) _
  have hmem : t.hostMem = Memory.write s.hostMem ((s.ring 8).base + 32 * (s.ring 8).mine) (eventBytes q (eventVec s q.event) (s.ring 8).phase) := by
    rw [ht]; rfl
  have hevt : t.evt = { s.evt with queue := rest } := by rw [ht]; rfl
  have hmsgs : t.hif.msgs = s.hif.msgs ∧ t.hif.pba = s.hif.pba := by rw [ht]; exact ⟨rfl, rfl⟩
  have hframe : t = { s with evt := t.evt, hif := t.hif, hostMem := t.hostMem } := by rw [ht]; rfl
  cases hmask : s.evt.mask.getLsbD q.event with
  | true => exact ⟨t, hexec.trans (by rw [hmask]; rfl), hevt, hring, hmem, fun _ => hmsgs, hframe⟩
  | false =>
    refine ⟨signal (eventVec s q.event) t, hexec.trans (by rw [hmask]; rfl), ?_, ?_, ?_, fun h => absurd h (by decide), ?_⟩
    · rw [signal_frame]; exact hevt
    · rw [signal_frame]; exact hring
    · rw [signal_frame]; exact hmem
    · have hsignal : signal (eventVec s q.event) t = { t with hif := (signal (eventVec s q.event) t).hif } := by rw [signal_frame]
      simp only [signal_keeps]
      exact hsignal.trans (congrArg (fun u : State => { u with hif := (signal (eventVec s q.event) t).hif }) hframe)

theorem sendMsg_unmasked {v : Nat} {s : State} (h : s.vecMasked v = false) :
    sendMsg v s = { s with hif := { s.hif with msgs := s.hif.msgs.modify v (fun n => wrap32 (n + 1)), unsig := s.hif.unsig.set v 0,
                                               pba := s.hif.pba &&& ~~~(1#16 <<< v) } } := if_neg (by simp [h])

/-- No message of a vector waits to be sent: none is pending, or the vector is masked. -/
def State.quiet (s : State) (v : Nat) : Prop := s.hif.pba.getLsbD v = false ∨ s.vecMasked v = true

theorem sendPending_of_quiet {v : Nat} {s : State} (h : s.quiet v) : sendPending v s = s :=
  if_neg (by rcases h with h | h <;> simp [h])

theorem foldl_sendPending_of_quiet {l : List Nat} {s : State} (h : ∀ k ∈ l, s.quiet k) : l.foldl (fun s v => sendPending v s) s = s := by
  induction l with
  | nil => rfl
  | cons k l ih => rw [List.foldl_cons, sendPending_of_quiet (h k List.mem_cons_self), ih (fun j hj => h j (List.mem_cons_of_mem k hj))]

/-- What a message moves besides what is pending, sent and unsignalled: nothing. -/
theorem sendPending_frame (v : Nat) (s : State) : sendPending v s = { s with hif := { s.hif with
    pba := (sendPending v s).hif.pba, msgs := (sendPending v s).hif.msgs, unsig := (sendPending v s).hif.unsig } } := by
  unfold sendPending
  split
  · exact sendMsg_frame v s
  · rfl

theorem sendsPending_frame (l : List Nat) (s : State) : l.foldl (fun s v => sendPending v s) s = { s with hif := { s.hif with
    pba := (l.foldl (fun s v => sendPending v s) s).hif.pba, msgs := (l.foldl (fun s v => sendPending v s) s).hif.msgs
    unsig := (l.foldl (fun s v => sendPending v s) s).hif.unsig } } :=
  List.foldlRecOn (motive := fun t => t = { s with hif := { s.hif with pba := t.hif.pba, msgs := t.hif.msgs, unsig := t.hif.unsig } }) _ _ rfl
    (fun t ht v _ => (sendPending_frame v t).trans (congrArg (fun u : State => { u with hif := { u.hif with
      pba := (sendPending v t).hif.pba, msgs := (sendPending v t).hif.msgs, unsig := (sendPending v t).hif.unsig } }) ht))

@[simp] theorem sendPending_vecMasked (v k : Nat) (s : State) : (sendPending v s).vecMasked k = s.vecMasked k := by
  rw [sendPending_frame]; rfl

theorem getLsbD_oneBit {w v k : Nat} (h : k ≠ v) : (1#w <<< v).getLsbD k = false := by
  simp [← BitVec.twoPow_eq, BitVec.getLsbD_twoPow, h.symm]

/-- A message that waits leaves the pending bits of the other vectors. -/
theorem sendPending_pba_other {v k : Nat} (h : k ≠ v) (s : State) : (sendPending v s).hif.pba.getLsbD k = s.hif.pba.getLsbD k := by
  unfold sendPending
  split
  next hdue =>
    have hfree : s.vecMasked v = false := by simp_all
    have hbit : (1#16 <<< v).getLsbD k = false := getLsbD_oneBit h
    rw [sendMsg_unmasked hfree]
    simp only [BitVec.getLsbD_and, BitVec.getLsbD_not, hbit]
    by_cases hk : k < 16
    · simp [hk]
    · simp [BitVec.getLsbD_of_ge _ _ (not_lt.1 hk)]
  next => rfl

/-- With every other vector quiet, a write of the MSI-X structures sends no message but the one that waits at the vector. -/
theorem sendsPending_at {v : Nat} {s : State} (hv : v < 16) (h : ∀ k, k < 16 → k ≠ v → s.quiet k) :
    (List.range 16).foldl (fun s v => sendPending v s) s = sendPending v s := by
  obtain ⟨before, after, hl⟩ := List.append_of_mem (List.mem_range.2 hv)
  have hnodup : (before ++ v :: after).Nodup := hl ▸ List.nodup_range
  obtain ⟨-, hafter, hdisj⟩ := List.nodup_append.1 hnodup
  have hlt (k : Nat) (hk : k ∈ before ++ v :: after) : k < 16 := List.mem_range.1 (hl ▸ hk)
  have hquiet_before (k : Nat) (hk : k ∈ before) : s.quiet k :=
    h k (hlt k (List.mem_append_left _ hk)) (hdisj k hk v List.mem_cons_self)
  have hquiet_after (k : Nat) (hk : k ∈ after) : (sendPending v s).quiet k := by
    have hne : k ≠ v := fun he => (List.nodup_cons.1 hafter).1 (he ▸ hk)
    rw [State.quiet, sendPending_vecMasked, sendPending_pba_other hne]
    exact h k (hlt k (List.mem_append_right _ (List.mem_cons_of_mem v hk))) hne
  rw [hl, List.foldl_append, List.foldl_cons, foldl_sendPending_of_quiet hquiet_before, foldl_sendPending_of_quiet hquiet_after]

theorem getLsbD_setBit_same {w v : Nat} (hv : v < w) (x : BitVec w) (b : Bool) : (setBit x v b).getLsbD v = b := by
  cases b <;> simp [setBit, hv]

theorem getLsbD_setBit_other {w v k : Nat} (h : k ≠ v) (x : BitVec w) (b : Bool) : (setBit x v b).getLsbD k = x.getLsbD k := by
  have hbit : (1#w <<< v).getLsbD k = false := getLsbD_oneBit h
  cases b with
  | true => rw [setBit, if_pos rfl, BitVec.getLsbD_or, hbit, Bool.or_false]
  | false =>
    rw [setBit, if_neg Bool.false_ne_true, BitVec.getLsbD_and, BitVec.getLsbD_not, hbit]
    by_cases hk : k < w
    · simp [hk]
    · simp [BitVec.getLsbD_of_ge _ _ (not_lt.1 hk)]

theorem sendPending_sends {v : Nat} {s : State} (hv : v < 16) (h : s.vecMasked v = false) :
    (sendPending v s).hif.pba.getLsbD v = false ∧
    (sendPending v s).hif.msgs = (if s.hif.pba.getLsbD v then s.hif.msgs.modify v (fun n => wrap32 (n + 1)) else s.hif.msgs) := by
  unfold sendPending
  cases hp : s.hif.pba.getLsbD v with
  | true =>
    rw [if_pos (by simp [h]), sendMsg_unmasked h]
    exact ⟨by simp [hv], rfl⟩
  | false => exact ⟨hp, rfl⟩

/-- A vector that is not masked has no message that waits. -/
def State.delivered (s : State) (k : Nat) : Prop := s.vecMasked k = false ∧ s.hif.pba.getLsbD k = false

theorem sendPending_delivers {k : Nat} {s : State} (hk : k < 16) (h : s.vecMasked k = false) : (sendPending k s).delivered k :=
  ⟨(sendPending_vecMasked k k s).trans h, (sendPending_sends hk h).1⟩

theorem sendPending_keeps_delivered {j k : Nat} {s : State} (hk : k < 16) (h : s.delivered k) : (sendPending j s).delivered k := by
  obtain ⟨hfree, hnone⟩ := h
  by_cases hjk : j = k
  · subst hjk
    exact sendPending_delivers hk hfree
  · exact ⟨(sendPending_vecMasked j k s).trans hfree, (sendPending_pba_other (Ne.symm hjk) s).trans hnone⟩

/-- Every vector that is not masked has its turn. -/
theorem sendsPending_delivers {k : Nat} {s : State} (hk : k < 16) (h : s.vecMasked k = false) :
    ((List.range 16).foldl (fun s v => sendPending v s) s).hif.pba.getLsbD k = false := by
  have hdelivered : ((List.range 16).foldl (fun s v => sendPending v s) s).delivered k :=
    foldl_sets (P := fun t => State.delivered t k) (Q := fun t => State.vecMasked t k = false)
      (fun t j ht => (sendPending_vecMasked j k t).trans ht) (fun _ _ => sendPending_keeps_delivered hk) (fun _ => sendPending_delivers hk)
      (List.mem_range.2 hk) h
  exact hdelivered.2

/-- A table entry as BAR2 shows it, word by word (R338, log 14). -/
theorem readBar2_entry {v k : Nat} (hv : v < 16) (hk : k < 4) (s : State) : readBar2 s (16 * v + 4 * k) = msixWord s v k := by
  rw [readBar2, if_pos (by omega), show (16 * v + 4 * k) / 16 = v by omega, show (16 * v + 4 * k) % 16 / 4 = k by omega]

theorem readBar2_pba (s : State) : readBar2 s 0x2000 = s.hif.pba.setWidth 32 := rfl

theorem msixUnmask_entry {s : State} {v : Nat} (a : BitVec 64) (d : Reg) (m : Bool) (hv : v < 16)
    (hothers : ∀ k, k < 16 → k ≠ v → s.hif.pba.getLsbD k = true → s.hif.vecMask.getLsbD k = true) :
    exec (.msixVectorUnmask (.entry v a d m)) s = .next (sendPending v (msixWritten (.entry v a d m) s)) := by
  refine congrArg Host.Outcome.next (sendsPending_at hv (fun k hk hne => ?_))
  have hmask : (setBit s.hif.vecMask v m).getLsbD k = s.hif.vecMask.getLsbD k := getLsbD_setBit_other hne ..
  cases hp : s.hif.pba.getLsbD k with
  | false => exact .inl hp
  | true => exact .inr (by simp [State.vecMasked, msixWritten, hmask, hothers k hk hne hp])

/-- A write of a table entry: the entry takes what is written, and its vector's message, where one waits, leaves if it may (R369). -/
theorem msixUnmask_entry_spec {s : State} {v : Nat} (a : BitVec 64) (d : Reg) (m : Bool) (hv : v < 16)
    (hothers : ∀ k, k < 16 → k ≠ v → s.hif.pba.getLsbD k = true → s.hif.vecMask.getLsbD k = true) :
    ∃ t, exec (.msixVectorUnmask (.entry v a d m)) s = .next t ∧ t.hif.vecMask.getLsbD v = m ∧
      (∀ k, k ≠ v → t.hif.vecMask.getLsbD k = s.hif.vecMask.getLsbD k ∧ t.hif.pba.getLsbD k = s.hif.pba.getLsbD k) ∧
      t.hif.msgAddr = s.hif.msgAddr.set v a ∧ t.hif.msgData = s.hif.msgData.set v d ∧
      (m = false → s.hif.msixEn = true → s.hif.fnMask = false → t.hif.pba.getLsbD v = false ∧
        t.hif.msgs = (if s.hif.pba.getLsbD v then s.hif.msgs.modify v (fun n => wrap32 (n + 1)) else s.hif.msgs)) ∧
      (m = true ∨ s.hif.msixEn = false ∨ s.hif.fnMask = true → t.hif.msgs = s.hif.msgs ∧ t.hif.pba = s.hif.pba) ∧
      t = { s with hif := t.hif } := by
  obtain ⟨u, hu⟩ : ∃ u, u = msixWritten (.entry v a d m) s := ⟨_, rfl⟩
  have hexec := msixUnmask_entry a d m hv hothers
  rw [← hu] at hexec
  have hmask : u.hif.vecMask.getLsbD v = m := by rw [hu]; exact getLsbD_setBit_same hv ..
  have hmasked : u.vecMasked v = (m || s.hif.fnMask || !s.hif.msixEn) := by rw [State.vecMasked, hmask, hu]; rfl
  have hframe := sendPending_frame v u
  refine ⟨_, hexec, ?mask, fun k hk => ⟨?others, ?pba⟩, ?addr, ?data, fun hm hen hfn => ?sends, fun hstill => ?stays, ?frame⟩
  case mask => rw [hframe]; exact hmask
  case others => rw [hframe, hu]; exact getLsbD_setBit_other hk ..
  case pba => rw [sendPending_pba_other hk, hu]; rfl
  case addr => rw [hframe, hu]; rfl
  case data => rw [hframe, hu]; rfl
  case sends =>
    have hsends := sendPending_sends hv (s := u) (by rw [hmasked, hm, hen, hfn]; rfl)
    rw [hu] at hsends ⊢
    exact hsends
  case stays =>
    rw [sendPending_of_quiet (.inr (by rw [hmasked]; rcases hstill with h | h | h <;> simp [h])), hu]
    exact ⟨rfl, rfl⟩
  case frame => rw [hframe, hu]; rfl

/-- A write of Message Control: with messages enabled and the function not masked, every message that waits at a vector that is not
masked leaves (R369). -/
theorem msixUnmask_control_spec (s : State) (e f : Bool) :
    ∃ t, exec (.msixVectorUnmask (.control e f)) s = .next t ∧ t.hif.msixEn = e ∧ t.hif.fnMask = f ∧ t.hif.vecMask = s.hif.vecMask ∧
      (e = false ∨ f = true → t.hif.msgs = s.hif.msgs ∧ t.hif.pba = s.hif.pba) ∧
      (e = true → f = false → ∀ k, k < 16 → s.hif.vecMask.getLsbD k = false → t.hif.pba.getLsbD k = false) ∧ t = { s with hif := t.hif } := by
  obtain ⟨u, hu⟩ : ∃ u, u = msixWritten (.control e f) s := ⟨_, rfl⟩
  have hexec : exec (.msixVectorUnmask (.control e f)) s = .next ((List.range 16).foldl (fun s v => sendPending v s) u) := by rw [hu]; rfl
  have hframe := sendsPending_frame (List.range 16) u
  refine ⟨_, hexec, ?en, ?fn, ?mask, fun hstill => ?stays, fun he hf k hk hmask => ?sends, ?frame⟩
  case en => rw [hframe, hu]; rfl
  case fn => rw [hframe, hu]; rfl
  case mask => rw [hframe, hu]; rfl
  case stays =>
    rw [foldl_sendPending_of_quiet (fun k _ => .inr (by rw [hu]; rcases hstill with rfl | rfl <;> simp [State.vecMasked, msixWritten])), hu]
    exact ⟨rfl, rfl⟩
  case sends =>
    have hfree : u.vecMasked k = false := by rw [hu, he, hf]; simp [State.vecMasked, msixWritten, hmask]
    exact sendsPending_delivers hk hfree
  case frame => rw [hframe, hu]; rfl

/-- Settles O44: the entry as it is posted, the timer by what is unsignalled, the MSI-X structures by the messages that may leave. -/
theorem eventsAndMessages : Obligations.EventsAndMessages := by
  intro s
  refine ⟨fun q rest => eventEntryWrite_posts, fun hq => ?empty, fun v hnone => ?none, fun v hsome hfree => ?due, fun v a d m hv hothers => ?entry,
    fun e f => msixUnmask_control_spec s e f⟩
  case empty =>
    have hx : exec .eventEntryWrite s = execEventEntryWrite s := rfl
    simp only [hx, execEventEntryWrite, hq]
  case none => exact congrArg Host.Outcome.next (if_pos hnone)
  case due =>
    refine ⟨sendMsg v s, congrArg Host.Outcome.next (if_neg hsome), ?_⟩
    rw [sendMsg_unmasked hfree]
    exact ⟨rfl, rfl, rfl⟩
  case entry =>
    obtain ⟨t, hexec, hmask, hothers, haddr, hdata, hsends, hstays, hframe⟩ := msixUnmask_entry_spec a d m hv hothers
    refine ⟨t, hexec, hmask, hothers, haddr, hdata, hsends, hstays, fun hlen => ⟨?low, ?high⟩, fun hlen => ?data, ?control, readBar2_pba t, hframe⟩
    case low =>
      rw [show 16 * v = 16 * v + 4 * 0 from rfl, readBar2_entry hv (by decide), msixWord, haddr, getD_set_same hlen]
    case high =>
      rw [show 16 * v + 4 = 16 * v + 4 * 1 from rfl, readBar2_entry hv (by decide), msixWord, haddr, getD_set_same hlen]
    case data =>
      rw [show 16 * v + 8 = 16 * v + 4 * 2 from rfl, readBar2_entry hv (by decide), msixWord, hdata, getD_set_same hlen]
    case control =>
      rw [show 16 * v + 12 = 16 * v + 4 * 3 from rfl, readBar2_entry hv (by decide)]
      exact congrArg (fun b => BitVec.ofNat 32 (bit b 0)) hmask

end Sys2Proof.Machine

namespace Sys2Proof.Machine

/-! ### Frames received and fetched (R371, R444, R445) -/

/-- A received frame is written before its entry (R445). -/
theorem prxFrame_posts {s : State} {f : RxFrame} (hport : f.port < 2) (hsrc : s.timeSrc = 1) (hhold : s.pwr.state ≠ .hold) (hhalt : s.pwr.state ≠ .halt)
    (hen : (s.ring 11).en = true) (herr : (s.ring 11).err = false) (hfull : (s.ring 11).full = false) :
    ∃ t, exec (.prxFrameReceived f) s = .next t ∧ t.ring 11 = (s.ring 11).advance ∧
      t.hostMem = Memory.write (Memory.write s.hostMem (s.ptp.prxHi.toNat * two32 + s.ptp.prxLo.toNat + 256 * (s.ring 11).mine) (f.bytes.take 256))
        ((s.ring 11).base + 32 * (s.ring 11).mine) (prxEntry f (f.rxNs - (s.port f.port).latRx) (s.ring 11).phase) ∧
      t = { s with hif := { s.hif with rings := t.hif.rings }, evt := t.evt, hostMem := t.hostMem } := by
  obtain ⟨u, hu⟩ : ∃ u, u = postEntry 11 (prxEntry f (f.rxNs - (s.port f.port).latRx) (s.ring 11).phase)
    (s.dma (s.ptp.prxHi.toNat * two32 + s.ptp.prxLo.toNat + 256 * (s.ring 11).mine) (f.bytes.take 256)) := ⟨_, rfl⟩
  have hexec : exec (.prxFrameReceived f) s = .next (recordEvent 45 f.port u) := by
    rw [hu, ← raise_eq_of_unlogged _ _ (by decide)]
    exact if_pos (by simp [hport, hsrc, hhold, hhalt, hen, herr, hfull])
  have hring : u.ring 11 = (s.ring 11).advance := by rw [hu]; exact State.modRing_ring_same (State.ring_lt_of_en hen) _
  have hmem : u.hostMem = Memory.write (Memory.write s.hostMem (s.ptp.prxHi.toNat * two32 + s.ptp.prxLo.toNat + 256 * (s.ring 11).mine) (f.bytes.take 256))
      ((s.ring 11).base + 32 * (s.ring 11).mine) (prxEntry f (f.rxNs - (s.port f.port).latRx) (s.ring 11).phase) := by rw [hu]; rfl
  have hframe : u = { s with hif := { s.hif with rings := u.hif.rings }, hostMem := u.hostMem } := by rw [hu]; rfl
  refine ⟨_, hexec, ?_⟩
  rw [recordEvent_frame]
  exact ⟨hring, hmem, congrArg (fun v : State => { v with evt := (recordEvent 45 f.port u).evt }) hframe⟩

theorem ptxFetch_reads {s : State} (hen : (s.ring 10).en = true) (herr : (s.ring 10).err = false) (hwaits : (s.ring 10).mine ≠ (s.ring 10).theirs) (b : List Byte) :
    exec (.ptxFetch (some b)) s = .next (
      if 14 ≤ fieldU b 8 2 && fieldU b 8 2 ≤ 256 && fieldU b 10 1 < 2 && s.pwr.state != .hold && s.pwr.state != .halt then
        (if fieldU b 11 1 % 2 = 1 then
          (sendFrames (fieldU b 10 1) [{ kind := 4, dest := .inFrame, body := ptxFrame (fieldU b 8 2) (b.drop 32) }] (s.modRing 10 Ring.advance)).modPort
            (fieldU b 10 1) (fun p => { p with stampFor := p.stampFor ++ [fieldU b 12 4] })
        else sendFrames (fieldU b 10 1) [{ kind := 4, dest := .inFrame, body := ptxFrame (fieldU b 8 2) (b.drop 32) }] (s.modRing 10 Ring.advance))
      else s.modRing 10 Ring.advance) := by
  refine (if_neg (by simp [hen, herr, hwaits])).trans ?_
  exact (apply_ite Host.Outcome.next ..).symm

/-- A PTX entry of 14 to 256 bytes leaves as one frame, and its TAG waits where the entry asks for a stamp (R444, R446). -/
theorem ptxFetch_sends {s : State} {b : List Byte} (hen : (s.ring 10).en = true) (herr : (s.ring 10).err = false)
    (hwaits : (s.ring 10).mine ≠ (s.ring 10).theirs) (hmin : 14 ≤ fieldU b 8 2) (hmax : fieldU b 8 2 ≤ 256) (hport : fieldU b 10 1 < 2)
    (hlen : fieldU b 10 1 < s.ptp.ports.length) (hhold : s.pwr.state ≠ .hold) (hhalt : s.pwr.state ≠ .halt) :
    ∃ t, exec (.ptxFetch (some b)) s = .next t ∧ t.ring 10 = (s.ring 10).advance ∧
      (t.port (fieldU b 10 1)).lastTx =
        (if s.rmiiUp (fieldU b 10 1) then [{ kind := 4, dest := .inFrame, body := ptxFrame (fieldU b 8 2) (b.drop 32) }] else []) ∧
      (t.port (fieldU b 10 1)).stampFor = (s.port (fieldU b 10 1)).stampFor ++ (if fieldU b 11 1 % 2 = 1 then [fieldU b 12 4] else []) ∧
      t = { s with hif := { s.hif with rings := t.hif.rings }, ptp := t.ptp } := by
  refine ⟨_, (ptxFetch_reads hen herr hwaits b).trans (congrArg _ (if_pos (by simp [hmin, hmax, hport, hhold, hhalt]))), ?_⟩
  obtain ⟨u, hu⟩ : ∃ u, u = sendFrames (fieldU b 10 1) [{ kind := 4, dest := .inFrame, body := ptxFrame (fieldU b 8 2) (b.drop 32) }] (s.modRing 10 Ring.advance) :=
    ⟨_, rfl⟩
  have hring : u.ring 10 = (s.ring 10).advance := by rw [hu]; exact State.modRing_ring_same (State.ring_lt_of_en hen) _
  have hsent : u.port (fieldU b 10 1) = { s.port (fieldU b 10 1) with
      lastTx := if s.rmiiUp (fieldU b 10 1) then [{ kind := 4, dest := .inFrame, body := ptxFrame (fieldU b 8 2) (b.drop 32) }] else [] } := by
    rw [hu]; exact getD_modify_same hlen _ _
  have hports : u.ptp.ports.length = s.ptp.ports.length := by rw [hu]; exact List.length_modify ..
  have hframe : u = { s with hif := { s.hif with rings := u.hif.rings }, ptp := u.ptp } := by rw [hu]; rfl
  rw [← hu]
  split
  · have hstamp := State.modPort_port_same (s := u) (hports ▸ hlen) (fun p => { p with stampFor := p.stampFor ++ [fieldU b 12 4] })
    rw [hstamp, hsent]
    exact ⟨hring, rfl, rfl, congrArg (fun v : State => v.modPort (fieldU b 10 1) (fun p => { p with stampFor := p.stampFor ++ [fieldU b 12 4] })) hframe⟩
  · rw [hsent, List.append_nil]
    exact ⟨hring, rfl, rfl, hframe⟩

/-- A PTX entry of another length or port leaves as no frame (R444). -/
theorem ptxFetch_skips {s : State} {b : List Byte} (hen : (s.ring 10).en = true) (herr : (s.ring 10).err = false)
    (hwaits : (s.ring 10).mine ≠ (s.ring 10).theirs) (hbad : fieldU b 8 2 < 14 ∨ 256 < fieldU b 8 2 ∨ 2 ≤ fieldU b 10 1) :
    exec (.ptxFetch (some b)) s = .next (s.modRing 10 Ring.advance) := by
  have hno : ¬ (14 ≤ fieldU b 8 2 ∧ fieldU b 8 2 ≤ 256 ∧ fieldU b 10 1 < 2) := by omega
  refine (ptxFetch_reads hen herr hwaits b).trans (congrArg _ (if_neg (fun h => hno ?_)))
  simp only [Bool.and_eq_true, decide_eq_true_eq] at h
  obtain ⟨⟨⟨⟨hmin, hmax⟩, hport⟩, -⟩, -⟩ := h
  exact ⟨hmin, hmax, hport⟩

/-- A failed read stops PTX with FETCH (R371). -/
theorem ptxFetch_fails {s : State} (hen : (s.ring 10).en = true) (herr : (s.ring 10).err = false) (hwaits : (s.ring 10).mine ≠ (s.ring 10).theirs) :
    ∃ t, exec (.ptxFetch none) s = .next t ∧ (t.ring 10).err = true ∧ t.hif.errFetch = true ∧ t = { s with hif := t.hif } := by
  refine ⟨_, if_neg (by simp [hen, herr, hwaits]), ?_⟩
  have hring : (s.hif.rings.modify 10 (Ring.fail s.clk.ticks)).getD 10 Ring.reset = (s.ring 10).fail s.clk.ticks :=
    getD_modify_same (State.ring_lt_of_en hen) _ _
  rw [hifErr_fetch]
  exact ⟨congrArg Ring.err hring, rfl, rfl⟩

/-! ### Transmit stamps (R446, R448) -/

/-- A port with anything but its reset values is one of the ports. -/
theorem State.port_lt_of_ne {s : State} {p : Nat} (h : s.port p ≠ PtpPort.reset) : p < s.ptp.ports.length := by
  by_contra hp
  exact h (List.getD_eq_default _ _ (not_lt.1 hp))

/-- A stamp that found the queue full is counted and gone as the tick ends. -/
def PtpPort.dropped (x : PtpPort) : PtpPort :=
  if x.late.isNone then x else { x with late := none, ovf := wrap32 (x.ovf + 1), ovfArmed := false }

theorem PtpPort.dropped_spec (x : PtpPort) : x.dropped.late = none ∧
    x.dropped.ovf = (if x.late.isSome then wrap32 (x.ovf + 1) else x.ovf) ∧ x.dropped.queue = x.queue ∧ x.dropped.stampFor = x.stampFor := by
  unfold PtpPort.dropped
  cases hlate : x.late with
  | none => exact ⟨hlate, rfl, rfl, rfl⟩
  | some e => exact ⟨rfl, rfl, rfl, rfl⟩

@[simp] theorem recordEvent_en (e i : Nat) (s : State) : (recordEvent e i s).evt.en = s.evt.en := by
  unfold recordEvent
  split <;> rfl

/-- From `s` to `t` no event that is pending ceases to be. -/
def KeepsPending (s t : State) : Prop := ∀ k, s.evt.pend.getLsbD k = true → t.evt.pend.getLsbD k = true

namespace KeepsPending
variable {s t u : State}

theorem of_evt (h : t.evt = s.evt) : KeepsPending s t := fun k hk => by rw [h]; exact hk

theorem trans (h : KeepsPending s t) (k : KeepsPending t u) : KeepsPending s u := fun i hi => k i (h i hi)

theorem raise (e i : Nat) (s : State) : KeepsPending s (raise e i s) := by
  intro k hk
  rw [raise_evt]
  unfold recordEvent
  split
  · simp [hk]
  · exact hk

theorem runEnded (r : InjRun) (s : State) : KeepsPending s (runEnded r s) := by
  have hraised : KeepsPending s (if r.hostRun then Machine.raise 57 0 s else s) := by
    split
    · exact .raise 57 0 s
    · exact of_evt rfl
  unfold Machine.runEnded
  dsimp only
  split
  · exact hraised.trans (of_evt (foldl_keeps (fun s : State => s.evt) _ (fun s w => by simp) _ _))
  · exact hraised

end KeepsPending

/-- What a converter begins moves no event. -/
@[simp] theorem startRegular_evt (c : Nat) (s : State) : (startRegular c s).evt = s.evt := by
  unfold startRegular
  dsimp only
  split
  · split <;> rfl
  · rfl

@[simp] theorem startHk_evt (c : Nat) (s : State) : (startHk c s).evt = s.evt := by
  unfold startHk
  dsimp only
  split
  · split <;> rfl
  · exact startRegular_evt ..

@[simp] theorem startSample_evt (c : Nat) (p : Capture) (s : State) : (startSample c p s).evt = s.evt := by
  unfold startSample
  dsimp only
  split <;> rfl

/-- Only the end of a run raises an event while the converters take up what waits. -/
theorem KeepsPending.sarNext (c fuel : Nat) (s : State) : KeepsPending s (sarNext c fuel s) := by
  induction fuel generalizing s with
  | zero => exact of_evt rfl
  | succ fuel ih =>
    rw [Machine.sarNext]
    dsimp only
    split
    · exact of_evt rfl
    split
    · split <;> exact of_evt rfl
    split
    · split
      · exact of_evt rfl
      · refine KeepsPending.trans ?_ (KeepsPending.trans (KeepsPending.runEnded _ _) (ih _))
        exact of_evt rfl
    split
    · exact of_evt rfl
    split
    · split
      · exact of_evt rfl
      · refine KeepsPending.trans (of_evt ?_) (ih _)
        split <;> rfl
    split
    · exact of_evt rfl
    split
    · exact of_evt (startHk_evt c s)
    split
    · exact of_evt (startSample_evt ..)
    · exact of_evt (startRegular_evt c s)

theorem KeepsPending.sarKick (s : State) : KeepsPending s (sarKick s) := (sarNext 0 64 s).trans (sarNext 1 64 _)

/-- From `s` to `t` the stamp that waits at a port is dropped, with EV43 where the drop is the first of its run (R446, log 50). -/
structure DropsLate (p : Nat) (s t : State) : Prop where
  same    : t.port p = (s.port p).dropped
  others  : ∀ k, k ≠ p → t.port k = s.port k
  length  : t.ptp.ports.length = s.ptp.ports.length
  enabled : t.evt.en = s.evt.en
  pending : KeepsPending s t
  event   : (s.port p).late.isSome = true → (s.port p).ovfArmed = true → s.evt.en.getLsbD 43 = true → t.evt.pend.getLsbD 43 = true
  frame   : t = { s with ptp := { s.ptp with ports := t.ptp.ports }, evt := t.evt }

theorem dropLate_dropsLate (p : Nat) (s : State) : DropsLate p s (dropLate p s) := by
  cases hlate : (s.port p).late with
  | none =>
    have hstays : dropLate p s = s := if_pos (by simp [hlate])
    rw [hstays]
    exact ⟨(if_pos (by simp [hlate])).symm, fun _ _ => rfl, rfl, rfl, .of_evt rfl, fun h => by simp [hlate] at h, rfl⟩
  | some e =>
    have hp : p < s.ptp.ports.length := State.port_lt_of_ne (fun h => by simp [h, PtpPort.reset] at hlate)
    obtain ⟨u, hu⟩ : ∃ u, u = s.modPort p (fun x => { x with late := none, ovf := wrap32 (x.ovf + 1), ovfArmed := false }) := ⟨_, rfl⟩
    have hx : dropLate p s = if (s.port p).ovfArmed then raise 43 0 u else u := by rw [hu]; exact if_neg (by simp [hlate])
    have hsame : u.port p = (s.port p).dropped := by
      rw [hu, State.modPort_port_same hp]
      exact (if_neg (by simp [hlate])).symm
    have hothers (k : Nat) (hk : k ≠ p) : u.port k = s.port k := by rw [hu]; exact State.modPort_port_other s hk.symm _
    have hlen : u.ptp.ports.length = s.ptp.ports.length := by rw [hu]; exact List.length_modify ..
    have hevt : u.evt = s.evt := by rw [hu]; rfl
    have hframe : u = { s with ptp := { s.ptp with ports := u.ptp.ports } } := by rw [hu]; rfl
    rw [hx]
    split
    · have hports : (raise 43 0 u).ptp = u.ptp := by simp
      have hport (k : Nat) : (raise 43 0 u).port k = u.port k := by rw [State.port, hports]; rfl
      refine ⟨(hport p).trans hsame, fun k hk => (hport k).trans (hothers k hk), hports ▸ hlen, ?_, .trans (.of_evt hevt) (.raise 43 0 u),
        fun _ _ hen => raise_pends 0 (by rw [hevt]; exact hen), ?_⟩
      · rw [raise_evt, recordEvent_en, hevt]
      · rw [raise_eq_of_unlogged _ _ (by decide), recordEvent_frame]
        exact congrArg (fun v : State => { v with evt := (recordEvent 43 0 u).evt }) hframe
    next hunarmed => exact ⟨hsame, hothers, hlen, by rw [hevt], .of_evt hevt, fun _ harmed => absurd harmed hunarmed, by rw [hevt]; exact hframe⟩

/-- As a tick passes, the stamp that waits at a port is dropped, and what else the tick brings leaves the ports and what is pending. -/
theorem idle_drops {p : Nat} (hp : p < 2) (s : State) : (idle s).port p = (s.port p).dropped ∧
    ((s.port p).late.isSome = true → (s.port p).ovfArmed = true → s.evt.en.getLsbD 43 = true → (idle s).evt.pend.getLsbD 43 = true) := by
  have hfirst := dropLate_dropsLate 0 s
  have hsecond := dropLate_dropsLate 1 (dropLate 0 s)
  have hports : (idle s).ptp = (dropLate 1 (dropLate 0 s)).ptp := by
    rw [idle, (sarKick_convertsOnly _).fields]
    simp
  have hport (k : Nat) : (idle s).port k = (dropLate 1 (dropLate 0 s)).port k := by rw [State.port, hports]; rfl
  have hpend : KeepsPending (dropLate 1 (dropLate 0 s)) (idle s) := .trans (.of_evt (by simp)) (.sarKick _)
  rcases (by omega : p = 0 ∨ p = 1) with rfl | rfl
  · refine ⟨((hport 0).trans (hsecond.others 0 (by decide))).trans hfirst.same, fun hlate harmed hen => ?_⟩
    exact hpend 43 (hsecond.pending 43 (hfirst.event hlate harmed hen))
  · have hsame := hfirst.others 1 (by decide)
    refine ⟨((hport 1).trans hsecond.same).trans (congrArg PtpPort.dropped hsame), fun hlate harmed hen => ?_⟩
    exact hpend 43 (hsecond.event (hsame ▸ hlate) (hsame ▸ harmed) (hfirst.enabled ▸ hen))

end Sys2Proof.Machine

namespace Sys2Proof.Machine

theorem queueStamp_eq (p : Nat) (e : TxStamp) (s : State) :
    queueStamp p e s = recordEvent 44 p (s.modPort p (fun x => { x with queue := x.queue ++ [e] })) :=
  raise_eq_of_unlogged _ _ (by decide)

/-- The port whose frame asked for a stamp, as its stamp finds it. -/
theorem ptpFrameTransmitted_eq {s : State} {p tag : Nat} {r : List Nat} (h : (s.port p).stampFor = tag :: r) (ns : Int) :
    exec (.ptpFrameTransmitted p ⟨⟩ ns) s = .next
      (if (s.port p).queue.length < 16 then
        queueStamp p { tag, time := toU 64 (ns + (s.port p).latTx), port := p, tick := s.clk.ticks } (dropLate p (s.modPort p (fun x => { x with stampFor := r })))
      else (dropLate p (s.modPort p (fun x => { x with stampFor := r }))).modPort p
        (fun x => { x with late := some { tag, time := toU 64 (ns + (s.port p).latTx), port := p, tick := s.clk.ticks } })) := by
  have hx : exec (.ptpFrameTransmitted p ⟨⟩ ns) s = execPtpFrameTransmitted p ⟨⟩ ns s := rfl
  have hclk : (dropLate p (s.modPort p (fun x => { x with stampFor := r }))).clk = s.clk := by rw [(dropLate_dropsLate ..).frame]; rfl
  simp only [hx, execPtpFrameTransmitted, h, hclk]
  exact (apply_ite Host.Outcome.next ..).symm

/-- The TAG of the oldest frame that asked for a stamp is taken, and a stamp that waited since an earlier frame of this tick is dropped. -/
theorem stampTaken_spec {s u : State} {p tag : Nat} {r : List Nat} (h : (s.port p).stampFor = tag :: r)
    (hu : u = dropLate p (s.modPort p (fun x => { x with stampFor := r }))) :
    u.port p = { s.port p with stampFor := r }.dropped ∧ p < u.ptp.ports.length ∧ u.evt.en = s.evt.en ∧
    u = { s with ptp := { s.ptp with ports := u.ptp.ports }, evt := u.evt } := by
  have hp : p < s.ptp.ports.length := State.port_lt_of_ne (fun hreset => by simp [hreset, PtpPort.reset] at h)
  have hdrops := dropLate_dropsLate p (s.modPort p (fun x => { x with stampFor := r }))
  rw [← hu] at hdrops
  have hport := hdrops.same
  rw [State.modPort_port_same hp] at hport
  exact ⟨hport, hdrops.length.symm ▸ (List.length_modify ..).symm ▸ hp, hdrops.enabled, hdrops.frame⟩

/-- A stamp that finds room joins its port's queue under its frame's TAG (R446). -/
theorem stamp_queued {s : State} {p tag : Nat} {r : List Nat} {ns : Int} (h : (s.port p).stampFor = tag :: r) (hroom : (s.port p).queue.length < 16)
    (hlate : (s.port p).late = none) :
    ∃ t, exec (.ptpFrameTransmitted p ⟨⟩ ns) s = .next t ∧ (t.port p).stampFor = r ∧
      (t.port p).queue = (s.port p).queue ++ [{ tag, time := toU 64 (ns + (s.port p).latTx), port := p, tick := s.clk.ticks }] ∧
      (t.port p).ovf = (s.port p).ovf ∧ (s.evt.en.getLsbD 44 = true → t.evt.pend.getLsbD 44 = true) ∧ t = { s with ptp := t.ptp, evt := t.evt } := by
  refine ⟨_, (ptpFrameTransmitted_eq h ns).trans (congrArg _ (if_pos hroom)), ?_⟩
  obtain ⟨u, hu⟩ : ∃ u, u = dropLate p (s.modPort p (fun x => { x with stampFor := r })) := ⟨_, rfl⟩
  obtain ⟨hport, hp, hen, hframe⟩ := stampTaken_spec h hu
  obtain ⟨-, hovf, hqueue, hfor⟩ := PtpPort.dropped_spec { s.port p with stampFor := r }
  rw [← hport] at hovf hqueue hfor
  obtain ⟨v, hv⟩ : ∃ v, v = u.modPort p (fun x => { x with queue := x.queue ++ [{ tag, time := toU 64 (ns + (s.port p).latTx), port := p, tick := s.clk.ticks }] }) :=
    ⟨_, rfl⟩
  have hjoined := State.modPort_port_same hp (fun x => { x with queue := x.queue ++ [{ tag, time := toU 64 (ns + (s.port p).latTx), port := p, tick := s.clk.ticks }] })
  have hevt : v.evt = u.evt := by rw [hv]; rfl
  have hvframe : v = { u with ptp := v.ptp } := by rw [hv]; rfl
  rw [← hv] at hjoined
  rw [← hu, queueStamp_eq, ← hv]
  have hkept : (recordEvent 44 p v).port p = v.port p := by rw [recordEvent_frame]; rfl
  rw [hkept, hjoined]
  refine ⟨hfor, by rw [hqueue], hovf.trans (if_neg (by simp [hlate])), fun hon => recordEvent_pends p (by rw [hevt, hen]; exact hon), ?_⟩
  rw [recordEvent_frame, hvframe, hframe]

/-- A stamp that finds sixteen waits for a TAG read on its tick, and the one that waited before it is counted (R446, log 50). -/
theorem stamp_waits {s : State} {p tag : Nat} {r : List Nat} {ns : Int} (h : (s.port p).stampFor = tag :: r) (hfull : 16 ≤ (s.port p).queue.length) :
    ∃ t, exec (.ptpFrameTransmitted p ⟨⟩ ns) s = .next t ∧ (t.port p).stampFor = r ∧ (t.port p).queue = (s.port p).queue ∧
      (t.port p).late = some { tag, time := toU 64 (ns + (s.port p).latTx), port := p, tick := s.clk.ticks } ∧
      (t.port p).ovf = (if (s.port p).late.isSome then wrap32 ((s.port p).ovf + 1) else (s.port p).ovf) ∧ t = { s with ptp := t.ptp, evt := t.evt } := by
  refine ⟨_, (ptpFrameTransmitted_eq h ns).trans (congrArg _ (if_neg (not_lt.2 hfull))), ?_⟩
  obtain ⟨u, hu⟩ : ∃ u, u = dropLate p (s.modPort p (fun x => { x with stampFor := r })) := ⟨_, rfl⟩
  obtain ⟨hport, hp, -, hframe⟩ := stampTaken_spec h hu
  obtain ⟨-, hovf, hqueue, hfor⟩ := PtpPort.dropped_spec { s.port p with stampFor := r }
  rw [← hport] at hovf hqueue hfor
  rw [← hu]
  obtain ⟨v, hv⟩ : ∃ v, v = u.modPort p (fun x => { x with late := some { tag, time := toU 64 (ns + (s.port p).latTx), port := p, tick := s.clk.ticks } }) :=
    ⟨_, rfl⟩
  have hwaits := State.modPort_port_same hp (fun x => { x with late := some { tag, time := toU 64 (ns + (s.port p).latTx), port := p, tick := s.clk.ticks } })
  have hvframe : v = { u with ptp := v.ptp } := by rw [hv]; rfl
  rw [← hv] at hwaits ⊢
  rw [hwaits]
  refine ⟨hfor, hqueue, rfl, hovf, ?_⟩
  rw [hvframe, hframe]

/-- The stamp that waited, where one did, joins the queue of a port. -/
def queueLate (n : Nat) (late : Option TxStamp) (s : State) : State := late.elim s (fun x => queueStamp n x s)

theorem queueLate_spec {n : Nat} {s : State} (hn : n < s.ptp.ports.length) (late : Option TxStamp) :
    (queueLate n late s).port n = { s.port n with queue := (s.port n).queue ++ late.toList } ∧
    queueLate n late s = { s with ptp := { s.ptp with ports := (queueLate n late s).ptp.ports }, evt := (queueLate n late s).evt } := by
  cases late with
  | none => exact ⟨by rw [Option.toList_none, List.append_nil]; rfl, rfl⟩
  | some x =>
    have hx : queueLate n (some x) s = recordEvent 44 n (s.modPort n (fun p => { p with queue := p.queue ++ [x] })) := queueStamp_eq n x s
    rw [hx, recordEvent_frame]
    exact ⟨State.modPort_port_same hn _, rfl⟩

/-- The selected port as a TAG read leaves it, before a stamp that waited takes its place. -/
def stampPopped (s : State) : State :=
  s.modPort s.ptp.txSel (fun p => { p with queue := p.queue.drop 1, ovfArmed := true, late := none })

theorem popTxStamp_eq {s : State} {e : TxStamp} {r : List TxStamp}
    (hready : (s.port s.ptp.txSel).queue.filter (fun e => e.tick != s.clk.ticks) = e :: r) :
    ∃ v, v = queueLate s.ptp.txSel (s.port s.ptp.txSel).late (stampPopped s) ∧ popTxStamp s = { v with
      ptp := { v.ptp with txLo := BitVec.ofNat 32 e.time, txHi := BitVec.ofNat 32 (e.time / two32)
                          txInfo := BitVec.ofNat 32 (256 * r.length + 2 * e.port + 1) }
      hif := { v.hif with readData := BitVec.ofNat 32 e.tag } } := by
  refine ⟨_, rfl, ?_⟩
  rw [popTxStamp, hready]
  cases (s.port s.ptp.txSel).late <;> rfl

/-- The oldest stamp is read; the one that waited on this tick takes the place that it leaves (R448). -/
theorem tagRead_pops {s : State} {e : TxStamp} {r : List TxStamp} (hlive : s.blockLive 0x1064 = true) (hq : (s.port s.ptp.txSel).queue = e :: r)
    (hold : ∀ x ∈ e :: r, x.tick ≠ s.clk.ticks) :
    ∃ t, exec .ptpTxtsTagRead s = .next t ∧ t.hif.readData = BitVec.ofNat 32 e.tag ∧
      (t.port s.ptp.txSel).queue = r ++ (s.port s.ptp.txSel).late.toList ∧
      t.ptp.txLo = BitVec.ofNat 32 e.time ∧ t.ptp.txHi = BitVec.ofNat 32 (e.time / two32) ∧ (t.port s.ptp.txSel).late = none ∧
      (t.port s.ptp.txSel).ovf = (s.port s.ptp.txSel).ovf ∧
      t = { s with ptp := t.ptp, evt := t.evt, hif := { s.hif with readData := t.hif.readData } } := by
  have hx : exec .ptpTxtsTagRead s = .next (popTxStamp s) := if_pos hlive
  have hready : (s.port s.ptp.txSel).queue.filter (fun e => e.tick != s.clk.ticks) = e :: r := by
    rw [hq, List.filter_eq_self]
    intro x hx
    simpa using hold x hx
  have hp : s.ptp.txSel < s.ptp.ports.length := State.port_lt_of_ne (fun hreset => by simp [hreset, PtpPort.reset] at hq)
  have hpopped : (stampPopped s).port s.ptp.txSel = { s.port s.ptp.txSel with queue := r, ovfArmed := true, late := none } := by
    rw [stampPopped, State.modPort_port_same hp, hq]; rfl
  obtain ⟨v, hv, hpop⟩ := popTxStamp_eq hready
  obtain ⟨hport, hframe⟩ := queueLate_spec (s := stampPopped s) ((State.modPort_length ..).symm ▸ hp) (s.port s.ptp.txSel).late
  rw [← hv] at hport hframe
  rw [hpopped] at hport
  generalize popTxStamp s = t at hx hpop
  have hread : t.port s.ptp.txSel = v.port s.ptp.txSel := by rw [hpop]; rfl
  rw [hport] at hread
  exact ⟨t, hx, by rw [hpop], by rw [hread], by rw [hpop], by rw [hpop], by rw [hread], by rw [hread], by rw [hpop, hframe]; rfl⟩

theorem tagRead_of_empty {s : State} (hq : (s.port s.ptp.txSel).queue = []) (hlive : s.blockLive 0x1064 = true) :
    exec .ptpTxtsTagRead s = .next { s with ptp := { s.ptp with txInfo := 0 }, hif := { s.hif with readData := 0 } } := by
  have hx : exec .ptpTxtsTagRead s = .next (popTxStamp s) := if_pos hlive
  rw [hx, popTxStamp, hq]
  rfl

/-! ### MDIO (R447, R552) -/

/-- From `s` to `t` one port takes a value, and nothing else moves. -/
theorem modPort_takes {s t : State} {p : Nat} {f : PtpPort → PtpPort} (hp : p < s.ptp.ports.length) (h : t = s.modPort p f) :
    t.port p = f (s.port p) ∧ (∀ k, k ≠ p → t.port k = s.port k) ∧ t = { s with ptp := t.ptp } := by
  subst h
  exact ⟨State.modPort_port_same hp f, fun k hk => State.modPort_port_other s hk.symm f, rfl⟩

theorem mdioGo_takes {s : State} (v : Reg) (hw : s.takesWrite 0x1058 = true) (hp : s.ptp.portSel < s.ptp.ports.length) :
    ∃ t, exec (.ptpMdioGo v) s = .next t ∧ (t.port s.ptp.portSel).mdioGo = ((s.port s.ptp.portSel).mdioGo || v.getLsbD 31) ∧
      (t.port s.ptp.portSel).mdio = v &&& 0x7E1FFFFF#32 ∧
      (t.port s.ptp.portSel).mdioWr = (if (s.port s.ptp.portSel).mdioGo then (s.port s.ptp.portSel).mdioWr else v.getLsbD 30) ∧
      (∀ k, k ≠ s.ptp.portSel → t.port k = s.port k) ∧ t = { s with ptp := t.ptp } := by
  obtain ⟨t, ht, hexec⟩ : ∃ t, t = _ ∧ exec (.ptpMdioGo v) s = .next t := ⟨_, rfl, if_neg (by simp [hw])⟩
  obtain ⟨hport, hothers, hframe⟩ := modPort_takes hp ht
  exact ⟨t, hexec, by rw [hport], by rw [hport], by rw [hport], hothers, hframe⟩

theorem mdioDone_ends {s : State} {x : MdioAnswer} (hgo : (s.port x.port).mdioGo = true) :
    ∃ t, exec (.mdioAccessDone x) s = .next t ∧ (t.port x.port).mdioGo = false ∧
      ((s.port x.port).mdioWr = true → (t.port x.port).mdio = (s.port x.port).mdio) ∧
      ((s.port x.port).mdioWr = false → (t.port x.port).mdio = ((s.port x.port).mdio &&& 0xFFFF0000#32) ||| BitVec.ofNat 32 (x.data % two16)) ∧
      (∀ k, k ≠ x.port → t.port k = s.port k) ∧ t = { s with ptp := t.ptp } := by
  have hp : x.port < s.ptp.ports.length := State.port_lt_of_ne (fun hreset => by simp [hreset, PtpPort.reset] at hgo)
  obtain ⟨t, ht, hexec⟩ : ∃ t, t = _ ∧ exec (.mdioAccessDone x) s = .next t := ⟨_, rfl, if_neg (by simp [hgo])⟩
  obtain ⟨hport, hothers, hframe⟩ := modPort_takes hp ht
  exact ⟨t, hexec, by rw [hport], fun hwr => by rw [hport]; exact if_pos hwr, fun hrd => by rw [hport]; exact if_neg (by simp [hrd]), hothers, hframe⟩

end Sys2Proof.Machine

namespace Sys2Proof.Machine

/-! ### PTP_CTRL and PTP_DOM_CFG (R436, R447) -/

/-- From `s` to `t` the PTP block, the power state and the saved registers stay as they were. -/
structure SparesPtp (s t : State) : Prop where
  ptp   : t.ptp = s.ptp
  pwr   : t.pwr = s.pwr
  saved : t.nvm.saved = s.nvm.saved

namespace SparesPtp
variable {s t u : State}

theorem refl (s : State) : SparesPtp s s := ⟨rfl, rfl, rfl⟩

theorem trans (h : SparesPtp s t) (k : SparesPtp t u) : SparesPtp s u := ⟨k.ptp.trans h.ptp, k.pwr.trans h.pwr, k.saved.trans h.saved⟩

theorem of_keeps (hptp : t.ptp = s.ptp) (hpwr : t.pwr = s.pwr) (hnvm : t.nvm = s.nvm) : SparesPtp s t := ⟨hptp, hpwr, congrArg Nvm.saved hnvm⟩

theorem foldl {α : Type} {f : State → α → State} (h : ∀ s a, SparesPtp s (f s a)) (l : List α) (s : State) : SparesPtp s (l.foldl f s) :=
  List.foldlRecOn (motive := SparesPtp s) l f (.refl s) (fun t ht a _ => ht.trans (h t a))

theorem raise (e i : Nat) (s : State) : SparesPtp s (raise e i s) := by
  refine ⟨by simp, by simp, ?_⟩
  unfold Machine.raise
  rw [recordEvent_frame]
  dsimp only
  split
  · split <;> exact logAdd_saved ..
  · rfl

theorem authStart (n m : Nat) (s : State) : SparesPtp s (authStart n m s) := by
  unfold Machine.authStart
  split <;> exact .of_keeps (by simp) (by simp) (by simp)

theorem authAgain (n m : Nat) (s : State) : SparesPtp s (authAgain n m s) := by
  unfold Machine.authAgain
  split
  · exact .of_keeps (by simp) (by simp) (by simp)
  · exact .authStart ..

theorem authWhere (p : Mon → Bool) (s : State) : SparesPtp s (authWhere p s) := by
  refine .foldl (fun s n => ?_) _ _
  have hmons : SparesPtp s ((s.ropeStr n).mons.foldl (fun s e => if p e.2 then Machine.authAgain n e.1 s else s) s) := by
    refine .foldl (fun s e => ?_) _ _
    split
    · exact .authAgain ..
    · exact .refl s
  exact hmons.trans (.of_keeps (by simp) (by simp) (by simp))

theorem authLocked (s : State) : SparesPtp s (authLocked s) := authWhere ..

theorem enterLocked (s : State) : SparesPtp s (enterLocked s) := by
  unfold Machine.enterLocked
  dsimp only
  split
  · refine .trans ?_ (.authLocked _)
    exact ⟨rfl, rfl, rfl⟩
  · exact ⟨rfl, rfl, rfl⟩

theorem timeLost (reason : Nat) (s : State) : SparesPtp s (timeLost reason s) := by
  unfold Machine.timeLost
  refine .trans ?_ (.raise 42 reason _)
  exact ⟨rfl, rfl, rfl⟩

theorem loseLead (gone : Bool) (d : Nat) (s : State) : SparesPtp s (loseLead gone d s) := by
  unfold Machine.loseLead
  split
  · refine .trans (.trans ?_ (.enterLocked _)) (.raise 40 _ _)
    exact ⟨rfl, rfl, rfl⟩
  · dsimp only
    split
    · refine .trans ?_ (.timeLost 0 _)
      exact ⟨rfl, rfl, rfl⟩
    · exact ⟨rfl, rfl, rfl⟩

end SparesPtp

theorem relisten_sparesPtp (d : Nat) (s : State) : SparesPtp (resetDom d s) (relisten d s) := by
  unfold relisten
  dsimp only
  split
  · exact .loseLead ..
  · exact .refl _

/-- PTP_CTRL as a write leaves it, before domains start over. -/
def Ptp.controlled (v : Reg) (x : Ptp) : Ptp :=
  { x with enA := v.getLsbD 4, enB := v.getLsbD 5, portMap := if v.toNat % 4 < 3 then v.toNat % 4 else x.portMap }

/-- From `s` to `t` domains start over, and of the PTP block, the power state and the saved registers nothing else moves. -/
def DomainsOnly (s t : State) : Prop := t.ptp = { s.ptp with doms := t.ptp.doms } ∧ t.pwr = s.pwr ∧ t.nvm.saved = s.nvm.saved

theorem DomainsOnly.trans {s t u : State} (h : DomainsOnly s t) (k : DomainsOnly t u) : DomainsOnly s u := by
  obtain ⟨hptp, hpwr, hsaved⟩ := h
  obtain ⟨kptp, kpwr, ksaved⟩ := k
  exact ⟨kptp.trans (congrArg (fun x : Ptp => { x with doms := u.ptp.doms }) hptp), kpwr.trans hpwr, ksaved.trans hsaved⟩

theorem relisten_domainsOnly (d : Nat) (s : State) : DomainsOnly s (relisten d s) := by
  obtain ⟨hptp, hpwr, hsaved⟩ := relisten_sparesPtp d s
  exact ⟨by rw [hptp]; rfl, hpwr, hsaved⟩

theorem setPtpCtrl_domainsOnly (v : Reg) (s : State) : DomainsOnly { s with ptp := s.ptp.controlled v } (setPtpCtrl v s) := by
  have hrelisten (c : Bool) (d : Nat) (u : State) : DomainsOnly u (if c then relisten d u else u) := by
    split
    · exact relisten_domainsOnly d u
    · exact ⟨rfl, rfl, rfl⟩
  exact (hrelisten _ 0 _).trans (hrelisten _ 1 _)

theorem setPtpCtrl_spec (v : Reg) (s : State) : (setPtpCtrl v s).ptp.enA = v.getLsbD 4 ∧ (setPtpCtrl v s).ptp.enB = v.getLsbD 5 ∧
    (setPtpCtrl v s).ptp.portMap = (if v.toNat % 4 < 3 then v.toNat % 4 else s.ptp.portMap) ∧ (setPtpCtrl v s).live = s.live ∧
    (setPtpCtrl v s).nvm.saved = s.nvm.saved := by
  obtain ⟨hptp, hpwr, hsaved⟩ := setPtpCtrl_domainsOnly v s
  exact ⟨by rw [hptp]; rfl, by rw [hptp]; rfl, by rw [hptp]; rfl, by rw [State.live, hpwr]; rfl, hsaved⟩

/-- A store leaves the PTP block. -/
theorem SaveReq.store_ptp (q : SaveReq) (s : State) : (q.store s).ptp = s.ptp := by
  cases q <;> simp [SaveReq.store]

/-- A save of the PTP block moves its SAVE bit alone; in RUN and LEAN the block's values are stored at once (R447, log 55). -/
theorem askSave_ptp (s : State) : (askSave .ptp s).ptp = { s.ptp with save := (askSave .ptp s).ptp.save } ∧
    (s.live = true → (askSave .ptp s).nvm.saved.ptp = some (ptpValues s)) := by
  have hstored (l : List SaveReq) (u : State) : (l.foldl (fun s q => q.store s) u).ptp = u.ptp :=
    foldl_keeps (fun s : State => s.ptp) _ (fun s q => q.store_ptp s) l u
  obtain ⟨u, hu⟩ : ∃ u : State, u = { markSave .ptp s with nvm := { s.nvm with saves := s.nvm.saves ++ [.ptp] } } := ⟨_, rfl⟩
  have hptp : u.ptp = { s.ptp with save := true } := by rw [hu]; rfl
  have hsaves : u.nvm.saves = s.nvm.saves ++ [.ptp] := by rw [hu]
  have hdone : (doSaves u).ptp = { s.ptp with save := false } ∧ (doSaves u).nvm.saved.ptp = some (ptpValues s) := by
    have hlast := hstored s.nvm.saves u
    rw [doSaves, hsaves, List.foldl_append]
    generalize s.nvm.saves.foldl (fun s q => q.store s) u = w at hlast
    have hw : w.ptp = { s.ptp with save := true } := hlast.trans hptp
    refine ⟨?_, ?_⟩
    · exact congrArg (fun x : Ptp => { x with save := false }) hw
    · have hvalues := congrArg (fun x : Ptp => some (ptpValues { s with ptp := x })) hw
      exact hvalues
  have hx : askSave .ptp s = if s.live then doSaves u else if s.pwr.state == .hold || s.pwr.state == .boot then u else s := by rw [hu]; rfl
  rw [hx]
  split
  · exact ⟨by rw [hdone.1], fun _ => hdone.2⟩
  next hlive =>
    refine ⟨?_, fun h => absurd h hlive⟩
    split
    · rw [hptp]
    · rfl

theorem ptpCtrlSave_eq {v : Reg} {s : State} (hw : s.takesWrite 0x1000 = true) :
    exec (.ptpCtrlSave v) s = .next (if v.getLsbD 31 then askSave .ptp (setPtpCtrl v s) else setPtpCtrl v s) := by
  refine (if_neg (by simp [hw])).trans ?_
  exact (apply_ite Host.Outcome.next ..).symm

theorem ptpCtrlSave_keeps_now {v : Reg} {s : State} (hw : s.takesWrite 0x1000 = true) :
    ∃ t, exec (.ptpCtrlSave v) s = .next t ∧ t.ptp.enA = v.getLsbD 4 ∧ t.ptp.enB = v.getLsbD 5 ∧
      (v.getLsbD 31 = true → s.live = true → t.nvm.saved.ptp = some (ptpValues t)) ∧ (v.getLsbD 31 = false → t.nvm.saved = s.nvm.saved) := by
  obtain ⟨ha, hb, -, hlive, hsaved⟩ := setPtpCtrl_spec v s
  refine ⟨_, ptpCtrlSave_eq hw, ?_⟩
  generalize setPtpCtrl v s = u at ha hb hlive hsaved
  obtain ⟨hptp, hstore⟩ := askSave_ptp u
  cases hsave : v.getLsbD 31 with
  | false => exact ⟨ha, hb, fun h => absurd h Bool.false_ne_true, fun _ => hsaved⟩
  | true =>
    refine ⟨?_, ?_, fun _ hl => ?_, fun h => absurd h (by decide)⟩
    · exact (congrArg Ptp.enA hptp).trans ha
    · exact (congrArg Ptp.enB hptp).trans hb
    · exact (hstore (hlive.trans hl)).trans (congrArg (fun x : Ptp => some (ptpValues { u with ptp := x })) hptp).symm

/-- A domain starts over (R434, R447). -/
def PtpDom.restarted (on : Bool) (x : PtpDom) : PtpDom :=
  { x with state := if on then .listening else .disabled, gmClass := 0xFF, gmId := 0, goodSyncs := 0, waitSync := none, sync := none
           reqTx := none, waitPd := none, newPath := none, stab := none, master := none, masters := [], outliers := 0, path := none }

/-- PTP_DOM_CFG as a write leaves it, before the domain starts over. -/
def PtpDom.configured (n : Nat) (delayP2p : Bool) (x : PtpDom) : PtpDom :=
  { x with num := n % 256, transport := if n / 256 % 4 < 2 then n / 256 % 4 else x.transport, delayP2p
           profile := if n / 2048 % 4 < 2 then n / 2048 % 4 else x.profile }

/-- The domain takes its fields, and starts over where one of them changes. -/
theorem setDomCfg_dom {v : Reg} {s : State} (hd : s.ptp.domSel < s.ptp.doms.length) :
    (setDomCfg v s).dom s.ptp.domSel = (if (s.dom s.ptp.domSel).configured v.toNat (v.getLsbD 10) = s.dom s.ptp.domSel then s.dom s.ptp.domSel
      else ((s.dom s.ptp.domSel).configured v.toNat (v.getLsbD 10)).restarted (s.domEnabled s.ptp.domSel)) := by
  have hx : setDomCfg v s = if (s.dom s.ptp.domSel).configured v.toNat (v.getLsbD 10) = s.dom s.ptp.domSel then s
    else relisten s.ptp.domSel (s.modDom s.ptp.domSel (fun _ => (s.dom s.ptp.domSel).configured v.toNat (v.getLsbD 10))) := rfl
  rw [hx]
  split
  · rfl
  · obtain ⟨u, hu⟩ : ∃ u, u = s.modDom s.ptp.domSel (fun _ => (s.dom s.ptp.domSel).configured v.toNat (v.getLsbD 10)) := ⟨_, rfl⟩
    have hdom : u.dom s.ptp.domSel = (s.dom s.ptp.domSel).configured v.toNat (v.getLsbD 10) := by rw [hu, State.modDom_dom_same hd]
    have hlen : s.ptp.domSel < u.ptp.doms.length := by rw [hu, State.modDom_length]; exact hd
    have hon : u.domEnabled s.ptp.domSel = s.domEnabled s.ptp.domSel := by rw [hu]; rfl
    rw [← hu, State.dom, (relisten_sparesPtp ..).ptp]
    refine (State.modDom_dom_same hlen _).trans ?_
    rw [hdom, hon]
    rfl

theorem domReconfigure_takes {v : Reg} {s : State} (hw : s.takesWrite 0x100C = true) (hd : s.ptp.domSel < s.ptp.doms.length) :
    ∃ t, exec (.ptpDomainReconfigure 0x100C v) s = .next t ∧ (t.dom s.ptp.domSel).num = v.toNat % 256 ∧
      (t.dom s.ptp.domSel).delayP2p = v.getLsbD 10 ∧ (v.toNat % 256 ≠ (s.dom s.ptp.domSel).num → (t.dom s.ptp.domSel).state =
        (if s.domEnabled s.ptp.domSel then .listening else .disabled)) := by
  have hexec : exec (.ptpDomainReconfigure 0x100C v) s = .next (setDomCfg v s) := (if_neg (by simp [hw])).trans rfl
  refine ⟨_, hexec, ?_⟩
  rw [setDomCfg_dom hd]
  split
  next hsame => exact ⟨(congrArg PtpDom.num hsame).symm, (congrArg PtpDom.delayP2p hsame).symm, fun h => absurd (congrArg PtpDom.num hsame) h⟩
  next => exact ⟨rfl, rfl, fun _ => rfl⟩

/-- Settles O49: frames by their rings, stamps by what their port's queue has room for, the registers by the fields that a write takes. -/
theorem framesStampsAndPtpRegisters : Obligations.FramesStampsAndPtpRegisters := by
  intro s p
  refine ⟨fun f => prxFrame_posts, fun f hoff => ?drops, fun b => ptxFetch_sends, fun b => ptxFetch_skips, ptxFetch_fails,
    fun tag r ns h => ⟨stamp_queued h, stamp_waits h⟩, fun hp hnone hlate => ?tick, fun ns hnone => ?unasked, fun e r => tagRead_pops, tagRead_of_empty,
    fun v => mdioGo_takes v, fun v hw => if_pos (by simp [hw]), fun x => mdioDone_ends, fun x hidle => if_pos (by simp [hidle]),
    fun v => domReconfigure_takes, fun v hw => ⟨⟨setPtpCtrl v s, ?ctrl, ?fields⟩, ptpCtrlSave_keeps_now hw⟩⟩
  case drops => exact if_neg (by simp [hoff])
  case tick =>
    obtain ⟨hport, hpend⟩ := idle_drops hp s
    obtain ⟨hgone, hovf, hqueue, -⟩ := PtpPort.dropped_spec (s.port p)
    have hstep : step s = .next (idle s) := by rw [step, hnone]
    rw [← hport] at hgone hovf hqueue
    exact ⟨_, hstep, hgone, hovf.trans (if_pos hlate), hqueue, hpend hlate⟩
  case unasked =>
    have hx : exec (.ptpFrameTransmitted p ⟨⟩ ns) s = execPtpFrameTransmitted p ⟨⟩ ns s := rfl
    simp only [hx, execPtpFrameTransmitted, hnone]
  case ctrl => exact (if_neg (by simp [hw])).trans rfl
  case fields =>
    obtain ⟨ha, hb, hmap, -, -⟩ := setPtpCtrl_spec v s
    exact ⟨ha, hb, hmap⟩

end Sys2Proof.Machine

namespace Sys2Proof.Machine

/-! ## What no step undoes

A seal, the written root key slots and HALT: every function of the model leaves them alone, but for SEAL, for KEY_INSTALL on
an empty slot and for what changes the power state, which in HALT is what cuts the power. Each function has one rule, as for
`Canon`; where it may end HALT, its rule asks that HALT need not stand (`vow.halt = true → False`). -/

/-- What stood at the start: the seal, the root key slots, and whether the device was in HALT. -/
structure Vow where
  sealed : Bool
  slots  : List (Option (List Byte))
  halt   : Bool

/-- A state in which what stood at the start stands still. -/
structure Kept (vow : Vow) (t : State) : Prop where
  sealed : vow.sealed = true → t.sec.sealed = true
  slots  : ∀ (i : Nat) (k : List Byte), vow.slots[i]? = some (some k) → t.sec.slots[i]? = some (some k)
  halt   : vow.halt = true → t.pwr.state = .halt ∧ t.pwr.started = true

/-- Where a command answers a next state, what stood at the start stands there. -/
def KeptOut (vow : Vow) (o : Out) : Prop := ∀ t, o = .next t → Kept vow t

section
variable {vow : Vow} {s t : State} {c p : Prop} [Decidable c]

/-- What moves neither the power block nor the security block. -/
theorem Kept.keep (h : Kept vow s)
    {clk frm met tun sar rope cfg est trv hif evt cairn tim ptp thm nvm diag leg sys hostMem free pending} :
    Kept vow ⟨clk, frm, met, tun, sar, rope, cfg, est, trv, hif, evt, cairn, tim, ptp, thm, s.pwr, nvm, diag, s.sec, leg, sys,
      hostMem, free, pending⟩ := ⟨h.sealed, h.slots, h.halt⟩

/-- Of the power block, what is not the power state. -/
theorem Kept.keepPwr (h : Kept vow s)
    {clk frm met tun sar rope cfg est trv hif evt cairn tim ptp thm nvm diag leg sys hostMem free pending}
    {loaded mode vauxMv vcoreMv floorMv warnThr warnArmed resume holdCnt holdDone holdFrom rstCause nextCause nextHard porstLow
      hardLatch paused bootFail vrefth xtalLost bankA bankB runB trial fallback restart stopStep stopSub} :
    Kept vow ⟨clk, frm, met, tun, sar, rope, cfg, est, trv, hif, evt, cairn, tim, ptp, thm,
      ⟨s.pwr.state, s.pwr.started, loaded, mode, vauxMv, vcoreMv, floorMv, warnThr, warnArmed, resume, holdCnt, holdDone, holdFrom,
        rstCause, nextCause, nextHard, porstLow, hardLatch, paused, bootFail, vrefth, xtalLost, bankA, bankB, runB, trial, fallback,
        restart, stopStep, stopSub⟩,
      nvm, diag, s.sec, leg, sys, hostMem, free, pending⟩ := ⟨h.sealed, h.slots, h.halt⟩

/-- Of the security block, what is neither the seal nor a key slot. -/
theorem Kept.keepSec (h : Kept vow s)
    {clk frm met tun sar rope cfg est trv hif evt cairn tim ptp thm nvm diag leg sys hostMem free pending}
    {rngOk keySel word authCnt failCnt} :
    Kept vow ⟨clk, frm, met, tun, sar, rope, cfg, est, trv, hif, evt, cairn, tim, ptp, thm, s.pwr, nvm, diag,
      ⟨s.sec.sealed, rngOk, s.sec.slots, keySel, word, authCnt, failCnt⟩, leg, sys, hostMem, free, pending⟩ :=
  ⟨h.sealed, h.slots, h.halt⟩

/-- What brings the seal. -/
theorem Kept.seal (h : Kept vow s)
    {clk frm met tun sar rope cfg est trv hif evt cairn tim ptp thm nvm diag leg sys hostMem free pending}
    {rngOk keySel word authCnt failCnt} :
    Kept vow ⟨clk, frm, met, tun, sar, rope, cfg, est, trv, hif, evt, cairn, tim, ptp, thm, s.pwr, nvm, diag,
      ⟨true, rngOk, s.sec.slots, keySel, word, authCnt, failCnt⟩, leg, sys, hostMem, free, pending⟩ :=
  ⟨fun _ => rfl, h.slots, h.halt⟩

/-- Where HALT need not stand, what moves all but the seal and the key slots. -/
theorem Kept.moveOn (h : Kept vow s) (hp : vow.halt = true → False) (hseal : t.sec.sealed = s.sec.sealed)
    (hslots : t.sec.slots = s.sec.slots) : Kept vow t := ⟨hseal ▸ h.sealed, hslots ▸ h.slots, fun hv => (hp hv).elim⟩

theorem Kept.of_locks (h : Kept vow s) (hseal : t.sec.sealed = s.sec.sealed) (hslots : t.sec.slots = s.sec.slots)
    (hstate : t.pwr.state = s.pwr.state) (hstarted : t.pwr.started = s.pwr.started) : Kept vow t :=
  ⟨hseal ▸ h.sealed, hslots ▸ h.slots, hstate ▸ hstarted ▸ h.halt⟩

theorem Kept.of_eq (h : Kept vow s) (hsec : t.sec = s.sec) (hpwr : t.pwr = s.pwr) : Kept vow t :=
  h.of_locks (by rw [hsec]) (by rw [hsec]) (by rw [hpwr]) (by rw [hpwr])

theorem Kept.ite (hs : Kept vow s) (ht : Kept vow t) : Kept vow (if c then s else t) := by
  split
  · exact hs
  · exact ht

theorem Kept.dite (hs : c → Kept vow s) (ht : ¬c → Kept vow t) : Kept vow (if c then s else t) := by
  split
  next hc => exact hs hc
  next hc => exact ht hc

theorem Kept.when (hs : Kept vow s) (ht : Kept vow s → Kept vow t) : Kept vow (if c then t else s) := .ite (ht hs) hs

theorem Kept.unless (hs : Kept vow s) (ht : Kept vow s → Kept vow t) : Kept vow (if c then s else t) := .ite hs (ht hs)

theorem Kept.foldl {α : Type} {f : State → α → State} {l : List α} (h : Kept vow s)
    (hf : ∀ t a, Kept vow t → Kept vow (f t a)) : Kept vow (l.foldl f s) :=
  List.foldlRecOn (motive := Kept vow) _ _ h fun t ht a _ => hf t a ht

theorem Kept.dma {a l} (h : Kept vow s) : Kept vow (s.dma a l) := h.of_eq rfl rfl

theorem checks_of_firstFail {l : List Check} (h : firstFail l = none) : ∀ c ∈ l, c.1 = true := by
  induction l with
  | nil => simp
  | cons c r ih =>
    unfold firstFail at h
    split at h
    next hok => exact List.forall_mem_cons.2 ⟨hok, ih h⟩
    next => simp at h

theorem State.ne_halt_of_accepts {op : Nat} (h : s.accepts op = true) : s.pwr.state ≠ .halt := fun hs => by simp [State.accepts, hs] at h

/-- HALT need not stand where the device is not in it. -/
theorem Kept.awake (h : Kept vow s) (hs : s.pwr.state ≠ .halt) : vow.halt = true → p := fun hv => absurd (h.halt hv).1 hs

theorem State.ne_halt_of_live (h : s.live = true) : s.pwr.state ≠ .halt := fun hs => by simp [State.live, hs] at h

theorem KeptOut.next (h : Kept vow s) : KeptOut vow (.next s) := fun _ ht => by
  cases ht
  exact h

theorem KeptOut.dite {o p : Out} (ho : c → KeptOut vow o) (hp : ¬c → KeptOut vow p) : KeptOut vow (if c then o else p) := by
  split
  next hc => exact ho hc
  next hc => exact hp hc

theorem KeptOut.ite {o p : Out} (ho : KeptOut vow o) (hp : KeptOut vow p) : KeptOut vow (if c then o else p) := by
  split
  · exact ho
  · exact hp

end

variable {vow : Vow} {s t : State}

/-! ### Events, rings and completions -/

theorem Kept.tick (h : Kept vow s) : Kept vow (tick s) := h.of_eq (by simp) (by simp)

theorem Kept.setTime (h : Kept vow s) {n keepFrac} : Kept vow (s.setTime n keepFrac) := by
  exact h.of_eq (by simp) (by simp)

theorem Kept.modMet (h : Kept vow s) {n f} : Kept vow (State.modMet s n f) := h.keep
theorem Kept.modRope (h : Kept vow s) {n f} : Kept vow (State.modRope s n f) := h.keep
theorem Kept.modTun (h : Kept vow s) {u f} : Kept vow (State.modTun s u f) := h.keep
theorem Kept.modConv (h : Kept vow s) {c f} : Kept vow (State.modConv s c f) := h.keep
theorem Kept.modLim (h : Kept vow s) {n f} : Kept vow (State.modLim s n f) := h.keep
theorem Kept.modDom (h : Kept vow s) {d f} : Kept vow (State.modDom s d f) := h.keep
theorem Kept.modPort (h : Kept vow s) {p f} : Kept vow (State.modPort s p f) := h.keep
theorem Kept.modRing (h : Kept vow s) {n f} : Kept vow (State.modRing s n f) := h.keep
theorem Kept.setCell (h : Kept vow s) {g c} : Kept vow (State.setCell s g c) := h.keep
theorem Kept.modCell (h : Kept vow s) {g f} : Kept vow (State.modCell s g f) := h.of_eq (by simp) (by simp)
theorem Kept.modFrame (h : Kept vow s) {epoch f} : Kept vow (State.modFrame epoch f s) := h.keep

theorem Kept.logAdd (h : Kept vow s) {code target index info} : Kept vow (logAdd code target index info s) :=
  h.of_eq (by simp) (by simp)

theorem Kept.recordEvent (h : Kept vow s) {e info} : Kept vow (recordEvent e info s) := h.of_eq (by simp) (by simp)
theorem Kept.raise (h : Kept vow s) {e info} : Kept vow (raise e info s) := h.of_eq (by simp) (by simp)
theorem Kept.hifErr (h : Kept vow s) {bits} : Kept vow (hifErr bits s) := h.of_eq (by simp) (by simp)
theorem Kept.sendMsg (h : Kept vow s) {v} : Kept vow (sendMsg v s) := h.of_eq (by simp) (by simp)
theorem Kept.moderate (h : Kept vow s) {v} : Kept vow (moderate v s) := h.of_eq (by simp) (by simp)
theorem Kept.signal (h : Kept vow s) {v} : Kept vow (signal v s) := h.of_eq (by simp) (by simp)
theorem Kept.postEntry (h : Kept vow s) {n bytes} : Kept vow (postEntry n bytes s) := h.dma.modRing

theorem Kept.postCompletion (h : Kept vow s) {sub op status orig result merged} :
    Kept vow (postCompletion sub op status orig result merged s) :=
  .ite h.postEntry.signal.keep h

theorem Kept.finishCmd (h : Kept vow s) {op sub status result} : Kept vow (finishCmd op sub status result s) :=
  .unless (by split; exacts [h.keep, h]) fun h => .postCompletion (.ite h.keep h)

theorem Kept.complete (h : Kept vow s) {op sub status result} : Kept vow (complete op sub status result s) :=
  .ite h.keep h.finishCmd

/-! ### Lanes, reports and saved registers -/

theorem Kept.setUnitDiag (h : Kept vow s) {d} : Kept vow (State.setUnitDiag s d) := h.of_eq (by simp) (by simp)
theorem Kept.dealLanes (h : Kept vow s) : Kept vow (dealLanes s) := h.of_eq (by simp) (by simp)
theorem Kept.settleVcore (h : Kept vow s) : Kept vow (settleVcore s) := h.keepPwr
theorem Kept.settleWork (h : Kept vow s) : Kept vow (settleWork s) := h.dealLanes.settleVcore
theorem Kept.refreshLane (h : Kept vow s) {u} : Kept vow (refreshLane u s) := h.of_eq (by simp) (by simp)

/-- Where HALT is to stand, it is the one state to enter. -/
theorem Kept.enterPower (h : Kept vow s) {p} (hp : vow.halt = true → p = .halt) : Kept vow (enterPower p s) :=
  .settleVcore ⟨h.sealed, h.slots, fun hv => ⟨hp hv, (h.halt hv).2⟩⟩

theorem Kept.storeSaved (h : Kept vow s) {f} : Kept vow (State.storeSaved f s) := h.of_eq (by simp) (by simp)
theorem Kept.saveSys (h : Kept vow s) : Kept vow (saveSys s) := h.of_eq (by simp) (by simp)
theorem Kept.saveLeg (h : Kept vow s) : Kept vow (saveLeg s) := h.of_eq (by simp) (by simp)
theorem Kept.savePtp (h : Kept vow s) : Kept vow (savePtp s) := h.of_eq (by simp) (by simp)
theorem Kept.writeStatus (h : Kept vow s) : Kept vow (writeStatus s) := .ite h.keep (.ite h.keep h)

theorem Kept.drainWrites (h : Kept vow s) : Kept vow (drainWrites s) :=
  .ite (.when (h.keep.foldl fun _ _ h => h.finishCmd) (·.writeStatus)) h

/-! ### The timebase -/

theorem Kept.reanchor (h : Kept vow s) {r} : Kept vow (State.reanchor s r) := h.keep
theorem Kept.stepReanchor (h : Kept vow s) : Kept vow (State.stepReanchor s) := h.reanchor

theorem Kept.stepTime (h : Kept vow s) {n keepFrac} : Kept vow (s.stepTime n keepFrac) := by
  unfold State.stepTime
  exact .stepReanchor (.keep (s := s.setTime n keepFrac) h.setTime)

theorem Kept.judgePeriod (h : Kept vow s) : Kept vow (State.judgePeriod s) := .ite h h.reanchor
theorem Kept.fileReport (h : Kept vow s) {u} : Kept vow (fileReport u s) := h.of_eq (by simp) (by simp)
theorem Kept.flashRead (h : Kept vow s) {n} : Kept vow (flashRead n s) := .ite h.keep.fileReport h.keep
theorem Kept.clearRref (h : Kept vow s) : Kept vow (clearRref s) := .ite h.setUnitDiag h

/-! ### Commands and their checks -/

/-- A command acts where its checks pass. -/
theorem KeptOut.runChecked {op sub checks act} (h : Kept vow s) (ha : (∀ c ∈ checks, c.1 = true) → Kept vow (act s)) :
    KeptOut vow (runCmd op sub checks act s) := by
  unfold Machine.runCmd
  refine .ite (.next h) ?_
  split
  next => exact .next h.complete
  next hnone => exact .next (ha (checks_of_firstFail hnone))

theorem KeptOut.runCmd {op sub checks act} (h : Kept vow s) (ha : Kept vow (act s)) : KeptOut vow (runCmd op sub checks act s) :=
  .runChecked h fun _ => ha

/-! ### Ropes: frames, transactions, locations -/

theorem Kept.modMon (h : Kept vow s) {str m f} : Kept vow (State.modMon s str m f) := h.modRope
theorem Kept.countCrc (h : Kept vow s) {str x} : Kept vow (countCrc str x s) := .ite h h.modRope
theorem Kept.ropeSend (h : Kept vow s) {str e f} : Kept vow (ropeSend str e f s) := h.of_eq (by simp) (by simp)

theorem Kept.ropeCast (h : Kept vow s) {str e typ addr payload} : Kept vow (ropeCast str e typ addr payload s) :=
  h.of_eq (by simp) (by simp)

theorem Kept.ropeCastBoth (h : Kept vow s) {str typ addr payload} : Kept vow (ropeCastBoth str typ addr payload s) :=
  h.of_eq (by simp) (by simp)

theorem Kept.dropTxn (h : Kept vow s) {str t} : Kept vow (dropTxn str t s) := h.of_eq (by simp) (by simp)

theorem Kept.failAttempt (h : Kept vow s) {str t crc} : Kept vow (failAttempt str t crc s).2 := by
  unfold Machine.failAttempt
  dsimp only
  split
  · exact .ropeSend (.keep (h.when (·.keep)))
  · exact .keep (.dropTxn (h.when (·.keep)))

theorem Kept.sendEcho (h : Kept vow s) {str e addr use} : Kept vow (sendEcho str e addr use s) := h.of_eq (by simp) (by simp)

theorem Kept.sendRead (h : Kept vow s) {str e addr page off len use} : Kept vow (sendRead str e addr page off len use s) :=
  h.of_eq (by simp) (by simp)

theorem Kept.sendConfigPage (h : Kept vow s) {str e m} : Kept vow (sendConfigPage str e m s) := h.of_eq (by simp) (by simp)
theorem Kept.castTie (h : Kept vow s) {str e addr payload} : Kept vow (castTie str e addr payload s) := h.of_eq (by simp) (by simp)
theorem Kept.castSafe (h : Kept vow s) {str e} : Kept vow (castSafe str e s) := h.of_eq (by simp) (by simp)
theorem Kept.safeStep (h : Kept vow s) {str} : Kept vow (safeStep str s) := h.of_eq (by simp) (by simp)

theorem Kept.safeOver (h : Kept vow s) {str} : Kept vow (safeOver str s) := by
  unfold Machine.safeOver
  split
  exacts [h.modRope.castSafe, h.modRope, h]

theorem Kept.sendSafe (h : Kept vow s) : Kept vow (sendSafe s) := h.foldl fun _ _ h => .ite h h.modRope.safeStep
theorem Kept.ropeGap (h : Kept vow s) {str} : Kept vow (ropeGap str s) := h.of_eq (by simp) (by simp)
theorem Kept.modeEvent (h : Kept vow s) {str before} : Kept vow (modeEvent str before s) := .ite h.raise h
theorem Kept.toneLevel (h : Kept vow s) : Kept vow (toneLevel s) := h.keep

theorem Kept.setMode (h : Kept vow s) {str a b mode brkA brkB} : Kept vow (setMode str a b mode brkA brkB s) :=
  h.modRope.modeEvent.toneLevel

theorem Kept.applyLocation (h : Kept vow s) {str a b nEnd fEnd byEcho} :
    Kept vow (applyLocation str a b nEnd fEnd byEcho s) :=
  h.modRope.unless fun h => .when (h.setMode.when (·.fileReport)) (·.fileReport)

theorem Kept.startLocate (h : Kept vow s) {str e} : Kept vow (startLocate str e s) :=
  .ite h (.ite h.modRope (by split; exacts [.ite h h.modRope.ropeGap, h, h.modRope.ropeGap]))

theorem Kept.finishLocate (h : Kept vow s) {str} : Kept vow (finishLocate str s) := by
  unfold Machine.finishLocate; split; exacts [.ite h.applyLocation h, h]

theorem Kept.locateResult (h : Kept vow s) {str t ok} : Kept vow (locateResult str t ok s) := by
  unfold Machine.locateResult
  dsimp only
  split
  · exact h
  · refine .ite ?ring ?broken
    case ring => split <;> exact .ite (.ite h.keep.finishLocate h.keep) h.keep.finishLocate
    case broken => split <;> exact .ite h.keep.finishLocate (.ite h.keep.finishLocate h.keep)

theorem Kept.suspectBreak (h : Kept vow s) {str e} : Kept vow (suspectBreak str e s) := h.modRope.startLocate
theorem Kept.castBelay (h : Kept vow s) {str e addr} : Kept vow (castBelay str e addr s) := .ite h.ropeCast.modRope h

theorem KeptOut.execBelaySend (h : Kept vow s) {str} : KeptOut vow (execBelaySend str s) :=
  .ite (.next h) (.next (h.foldl fun _ _ h => h.castBelay))

theorem KeptOut.execThroughProbe (h : Kept vow s) {str} : KeptOut vow (execThroughProbe str s) :=
  .ite (.next h.modRope.castBelay) (.next h)

theorem KeptOut.execReachProbe (h : Kept vow s) {str} : KeptOut vow (execReachProbe str s) :=
  .ite (.next h) (.next h.modRope.ropeGap)

theorem Kept.probeEnd (h : Kept vow s) {str e} : Kept vow (probeEnd str e s) := h.modRope.unless (·.setMode)

theorem Kept.reachResult (h : Kept vow s) {str t ok} : Kept vow (reachResult str t ok s) :=
  .ite h (.ite h.probeEnd (.ite h.modRope.modRope h.modRope.probeEnd))

theorem Kept.toneBack (h : Kept vow s) {str e fault monmask unaddr} : Kept vow (toneBack str e fault monmask unaddr s) :=
  .toneLevel (h.keep.when (·.raise))

theorem Kept.probeBack (h : Kept vow s) {str} : Kept vow (probeBack str s) := .ite h.modRope h

theorem KeptOut.execBelayReturned (h : Kept vow s) {t} : KeptOut vow (execBelayReturned t s) := by
  unfold Machine.execBelayReturned
  split
  · exact .next h
  · have hc {str x} : Kept vow (countCrc str x s) := h.countCrc
    exact .ite (.next hc) (.ite (.next (.ite hc.toneBack hc)) (.ite (.next (.ite hc.probeBack hc)) (.next (.ite hc.toneBack hc))))

theorem KeptOut.execBelayNotReturned (h : Kept vow s) {str fromEnd} : KeptOut vow (execBelayNotReturned str fromEnd s) :=
  .ite (.next h.modRope.toneLevel.suspectBreak) (.next h.modRope.toneLevel)

theorem KeptOut.execFaultNMinEnd (h : Kept vow s) : KeptOut vow (execFaultNMinEnd s) := .next h.keep.toneLevel

theorem Kept.sendSync (h : Kept vow s) {kind epoch span} : Kept vow (sendSync kind epoch span s) :=
  h.foldl fun _ _ h => .ite h.ropeCastBoth h

theorem Kept.ropeGone (h : Kept vow s) {str} : Kept vow (ropeGone str s) :=
  .toneLevel (.foldl (.foldl (h.keep.foldl fun _ _ h => h.complete) fun _ _ h => h.complete) fun _ _ h => h.complete)

theorem Kept.stopTie (h : Kept vow s) {str} : Kept vow (stopTie str s) := .ite h.modRope h

theorem Kept.stopOne (h : Kept vow s) {n} : Kept vow (stopOne n s) :=
  .ite h (by split; exacts [h, h, h.modRope.safeStep.when (·.ropeGone)])

theorem Kept.stopRopes (h : Kept vow s) : Kept vow (stopRopes s) := .ite (.when (h.foldl fun _ _ h => h.stopOne) (·.keepPwr)) h

theorem Kept.stopFrame (h : Kept vow s) {str} : Kept vow (stopFrame str s) := by
  unfold Machine.stopFrame; split; exacts [h.safeOver, .stopRopes (.ite h.safeOver.ropeGone h.safeOver), h.modRope.stopRopes]

/-! ### Tie-in -/

theorem Kept.setTie (h : Kept vow s) {str t} : Kept vow (setTie str t s) := h.of_eq (by simp) (by simp)
theorem Kept.tieBegin (h : Kept vow s) {str attempt} : Kept vow (tieBegin str attempt s) := h.modRope.castTie
theorem Kept.tieCmdDone (h : Kept vow s) {str} : Kept vow (tieCmdDone str s) := h.keep.foldl fun _ _ h => h.complete

theorem Kept.tieReports (h : Kept vow s) {str a b e} : Kept vow (tieReports str a b e s) :=
  .when (.ite h.fileReport h) (·.fileReport)

theorem Kept.rawJudge (h : Kept vow s) {str} : Kept vow (rawJudge str s) := h.modRope.foldl fun _ _ h => h.complete

theorem Kept.tieEnd (h : Kept vow s) {str t res mode} : Kept vow (tieEnd str t res mode s) :=
  .ropeGap (.when (.rawJudge (.tieCmdDone (h.modRope.setMode.modRope.when (·.tieReports)))) (·.modRope.tieBegin))

theorem Kept.castDescending (h : Kept vow s) {str t} : Kept vow (castDescending str t s) := h.setTie.castTie

theorem Kept.tieBroken (h : Kept vow s) {str t} : Kept vow (tieBroken str t s) :=
  .ite h.modRope.setTie.sendEcho h.modRope.castDescending

theorem Kept.tieRetry (h : Kept vow s) {str t} : Kept vow (tieRetry str t s) := .ite h.tieBegin h.tieBroken

theorem Kept.tieConfigFrom (h : Kept vow s) {str k t} : Kept vow (tieConfigFrom str k t s) := by
  unfold Machine.tieConfigFrom; split; exacts [h.setTie.sendConfigPage, h.tieEnd]

theorem Kept.tieIdentityFrom (h : Kept vow s) {str k t} : Kept vow (tieIdentityFrom str k t s) := by
  unfold Machine.tieIdentityFrom; split; exacts [h.setTie.sendRead, h.tieConfigFrom]

theorem Kept.tieEchoN (h : Kept vow s) {str k t} : Kept vow (tieEchoN str k t s) := .ite h.setTie.sendEcho h.setTie.sendEcho
theorem Kept.tieEchoF (h : Kept vow s) {str k t} : Kept vow (tieEchoF str k t s) := .ite h.setTie.sendEcho h.tieIdentityFrom

theorem Kept.tieCheck (h : Kept vow s) {str k t} : Kept vow (tieCheck str k t s) := by
  unfold Machine.tieCheck; dsimp only; split; exacts [h.tieEchoF, .ite h.tieEchoF (.ite h.setTie.sendEcho h.modMon.modRope.tieEchoF)]

theorem Kept.seeMon (h : Kept vow s) {str m} : Kept vow (seeMon str m s) := h.modRope

theorem Kept.tieEchoBroken (h : Kept vow s) {str k t} : Kept vow (tieEchoBroken str k t s) := by
  unfold Machine.tieEchoBroken; split; exacts [h.setTie.sendEcho, h.tieIdentityFrom]

theorem Kept.tieEchoOk (h : Kept vow s) {str e k deltaNs} : Kept vow (tieEchoOk str e k deltaNs s) := by
  unfold Machine.tieEchoOk
  dsimp only
  split
  · exact h.seeMon.modMon
  · split
    · exact .ite h.seeMon.modMon.setTie.sendEcho h.seeMon.modMon.tieEchoN
    · exact h.seeMon.modMon.tieCheck
    · exact .ite h.seeMon.modMon.setTie.sendEcho h.seeMon.modMon.castDescending
    · exact .ite h.seeMon.modMon.setTie.sendEcho h.seeMon.modMon.tieEchoBroken
    · exact h.seeMon.modMon.tieEchoBroken
    · exact h.seeMon.modMon

theorem Kept.tieEchoFailed (h : Kept vow s) {str k} : Kept vow (tieEchoFailed str k s) := by
  unfold Machine.tieEchoFailed
  split
  · exact h
  · split
    · exact .ite h.tieEchoF h.tieEchoN
    · exact h.tieEchoF
    · exact h.castDescending
    · exact h.tieEchoBroken
    · exact h.tieEchoBroken
    · exact h

theorem Kept.tieFindF (h : Kept vow s) {str t} : Kept vow (tieFindF str t s) := .ite h.setTie.sendEcho h.tieEchoBroken

theorem Kept.tieIdentity (h : Kept vow s) {str k data} : Kept vow (tieIdentity str k data s) := by
  unfold Machine.tieIdentity
  extract_lets u
  have hu : Kept vow u := by
    unfold u
    split
    · exact h.keep
    · exact h
  split
  · split
    · exact hu.tieIdentityFrom
    · exact hu
  · exact hu

theorem Kept.tieConfigDone (h : Kept vow s) {str k} : Kept vow (tieConfigDone str k s) := by
  unfold Machine.tieConfigDone
  split
  · exact by split; exacts [h.tieConfigFrom, h]
  · exact h

theorem Kept.tieAssign (h : Kept vow s) {str t} : Kept vow (tieAssign str t s) := h.setTie.castTie

theorem Kept.assignBack (h : Kept vow s) {str t next overflow delayNs} :
    Kept vow (assignBack str t next overflow delayNs s) :=
  .ite h.modRope.tieEnd h.modRope.setTie.castTie

theorem Kept.countBack (h : Kept vow s) {str t counted mismatch} : Kept vow (countBack str t counted mismatch s) :=
  .ite (.ite h.tieEnd (.tieEchoN (h.foldl fun _ _ h => h.seeMon))) (.ite h.tieBegin h.tieEnd)

theorem Kept.tieLost (h : Kept vow s) {str t} : Kept vow (tieLost str t s) := by
  unfold Machine.tieLost; split; exacts [h.setTie.castTie, h.tieAssign, h.tieRetry, h.tieRetry, h.tieFindF, h]

theorem Kept.tieArrived (h : Kept vow s) {str x delayNs} : Kept vow (tieArrived str x delayNs s) := by
  unfold Machine.tieArrived
  split
  · exact h
  · exact .ite (by split; exacts [h.tieRetry, h.tieRetry, h]) (.ite h (by split; exacts [h.assignBack, h.countBack, h.tieLost]))

theorem Kept.tieTimeout (h : Kept vow s) {str} : Kept vow (tieTimeout str s) := by
  unfold Machine.tieTimeout
  split
  exacts [h, h.tieLost]

theorem KeptOut.execRopeTieIn (h : Kept vow s) {sub} : KeptOut vow (execRopeTieIn sub s) := by
  unfold Machine.execRopeTieIn
  exact .runCmd h (h.keep.foldl fun _ _ h => h.tieBegin)

theorem KeptOut.execRopeMapRead (h : Kept vow s) {sub} : KeptOut vow (execRopeMapRead sub s) := .runCmd h h.dma.complete

theorem KeptOut.execRopeRaw (h : Kept vow s) {sub buf} : KeptOut vow (execRopeRaw sub buf s) := by
  unfold Machine.execRopeRaw
  exact .runCmd h h.modRope.ropeGap

/-! ### Authentication, keys, SEAL and ATTEST -/

theorem Kept.dropAuth (h : Kept vow s) {str m} : Kept vow (dropAuth str m s) := h.modRope
theorem Kept.authStart (h : Kept vow s) {str m} : Kept vow (authStart str m s) := .ite h.modMon.modRope h.modMon
theorem Kept.authAll (h : Kept vow s) {str} : Kept vow (authAll str s) := h.foldl fun _ _ h => h.authStart

theorem Kept.authResume (h : Kept vow s) {str} : Kept vow (authResume str s) :=
  .ropeGap (h.foldl fun _ _ h => .ite h.authStart h)

theorem Kept.authWaitsDone (h : Kept vow s) : Kept vow (authWaitsDone s) := h.keep.foldl fun _ _ h => h.complete

theorem Kept.authEnd (h : Kept vow s) {str m r} : Kept vow (authEnd str m r s) :=
  .authWaitsDone (.keep (.ite h.modMon.dropAuth.keepSec.raise (.ite h.modMon.dropAuth.keepSec.raise h.modMon.dropAuth.keepSec)))

theorem Kept.authAbort (h : Kept vow s) {str m status} : Kept vow (authAbort str m status s) :=
  h.modMon.dropAuth.keep.foldl fun _ _ h => h.complete

theorem Kept.authUnreach (h : Kept vow s) {str} : Kept vow (authUnreach str s) := h.keep.foldl fun _ _ h => h.complete
theorem Kept.authTied (h : Kept vow s) {str} : Kept vow (authTied str s) := h.authUnreach.authAll.ropeGap
theorem Kept.authHold (h : Kept vow s) : Kept vow (authHold s) := h.keep

theorem Kept.authAnswer (h : Kept vow s) {str m a data} : Kept vow (authAnswer str m a data s) := by
  unfold Machine.authAnswer
  dsimp only
  split
  · exact h
  · exact .ite h.authEnd h
  · split
    · exact h.modMon.modRope
    · exact h.modMon.unless fun h => by split; exacts [h.authEnd, h.modMon]
    · exact h
    · exact .ite h.authEnd (.ite h.modMon h)
    · exact h

theorem KeptOut.execAuthFetchTimer (h : Kept vow s) {str mon} : KeptOut vow (execAuthFetchTimer str mon s) := by
  unfold Machine.execAuthFetchTimer; split; exacts [.ite (.next h.modRope.ropeGap) (.next h), .next h]

theorem KeptOut.execAuthVerifyDone (h : Kept vow s) {str mon} : KeptOut vow (execAuthVerifyDone str mon s) := by
  unfold Machine.execAuthVerifyDone
  split
  · exact .ite (.ite (.next h.modMon.modRope.ropeGap) (.next h.authEnd)) (.ite (.next h.authEnd) (.next h))
  · exact .next h

theorem KeptOut.execAuthSignatureTimeout (h : Kept vow s) {str mon} : KeptOut vow (execAuthSignatureTimeout str mon s) := by
  unfold Machine.execAuthSignatureTimeout; split; exacts [.ite (.next h.authEnd) (.next h), .next h]

theorem KeptOut.execAuthRenewTimer (h : Kept vow s) {str mon} : KeptOut vow (execAuthRenewTimer str mon s) :=
  .ite (.next h.authStart.ropeGap) (.next h)

theorem KeptOut.execAuthRetryTimer (h : Kept vow s) {str mon} : KeptOut vow (execAuthRetryTimer str mon s) :=
  .ite (.next h.authStart.ropeGap) (.next h)

theorem KeptOut.execAuthChallenge (h : Kept vow s) {sub} : KeptOut vow (execAuthChallenge sub s) := by
  unfold Machine.execAuthChallenge
  exact .runCmd h (.authWaitsDone (.ropeGap (h.keep.foldl fun _ _ h => h.authStart)))

theorem Kept.authAgain (h : Kept vow s) {str m} : Kept vow (authAgain str m s) := .ite h.modMon h.authStart

theorem Kept.authWhere (h : Kept vow s) {p} : Kept vow (authWhere p s) :=
  h.foldl fun _ _ h => .ropeGap (h.foldl fun _ _ h => .ite h.authAgain h)

theorem Kept.authNotOk (h : Kept vow s) : Kept vow (authNotOk s) := h.authWhere
theorem Kept.authLocked (h : Kept vow s) : Kept vow (authLocked s) := h.authWhere

/-- A key that enters an empty slot. -/
theorem Kept.fillSlot (h : Kept vow s) {slot key} (hnone : (s.root slot).isNone = true) :
    Kept vow { s with sec := { s.sec with slots := s.sec.slots.set slot (some key) } } := by
  refine ⟨h.sealed, fun i k hk => ?_, h.halt⟩
  have hold := h.slots i k hk
  have hne : slot ≠ i := fun heq => by simp [State.root, heq, List.getD, hold] at hnone
  exact (List.getElem?_set_ne hne).trans hold

theorem KeptOut.execKeyInstall (h : Kept vow s) {sub buf} : KeptOut vow (execKeyInstall sub buf s) := by
  unfold Machine.execKeyInstall
  refine .runChecked h fun hc => .ite h.keep.complete ?_
  have hnone : (s.root (sub.pU 0 1)).isNone = true := hc ((s.root (sub.pU 0 1)).isNone, stBadState) (by simp)
  exact .authNotOk (.complete (h.keep.fillSlot (s := s.draw.2) hnone))

theorem KeptOut.execSealDevice (h : Kept vow s) {sub} : KeptOut vow (execSealDevice sub s) :=
  .runCmd h h.seal.saveSys.saveLeg.logAdd.complete

theorem KeptOut.execAttest (h : Kept vow s) {sub} : KeptOut vow (execAttest sub s) := by
  unfold Machine.execAttest
  exact .runCmd h (by split; exacts [h.dma.complete, h])

end Sys2Proof.Machine

namespace Sys2Proof.Machine

variable {vow : Vow} {s t : State}

/-! ### Where windows end -/

theorem Kept.planEnd (h : Kept vow s) : Kept vow (planEnd s) := h.keep
theorem Kept.replan (h : Kept vow s) : Kept vow (replan s) := .ite h.planEnd h
theorem Kept.holdEnd (h : Kept vow s) : Kept vow (holdEnd s) := h.keep
theorem Kept.freezeEnd (h : Kept vow s) : Kept vow (freezeEnd s) := h.keep

/-! ### Tuning -/

theorem Kept.suspendTuning (h : Kept vow s) : Kept vow (suspendTuning s) := h.keep
theorem Kept.tuneTemperature (h : Kept vow s) {a b} : Kept vow (tuneTemperature a b s) := h.keep
theorem Kept.tuneComplete (h : Kept vow s) : Kept vow (tuneComplete s) := h.keep.foldl fun _ _ h => h.complete
theorem Kept.tuneNote (h : Kept vow s) {u ok} : Kept vow (tuneNote u ok s) := h.keep.tuneComplete

theorem KeptOut.execTuningSlotEnd (h : Kept vow s) {unit volts} : KeptOut vow (execTuningSlotEnd unit volts s) :=
  .ite (.next h.modTun) (.next h)

theorem KeptOut.execTuningFitDone (h : Kept vow s) {unit} : KeptOut vow (execTuningFitDone unit s) := by
  unfold Machine.execTuningFitDone
  dsimp only
  split
  · exact .next h
  · exact .ite (.next h) (.ite (.next h.modTun.tuneNote) (.next (.tuneNote (h.modTun.raise.when (·.fileReport)))))

theorem Kept.takeUnit (h : Kept vow s) {unit} : Kept vow (takeUnit unit s) := by
  unfold Machine.takeUnit; dsimp only; split; exacts [.raise (h.modTun.when (·.keep)), h.modTun]

theorem Kept.takeRrefCorr (h : Kept vow s) : Kept vow (takeRrefCorr s) := by
  unfold Machine.takeRrefCorr
  split
  exacts [h, h.keep]

theorem Kept.tuneBoundary (h : Kept vow s) {win} : Kept vow (tuneBoundary win s) :=
  .keep (.foldl (h.takeRrefCorr.foldl fun _ _ h => h.takeUnit) fun _ _ h => h.takeUnit)

theorem KeptOut.execRrefRatioCheck (h : Kept vow s) {ratio} : KeptOut vow (execRrefRatioCheck ratio s) :=
  .ite (.next h) (.ite (.next h.keep.fileReport) (.ite (.next (h.keep.unless (·.clearRref))) (.next h.keep)))

theorem KeptOut.execTuneNow (h : Kept vow s) {sub} : KeptOut vow (execTuneNow sub s) := by
  unfold Machine.execTuneNow
  exact .runCmd h (.tuneComplete (.keep (.when (h.foldl fun _ _ h => h.modTun) (·.keep))))

theorem KeptOut.execTuneNowTimeout (h : Kept vow s) : KeptOut vow (execTuneNowTimeout s) := by
  unfold Machine.execTuneNowTimeout; split; exacts [.next h, .next h.keep.complete]

theorem KeptOut.execTuneRead (h : Kept vow s) {sub} : KeptOut vow (execTuneRead sub s) := .runCmd h h.dma.complete

/-! ### Charge and open-wire tests -/

theorem Kept.crossCheck (h : Kept vow s) {n w c ovr} : Kept vow (crossCheck n w c ovr s) := h.modMet.when (·.fileReport)

theorem Kept.markFrame (h : Kept vow s) {n num} : Kept vow (markFrame n num s) := by
  unfold Machine.markFrame
  split
  exacts [h.modMet, h]

theorem Kept.loadFrame (h : Kept vow s) {epoch} : Kept vow (loadFrame epoch s) :=
  h.foldl fun _ _ h => .modMet (by split; exacts [h.modLim, h])

theorem Kept.enterCharge (h : Kept vow s) {str w count ovr} : Kept vow (enterCharge str w count ovr s) :=
  .markFrame (.when (h.crossCheck.modMet.when (·.modMet)) (·.raise))

theorem Kept.refreshUrgents (h : Kept vow s) {str num} : Kept vow (refreshUrgents str num s) := h.keep

theorem KeptOut.execWindowChargeEntry (h : Kept vow s) {str count ovr} :
    KeptOut vow (execWindowChargeEntry str count ovr s) := by
  unfold Machine.execWindowChargeEntry; split; exacts [.next h, .next h.enterCharge.refreshUrgents]

theorem Kept.owEvents (h : Kept vow s) {port info} : Kept vow (owEvents port info s) :=
  .ite h.raise (h.foldl fun _ _ h => .ite h.raise h)

theorem Kept.rrefDeclareOpen (h : Kept vow s) : Kept vow (rrefDeclareOpen s) := h.setUnitDiag.keep.suspendTuning.raise

theorem Kept.advanceTurns {n} (h : Kept vow s) : Kept vow (advanceTurns n s) := by
  induction n generalizing s with
  | zero => exact h
  | succ n ih => exact .ite (ih h.keep) h

theorem Kept.scheduleTests (h : Kept vow s) : Kept vow (scheduleTests s) := h.advanceTurns.keep

theorem Kept.owDeclared (h : Kept vow s) {port old new} : Kept vow (owDeclared port old new s) :=
  .ite (.ite h.owEvents.modMet.fileReport.fileReport h.owEvents.rrefDeclareOpen) (.ite (.owEvents (.ite h h.clearRref)) h)

theorem KeptOut.execOpenWireSlot (h : Kept vow s) {port failed} : KeptOut vow (execOpenWireSlot port failed s) :=
  .ite (.next (.ite h h.advanceTurns))
    (.next (.owDeclared (.ite (.modMet (.keep (.ite h h.advanceTurns))) (.keep (.ite h h.advanceTurns)))))

theorem Kept.owBoundary (h : Kept vow s) : Kept vow (owBoundary s) := h.keep.scheduleTests
theorem Kept.resnap (h : Kept vow s) {n} : Kept vow (resnap s n) := h.modMet

theorem Kept.closeWindow (h : Kept vow s) {n num start len trans} : Kept vow (closeWindow n num start len trans s) :=
  .ite h.modMet h.modMet.markFrame

theorem Kept.openWindow (h : Kept vow s) {n num} : Kept vow (openWindow n num s) := h.modMet

/-! ### Sweeps -/

theorem Kept.setSweep (h : Kept vow s) {str w} : Kept vow (setSweep str w s) := h.of_eq (by simp) (by simp)
theorem Kept.markMode (h : Kept vow s) {epoch str} : Kept vow (markMode epoch str s) := h.modFrame

theorem Kept.sweepEnd (h : Kept vow s) {str w} : Kept vow (sweepEnd str w s) :=
  .ropeGap (.markMode (h.setSweep.when (·.applyLocation)))

theorem Kept.sweepNext (h : Kept vow s) {str} : Kept vow (sweepNext str s) := by
  unfold Machine.sweepNext
  split
  · exact h
  · exact .ite h (by dsimp only; split; exacts [h.sweepEnd, h.setSweep.sendRead.sendRead, h.setSweep.sendRead, h.setSweep.sendRead, h])

theorem Kept.ringReturn (h : Kept vow s) {str} : Kept vow (ringReturn str s) := .ite h.setMode h

theorem Kept.sweepRope (h : Kept vow s) {epoch str} : Kept vow (sweepRope epoch str s) :=
  h.ringReturn.modRope.markMode.unless (·.modRope.setSweep.sweepNext)

theorem KeptOut.execSweepStart (h : Kept vow s) : KeptOut vow (execSweepStart s) := by
  unfold Machine.execSweepStart; split; exacts [.next h, .ite (.next h) (.next (h.keep.foldl fun _ _ h => h.sweepRope))]

theorem Kept.sweepOk (h : Kept vow s) {str t epoch data} : Kept vow (sweepOk str t epoch data s) := by
  unfold Machine.sweepOk; dsimp only; split; exacts [.sweepNext (.setSweep (.ite h.modMon h)), .ite h.modMon h]

theorem Kept.sweepFailed (h : Kept vow s) {str t} : Kept vow (sweepFailed str t s) := by
  unfold Machine.sweepFailed; split; exacts [h, h.setSweep.sweepNext]

theorem Kept.sweepPortOut (h : Kept vow s) {str e} : Kept vow (sweepPortOut str e s) := by
  unfold Machine.sweepPortOut; split; exacts [h, .ite h h.modRope.setSweep.sweepNext]

theorem KeptOut.execSweepDeadline (h : Kept vow s) : KeptOut vow (execSweepDeadline s) :=
  .next (.stopRopes (h.foldl fun _ _ h => by split; exacts [.ite h h.modRope.sweepEnd, h]))

/-! ### What arrives on a rope -/

theorem Kept.rawDone (h : Kept vow s) {t sub status data} : Kept vow (rawDone t sub status data s) := h.dma.complete
theorem Kept.balDone (h : Kept vow s) {str m ok} : Kept vow (balDone str m ok s) := h.modMon
theorem Kept.afterTie (h : Kept vow s) {str wasTying} : Kept vow (afterTie str wasTying s) := .ite h.authTied h

theorem Kept.txnAnswered (h : Kept vow s) {str t status data deltaNs} :
    Kept vow (txnAnswered str t status data deltaNs s) := by
  unfold Machine.txnAnswered
  dsimp only
  split
  · exact h.sweepOk
  · exact h.balDone
  · exact .ite h.tieEchoOk h.tieEchoFailed
  · exact h.tieIdentity
  · exact h.tieConfigDone
  · exact h.locateResult
  · exact h.reachResult
  · exact h.authAnswer
  · exact h.rawDone

theorem Kept.txnFailed (h : Kept vow s) {str t crc} : Kept vow (txnFailed str t crc s) := by
  unfold Machine.txnFailed
  dsimp only
  split
  · exact h.sweepFailed
  · exact h.balDone
  · exact h.tieEchoFailed
  · exact h.tieIdentity
  · exact h.tieConfigDone
  · exact h.locateResult
  · exact h.reachResult
  · exact h.authAbort
  · exact h.complete

theorem Kept.attemptFailed (h : Kept vow s) {str t crc} : Kept vow (attemptFailed str t crc s) := by
  have hfail : Kept vow (Machine.failAttempt str t crc (Machine.stopTie str s)).2 := h.stopTie.failAttempt
  unfold Machine.attemptFailed
  dsimp only
  split
  next he => rw [he] at hfail; exact hfail.txnFailed.ropeGap.afterTie
  next he => rw [he] at hfail; exact hfail

theorem KeptOut.execRopeRespReceived (h : Kept vow s) {f} : KeptOut vow (execRopeRespReceived f s) := by
  unfold Machine.execRopeRespReceived
  split
  · exact .next h
  · dsimp only
    split
    · exact .next h.countCrc
    · exact .ite (.next h.countCrc.attemptFailed.stopRopes) (.ite (.next h.countCrc)
        (.ite (.next h.countCrc.attemptFailed.stopRopes) (.next h.countCrc.stopTie.dropTxn.txnAnswered.ropeGap.afterTie.stopRopes)))

theorem KeptOut.execRopeAttemptTimeout (h : Kept vow s) {str fromEnd addr seq} :
    KeptOut vow (execRopeAttemptTimeout str fromEnd addr seq s) := by
  unfold Machine.execRopeAttemptTimeout; split; exacts [.next h, .next h.attemptFailed.stopRopes]

theorem KeptOut.execTieFrameArrived (h : Kept vow s) {str bytes extraBits delayNs} :
    KeptOut vow (execTieFrameArrived str bytes extraBits delayNs s) := by
  unfold Machine.execTieFrameArrived
  split
  · exact .next h
  · have hc {str x} : Kept vow (countCrc str x s) := h.countCrc
    exact .ite (.next (.ite hc.stopFrame hc)) (.ite (.next hc.tieArrived.afterTie) (.next (.ite hc.safeOver hc)))

theorem KeptOut.execTieFrameTimeout (h : Kept vow s) {str} : KeptOut vow (execTieFrameTimeout str s) :=
  .ite (.next h.stopFrame) (.ite (.next h.tieTimeout.afterTie) (.next h.safeOver))

/-! ### The fast converters -/

theorem Kept.injectComplete (h : Kept vow s) : Kept vow (injectComplete s) := h.keep.foldl fun _ _ h => h.complete
theorem Kept.injectBegins (h : Kept vow s) {list} : Kept vow (injectBegins list s) := h.keep
theorem Kept.runEnded (h : Kept vow s) {r} : Kept vow (runEnded r s) := .when (.ite h.raise h) (·.keep.injectComplete)
theorem Kept.startConv (h : Kept vow s) {c use chan tdac lean} : Kept vow (startConv c use chan tdac lean s) := h.modConv
theorem Kept.startSample (h : Kept vow s) {c p} : Kept vow (startSample c p s) := .ite h.keep.startConv h

theorem Kept.startRegular (h : Kept vow s) {c} : Kept vow (startRegular c s) := by
  unfold Machine.startRegular; dsimp only; split; exacts [.ite h.modConv.startConv h, h]

theorem Kept.startHk (h : Kept vow s) {c} : Kept vow (startHk c s) := by
  unfold Machine.startHk; dsimp only; split; exacts [.ite h.modConv.modConv.startConv h, h.modConv.startRegular]

theorem Kept.startWide (h : Kept vow s) {c e} : Kept vow (startWide c e s) := h.modConv.startConv

theorem Kept.sarNext {c n} (h : Kept vow s) : Kept vow (sarNext c n s) := by
  induction n generalizing s with
  | zero => exact h
  | succ n ih =>
    unfold Machine.sarNext
    dsimp only
    refine .ite h (.ite ?hold ?run)
    case hold =>
      split
      · exact h.startWide
      · exact h
    case run =>
      split
      · split
        · exact h.modConv.startConv
        · exact ih h.modConv.runEnded
      split
      · exact h.startWide
      split
      · split
        · exact h.startWide
        · exact ih (.modConv (h.modConv.when (·.injectBegins)))
      split
      · exact h.startWide
      refine .ite h.startHk ?_
      split
      · exact h.startSample
      · exact h.startRegular

theorem Kept.sarKick (h : Kept vow s) : Kept vow (sarKick s) := h.sarNext.sarNext
theorem Kept.queueStamp (h : Kept vow s) {port e} : Kept vow (queueStamp port e s) := h.modPort.raise
theorem Kept.dropLate (h : Kept vow s) {port} : Kept vow (dropLate port s) := .ite h (h.modPort.when (·.raise))
theorem Kept.idle (h : Kept vow s) : Kept vow (idle s) := h.dropLate.dropLate.tick.sarKick
theorem Kept.abortConv (h : Kept vow s) {w b} : Kept vow (abortConv w b s) := h.of_eq (by simp) (by simp)
theorem Kept.setPending (h : Kept vow s) {c t} : Kept vow (setPending c t s) := h.of_eq (by simp) (by simp)
theorem Kept.triggerBoth (h : Kept vow s) {t} : Kept vow (triggerBoth t s) := h.setPending.setPending.sarKick
theorem Kept.seqComplete (h : Kept vow s) : Kept vow (seqComplete s) := h.keep.foldl fun _ _ h => h.complete
theorem Kept.endPeriod (h : Kept vow s) : Kept vow (endPeriod s) := h.keep
theorem Kept.roundOn (h : Kept vow s) {c r} : Kept vow (roundOn c r s) := .ite h h.modConv

theorem KeptOut.execSarRoundStart (h : Kept vow s) : KeptOut vow (execSarRoundStart s) :=
  .ite (.next h) (.next (.sarKick (.seqComplete (.roundOn (.roundOn (.ite h.keep.endPeriod h.keep))))))

theorem Kept.queuePush (h : Kept vow s) {e} : Kept vow (queuePush e s) :=
  .ite (.ite h.keep.raise h.keep) (.ite h.keep.raise h.keep)

theorem Kept.queuePop (h : Kept vow s) : Kept vow (queuePop s) := h.of_eq (by simp) (by simp)
theorem Kept.addWide (h : Kept vow s) {n x nbr} : Kept vow (addWide n x nbr s) := h.modMet
theorem Kept.countInject (h : Kept vow s) {list pair} : Kept vow (countInject list pair s) := h.keep
theorem Kept.captureEnd (h : Kept vow s) : Kept vow (captureEnd s) := h.keep.injectComplete
theorem Kept.setStv (h : Kept vow s) {n mv} : Kept vow (setStv n mv s) := h.keep

theorem Kept.useHk (h : Kept vow s) {c b t raw v rail nbr} : Kept vow (useHk c b t raw v rail nbr s) :=
  .ite h.modConv (by split; exacts [h.keep, .ite h.modTun h, .ite h.keep h, h.keep])

theorem Kept.useResult (h : Kept vow s) {c b raw v rail nbr} : Kept vow (useResult c b raw v rail nbr s) := by
  unfold Machine.useResult
  dsimp only
  split
  · exact h.addWide
  · exact h.useHk
  · exact h.queuePush
  · exact .when (h.queuePush.when (·.setStv)) (·.countInject)
  · split
    · exact .ite h.queuePush.countInject.captureEnd h.queuePush.countInject.keep
    · exact h.queuePush.countInject

theorem KeptOut.execSarConversionEnd (h : Kept vow s) {conv volts rail} :
    KeptOut vow (execSarConversionEnd conv volts rail s) := by
  unfold Machine.execSarConversionEnd; split; exacts [.next h, .ite (.next h) (.next h.modConv.useResult.sarKick)]

theorem Kept.failChannels (h : Kept vow s) {m} : Kept vow (failChannels m s) :=
  h.foldl fun _ _ h => .ite h.keep.logAdd.recordEvent h

theorem KeptOut.execTdacDiagnosis (h : Kept vow s) {n m} : KeptOut vow (execTdacDiagnosis n m s) :=
  .ite (.next h.keep) (.next (.when (h.keep.failChannels.when (·.fileReport)) (·.fileReport)))

theorem KeptOut.execTdacCheck (h : Kept vow s) {n} : KeptOut vow (execTdacCheck n s) := .ite (.next h) (.next h.keep)
theorem Kept.ocPin (h : Kept vow s) : Kept vow (ocPin s) := h.keep
theorem Kept.askCapture (h : Kept vow s) {n} : Kept vow (askCapture n s) := .ite h (by split <;> exact h.keep)

theorem KeptOut.execOcTrip (h : Kept vow s) {x} : KeptOut vow (execOcTrip x s) :=
  .ite (.next h) (.next (.ite (.triggerBoth (.when h.keep (·.askCapture))) (.sarKick (.when h.keep (·.askCapture)))))

theorem KeptOut.execOcRelease (h : Kept vow s) {x} : KeptOut vow (execOcRelease x s) := .ite (.next h.keep.ocPin) (.next h)
theorem KeptOut.execOcTripNMinEnd (h : Kept vow s) : KeptOut vow (execOcTripNMinEnd s) := .next h.keep

theorem KeptOut.execSarSeqSet (h : Kept vow s) {sub buf} : KeptOut vow (execSarSeqSet sub buf s) := by
  unfold Machine.execSarSeqSet
  exact .runCmd h (.keep (h.foldl fun _ _ h => .ite h.modConv h))

theorem KeptOut.execSarInject (h : Kept vow s) {sub} : KeptOut vow (execSarInject sub s) := by
  unfold Machine.execSarInject
  exact .runCmd h (.sarKick (.when (.when (.ite h.keep.askCapture h.keep) (·.setPending)) (·.setPending)))

/-! ### Temperatures -/

theorem Kept.enterPins (h : Kept vow s) {l} : Kept vow (enterPins l s) := h.keep
theorem Kept.pinsRestart (h : Kept vow s) {old new} : Kept vow (pinsRestart old new s) := h.keep

theorem Kept.judgeInputs (h : Kept vow s) {str m epoch span} : Kept vow (judgeInputs str m epoch span s) := by
  unfold Machine.judgeInputs; split; exacts [h, .ite h h.modMon]

end Sys2Proof.Machine

namespace Sys2Proof.Machine

variable {vow : Vow} {s t : State}

/-! ### Estimation -/

theorem Kept.onEst (h : Kept vow s) {f} (hf : ∀ {t}, Kept vow t → Kept vow (f t)) : Kept vow (onEst f s) := .keep (hf h.keep)

theorem Kept.takeWrite (h : Kept vow s) {epoch reinit b} : Kept vow (takeWrite epoch reinit b s) := by
  unfold Machine.takeWrite; dsimp only; split; exacts [.ite h.setCell h, .modCell (.ite h.setCell h)]

/-! ### Limits -/

theorem Kept.setFrozen (h : Kept vow s) {n v} : Kept vow (setFrozen n v s) := h.storeSaved

theorem Kept.gaugeFrame (h : Kept vow s) {n adv b} : Kept vow (gaugeFrame n adv b s) := by
  unfold Machine.gaugeFrame; split; exacts [.ite (.ite h.keep h) (.ite h.keep.setFrozen (.ite h.keep h.keep)), h]

/-! ### Balancing -/

theorem Kept.mapCells (h : Kept vow s) {n f} : Kept vow (mapCells n f s) := h.keep

theorem Kept.balanceString (h : Kept vow s) {n adv f} : Kept vow (balanceString n adv f s) :=
  h.keep

theorem Kept.sendBal (h : Kept vow s) {epoch n} : Kept vow (sendBal epoch n s) := .ite h h.modRope.ropeGap
theorem KeptOut.execBalOverrideExpiry (h : Kept vow s) {str} : KeptOut vow (execBalOverrideExpiry str s) := .next h.modLim

/-! ### The frame's updates -/

theorem Kept.dropFrames (h : Kept vow s) : Kept vow (State.dropFrames s) := h.keep
theorem Kept.modStaging (h : Kept vow s) {epoch hd} : Kept vow (modStaging epoch hd s) := h.keep
theorem Kept.stageString (h : Kept vow s) {n f} : Kept vow (stageString n f s) := h.modStaging

theorem Kept.finishString (h : Kept vow s) {n adv f} : Kept vow (finishString n adv f s) :=
  .ite (.stageString (h.modLim.when (·.raise))) (.stageString (.balanceString (h.modLim.when (·.raise))))

theorem Kept.openStaging (h : Kept vow s) {f} : Kept vow (openStaging f s) := h.modStaging
theorem Kept.abortGauge (h : Kept vow s) {n} : Kept vow (abortGauge n s) := h.keep

theorem Kept.judgeGauges (h : Kept vow s) {adv} : Kept vow (judgeGauges adv s) :=
  h.foldl fun _ _ h => .ite h.gaugeFrame h.abortGauge

theorem Kept.finishFrame (h : Kept vow s) {f} : Kept vow (finishFrame f s) :=
  h.judgeGauges.keep.modStaging.modFrame.dropFrames.keep

theorem Kept.newImages (h : Kept vow s) {n old new} : Kept vow (newImages n old new s) := by
  unfold Machine.newImages
  split
  exacts [.ite h h.mapCells, h]

theorem Kept.takeCaps (h : Kept vow s) {l} : Kept vow (takeCaps l s) := h.foldl fun _ _ h => h.modLim
theorem Kept.dropUnused (h : Kept vow s) : Kept vow (dropUnused s) := h.keep

theorem Kept.adoptTake (h : Kept vow s) {x} : Kept vow (adoptTake x s) := by
  unfold Machine.adoptTake
  dsimp only
  refine .onEst ?_ fun h => h.foldl fun _ _ h => h.takeWrite
  split
  case' h_1 => refine .takeCaps ?_
  all_goals exact .foldl (.onEst (h.keep.foldl fun _ _ h => h.newImages) (·.dropUnused)) fun _ _ h => .ite h h.abortGauge

theorem Kept.adoptFrame (h : Kept vow s) {f} : Kept vow (adoptFrame f s) := h.keep.foldl fun _ _ h => h.adoptTake
theorem Kept.sendBals (h : Kept vow s) {epoch l} : Kept vow (sendBals epoch l s) := h.foldl fun _ _ h => h.sendBal

theorem Kept.timeUpdate (h : Kept vow s) {f adv} : Kept vow (timeUpdate f adv s) := by
  unfold Machine.timeUpdate
  generalize usedCells s = used
  exact .when (h.keep.openStaging.modFrame.foldl fun _ _ h => h.when (·.finishString)) (·.finishFrame)

theorem Kept.judgeBare (h : Kept vow s) {epoch} : Kept vow (judgeBare epoch s) :=
  h.foldl fun _ _ h => h.foldl fun _ _ h => .ite h (h.foldl fun _ _ h => h.judgeInputs)

theorem KeptOut.execTimeUpdateDone (h : Kept vow s) : KeptOut vow (execTimeUpdateDone s) := by
  unfold Machine.execTimeUpdateDone
  split
  · exact .next h
  · exact .ite (.next h) (.next (h.judgeBare.adoptFrame.loadFrame.onEst (·.timeUpdate)).sendBals.settleWork)

theorem Kept.measureUpdate (h : Kept vow s) {f g} : Kept vow (measureUpdate f g s) :=
  .when (.when (.keep (h.judgeInputs.setCell.modStaging.when (·.raise))) (·.finishString)) (·.finishFrame)

theorem Kept.reportResidues (h : Kept vow s) {l} : Kept vow (reportResidues l s) := h.foldl fun _ _ h => h.fileReport

theorem KeptOut.execMeasurementUpdateDone (h : Kept vow s) {d} : KeptOut vow (execMeasurementUpdateDone d s) := by
  unfold Machine.execMeasurementUpdateDone
  dsimp only
  split
  · exact .next (.ite h.reportResidues h)
  · exact .ite (.next (.ite h.reportResidues h))
      (.next (.settleWork (.when (.onEst (.ite h.reportResidues h) (·.measureUpdate)) (·.sendBals))))

/-! ### TRAVERSE jobs -/

theorem KeptOut.execTraverseStart (h : Kept vow s) {sub buf} : KeptOut vow (execTraverseStart sub buf s) := by
  unfold Machine.execTraverseStart
  exact .runCmd h h.keep.settleVcore

theorem Kept.writePoint {js : Job × State} (h : Kept vow js.2) {t l} : Kept vow (writePoint t l js).2 := .dma h

theorem Kept.writePoints {js : Job × State} (h : Kept vow js.2) {t0 t1 ends l dt} :
    Kept vow (writePoints t0 t1 ends l dt js).2 :=
  List.foldlRecOn (motive := fun js : Job × State => Kept vow js.2) _ _ h fun _ h _ _ => h.writePoint

theorem Kept.writeFinal {js : Job × State} (h : Kept vow js.2) : Kept vow (writeFinal js).2 := by
  unfold Machine.writeFinal
  dsimp only
  split
  · exact h.writePoint
  · exact h

theorem Kept.putJob (h : Kept vow s) {j} : Kept vow (putJob j s) := h.of_eq (by simp) (by simp)
theorem Kept.dropJob (h : Kept vow s) {id} : Kept vow (dropJob id s) := h.of_eq (by simp) (by simp)
theorem Kept.leaveTurn (h : Kept vow s) {id} : Kept vow (leaveTurn id s) := .ite h.keep h
theorem Kept.endJob (h : Kept vow s) {reason time j} : Kept vow (endJob reason time j s) := .keep (.writeFinal h.leaveTurn)
theorem Kept.finishAborts (h : Kept vow s) {j status} : Kept vow (finishAborts j status s) := h.foldl fun _ _ h => h.complete

theorem KeptOut.execTraverseResultsDone (h : Kept vow s) {jobId writes} :
    KeptOut vow (execTraverseResultsDone jobId writes s) := by
  unfold Machine.execTraverseResultsDone
  split
  · exact .next h
  · exact .next (.settleVcore (.finishAborts (.when (.complete (.dropJob (.ite h.dma h))) (·.raise))))

theorem Kept.abortQueued (h : Kept vow s) {j} : Kept vow (abortQueued j s) := h.putJob
theorem Kept.abortJobs (h : Kept vow s) : Kept vow (abortJobs s) := h.foldl fun _ _ h => .ite h (.ite h.endJob h.abortQueued)

theorem KeptOut.execTraverseAdmission (h : Kept vow s) {profile ambient} :
    KeptOut vow (execTraverseAdmission profile ambient s) := by
  unfold Machine.execTraverseAdmission
  split
  · exact .next h
  next j _ =>
    have hrefuse : ∀ st,
        KeptOut vow (.next (settleVcore (complete 0x20 j.sub st (jobResult j) (Machine.dropJob j.desc.jobId s)))) :=
      fun _ => .next h.keep.complete.settleVcore
    refine .ite (.next h) (.ite (hrefuse _) (.ite (hrefuse _) (.next (.settleWork (.keep ?_)))))
    split
    · exact h.dma
    · exact h

theorem Kept.jobStep (h : Kept vow s) {j} : Kept vow (jobStep j s) := by
  unfold Machine.jobStep
  dsimp only
  split
  · exact .keep (.writePoints h)
  · exact .endJob (.writePoints h)

theorem Kept.freeLane (h : Kept vow s) {lane} : Kept vow (freeLane lane s) := h.keep

theorem Kept.abortAtChunk (h : Kept vow s) {jobId} : Kept vow (abortAtChunk jobId s) := by
  unfold Machine.abortAtChunk
  split
  · exact h
  · exact .ite h (by split; exacts [h.endJob, h, h.putJob.finishAborts])

theorem Kept.abortIdle (h : Kept vow s) {jobId} : Kept vow (abortIdle jobId s) := .ite h h.abortAtChunk

theorem KeptOut.execTraverseChunkEnd (h : Kept vow s) {jobId lane residueOk last} :
    KeptOut vow (execTraverseChunkEnd jobId lane residueOk last s) :=
  .ite (.next h) (.ite (.next h.freeLane.fileReport.abortIdle.settleWork) (by
    split
    · exact .next h.freeLane.settleWork
    · exact .next (.settleWork (.abortAtChunk (.ite h.freeLane.jobStep h.freeLane)))))

theorem KeptOut.execLaneChunkTimeout (h : Kept vow s) {lane} : KeptOut vow (execLaneChunkTimeout lane s) := by
  unfold Machine.execLaneChunkTimeout
  dsimp only
  split
  · exact .next h
  · exact .next h.freeLane.fileReport.settleWork
  · exact .next h.freeLane.fileReport.abortIdle.settleWork

theorem KeptOut.execTraverseWallTimeout (h : Kept vow s) {jobId} : KeptOut vow (execTraverseWallTimeout jobId s) := by
  unfold Machine.execTraverseWallTimeout; split; exacts [.next (.ite h h.endJob.finishAborts.settleWork), .next h]

theorem KeptOut.execTraverseAbort (h : Kept vow s) {sub} : KeptOut vow (execTraverseAbort sub s) := by
  unfold Machine.execTraverseAbort
  exact .runCmd h (by split; exacts [h, .ite h.abortQueued.settleVcore (.ite h.putJob h.endJob)])

theorem KeptOut.execTraverseStatus (h : Kept vow s) {sub} : KeptOut vow (execTraverseStatus sub s) :=
  .runCmd h h.dma.complete

/-! ### Cairns -/

theorem Kept.takeSlots (h : Kept vow s) : Kept vow (takeSlots s) := by unfold Machine.takeSlots; split; exacts [h.keep, h]

theorem KeptOut.execCairnBegin (h : Kept vow s) : KeptOut vow (execCairnBegin s) := by
  unfold Machine.execCairnBegin
  split
  · exact .next h
  · exact .ite (.next h) (.next (.keep (.dma (.dma (.keep h.takeSlots)))))

theorem Kept.endFrame (h : Kept vow s) {epoch} : Kept vow (endFrame epoch s) := h.modFrame.dropFrames

theorem KeptOut.execCairnComplete (h : Kept vow s) : KeptOut vow (execCairnComplete s) := by
  unfold Machine.execCairnComplete
  split
  · exact .ite (.next h) (.next h.drainWrites.keep.writeStatus.raise.endFrame)
  · exact .next h

theorem Kept.countOutage (h : Kept vow s) {writesHeld} : Kept vow (countOutage writesHeld s) := h.keep

theorem Kept.abandonCairn (h : Kept vow s) {epoch writesHeld} : Kept vow (abandonCairn epoch writesHeld s) :=
  .ite h.keep.endFrame (.ite h.keep.countOutage.endFrame h.keep.countOutage.endFrame.raise)

theorem KeptOut.execCairnDeadline (h : Kept vow s) {writesHeld} : KeptOut vow (execCairnDeadline writesHeld s) := by
  unfold Machine.execCairnDeadline; split; exacts [.next h, .next (.ite (.abandonCairn (.ite h.keep h.drainWrites)) h)]

theorem KeptOut.execAliveToggle (h : Kept vow s) : KeptOut vow (execAliveToggle s) :=
  .ite (.next h) (by dsimp only; split; exacts [.next (.ite h.keep h), .next h])

theorem KeptOut.execCairnSetup (h : Kept vow s) {sub} : KeptOut vow (execCairnSetup sub s) := by
  unfold Machine.execCairnSetup
  exact .runCmd h h.keep.complete

theorem KeptOut.execStateRead (h : Kept vow s) {sub} : KeptOut vow (execStateRead sub s) := by
  unfold Machine.execStateRead
  exact .runCmd h h.dma.complete

/-! ### Jobs of the flash -/

theorem Kept.addJob (h : Kept vow s) {what pages sub} : Kept vow (addJob what pages sub s) := h.of_eq (by simp) (by simp)

end Sys2Proof.Machine

namespace Sys2Proof.Machine

variable {vow : Vow} {s t : State}

/-! ### Time -/

theorem Kept.setFreq (h : Kept vow s) {c} : Kept vow (setFreq c s) := h.of_eq (by simp) (by simp)
theorem Kept.setSlew (h : Kept vow s) {rate total} : Kept vow (setSlew rate total s) := h.of_eq (by simp) (by simp)
theorem Kept.timeLost (h : Kept vow s) {reason} : Kept vow (timeLost reason s) := h.keep.setSlew.raise
theorem Kept.enterLocked (h : Kept vow s) : Kept vow (enterLocked s) := .ite h.keep.authLocked h.keep

theorem Kept.srcState (h : Kept vow s) {old new} : Kept vow (srcState old new s) :=
  .keep (.ite h.keep.setSlew (.ite h.timeLost h))

theorem Kept.resetDom (h : Kept vow s) {d} : Kept vow (resetDom d s) := h.modDom
theorem Kept.dropSetAtPps (h : Kept vow s) : Kept vow (dropSetAtPps s) := h.keep.foldl fun _ _ h => h.complete

theorem Kept.takeTimeSrc (h : Kept vow s) {new} : Kept vow (takeTimeSrc new s) :=
  .ite h.keep (h.keep.srcState.resetDom.resetDom.when (·.dropSetAtPps))

theorem Kept.timeHold (h : Kept vow s) : Kept vow (timeHold s) := .resetDom (.resetDom (.keep (.ite h.timeLost h)))

theorem KeptOut.execXoCorrectionUpdate (h : Kept vow s) : KeptOut vow (execXoCorrectionUpdate s) := by
  unfold Machine.execXoCorrectionUpdate; dsimp only; split; exacts [.next h.setFreq, .next h.setFreq, .next h]

theorem KeptOut.execTime64Second (h : Kept vow s) : KeptOut vow (execTime64Second s) := .ite (.next h) (.next h.keep)
theorem KeptOut.execPpsOutPulseEnd (h : Kept vow s) : KeptOut vow (execPpsOutPulseEnd s) := .next h.keep

theorem KeptOut.execCmpFire (h : Kept vow s) {unit} : KeptOut vow (execCmpFire unit s) :=
  .ite (.next (.ite h.keep.triggerBoth h.keep)) (.next h)

theorem KeptOut.execTrigOutPulseEnd (h : Kept vow s) {unit} : KeptOut vow (execTrigOutPulseEnd unit s) := .next h.keep

theorem Kept.hostLock (h : Kept vow s) {mode} : Kept vow (hostLock mode s) :=
  .ite h (.ite (.ite h.keep h.keep.enterLocked) h)

theorem KeptOut.execHostServoTimeout (h : Kept vow s) : KeptOut vow (execHostServoTimeout s) :=
  .ite (.next h.timeLost) (.next h)

theorem Kept.ppsEnter (h : Kept vow s) : Kept vow (ppsEnter s) := .ite h.enterLocked h

theorem Kept.ppsServo (h : Kept vow s) {e} : Kept vow (ppsServo e s) :=
  .ite (.ite h.keep h.keep.stepTime) h.keep.setFreq.ppsEnter

theorem Kept.ppsSets (h : Kept vow s) : Kept vow (ppsSets s) := by
  unfold Machine.ppsSets; split; exacts [h, .hostLock (h.keep.stepTime.foldl fun _ _ h => h.complete)]

theorem KeptOut.execPpsInEdge (h : Kept vow s) : KeptOut vow (execPpsInEdge s) :=
  .ite (.next h) (.ite (.next (.ite h.keep.ppsSets.ppsEnter h.keep.ppsSets.ppsServo)) (.next h.keep.ppsSets))

theorem KeptOut.execPpsLoss (h : Kept vow s) : KeptOut vow (execPpsLoss s) :=
  .ite (.next h) (.next (.ite h.keep.timeLost h.keep))

theorem Kept.timeSetAct (h : Kept vow s) {sub mode} : Kept vow (timeSetAct sub mode s) := by
  unfold Machine.timeSetAct; dsimp only; split; exacts [h.stepTime, .ite h h.stepTime, h.setSlew, h.setFreq]

theorem KeptOut.execTimeSet (h : Kept vow s) {sub} : KeptOut vow (execTimeSet sub s) := by
  unfold Machine.execTimeSet
  exact .runCmd h (.ite h.keep h.timeSetAct.hostLock.complete)

theorem KeptOut.execSetAtPpsTimeout (h : Kept vow s) : KeptOut vow (execSetAtPpsTimeout s) := by
  unfold Machine.execSetAtPpsTimeout; split; exacts [.next h, .next h.keep.complete]

theorem KeptOut.execSlewEnd (h : Kept vow s) : KeptOut vow (execSlewEnd s) := .next h.setSlew
theorem KeptOut.execTimeStatus (h : Kept vow s) {sub} : KeptOut vow (execTimeStatus sub s) := .runCmd h h.dma.complete

/-! ### PTP -/

theorem Kept.sendFrames (h : Kept vow s) {port l} : Kept vow (sendFrames port l s) := h.of_eq (by simp) (by simp)
theorem Kept.servoLead (h : Kept vow s) {d} : Kept vow (servoLead d s) := h.keep.setSlew

theorem Kept.servoStep (h : Kept vow s) {o} : Kept vow (servoStep o s) := by
  unfold Machine.servoStep Machine.stepTime
  exact .modDom (.keep (s := s.stepTime (s.now + o) true) h.stepTime)

theorem Kept.takeLead (h : Kept vow s) {d} : Kept vow (takeLead d s) :=
  .enterLocked (.servoLead (.ite h.keep h.keep.servoStep))

theorem Kept.domLocked (h : Kept vow s) {d} : Kept vow (domLocked d s) := by
  unfold Machine.domLocked; split; exacts [.takeLead (.ite h h.servoStep), h.takeLead, .ite h.servoLead h]

theorem Kept.loseLead (h : Kept vow s) {gone d} : Kept vow (loseLead gone d s) :=
  .ite h.keep.servoLead.enterLocked.raise (.ite h.keep.timeLost h.keep)

theorem Kept.unlockDom (h : Kept vow s) {d} : Kept vow (unlockDom d s) := h.modDom.when (·.loseLead)

theorem Kept.domOffset (h : Kept vow s) {d rx origin} : Kept vow (domOffset d rx origin s) :=
  h.modDom.unless fun h => h.modDom.when (·.domLocked)

theorem KeptOut.execPtpSyncReceived (h : Kept vow s) {m} : KeptOut vow (execPtpSyncReceived m s) := by
  unfold Machine.execPtpSyncReceived; split; exacts [.next h, .ite (.next h.modDom.modDom) (.next h.modDom.domOffset)]

theorem KeptOut.execPtpFollowUpReceived (h : Kept vow s) {hd originNs corrNs} :
    KeptOut vow (execPtpFollowUpReceived hd originNs corrNs s) := by
  unfold Machine.execPtpFollowUpReceived
  split
  · exact .next h
  · exact by split; exacts [.ite (.next h.modDom.domOffset) (.next h), .next h]

theorem Kept.freezeDom (h : Kept vow s) {d delay} : Kept vow (freezeDom d delay s) := h.modDom.raise

theorem Kept.pathMeasured (h : Kept vow s) {d delay} : Kept vow (pathMeasured d delay s) := by
  refine .ite h.keep ?_
  split
  · exact h.keep
  · exact .ite (.ite h.keep h.keep.freezeDom) h.keep

theorem KeptOut.execPtpDelayRespReceived (h : Kept vow s) {hd recvNs} :
    KeptOut vow (execPtpDelayRespReceived hd recvNs s) := by
  unfold Machine.execPtpDelayRespReceived
  split
  · exact .next h
  · exact by split; exacts [.ite (.next h.modDom.pathMeasured) (.next h), .next h]

theorem KeptOut.execPtpPdelayRespReceived (h : Kept vow s) {hd twoStep rxNs recvNs corrNs} :
    KeptOut vow (execPtpPdelayRespReceived hd twoStep rxNs recvNs corrNs s) := by
  unfold Machine.execPtpPdelayRespReceived; split; exacts [.next h, .ite (.next h.modDom) (.next h.modDom.pathMeasured)]

theorem KeptOut.execPtpPdelayRespFollowUpReceived (h : Kept vow s) {hd originNs corrNs} :
    KeptOut vow (execPtpPdelayRespFollowUpReceived hd originNs corrNs s) := by
  unfold Machine.execPtpPdelayRespFollowUpReceived
  split
  · exact .next h
  · exact by split; exacts [.ite (.next h.modDom.pathMeasured) (.next h), .next h]

theorem Kept.takePath (h : Kept vow s) {d st} : Kept vow (takePath d st s) := h.modDom
theorem Kept.watchPath (h : Kept vow s) {d} : Kept vow (watchPath d s) := h.modDom
theorem Kept.timeSuspect (h : Kept vow s) {d} : Kept vow (timeSuspect d s) := .watchPath (.keep (.ite h.timeLost h.raise))

theorem KeptOut.execPtpFreezeEnd (h : Kept vow s) {dom n m} : KeptOut vow (execPtpFreezeEnd dom n m s) :=
  .ite (.next h) (.ite (.ite (.next h.takePath.domLocked) (.next (h.takePath.watchPath.when (·.loseLead))))
    (.ite (.next h.takePath.watchPath) (.next h.timeSuspect)))

theorem KeptOut.execPtpPathDelayStable (h : Kept vow s) {dom n m} : KeptOut vow (execPtpPathDelayStable dom n m s) :=
  .ite (.next h) (.ite (.next h.modDom.domLocked) (.ite (.next h)
    (.ite (.next h.keep.takePath.servoLead.enterLocked) (.next h.takePath.domLocked))))

theorem Kept.selectMaster (h : Kept vow s) {d l} : Kept vow (selectMaster d l s) := by
  unfold Machine.selectMaster
  dsimp only
  split
  · exact h.modDom
  · exact .ite h.modDom.modDom h.modDom
  · exact h.modDom.modDom.unlockDom
  · exact .ite h.modDom.modDom.unlockDom h.modDom

theorem KeptOut.execPtpAnnounceReceived (h : Kept vow s) {m} : KeptOut vow (execPtpAnnounceReceived m s) := by
  unfold Machine.execPtpAnnounceReceived; split; exacts [.next h, .next h.selectMaster]

theorem KeptOut.execPtpAnnounceTimeout (h : Kept vow s) {dom} : KeptOut vow (execPtpAnnounceTimeout dom s) := by
  unfold Machine.execPtpAnnounceTimeout; split; exacts [.ite (.next h.selectMaster) (.next h), .next h]

theorem KeptOut.execPtpSyncTimeout (h : Kept vow s) {dom} : KeptOut vow (execPtpSyncTimeout dom s) :=
  .ite (.next h.unlockDom) (.next h)

theorem KeptOut.execPtpPdelayReqReceived (h : Kept vow s) {hd x} : KeptOut vow (execPtpPdelayReqReceived hd x s) :=
  .ite (.next h.sendFrames) (.next h)

theorem KeptOut.execPtpDelayReqSend (h : Kept vow s) {r} : KeptOut vow (execPtpDelayReqSend r s) :=
  .ite (.next h.modDom.sendFrames) (.next h)

theorem KeptOut.execArpRequestReceived (h : Kept vow s) {port target} : KeptOut vow (execArpRequestReceived port target s) :=
  .ite (.next h.sendFrames) (.next h)

theorem KeptOut.execEthernetFrameDiscarded (h : Kept vow s) {port} : KeptOut vow (execEthernetFrameDiscarded port s) :=
  .next h

theorem KeptOut.execPrxFrameReceived (h : Kept vow s) {f} : KeptOut vow (execPrxFrameReceived f s) :=
  .ite (.next h.dma.postEntry.raise) (.next h)

theorem KeptOut.execPtxFetch (h : Kept vow s) {d} : KeptOut vow (execPtxFetch d s) :=
  .ite (.next h) (by split; exacts [.next h.modRing.hifErr, .ite (.next (h.modRing.sendFrames.when (·.modPort))) (.next h.modRing)])

theorem KeptOut.execPtpFrameTransmitted (h : Kept vow s) {port n stampNs} :
    KeptOut vow (execPtpFrameTransmitted port n stampNs s) := by
  unfold Machine.execPtpFrameTransmitted
  dsimp only
  split
  · exact .next h
  · exact .ite (.next h.modPort.dropLate.queueStamp) (.next h.modPort.dropLate.modPort)

theorem Kept.popTxStamp (h : Kept vow s) : Kept vow (popTxStamp s) := by
  unfold Machine.popTxStamp
  dsimp only
  split
  · exact h.keep
  · exact .keep (by split; exacts [h.modPort.queueStamp, h.modPort])

theorem KeptOut.execPtpTxtsTagRead (h : Kept vow s) : KeptOut vow (execPtpTxtsTagRead s) :=
  .ite (.next h.popTxStamp) (.next h.keep)

theorem Kept.relisten (h : Kept vow s) {d} : Kept vow (relisten d s) := h.resetDom.when (·.loseLead)
theorem Kept.setPtpCtrl (h : Kept vow s) {v} : Kept vow (setPtpCtrl v s) := .when (.ite h.keep.relisten h.keep) (·.relisten)
theorem Kept.setDomCfg (h : Kept vow s) {v} : Kept vow (setDomCfg v s) := .ite h h.modDom.relisten

theorem KeptOut.execPtpDomainReconfigure (h : Kept vow s) {off v} : KeptOut vow (execPtpDomainReconfigure off v s) :=
  .ite (.next h) (.ite (.next h.setPtpCtrl) (.ite (.next h.setDomCfg) (.next h)))

theorem KeptOut.execPtpMdioGo (h : Kept vow s) {v} : KeptOut vow (execPtpMdioGo v s) := .ite (.next h) (.next h.modPort)

theorem KeptOut.execMdioAccessDone (h : Kept vow s) {x} : KeptOut vow (execMdioAccessDone x s) :=
  .ite (.next h) (.next h.modPort)

/-! ### What takes force -/

theorem Kept.rewriteMons (h : Kept vow s) {n} : Kept vow (rewriteMons n s) := h.modRope.ropeGap

theorem Kept.stopRope (h : Kept vow s) {n} : Kept vow (stopRope n s) :=
  .toneLevel (.authUnreach (.when (h.modRope.modeEvent.foldl fun _ _ h => h.complete) (·.tieCmdDone)))

theorem Kept.retie (h : Kept vow s) {n} : Kept vow (retie n s) := .ite h.modRope h.tieBegin

theorem Kept.takeSection (h : Kept vow s) {old n} : Kept vow (takeSection old n s) := by
  unfold Machine.takeSection
  extract_lets _ _ _ u
  have hu : Kept vow u := by
    unfold u
    split
    · exact .ite h.keep h
    · exact h
  exact .ite hu.stopRope (.ite hu (.when (hu.when (·.rewriteMons)) (·.retie)))

theorem Kept.takeConfig (h : Kept vow s) {b} : Kept vow (takeConfig b s) :=
  .judgePeriod (h.keep.pinsRestart.foldl fun _ _ h => h.takeSection)

theorem Kept.takeImages (h : Kept vow s) {l} : Kept vow (takeImages l s) := h.keep.judgePeriod
theorem Kept.takePolicy (h : Kept vow s) {n c} : Kept vow (takePolicy n c s) := .ite h.keep.rewriteMons h.keep

theorem Kept.takeOne (h : Kept vow s) {t} : Kept vow (takeOne t s) := by
  unfold Machine.takeOne; split; exacts [h.takeConfig, h.takeImages, h.takePolicy, h, h, h.modLim]

theorem Kept.awaitInstant (h : Kept vow s) {t} : Kept vow (awaitInstant t s) := h.of_eq (by simp) (by simp)

theorem Kept.takeForces (h : Kept vow s) {epoch} : Kept vow (takeForces epoch s) :=
  .keep (h.keep.foldl fun _ _ h => h.takeOne)

/-! ### Windows and frames -/

theorem Kept.loseLine (h : Kept vow s) : Kept vow (loseLine s) := h.keep.holdEnd.unless (·.raise)
theorem Kept.lineReanchor (h : Kept vow s) : Kept vow (lineReanchor s) := .ite h h.reanchor
theorem Kept.regainLine (h : Kept vow s) {p} : Kept vow (regainLine p s) := h.keep.lineReanchor

theorem Kept.judgeMains (h : Kept vow s) {p} : Kept vow (judgeMains p s) :=
  .ite (.ite h.regainLine h.keep) (.ite (.ite h.loseLine h.keep) (.ite h.keep h.keep.lineReanchor))

theorem KeptOut.execLineZeroCrossing (h : Kept vow s) : KeptOut vow (execLineZeroCrossing s) :=
  .next (.replan (.keep (by split; exacts [h.judgeMains, h])))

theorem KeptOut.execLineCrossingTimeout (h : Kept vow s) : KeptOut vow (execLineCrossingTimeout s) :=
  .ite (.next (.keep (.ite h h.loseLine))) (.next h)

theorem Kept.applyPower (h : Kept vow s) (hp : vow.halt = true → False) {l} : Kept vow (applyPower l s) := by
  unfold Machine.applyPower
  have henter {p} : Kept vow (Machine.enterPower p s) := h.enterPower fun hv => (hp hv).elim
  split
  exacts [henter.abortJobs.settleWork, henter.settleWork, h]

theorem Kept.reanchorAt (h : Kept vow s) (hp : vow.halt = true → False) {b} : Kept vow (reanchorAt b s) :=
  .ite h.keep (.applyPower (.ite h.keep.judgePeriod h.keep) hp)

theorem Kept.closeFrame (h : Kept vow s) {b} : Kept vow (closeFrame b s) := .ite h.keep.settleWork h.keep
theorem Kept.passNominal (h : Kept vow s) : Kept vow (passNominal s) := .ite h h.keep

theorem Kept.nextWindow (h : Kept vow s) : Kept vow (nextWindow s) :=
  h.keep.passNominal.planEnd.owBoundary.tuneBoundary.foldl fun _ _ h => h.openWindow

/-- Windows count in no state but those that HALT follows. -/
theorem State.ne_halt_of_metering (h : s.metering = true) : s.pwr.state ≠ .halt := fun hs => by simp [State.metering, State.live, hs] at h

theorem KeptOut.execWindowBoundary (h : Kept vow s) {n} : KeptOut vow (execWindowBoundary n s) := by
  refine .dite (fun _ => .next h) fun hc => .next ?_
  have hmeter : s.metering = true := by cases hm : s.metering <;> simp_all
  exact .nextWindow (.reanchorAt (.closeFrame (h.keep.foldl fun _ _ h => h.closeWindow)) (h.awake (State.ne_halt_of_metering hmeter)))

theorem Kept.startMeasurement (h : Kept vow s) : Kept vow (startMeasurement s) :=
  .foldl (h.keep.planEnd.foldl fun _ _ h => h.modTun) fun _ _ h => h.openWindow

theorem KeptOut.execStartSync (h : Kept vow s) : KeptOut vow (execStartSync s) :=
  .ite (.next h) (.ite (.next h.keep) (.ite (.next h) (.next h.keep.freezeEnd.sendSync)))

theorem KeptOut.execEndSync (h : Kept vow s) : KeptOut vow (execEndSync s) := by
  unfold Machine.execEndSync; split; exacts [.next h, .ite (.next h) (.next h.modFrame.freezeEnd.keep.sendSync)]

theorem Kept.takeAuth (h : Kept vow s) : Kept vow (takeAuth s) := h.keep

theorem KeptOut.execSampleInstant (h : Kept vow s) : KeptOut vow (execSampleInstant s) := by
  unfold Machine.execSampleInstant
  split
  · exact .next h
  · exact .ite (.next h) (.next (.modFrame (.triggerBoth (h.takeAuth.takeForces.foldl fun _ _ h => h.resnap))))

theorem KeptOut.execPwrModeWrite (h : Kept vow s) {v} : KeptOut vow (execPwrModeWrite v s) :=
  .ite (.next h) (.ite (.next h.keepPwr) (.next (.reanchor h.keepPwr)))

/-! ### Configuration commands -/

theorem Kept.configForce (h : Kept vow s) {sub b} : Kept vow (configForce sub b s) :=
  .complete (.awaitInstant (.takeTimeSrc (.keep (.ite h h.reanchor))))

theorem KeptOut.execConfigLoad (h : Kept vow s) {sub buf} : KeptOut vow (execConfigLoad sub buf s) := by
  unfold Machine.execConfigLoad
  exact .runCmd h (.ite h.addJob h.configForce)

theorem KeptOut.execConfigRead (h : Kept vow s) {sub} : KeptOut vow (execConfigRead sub s) := by
  unfold Machine.execConfigRead
  exact .runCmd h (by split; exacts [.complete (.dma (.ite h.flashRead h)), h])

theorem KeptOut.execParamLoad (h : Kept vow s) {sub buf} : KeptOut vow (execParamLoad sub buf s) := by
  unfold Machine.execParamLoad
  exact .runCmd h h.keep.complete

theorem KeptOut.execParamCommit (h : Kept vow s) {sub} : KeptOut vow (execParamCommit sub s) := by
  unfold Machine.execParamCommit
  exact .runCmd h h.addJob

theorem KeptOut.execParamRead (h : Kept vow s) {sub} : KeptOut vow (execParamRead sub s) := by
  unfold Machine.execParamRead
  exact .runCmd h (by split; exacts [h.dma.complete, h])

theorem KeptOut.execNop (h : Kept vow s) {sub} : KeptOut vow (execNop sub s) := .runCmd h h.complete
theorem KeptOut.execIdentify (h : Kept vow s) {sub} : KeptOut vow (execIdentify sub s) := .runCmd h h.dma.complete

theorem KeptOut.execBalPolicy (h : Kept vow s) {sub} : KeptOut vow (execBalPolicy sub s) := by
  unfold Machine.execBalPolicy
  exact .runCmd h h.awaitInstant.complete

theorem KeptOut.execBalOverride (h : Kept vow s) {sub buf} : KeptOut vow (execBalOverride sub buf s) := by
  unfold Machine.execBalOverride
  exact .runCmd h h.awaitInstant.complete

theorem KeptOut.execLimitSet (h : Kept vow s) {sub buf} : KeptOut vow (execLimitSet sub buf s) :=
  .runCmd h h.awaitInstant.complete

theorem KeptOut.execStateWrite (h : Kept vow s) {sub buf} : KeptOut vow (execStateWrite sub buf s) := by
  unfold Machine.execStateWrite
  exact .runCmd h h.awaitInstant.complete

/-! ### Resets -/

theorem Kept.wholeReset (h : Kept vow s) (hp : vow.halt = true → False) {cause} : Kept vow (wholeReset cause s) :=
  h.moveOn hp rfl rfl

/-! ### The flash -/

theorem Kept.announceWear (h : Kept vow s) : Kept vow (announceWear s) := h.foldl fun _ _ h => .ite h.keep.raise h
theorem Kept.setInactive (h : Kept vow s) {f} : Kept vow (State.setInactive f s) := .ite h.keepPwr h.keepPwr
theorem Kept.setBank (h : Kept vow s) {b st} : Kept vow (State.setBank b st s) := .ite h.keepPwr h.keepPwr
theorem Kept.dropPending (h : Kept vow s) : Kept vow (dropPending s) := .ite h.setBank.keepPwr h

theorem Kept.settle (h : Kept vow s) : Kept vow (settle s) := by
  unfold Machine.settle
  split
  · exact h
  · exact .ite h (by dsimp only; split; exacts [h.keep, h.keep, h.dropPending.setInactive.keep, h.keep])

theorem Kept.beginUrgent (h : Kept vow s) {kind sub} : Kept vow (beginUrgent kind sub s) := h.addJob.settle
theorem Kept.beginSet (h : Kept vow s) {sub} : Kept vow (beginSet sub s) := h.addJob.settle

theorem KeptOut.execUrgentRecordTimer (h : Kept vow s) : KeptOut vow (execUrgentRecordTimer s) :=
  .ite (.next h.beginUrgent) (.next h)

theorem KeptOut.execFullSetTimer (h : Kept vow s) : KeptOut vow (execFullSetTimer s) := .ite (.next h.beginSet) (.next h)

theorem KeptOut.execNvmCheckpoint (h : Kept vow s) {sub} : KeptOut vow (execNvmCheckpoint sub s) := by
  unfold Machine.execNvmCheckpoint
  exact .runCmd h (.ite h.beginUrgent h.beginSet)

theorem Kept.completeOpt (h : Kept vow s) {op sub status result} : Kept vow (completeOpt op sub status result s) := by
  unfold Machine.completeOpt; split; exacts [h.complete, h]

theorem Kept.urgentDone (h : Kept vow s) {r sub secs} : Kept vow (urgentDone r sub secs s) :=
  .ite h.keep.raise.completeOpt (.ite h.keep.completeOpt.keepPwr h.keep)

theorem Kept.setDone (h : Kept vow s) {c sub secs} : Kept vow (setDone c sub secs s) :=
  .completeOpt (.raise (.ite h.keep h.keep))

theorem Kept.imagesDone (h : Kept vow s) {l inPlace secs sub} : Kept vow (imagesDone l inPlace secs sub s) :=
  .completeOpt (.awaitInstant (h.keep.foldl fun _ _ h => h.keep))

theorem Kept.firmwareDone (h : Kept vow s) {image sub} : Kept vow (firmwareDone image sub s) := h.setInactive.completeOpt

theorem Kept.finishJob (h : Kept vow s) {j} : Kept vow (finishJob j s) := by
  unfold Machine.finishJob
  split
  · exact h.urgentDone
  · exact h.setDone
  · exact h
  · exact h
  · exact by split; exacts [h.keep.configForce, h]
  · exact h.imagesDone
  · exact h.firmwareDone

theorem Kept.nvmJobSpoil (h : Kept vow s) {j} : Kept vow (NvmJob.spoil j s) :=
  .ite h (by split; exacts [h.keep, h.keep, h.keep, h, h])

theorem Kept.nvmJobTear (h : Kept vow s) {j} : Kept vow (NvmJob.tear j s) := h.keep
theorem Kept.failJob (h : Kept vow s) {j} : Kept vow (failJob j s) := h.nvmJobSpoil.completeOpt

theorem Kept.openSector (h : Kept vow s) (e : openSector s = some t) : Kept vow t := by
  unfold Machine.openSector at e
  split at e
  · cases e
  · obtain ⟨i, -, rfl⟩ := Option.map_eq_some_iff.1 e
    exact h.keep

theorem Kept.placePage (h : Kept vow s) {j p} (e : placePage j s = some p) : Kept vow p.2 := by
  unfold Machine.placePage at e
  split at e
  · cases e
    exact h
  · obtain ⟨u, hu, rfl⟩ := Option.map_eq_some_iff.1 e
    split at hu
    · cases hu
      exact h.keep
    · exact .keep (h.openSector hu)

theorem Kept.dropSets (h : Kept vow s) : Kept vow (dropSets s) := h.keep.foldl fun _ _ h => h.failJob
theorem Kept.markBad (h : Kept vow s) {i} : Kept vow (markBad i s) := .ite h (h.keep.raise.when (·.keep.dropSets.raise))
theorem Kept.pageFailed (h : Kept vow s) {at_} : Kept vow (pageFailed at_ s) := h.keep.fileReport
theorem Kept.logPage (h : Kept vow s) {l} : Kept vow (logPage l s) := h.keep
theorem Kept.flushLog (h : Kept vow s) : Kept vow (flushLog s) := .ite h h.logPage.keep
theorem Kept.flushAll (h : Kept vow s) : Kept vow (flushAll s) := h.foldl fun _ _ h => .ite h h.flushLog

theorem Kept.stopFlash (h : Kept vow s) : Kept vow (stopFlash s) :=
  .ite h (by split; exacts [h.keepPwr.beginUrgent, .ite h.keepPwr.flushAll.stopRopes h, h])

theorem Kept.leaveHold (h : Kept vow s) : Kept vow (leaveHold s) := h.logAdd

theorem Kept.resetFromHold (h : Kept vow s) (hp : vow.halt = true → False) {cause} : Kept vow (resetFromHold cause s) :=
  .wholeReset (.ite h (.ite h.leaveHold h.leaveHold.flushAll)) hp

theorem Kept.restartIf (h : Kept vow s) : Kept vow (restartIf s) :=
  .dite (fun hc => h.resetFromHold (h.awake fun hs => by simp [State.live, hs] at hc)) fun _ => h

theorem Kept.jobPage (h : Kept vow s) {ok j r} : Kept vow (jobPage ok j r s) :=
  .ite (.ite h.keep.finishJob.settle h.keep.settle)
    (.ite h.pageFailed.keep.settle (.settle (.failJob (.ite h.pageFailed.keep.markBad h.pageFailed.keep.raise))))

theorem Kept.logPageEnd (h : Kept vow s) {ok} : Kept vow (logPageEnd ok s) := .ite h.flushLog h.logPage.pageFailed

theorem Kept.tailEnd (h : Kept vow s) {ok} : Kept vow (tailEnd ok s) :=
  .ite h.keep.logPageEnd (.ite h.keep h.keep.pageFailed)

theorem Kept.pageEnd (h : Kept vow s) {ok} : Kept vow (pageEnd ok s) := by
  refine .ite h.tailEnd.settle ?_
  split
  · exact .ite h.logPageEnd h
  · split
    next he => exact .jobPage (h.placePage he)
    next => exact h

theorem KeptOut.execNvmPageProgrammed (h : Kept vow s) {ok} : KeptOut vow (execNvmPageProgrammed ok s) :=
  .ite (.next h) (.next h.pageEnd.stopFlash.restartIf)

theorem Kept.eraseJournal (h : Kept vow s) {i} : Kept vow (eraseJournal i s) := h.keep
theorem Kept.eraseLog (h : Kept vow s) : Kept vow (eraseLog s) := h.keep

theorem KeptOut.execNvmSectorErased (h : Kept vow s) {e ok} : KeptOut vow (execNvmSectorErased e ok s) :=
  .ite (.next h) (.ite (.next h.pageFailed) (.next (.announceWear (.ite h.keep.eraseJournal (.ite h.keep.eraseLog h.keep)))))

theorem Kept.cutJob (h : Kept vow s) {j} : Kept vow (cutJob j s) := h.nvmJobSpoil.nvmJobTear.completeOpt

theorem Kept.cutJobs (h : Kept vow s) {logging} : Kept vow (cutJobs logging s) := by
  unfold Machine.cutJobs
  extract_lets _ _ _ u
  have hu : Kept vow u := by
    unfold u
    split
    · refine .ite ?_ h
      split
      next he => exact h.placePage he
      next => exact h
    · exact h
  exact hu.keep.foldl fun _ _ h => h.cutJob

theorem Kept.restPages {n j p} (h : Kept vow s) (e : restPages n j s = some p) : Kept vow p.2 := by
  induction n generalizing j s with
  | zero =>
    cases e
    exact h
  | succ n ih =>
    obtain ⟨x, hx, he⟩ := Option.bind_eq_some_iff.1 e
    exact ih (h.placePage hx) he

theorem Kept.headDone (h : Kept vow s) : Kept vow (headDone s) := by
  unfold Machine.headDone
  dsimp only
  split
  · exact h.settle
  · split
    next he => exact .finishJob (.keep (h.settle.restPages he))
    next => exact h.settle.keep.failJob

theorem Kept.urgentsDone (h : Kept vow s) : Kept vow (urgentsDone s) := .foldl (.ite h.tailEnd h) fun _ _ h => h.headDone
theorem Kept.dropSaves (h : Kept vow s) : Kept vow (dropSaves s) := h.keep

theorem Kept.saveReqStore (h : Kept vow s) {q} : Kept vow (SaveReq.store q s) := by
  unfold Machine.SaveReq.store; split; exacts [h.saveSys, h.savePtp, h.storeSaved]

theorem Kept.doSaves (h : Kept vow s) : Kept vow (doSaves s) := .dropSaves (h.foldl fun _ _ h => h.saveReqStore)
theorem Kept.markSave (h : Kept vow s) {q} : Kept vow (markSave q s) := by unfold Machine.markSave; split <;> exact h.keep
theorem Kept.askSave (h : Kept vow s) {q} : Kept vow (askSave q s) := .ite h.markSave.keep.doSaves (.ite h.markSave.keep h)
theorem KeptOut.execSysCtrlSave (h : Kept vow s) : KeptOut vow (execSysCtrlSave s) := .ite (.next h) (.next h.askSave)

theorem KeptOut.execPtpCtrlSave (h : Kept vow s) {v} : KeptOut vow (execPtpCtrlSave v s) :=
  .ite (.next h) (.ite (.next h.setPtpCtrl.askSave) (.next h.setPtpCtrl))

theorem Kept.setLegCtrl (h : Kept vow s) {v} : Kept vow (setLegCtrl v s) := .ite h h.keep

theorem KeptOut.execLegCtrlSave (h : Kept vow s) {v} : KeptOut vow (execLegCtrlSave v s) :=
  .ite (.next h) (.ite (.next h.setLegCtrl.askSave) (.next h.setLegCtrl))

theorem KeptOut.execLogRead (h : Kept vow s) {sub} : KeptOut vow (execLogRead sub s) := .runCmd h h.flashRead.dma.complete
theorem Kept.scanJournal (h : Kept vow s) {bad} : Kept vow (scanJournal bad s) := h.keep

theorem Kept.readCopies (h : Kept vow s) {bad} : Kept vow (readCopies bad s) :=
  .when (.when (.when (.ite h.keep h) (·.keep)) (·.keep)) (·.keep)

theorem Kept.restoreCounters (h : Kept vow s) : Kept vow (restoreCounters s) := by
  unfold Machine.restoreCounters
  split
  exacts [h, h.keep]

theorem Kept.restoreCells (h : Kept vow s) : Kept vow (restoreCells s) := h.keep

theorem Kept.restoreTuning (h : Kept vow s) : Kept vow (restoreTuning s) := by
  unfold Machine.restoreTuning
  split
  exacts [h.keep, h]

theorem Kept.loadSaved (h : Kept vow s) : Kept vow (loadSaved s) := by
  unfold Machine.loadSaved
  dsimp only
  repeat' split
  all_goals exact h.of_locks rfl rfl rfl rfl

/-! ### Power -/

theorem Kept.runBank (h : Kept vow s) {b trial fallback} : Kept vow (runBank b trial fallback s) := .ite h.keepPwr.logAdd h.keepPwr

theorem Kept.selectBank (h : Kept vow s) {r wdog} (e : selectBank r wdog s = some t) : Kept vow t := by
  unfold Machine.selectBank at e
  dsimp only at e
  repeat' split at e
  all_goals cases e
  exacts [h.setBank.runBank, h.setBank.runBank, h.runBank, h.runBank, h.runBank]

theorem Kept.bootStart (h : Kept vow s) (hp : vow.halt = true → False) {mv} : Kept vow (bootStart mv s) := by
  refine .logAdd (h.moveOn hp ?_ ?_) <;> rfl

theorem Kept.markRetired (h : Kept vow s) {u} : Kept vow (markRetired u s) := h.keep
theorem Kept.bootRead (h : Kept vow s) {r} : Kept vow (bootRead r s) := h.readCopies.scanJournal
theorem Kept.bootRetired (h : Kept vow s) : Kept vow (bootRetired s) := .keep (h.foldl fun _ _ h => h.markRetired)
theorem Kept.bootFails (h : Kept vow s) : Kept vow (bootFails s) := h.keepPwr

theorem Kept.bootLoad (h : Kept vow s) {r} : Kept vow (bootLoad r s) := by
  refine .resetDom (.resetDom (.restoreCells (.restoreCounters (.restoreTuning (h.loadSaved.of_locks ?_ ?_ ?_ ?_))))) <;> rfl

theorem Kept.bootFinish (h : Kept vow s) (hp : vow.halt = true → False) : Kept vow (bootFinish s) :=
  (h.keepPwr.enterPower fun hv => (hp hv).elim).startMeasurement.settleWork.doSaves.foldl fun _ _ h => .ite h.tieBegin h

theorem Kept.bootReports (h : Kept vow s) {r} : Kept vow (bootReports r s) :=
  .when (h.foldl fun _ _ h => h.fileReport) (·.fileReport)

/-- A device that has not started is not in HALT. -/
theorem Kept.unstarted (h : Kept vow s) (hs : s.pwr.started = false) : vow.halt = true → False := fun hv =>
  Bool.noConfusion (hs.symm.trans (h.halt hv).2)

theorem KeptOut.execPowerGood (h : Kept vow s) {r} : KeptOut vow (execPowerGood r s) := by
  refine .dite (fun _ => .next h) fun hc => ?_
  have hp : vow.halt = true → False := h.unstarted (by cases hs : s.pwr.started <;> simp_all)
  have hold : Kept vow (bootRetired (bootRead r (bootClock (bootStart r.vauxMv s)))) := (h.bootStart hp).keep.bootRead.bootRetired
  dsimp only
  split
  next => exact .next hold.bootFails
  next he =>
    have hbank := hold.selectBank he
    exact .ite (.next hbank.keepPwr.bootReports.bootFails) (.next (hbank.keepPwr.bootReports.bootLoad.unless (·.bootFinish hp)))

theorem KeptOut.execBootResume (h : Kept vow s) : KeptOut vow (execBootResume s) := by
  refine .dite (fun _ => .next h) fun hc => .next ?_
  have hp {p : Prop} : vow.halt = true → p := h.awake fun hs => by simp [hs] at hc
  exact .when (.ite (h.keepPwr.enterPower hp).leaveHold h.keepPwr) (·.bootFinish hp)

theorem KeptOut.execBootXtalTimeout (h : Kept vow s) : KeptOut vow (execBootXtalTimeout s) := by
  refine .dite (fun _ => .next h) fun hc => .next (.keep (.bootFails (h.bootStart ?_)))
  exact h.unstarted (by cases hs : s.pwr.started <;> simp_all)

theorem KeptOut.execFwTrialConfirm (h : Kept vow s) : KeptOut vow (execFwTrialConfirm s) :=
  .ite (.next (.keepPwr (h.setBank.unless (·.setBank)))) (.next h)

theorem KeptOut.execPorstNAssert (h : Kept vow s) (hp : vow.halt = true → False) : KeptOut vow (execPorstNAssert s) :=
  .next (h.wholeReset hp).keepPwr

theorem KeptOut.execBrownOut (h : Kept vow s) (hp : vow.halt = true → False) {vauxMv} : KeptOut vow (execBrownOut vauxMv s) :=
  .next (h.wholeReset hp).keepPwr

theorem KeptOut.execWatchdogReset (h : Kept vow s) : KeptOut vow (execWatchdogReset s) :=
  .dite (fun hc => .next (h.resetFromHold (h.awake fun hs => by simp [hs] at hc))) fun _ => .next h

theorem KeptOut.execHardCut (h : Kept vow s) (hp : vow.halt = true → False) : KeptOut vow (execHardCut s) :=
  .next (h.wholeReset hp).keepPwr

theorem Kept.stopTests (h : Kept vow s) : Kept vow (stopTests s) := h.keep.foldl fun _ _ h => h.complete

theorem Kept.orderlyStop (h : Kept vow s) (hp : vow.halt = true → False) {cause sub committed} :
    Kept vow (orderlyStop cause sub committed s) := by
  unfold Machine.orderlyStop
  extract_lets _ _ _ _ _ u
  have hu : Kept vow u := (h.keepPwr.enterPower fun hv => (hp hv).elim).writeStatus.raise.abortJobs.cutJobs.dropSaves.stopTests
  exact .ite hu.keepPwr.stopRopes (.ite hu.keepPwr hu.keepPwr.beginUrgent)

theorem Kept.haltPins (h : Kept vow s) : Kept vow (haltPins s) := h.keep

theorem KeptOut.execBleedOpenWaitEnd (h : Kept vow s) : KeptOut vow (execBleedOpenWaitEnd s) :=
  .ite (.next (.writeStatus (h.completeOpt.keepPwr.haltPins.enterPower fun _ => rfl))) (.next h)

theorem KeptOut.execShutdown (h : Kept vow s) {sub} : KeptOut vow (execShutdown sub s) :=
  .runChecked h fun hc => h.orderlyStop (h.awake (State.ne_halt_of_accepts (hc (s.accepts 0x7F, stBusy) (by simp))))

theorem KeptOut.execXtalLost (h : Kept vow s) : KeptOut vow (execXtalLost s) := by
  refine .ite (.next h) ?_
  have hlost : Kept vow (Machine.logAdd 0x49 0xFF 0 (openInfo 0x49) { s with pwr := { s.pwr with xtalLost := true } }) := h.keepPwr.logAdd
  dsimp only
  generalize Machine.logAdd 0x49 0xFF 0 (openInfo 0x49) { s with pwr := { s.pwr with xtalLost := true } } = u at hlost ⊢
  have hstop (hs : u.pwr.state ≠ .halt) {t : State} (ht : Kept vow t) : Kept vow (Machine.orderlyStop 2 none false t) :=
    ht.orderlyStop (hlost.awake hs)
  split
  next hs => exact .next (hstop (by simp [hs]) hlost)
  next hs => exact .next (hstop (by simp [hs]) hlost)
  next hs =>
    have hleft := hstop (by simp [hs]) hlost.leaveHold
    exact .next (.ite (.ite hleft hlost) (.ite hleft hlost))
  next hs => exact .next (.ite (hstop (by simp [hs]) hlost) hlost)
  all_goals exact .next hlost

theorem KeptOut.execVauxWarning (h : Kept vow s) {mv} : KeptOut vow (execVauxWarning mv s) :=
  .ite (.next (.raise (.keepPwr h.keepPwr))) (.next h.keepPwr)

theorem KeptOut.execVauxWarningRearm (h : Kept vow s) {mv} : KeptOut vow (execVauxWarningRearm mv s) :=
  .ite (.next (.keepPwr h.keepPwr)) (.next h.keepPwr)

theorem Kept.holdFrames (h : Kept vow s) : Kept vow (holdFrames s) := h.keep
theorem Kept.holdRopes (h : Kept vow s) : Kept vow (holdRopes s) := h.keep
theorem Kept.holdTests (h : Kept vow s) : Kept vow (holdTests s) := h.keep
theorem Kept.countHold (h : Kept vow s) : Kept vow (countHold s) := h.keepPwr.logAdd

theorem KeptOut.execHoldEntry (h : Kept vow s) {mv} : KeptOut vow (execHoldEntry mv s) := by
  have hmv : Kept vow { s with pwr := { s.pwr with vauxMv := mv } } := h.keepPwr
  refine .ite (.next hmv) (.dite (fun hlive => .next ?_) fun _ => .dite (fun hboot => .next ?_) fun _ => .next hmv)
  · have hp {p : Prop} : vow.halt = true → p := hmv.awake (State.ne_halt_of_live hlive)
    exact (hmv.countHold.authHold.holdRopes.sendSafe.timeHold.enterPower hp).holdFrames.holdTests.dealLanes.cutJobs.beginUrgent
  · exact .enterPower (.countHold (.keepPwr hmv)) (h.awake fun hs => by simp [hs] at hboot)

theorem KeptOut.execHoldCommitDone (h : Kept vow s) : KeptOut vow (execHoldCommitDone s) := by
  refine .dite (fun hc => .next (.restartIf ?_)) fun _ => .next h
  exact h.urgentsDone.flushAll.keepPwr.raise.writeStatus.when (·.leaveHold.orderlyStop (h.awake fun hs => by simp [hs] at hc))

theorem KeptOut.execHoldReturn (h : Kept vow s) {mv} : KeptOut vow (execHoldReturn mv s) := by
  have hmv : Kept vow { s with pwr := { s.pwr with vauxMv := mv } } := h.keepPwr
  refine .dite (fun hc => ?_) fun _ => .next hmv
  have hp {p : Prop} : vow.halt = true → p := h.awake fun hs => by simp [hs] at hc
  exact .ite (.next ((hmv.keepPwr.enterPower hp).settleWork.leaveHold.doSaves.foldl fun _ _ h => h.authResume)) (.next (hmv.resetFromHold hp))

theorem Kept.activate (h : Kept vow s) : Kept vow (activate s) := h.dropPending.when (·.setBank)

theorem KeptOut.execFwUpdate (h : Kept vow s) {sub buf} : KeptOut vow (execFwUpdate sub buf s) := by
  unfold Machine.execFwUpdate
  exact .runCmd h (.ite h.addJob.settle (.ite h.activate.complete h.activate.beginUrgent))

end Sys2Proof.Machine

namespace Sys2Proof.Machine

variable {vow : Vow} {s t : State}

/-! ### The host interface -/

theorem Kept.dropJobs (h : Kept vow s) : Kept vow (dropJobs s) :=
  .settleWork (h.keep.foldl fun _ _ h => .foldl (h.complete.when (·.raise)) fun _ _ h => h.complete)

theorem Kept.hostReset (h : Kept vow s) : Kept vow (hostReset s) := h.keep.dropJobs
theorem KeptOut.execPerst (h : Kept vow s) : KeptOut vow (execPerst s) := .next h.hostReset.keep
theorem KeptOut.execFunctionLevelReset (h : Kept vow s) : KeptOut vow (execFunctionLevelReset s) := .next h.hostReset
theorem KeptOut.execLinkDown (h : Kept vow s) : KeptOut vow (execLinkDown s) := .next h.hostReset.keep
theorem KeptOut.execPerstRelease (h : Kept vow s) : KeptOut vow (execPerstRelease s) := .next h.keep

theorem KeptOut.execBar0MisalignedAccess (h : Kept vow s) {isWrite} : KeptOut vow (execBar0MisalignedAccess isWrite s) :=
  .next h.hifErr.keep

theorem Kept.dropFetch (h : Kept vow s) {n} : Kept vow (dropFetch n s) := .ite h.keep h

theorem Kept.ringOff (h : Kept vow s) {n} : Kept vow (ringOff n s) := by
  unfold Machine.ringOff
  extract_lets _ u
  have hu : Kept vow u := h.keep.when (·.dropFetch)
  exact .ite hu.keep (.ite hu.keep (.ite hu.keep (.ite hu.keep hu)))

theorem Kept.ringOn (h : Kept vow s) {n} : Kept vow (ringOn n s) := .ite h.hifErr h.modRing

theorem Kept.writeRingCtrl (h : Kept vow s) {v} : Kept vow (writeRingCtrl v s) :=
  .ite h (.ite (.ite h.modRing h.modRing.ringOn) (.ite h.modRing.ringOff h.modRing))

theorem Kept.linkSeen (h : Kept vow s) : Kept vow (linkSeen s) := .ite h.keep h
theorem KeptOut.execRingEnable (h : Kept vow s) {v} : KeptOut vow (execRingEnable v s) := .next h.linkSeen.writeRingCtrl
theorem KeptOut.execRingDisable (h : Kept vow s) {v} : KeptOut vow (execRingDisable v s) := .next h.linkSeen.writeRingCtrl
theorem Kept.judgeStalls (h : Kept vow s) : Kept vow (judgeStalls s) := h.foldl fun _ _ h => .ite h.keep.raise h.keep

theorem KeptOut.execDoorbellPoll (h : Kept vow s) : KeptOut vow (execDoorbellPoll s) :=
  .ite (.next h) (.next (.ite h.keep h.keep.writeStatus))

theorem Kept.takeIndex (h : Kept vow s) {b n} : Kept vow (takeIndex b s n) := .ite h (.ite h.modRing.hifErr.keep h.modRing)
theorem Kept.judgeBeat (h : Kept vow s) {beat} : Kept vow (judgeBeat beat s) := .ite h.keep (.ite h.keep.raise h)

theorem KeptOut.execDoorbellReadDone (h : Kept vow s) {d} : KeptOut vow (execDoorbellReadDone d s) :=
  .ite (.next h) (by split; exacts [.next h.keep, .next (.judgeStalls (.judgeBeat (h.drainWrites.keep.foldl fun _ _ h => h.takeIndex)))])

theorem KeptOut.execStatusBlockTimer (h : Kept vow s) : KeptOut vow (execStatusBlockTimer s) := .next h.writeStatus

theorem KeptOut.execSubmissionFetch (h : Kept vow s) : KeptOut vow (execSubmissionFetch s) :=
  .ite (.next h) (by split; exacts [.next h.judgeStalls, .next h.keep.judgeStalls])

theorem Kept.releaseSlot (h : Kept vow s) {n} : Kept vow (releaseSlot n s) := h.keep
theorem Kept.countDup (h : Kept vow s) {sub} : Kept vow (countDup sub s) := h.keep.raise

theorem Kept.answerDup (h : Kept vow s) {op sub status orig result} : Kept vow (answerDup op sub status orig result s) :=
  h.countDup.releaseSlot.postCompletion

theorem Kept.mergeDup (h : Kept vow s) {e sub} : Kept vow (mergeDup e sub s) := .ite h.keep h.keep

theorem Kept.enterTable (h : Kept vow s) {op sub} : Kept vow (enterTable op sub s) :=
  .ite h.keep (by split; exacts [.ite h.mergeDup.countDup h.answerDup, by split; exacts [.ite h.answerDup h.answerDup, h.keep]])

theorem Kept.putBack (h : Kept vow s) {n} : Kept vow (putBack n s) := h.keep

theorem KeptOut.execSubmissionFetchDone (h : Kept vow s) {d} : KeptOut vow (execSubmissionFetchDone d s) := by
  unfold Machine.execSubmissionFetchDone
  split
  · exact .next h
  · dsimp only
    split
    · exact .next h.keep.hifErr.judgeStalls
    · exact .ite (.next h.keep.drainWrites.releaseSlot.putBack.judgeStalls) (.next h.keep.drainWrites.keep.enterTable.judgeStalls)

theorem KeptOut.execCommandStart (h : Kept vow s) {sq} : KeptOut vow (execCommandStart sq s) := by
  unfold Machine.execCommandStart; split; exacts [.next h, .ite (.next h) (.next (.ite h.keep h.keep.complete))]

theorem KeptOut.execEventEntryWrite (h : Kept vow s) : KeptOut vow (execEventEntryWrite s) := by
  unfold Machine.execEventEntryWrite
  dsimp only
  split
  · exact .next h
  · exact .ite (.next h) (.next (h.drainWrites.keep.unless (·.signal)))

theorem KeptOut.execMsixModerationTimeout (h : Kept vow s) {vec} : KeptOut vow (execMsixModerationTimeout vec s) :=
  .next (.ite h h.sendMsg)

theorem Kept.msixWritten (h : Kept vow s) {w} : Kept vow (msixWritten w s) := h.keep
theorem Kept.sendPending (h : Kept vow s) {v} : Kept vow (sendPending v s) := .ite h.sendMsg h

theorem KeptOut.execMsixVectorUnmask (h : Kept vow s) {w} : KeptOut vow (execMsixVectorUnmask w s) :=
  .next (h.msixWritten.foldl fun _ _ h => h.sendPending)

theorem KeptOut.execSmrEntryWrite (h : Kept vow s) : KeptOut vow (execSmrEntryWrite s) := by
  unfold Machine.execSmrEntryWrite; dsimp only; split; exacts [.next h, .ite (.next h) (.next h.drainWrites.queuePop.postEntry)]

/-! ### Registers -/

theorem Kept.readWith (h : Kept vow s) {off latch} (hl : ∀ {t}, Kept vow t → Kept vow (latch t)) :
    Kept vow (readWith off latch s) :=
  .keep (h.when hl)

theorem KeptOut.execMetLoRead (h : Kept vow s) {off} : KeptOut vow (execMetLoRead off s) :=
  .next (h.readWith fun h => .ite h.keep (.ite h.keep (.ite h.keep (.ite h.keep h))))

theorem KeptOut.execTimNowLoRead (h : Kept vow s) : KeptOut vow (execTimNowLoRead s) := .next (h.readWith (·.keep))
theorem KeptOut.execTimLatLoRead (h : Kept vow s) : KeptOut vow (execTimLatLoRead s) := .next (h.readWith (·.keep))
theorem KeptOut.execTimPpsinLoRead (h : Kept vow s) : KeptOut vow (execTimPpsinLoRead s) := .next (h.readWith (·.keep))
theorem KeptOut.execPtpDomGmLoRead (h : Kept vow s) : KeptOut vow (execPtpDomGmLoRead s) := .next (h.readWith (·.keep))
theorem KeptOut.execSysEpochLoRead (h : Kept vow s) : KeptOut vow (execSysEpochLoRead s) := .next (h.readWith (·.keep))
theorem KeptOut.execDiagFramesLoRead (h : Kept vow s) : KeptOut vow (execDiagFramesLoRead s) := .next (h.readWith (·.keep))

theorem KeptOut.execSarQLoRead (h : Kept vow s) : KeptOut vow (execSarQLoRead s) :=
  .next (h.readWith fun h => by split; exacts [.ite h h.keep, h])

theorem Kept.stateOf (h : Kept vow s) {o} (ho : KeptOut vow o) : Kept vow (stateOf o s) := by
  unfold Machine.stateOf
  split
  · exact ho _ rfl
  · exact h

theorem Kept.writeSysB (h : Kept vow s) {off v} : Kept vow (writeSysB off v s) :=
  .ite h.keep (.ite (h.stateOf (.execSysCtrlSave h)) h)

theorem Kept.writeHif (h : Kept vow s) {off v} : Kept vow (writeHif off v s) := by
  unfold Machine.writeHif
  dsimp only
  split
  · exact .ite h h.keep
  · exact .ite h h.keep
  · exact .ite h h.keep
  · exact .ite h h.keep
  · exact h.keep
  · exact h.keep
  · exact h.keep
  · exact .ite h.modRing h
  · exact .ite h.modRing h
  · exact h.writeRingCtrl
  · exact h.keep
  · exact h.keep
  · exact h

theorem Kept.writeEvt (h : Kept vow s) {off v} : Kept vow (writeEvt off v s) := .ite h.keep.moderate h.keep
theorem Kept.captureTime (h : Kept vow s) : Kept vow (captureTime s) := h.keep

theorem Kept.writeTim (h : Kept vow s) {off v} : Kept vow (writeTim off v s) := by
  unfold Machine.writeTim; dsimp only; split; exacts [.ite h.captureTime h, h.keep, h.keep, h.keep, h.keep, h.keep, h]

theorem Kept.writePtp (h : Kept vow s) {off v} : Kept vow (writePtp off v s) := by
  unfold Machine.writePtp
  dsimp only
  split
  · exact h.stateOf (.execPtpCtrlSave h)
  · exact h.keep
  · exact h.keep
  · exact h.setDomCfg
  · exact h.keep
  · exact h.modPort
  · exact h.modPort
  · exact h.modPort
  · exact h.modPort
  · exact h.stateOf (.execPtpMdioGo h)
  · exact h.keep
  · exact .ite h h.keep
  · exact .ite h h.keep
  · exact h

theorem Kept.writeMet (h : Kept vow s) {off v} : Kept vow (writeMet off v s) := by
  unfold Machine.writeMet; split; exacts [h.keep, h.modMet, .ite h h.keep, h]

theorem Kept.writeSar (h : Kept vow s) {off v} : Kept vow (writeSar off v s) := by
  unfold Machine.writeSar; dsimp only; split; exacts [h.keep, h.keep, h.keep, h.keep.ocPin, h.keep.ocPin, h.keep, h.keep, h]

theorem Kept.writeRope (h : Kept vow s) {off v} : Kept vow (writeRope off v s) := by
  unfold Machine.writeRope
  split
  exacts [h.keep, h.modRope, h]

theorem Kept.clearPeak (h : Kept vow s) : Kept vow (clearPeak s) := h.keep

theorem Kept.writeThm (h : Kept vow s) {off v} : Kept vow (writeThm off v s) := by
  unfold Machine.writeThm; dsimp only; split; exacts [h.keep, h.keep, h.keep, .ite h.clearPeak h, .ite h h.keep, .ite h h.keep, h]

theorem Kept.writePwr (h : Kept vow s) {off v} : Kept vow (writePwr off v s) := by
  unfold Machine.writePwr
  split
  exacts [h.stateOf (.execPwrModeWrite h), .ite h h.keepPwr, .ite h h.keepPwr, h.keepPwr, h.keepPwr, h]

theorem Kept.writeNvm (h : Kept vow s) {off v} : Kept vow (writeNvm off v s) := by
  unfold Machine.writeNvm; split; exacts [.ite h h.keep, h.keep, h.keep, h]

theorem Kept.writeSec (h : Kept vow s) {off v} : Kept vow (writeSec off v s) := .ite h.keepSec h

theorem Kept.writeLeg (h : Kept vow s) {off v} : Kept vow (writeLeg off v s) := by
  unfold Machine.writeLeg
  split
  exacts [h.stateOf (.execLegCtrlSave h), h.keep, h.keep, h]

theorem Kept.writeDiag (h : Kept vow s) {off v} : Kept vow (writeDiag off v s) := .ite h.keep h

theorem Kept.writeReg (h : Kept vow s) {off v} : Kept vow (writeReg off v s) := by
  unfold Machine.writeReg
  split
  · exact h.writeSysB
  · exact h.writeHif
  · exact h.writeEvt
  · exact h.writeTim
  · exact h.writePtp
  · exact h.writeMet
  · exact h.writeSar
  · exact h.writeRope
  · exact h.writeThm
  · exact h.writePwr
  · exact h.writeNvm
  · exact h.writeSec
  · exact h.writeLeg
  · exact h.writeDiag
  · exact h

theorem KeptOut.execRegisterWrite (h : Kept vow s) {off v} : KeptOut vow (execRegisterWrite off v s) :=
  .next (h.linkSeen.when (·.writeReg))

theorem KeptOut.execTimLatchCapture (h : Kept vow s) : KeptOut vow (execTimLatchCapture s) := .next (.ite h.captureTime h)
theorem KeptOut.execThmDiePeakClr (h : Kept vow s) : KeptOut vow (execThmDiePeakClr s) := .next (.ite h.clearPeak h)

/-! ### Diagnosis and self-tests -/

theorem Kept.enterWarn (h : Kept vow s) : Kept vow (enterWarn s) := h.keep.settleWork.raise
theorem Kept.leaveWarn (h : Kept vow s) : Kept vow (leaveWarn s) := h.keep.settleWork
theorem Kept.dieRuns (h : Kept vow s) : Kept vow (dieRuns s) := h.keep

theorem Kept.judgeWarn (h : Kept vow s) : Kept vow (judgeWarn s) :=
  .ite (.ite (.ite h.leaveWarn h) (.ite h.leaveWarn h)) (.ite h.enterWarn (.ite h.keep.enterWarn h))

theorem Kept.enterDie (h : Kept vow s) {a b} : Kept vow (enterDie a b s) := h.keep

theorem Kept.judgePeriodTemps (h : Kept vow s) {l} : Kept vow (judgePeriodTemps l s) :=
  h.enterPins.tuneTemperature.enterDie.dieRuns.judgeWarn

theorem KeptOut.execHousekeepingPeriodEnd (h : Kept vow s) {n} : KeptOut vow (execHousekeepingPeriodEnd n s) := by
  unfold Machine.execHousekeepingPeriodEnd
  split
  · exact .next h
  · refine .dite (fun _ => .next h.keep) fun hc => .next (h.keep.judgePeriodTemps.when (·.orderlyStop (h.awake ?_)))
    exact fun hs => hc (by simp [State.live, hs])

theorem KeptOut.execTraverseShareHalving (h : Kept vow s) : KeptOut vow (execTraverseShareHalving s) :=
  .ite (.next h) (.next h.keep.settleWork)

theorem Kept.tuneOut (h : Kept vow s) {u} : Kept vow (tuneOut u s) := h.keep

theorem Kept.fastOut (h : Kept vow s) {c} : Kept vow (fastOut c s) := by
  unfold Machine.fastOut
  extract_lets run u _ _ v w
  clear_value run
  have hu : Kept vow u := by
    unfold u
    split
    · exact h.abortConv
    · exact h
  have hv : Kept vow v := hu.modConv.modConv
  have hw : Kept vow w := by
    unfold w
    split
    · exact hv.runEnded
    · exact hv
  exact hw.captureEnd.sarKick

theorem Kept.portOut (h : Kept vow s) {str e} : Kept vow (portOut str e s) :=
  .ropeGap (.sweepPortOut (.modRope (.ite h h.setMode)))

theorem Kept.limitJobs (h : Kept vow s) : Kept vow (limitJobs s) := h.foldl fun _ _ h => .ite h.endJob h

theorem Kept.bankOut (h : Kept vow s) (hp : vow.halt = true → False) {b} : Kept vow (bankOut b s) :=
  .ite h.keep (.ite h.keep (by dsimp only; split; exacts [h.keep, .ite h.keep.limitJobs (.ite (h.keep.orderlyStop hp) h.keep.limitJobs)]))

theorem Kept.retireUnit (h : Kept vow s) (hp : vow.halt = true → False) {u} : Kept vow (retireUnit u s) := by
  unfold Machine.retireUnit
  dsimp only
  split
  · exact h.markRetired.storeSaved.raise.tuneOut
  · exact h.markRetired.storeSaved.raise.tuneOut.fastOut
  · exact h.markRetired.storeSaved.raise.portOut
  · exact h.markRetired.storeSaved.raise.judgePeriod.dealLanes
  · exact h.markRetired.storeSaved.raise.bankOut hp
  · exact h.markRetired.storeSaved.raise

theorem Kept.restoreUnit (h : Kept vow s) {u} : Kept vow (restoreUnit u s) := h.keep.storeSaved.refreshLane
theorem Kept.clearSuspect (h : Kept vow s) : Kept vow (clearSuspect s) := h.keep

theorem Kept.lasting (h : Kept vow s) (hp : vow.halt = true → False) {u} : Kept vow (lasting u s) := by
  unfold Machine.lasting
  dsimp only
  split
  · exact .retireUnit (.ite h.raise.setUnitDiag h.raise) hp
  · exact .retireUnit (.ite h.raise.setUnitDiag h.raise) hp
  · exact .ite h.raise.setUnitDiag (h.raise.retireUnit hp)
  · exact .ite h.raise.setUnitDiag (h.raise.retireUnit hp)
  · exact (h.raise.retireUnit hp)
  · exact by split; exacts [h.raise.clearSuspect.markBad, h.raise.clearSuspect]
  · exact h.raise.keep.suspendTuning.setUnitDiag

theorem Kept.transient (h : Kept vow s) {u} : Kept vow (transient u s) := .raise (.setUnitDiag (.ite h.clearSuspect h))

theorem KeptOut.execSelfTestStart (h : Kept vow s) {unit} : KeptOut vow (execSelfTestStart unit s) :=
  .ite (.next h) (by
    split
    · exact .ite (.next h.setUnitDiag) (.next h.judgePeriod)
    · exact .ite (.next h) (.ite (.next h.setUnitDiag) (.next h.keep))
    · exact .next h.setUnitDiag)

theorem KeptOut.execSramBankCopyDone (h : Kept vow s) {bank} : KeptOut vow (execSramBankCopyDone bank s) :=
  .ite (by split; exacts [.next h.keep.setUnitDiag, .next h]) (.next h)

theorem Kept.testCmdDone (h : Kept vow s) {u pass restored detail c} : Kept vow (testCmdDone u pass restored detail c s) :=
  .ite h.logAdd.complete h.complete

theorem Kept.testOver (h : Kept vow s) {r} : Kept vow (testOver r s) := h.setUnitDiag.refreshLane
theorem Kept.bankBack (h : Kept vow s) {b} : Kept vow (bankBack b s) := .ite h.keep h

theorem KeptOut.execSelfTestDone (h : Kept vow s) {r} : KeptOut vow (execSelfTestDone r s) := by
  refine .dite (fun _ => .next h) fun hc => ?_
  have hp : vow.halt = true → False := h.awake (State.ne_halt_of_live (by cases hl : s.live <;> simp_all))
  refine .next (.foldl (.when (.when (.testOver (.when ?_ (·.bankBack))) (·.restoreUnit)) (·.judgePeriod)) fun _ _ h => h.testCmdDone)
  exact .ite (h.logAdd.lasting hp) (.ite h.logAdd.transient h.logAdd)

theorem KeptOut.execTransientHistoryExpiry (h : Kept vow s) {unit} : KeptOut vow (execTransientHistoryExpiry unit s) :=
  .ite (.next h) (.next h.setUnitDiag)

theorem Kept.askTest (h : Kept vow s) {sub restore} : Kept vow (askTest sub restore s) := h.setUnitDiag.refreshLane
theorem KeptOut.execSelftest (h : Kept vow s) {sub} : KeptOut vow (execSelftest sub s) := .runCmd h h.askTest

theorem Kept.endTest (h : Kept vow s) {u} : Kept vow (endTest u s) :=
  .ite (h.logAdd.testOver.foldl fun _ _ h => h.testCmdDone) h

theorem KeptOut.execRetire (h : Kept vow s) {sub} : KeptOut vow (execRetire sub s) := by
  unfold Machine.execRetire
  refine .runChecked h fun hc => (h.retireUnit (h.awake ?_)).endTest.complete
  exact State.ne_halt_of_accepts (hc (s.accepts 0x60, stBusy) (by simp))

theorem KeptOut.execRestore (h : Kept vow s) {sub} : KeptOut vow (execRestore sub s) := by
  unfold Machine.execRestore
  exact .runCmd h h.askTest

theorem Kept.loseCell (h : Kept vow s) {g} : Kept vow (loseCell g s) :=
  .ite h (by
    dsimp only
    split
    · exact .ite (.setCell (.ite h.flashRead h)) (.ite (.onEst (.ite h.flashRead h) (·.keep)) (.keep (.ite h.flashRead h)))
    · exact .setCell (.ite h.flashRead h))

theorem Kept.eccLoss (h : Kept vow s) {p} : Kept vow (eccLoss p s) := by
  unfold Machine.eccLoss
  split
  · exact h.loseCell
  · exact by split; exacts [h.abandonCairn, h]
  · exact by split; exacts [h.endJob, h]
  · exact h

theorem KeptOut.execSramEccError (h : Kept vow s) {bank correctable place} :
    KeptOut vow (execSramEccError bank correctable place s) :=
  .ite (.next h) (.ite (.next (.ite h.keep.fileReport h.keep)) (.next h.eccLoss.fileReport))

/-! ### The legacy window -/

theorem Kept.legXfer (h : Kept vow s) {code write discarded acked} : Kept vow (legXfer code write discarded acked s) :=
  h.of_eq (by simp) (by simp)

theorem Kept.legHot (h : Kept vow s) {k} : Kept vow (legHot k s) := h.of_eq (by simp) (by simp)
theorem Kept.legSilent (h : Kept vow s) : Kept vow (legSilent s) := h.keep
theorem Kept.legReturn (h : Kept vow s) {code bytes} : Kept vow (legReturn code bytes s) := h.keep.legXfer

theorem KeptOut.execSmbusReadWord (h : Kept vow s) {code} : KeptOut vow (execSmbusReadWord code s) :=
  .ite (.next h.legReturn) (.next h.legSilent)

theorem KeptOut.execSmbusReadByte (h : Kept vow s) {code} : KeptOut vow (execSmbusReadByte code s) :=
  .ite (.next h.legSilent) (.ite (.next h.keep.legReturn) (.next h.legReturn))

theorem Kept.gaugeReset (h : Kept vow s) : Kept vow (gaugeReset s) := h.keep.setFrozen
theorem Kept.legDiscard (h : Kept vow s) {code} : Kept vow (legDiscard code s) := h.legXfer
theorem Kept.writePage (h : Kept vow s) {v} : Kept vow (writePage v s) := .ite h.keep.legXfer h.keep.legHot.legDiscard
theorem Kept.writeKey (h : Kept vow s) {v} : Kept vow (writeKey v s) := h.legXfer.keep

theorem Kept.writeGauge (h : Kept vow s) {v} : Kept vow (writeGauge v s) :=
  .ite h.keep.gaugeReset.legXfer (.ite h.keep.legXfer h.legDiscard)

theorem KeptOut.legWrite (h : Kept vow s) {w bytes act} (ha : Kept vow (act s)) : KeptOut vow (legWrite w bytes act s) :=
  .ite (.next h.keep) (.ite (.next h.keep.legXfer) (.ite (.next h.legDiscard) (.ite (.next h.keep.legDiscard) (.next ha))))

theorem Kept.wordEffect (h : Kept vow s) {code v} : Kept vow (wordEffect code v s) := by
  unfold Machine.wordEffect; split; exacts [h.writeKey, h.writeGauge, h.writePage, h.legDiscard]

theorem KeptOut.execSmbusWriteWord (h : Kept vow s) {w} : KeptOut vow (execSmbusWriteWord w s) := .legWrite h h.wordEffect

theorem KeptOut.execSmbusWriteByte (h : Kept vow s) {w} : KeptOut vow (execSmbusWriteByte w s) :=
  .legWrite h (by split; exacts [h.writePage, h.legDiscard])

theorem KeptOut.execSmbusUnsupportedProtocol (h : Kept vow s) {code} : KeptOut vow (execSmbusUnsupportedProtocol code s) :=
  .ite (.next h.legXfer) (.next h.legSilent)

theorem KeptOut.execSmbusBusTimeout (h : Kept vow s) : KeptOut vow (execSmbusBusTimeout s) :=
  .ite (.next h.keep) (.next h.legSilent)

theorem KeptOut.execGaugeKeyExpiry (h : Kept vow s) : KeptOut vow (execGaugeKeyExpiry s) := .next h.keep
theorem KeptOut.gaugeWord (h : Kept vow s) {v} : KeptOut vow (gaugeWord v s) := .execSmbusWriteWord h
theorem KeptOut.execGaugeReset (h : Kept vow s) : KeptOut vow (execGaugeReset s) := .gaugeWord h
theorem KeptOut.execGaugeNop (h : Kept vow s) : KeptOut vow (execGaugeNop s) := .gaugeWord h

/-! ### Every command and every step -/

/-- PORST_N, a lost rail and a HARD cut take HALT with them. -/
def cutsPower : Instr → Bool
  | .porstNAssert | .brownOut _ | .hardCut => true
  | _ => false

theorem KeptOut.exec (h : Kept vow s) (i : Instr) (hi : vow.halt = true → cutsPower i = false) : KeptOut vow (exec i s) :=
  match i with
  | .powerGood .. => .execPowerGood h
  | .bootResume => .execBootResume h
  | .bootXtalTimeout => .execBootXtalTimeout h
  | .porstNAssert => .execPorstNAssert h fun hv => nomatch hi hv
  | .brownOut .. => .execBrownOut h fun hv => nomatch hi hv
  | .watchdogReset => .execWatchdogReset h
  | .hardCut => .execHardCut h fun hv => nomatch hi hv
  | .xtalLost => .execXtalLost h
  | .vauxWarning .. => .execVauxWarning h
  | .holdEntry .. => .execHoldEntry h
  | .holdCommitDone => .execHoldCommitDone h
  | .holdReturn .. => .execHoldReturn h
  | .fwTrialConfirm => .execFwTrialConfirm h
  | .pwrModeWrite .. => .execPwrModeWrite h
  | .windowBoundary a => .execWindowBoundary h (n := a)
  | .windowChargeEntry .. => .execWindowChargeEntry h
  | .tuningSlotEnd .. => .execTuningSlotEnd h
  | .tuningFitDone .. => .execTuningFitDone h
  | .openWireSlot .. => .execOpenWireSlot h
  | .rrefRatioCheck .. => .execRrefRatioCheck h
  | .sarRoundStart => .execSarRoundStart h
  | .sarConversionEnd .. => .execSarConversionEnd h
  | .housekeepingPeriodEnd a => .execHousekeepingPeriodEnd h (n := a)
  | .tdacDiagnosis a b => .execTdacDiagnosis h (n := a) (m := b)
  | .tdacCheck a => .execTdacCheck h (n := a)
  | .ocTrip .. => .execOcTrip h
  | .ocRelease .. => .execOcRelease h
  | .ocTripNMinEnd => .execOcTripNMinEnd h
  | .lineZeroCrossing => .execLineZeroCrossing h
  | .lineCrossingTimeout => .execLineCrossingTimeout h
  | .startSync => .execStartSync h
  | .endSync => .execEndSync h
  | .sampleInstant => .execSampleInstant h
  | .sweepStart => .execSweepStart h
  | .ropeRespReceived .. => .execRopeRespReceived h
  | .ropeAttemptTimeout .. => .execRopeAttemptTimeout h
  | .belaySend .. => .execBelaySend h
  | .reachProbe .. => .execReachProbe h
  | .throughProbe .. => .execThroughProbe h
  | .belayReturned .. => .execBelayReturned h
  | .belayNotReturned .. => .execBelayNotReturned h
  | .faultNMinEnd => .execFaultNMinEnd h
  | .tieFrameArrived .. => .execTieFrameArrived h
  | .tieFrameTimeout .. => .execTieFrameTimeout h
  | .timeUpdateDone => .execTimeUpdateDone h
  | .measurementUpdateDone .. => .execMeasurementUpdateDone h
  | .cairnBegin => .execCairnBegin h
  | .cairnComplete => .execCairnComplete h
  | .cairnDeadline .. => .execCairnDeadline h
  | .aliveToggle => .execAliveToggle h
  | .statusBlockTimer => .execStatusBlockTimer h
  | .doorbellPoll => .execDoorbellPoll h
  | .doorbellReadDone .. => .execDoorbellReadDone h
  | .submissionFetch => .execSubmissionFetch h
  | .submissionFetchDone .. => .execSubmissionFetchDone h
  | .commandStart .. => .execCommandStart h
  | .eventEntryWrite => .execEventEntryWrite h
  | .msixModerationTimeout .. => .execMsixModerationTimeout h
  | .msixVectorUnmask .. => .execMsixVectorUnmask h
  | .smrEntryWrite => .execSmrEntryWrite h
  | .ptxFetch .. => .execPtxFetch h
  | .ptpFrameTransmitted _ a _ => .execPtpFrameTransmitted h (n := a)
  | .perst => .execPerst h
  | .functionLevelReset => .execFunctionLevelReset h
  | .linkDown => .execLinkDown h
  | .bar0MisalignedAccess .. => .execBar0MisalignedAccess h
  | .registerWrite .. => .execRegisterWrite h
  | .ringEnable .. => .execRingEnable h
  | .ringDisable .. => .execRingDisable h
  | .metLoRead .. => .execMetLoRead h
  | .timNowLoRead => .execTimNowLoRead h
  | .timLatLoRead => .execTimLatLoRead h
  | .timPpsinLoRead => .execTimPpsinLoRead h
  | .ptpDomGmLoRead => .execPtpDomGmLoRead h
  | .sysEpochLoRead => .execSysEpochLoRead h
  | .diagFramesLoRead => .execDiagFramesLoRead h
  | .sarQLoRead => .execSarQLoRead h
  | .ptpTxtsTagRead => .execPtpTxtsTagRead h
  | .timLatchCapture => .execTimLatchCapture h
  | .thmDiePeakClr => .execThmDiePeakClr h
  | .sysCtrlSave => .execSysCtrlSave h
  | .ptpCtrlSave .. => .execPtpCtrlSave h
  | .legCtrlSave .. => .execLegCtrlSave h
  | .ptpDomainReconfigure .. => .execPtpDomainReconfigure h
  | .ptpMdioGo .. => .execPtpMdioGo h
  | .mdioAccessDone .. => .execMdioAccessDone h
  | .time64Second => .execTime64Second h
  | .ppsOutPulseEnd => .execPpsOutPulseEnd h
  | .cmpFire .. => .execCmpFire h
  | .trigOutPulseEnd .. => .execTrigOutPulseEnd h
  | .ppsInEdge => .execPpsInEdge h
  | .ppsLoss => .execPpsLoss h
  | .xoCorrectionUpdate => .execXoCorrectionUpdate h
  | .ptpSyncReceived .. => .execPtpSyncReceived h
  | .ptpFollowUpReceived .. => .execPtpFollowUpReceived h
  | .ptpDelayRespReceived .. => .execPtpDelayRespReceived h
  | .ptpPdelayReqReceived .. => .execPtpPdelayReqReceived h
  | .ptpPdelayRespReceived .. => .execPtpPdelayRespReceived h
  | .ptpPdelayRespFollowUpReceived .. => .execPtpPdelayRespFollowUpReceived h
  | .ptpAnnounceReceived .. => .execPtpAnnounceReceived h
  | .arpRequestReceived .. => .execArpRequestReceived h
  | .ethernetFrameDiscarded a => .execEthernetFrameDiscarded h (port := a)
  | .prxFrameReceived .. => .execPrxFrameReceived h
  | .ptpDelayReqSend .. => .execPtpDelayReqSend h
  | .ptpSyncTimeout .. => .execPtpSyncTimeout h
  | .ptpAnnounceTimeout .. => .execPtpAnnounceTimeout h
  | .ptpFreezeEnd _ a b => .execPtpFreezeEnd h (n := a) (m := b)
  | .ptpPathDelayStable _ a b => .execPtpPathDelayStable h (n := a) (m := b)
  | .hostServoTimeout => .execHostServoTimeout h
  | .urgentRecordTimer => .execUrgentRecordTimer h
  | .fullSetTimer => .execFullSetTimer h
  | .nvmPageProgrammed .. => .execNvmPageProgrammed h
  | .nvmSectorErased .. => .execNvmSectorErased h
  | .selfTestStart .. => .execSelfTestStart h
  | .selfTestDone .. => .execSelfTestDone h
  | .sramEccError .. => .execSramEccError h
  | .sramBankCopyDone .. => .execSramBankCopyDone h
  | .laneChunkTimeout .. => .execLaneChunkTimeout h
  | .traverseAdmission .. => .execTraverseAdmission h
  | .traverseChunkEnd .. => .execTraverseChunkEnd h
  | .traverseResultsDone .. => .execTraverseResultsDone h
  | .traverseWallTimeout .. => .execTraverseWallTimeout h
  | .traverseShareHalving => .execTraverseShareHalving h
  | .authFetchTimer .. => .execAuthFetchTimer h
  | .authVerifyDone .. => .execAuthVerifyDone h
  | .authRenewTimer .. => .execAuthRenewTimer h
  | .authRetryTimer .. => .execAuthRetryTimer h
  | .balOverrideExpiry .. => .execBalOverrideExpiry h
  | .smbusReadWord .. => .execSmbusReadWord h
  | .smbusWriteWord .. => .execSmbusWriteWord h
  | .smbusReadByte .. => .execSmbusReadByte h
  | .smbusWriteByte .. => .execSmbusWriteByte h
  | .smbusUnsupportedProtocol .. => .execSmbusUnsupportedProtocol h
  | .smbusBusTimeout => .execSmbusBusTimeout h
  | .gaugeKeyExpiry => .execGaugeKeyExpiry h
  | .gaugeReset => .execGaugeReset h
  | .gaugeNop => .execGaugeNop h
  | .nop .. => .execNop h
  | .identify .. => .execIdentify h
  | .configLoad .. => .execConfigLoad h
  | .configRead .. => .execConfigRead h
  | .paramLoad .. => .execParamLoad h
  | .paramCommit .. => .execParamCommit h
  | .paramRead .. => .execParamRead h
  | .ropeTieIn .. => .execRopeTieIn h
  | .ropeRaw .. => .execRopeRaw h
  | .ropeMapRead .. => .execRopeMapRead h
  | .balPolicy .. => .execBalPolicy h
  | .balOverride .. => .execBalOverride h
  | .traverseStart .. => .execTraverseStart h
  | .traverseAbort .. => .execTraverseAbort h
  | .traverseStatus .. => .execTraverseStatus h
  | .cairnSetup .. => .execCairnSetup h
  | .stateRead .. => .execStateRead h
  | .stateWrite .. => .execStateWrite h
  | .tuneNow .. => .execTuneNow h
  | .tuneRead .. => .execTuneRead h
  | .selftest .. => .execSelftest h
  | .authChallenge .. => .execAuthChallenge h
  | .keyInstall .. => .execKeyInstall h
  | .sealDevice .. => .execSealDevice h
  | .attest .. => .execAttest h
  | .nvmCheckpoint .. => .execNvmCheckpoint h
  | .logRead .. => .execLogRead h
  | .timeSet .. => .execTimeSet h
  | .timeStatus .. => .execTimeStatus h
  | .sarSeqSet .. => .execSarSeqSet h
  | .sarInject .. => .execSarInject h
  | .limitSet .. => .execLimitSet h
  | .retire .. => .execRetire h
  | .restore .. => .execRestore h
  | .fwUpdate .. => .execFwUpdate h
  | .shutdown .. => .execShutdown h
  | .sweepDeadline => .execSweepDeadline h
  | .tuneNowTimeout => .execTuneNowTimeout h
  | .setAtPpsTimeout => .execSetAtPpsTimeout h
  | .authSignatureTimeout .. => .execAuthSignatureTimeout h
  | .slewEnd => .execSlewEnd h
  | .vauxWarningRearm .. => .execVauxWarningRearm h
  | .perstRelease => .execPerstRelease h
  | .bleedOpenWaitEnd => .execBleedOpenWaitEnd h
  | .transientHistoryExpiry .. => .execTransientHistoryExpiry h

/-- Settles O5: of the commands only SEAL and KEY_INSTALL touch the seal or a slot, the one by sealing, the other where a slot is empty. -/
theorem sealAndRootKeysStay : Obligations.SealAndRootKeysStay := by
  intro s t hstep
  have h : Kept ⟨s.sec.sealed, s.sec.slots, false⟩ s := ⟨id, fun _ _ => id, nofun⟩
  have ht : Kept ⟨s.sec.sealed, s.sec.slots, false⟩ t := by
    unfold step at hstep
    split at hstep
    · exact KeptOut.exec h.keep _ nofun _ hstep
    · exact KeptOut.next h.idle _ hstep
  exact ⟨ht.sealed, ht.slots⟩

/-- HALT stands under every command that cuts no power. -/
theorem exec_keeps_halt {i : Instr} {s t : State} (hs : s.pwr.state = .halt) (hstarted : s.pwr.started = true) (hi : cutsPower i = false)
    (ht : exec i s = .next t) : t.pwr.state = .halt := by
  have h : Kept ⟨false, [], true⟩ s := ⟨nofun, nofun, fun _ => ⟨hs, hstarted⟩⟩
  exact ((KeptOut.exec h i (fun _ => hi) t ht).halt rfl).1

end Sys2Proof.Machine

namespace Sys2Proof.Machine

/-! ## The end of the stop: HALT -/

theorem completeOpt_postsOnly (op : Nat) (sub : Option Submission) (st : Nat) (r : List Byte) (s : State) :
    PostsOnly s (completeOpt op sub st r s) := by
  cases sub with
  | none => exact .refl s
  | some x => exact .complete op x st r s

theorem ropeStr_map_silent (s : State) (f : RopeStr → RopeStr) (hf : ∀ r, (f r).silent = true) (hreset : RopeStr.reset.silent = true) (n : Nat) :
    ((s.rope.strs.map f).getD n RopeStr.reset).silent = true := by
  simp only [List.getD_eq_getElem?_getD, List.getElem?_map]
  cases s.rope.strs[n]? with
  | none => exact hreset
  | some r => exact hf r

/-- In HALT the pins are those of R465, over the trigger levels, VREFTH, the clock, the link and the MDIO lines as they are. -/
theorem pins_haltPins {s t : State} (hheld : pinsHeld t = false) (hstate : t.pwr.state = .halt) (hrope : t.rope = (haltPins s).rope)
    (hfrm : t.frm = (haltPins s).frm) (htim : t.tim = (haltPins s).tim) (hsar : t.sar = (haltPins s).sar)
    (hcairn : t.cairn = (haltPins s).cairn) (hptp : t.ptp = (haltPins s).ptp) :
    pins t = { PinView.held true with
      trigOut := s.tim.cmps.map (·.pol), vrefth := t.pwr.vrefth, refclk := t.clk.running, pet := t.hif.linkUp,
      mdc := s.ptp.ports.any (·.mdioGo), mdio := s.ptp.ports.any (·.mdioGo) } := by
  have hsilent : ∀ n, (t.ropeStr n).silent = true := fun n => by
    rw [State.ropeStr, hrope]
    exact ropeStr_map_silent s _ (fun _ => rfl) (by decide) n
  have hfault : faultN t = true := by simp [faultN, sysFault, hstate, bit]
  have hropes : ∀ e, (List.range 8).map (ropeDriven t e) = List.replicate 8 false := fun e => by
    have hdriven : ropeDriven t e = fun _ => false := funext fun n => by simp [ropeDriven, hsilent n]
    rw [hdriven]; rfl
  have hleg : t.legAnswers = false := by simp [State.legAnswers, hfrm, haltPins]
  rw [pins, if_neg (by simp [hheld])]
  simp [PinView.held, hfault, hropes, hleg, hstate, htim, hsar, hcairn, hptp, haltPins, CmpUnit.level, Function.comp_def]

/-- The state in which BLEED_OPEN_WAIT_END enters HALT: SHUTDOWN is answered, and the outputs take their HALT states. -/
def bleedOver (s : State) : State :=
  let u := completeOpt 0x7F s.pwr.stopSub stOK [] s
  haltPins { u with pwr := { u.pwr with stopStep := .none, stopSub := none } }

theorem bleedOpenWaitEnd_eq {s : State} (hs : s.pwr.state = .stopping) (hb : s.pwr.stopStep = .bleed) :
    exec .bleedOpenWaitEnd s = .next (writeStatus (enterPower .halt (bleedOver s))) :=
  if_pos (by simp [hs, hb])

/-- SHUTDOWN's answer and the end of its step are all that HALT's outputs are laid over. -/
theorem bleedOver_frame (s : State) : ∃ u, PostsOnly s u ∧ bleedOver s = haltPins { u with pwr := { s.pwr with stopStep := .none, stopSub := none } } := by
  have hu := completeOpt_postsOnly 0x7F s.pwr.stopSub stOK [] s
  refine ⟨_, hu, ?_⟩
  have hpwr : (completeOpt 0x7F s.pwr.stopSub stOK [] s).pwr = s.pwr := (congrArg State.pwr hu.frame :)
  rw [bleedOver, hpwr]

theorem shutdown_in_halt {s : State} {sub : Submission} (hs : s.pwr.state = .halt) (hw : s.cmdWaits 0x7F sub = false)
    (hform : (sub.formOk [(0, 4)] && sub.noBuf && sub.pU 0 4 == 0x53544F50) = true) :
    exec (.shutdown sub) s = .next (complete 0x7F sub stBusy [] s) := by
  have hexec : exec (.shutdown sub) s = execShutdown sub s := rfl
  rw [hexec, execShutdown]
  exact runCmd_of_failed (l := [_]) hw (by simpa using hform) (by simp [State.accepts, hs])

/-- A command that is no reset and no loss of a rail cuts no power. -/
theorem cutsPower_eq_false {c : Instr} (hporst : c ≠ .porstNAssert) (hbrown : ∀ mv, c ≠ .brownOut mv) (hhard : c ≠ .hardCut) :
    cutsPower c = false := by
  cases c with
  | porstNAssert => exact absurd rfl hporst
  | brownOut mv => exact absurd rfl (hbrown mv)
  | hardCut => exact absurd rfl hhard
  | _ => rfl

/-- Settles O17: the state that enters HALT is haltPins over the answer to SHUTDOWN, and `exec_keeps_halt` says that HALT stands. -/
theorem bleedWaitEndsInHalt : Obligations.BleedWaitEndsInHalt := by
  refine ⟨fun s sub => ⟨fun hs hb => ?_, fun hs hw hform hnoBuf hmagic => ?_⟩, fun c s t hs hstarted hporst hbrown hhard ht => ?_⟩
  · obtain ⟨u, hpost, hover⟩ := bleedOver_frame s
    have hu := hpost.frame
    refine ⟨_, bleedOpenWaitEnd_eq hs hb, ?_⟩
    rw [hover]
    generalize hv : ({ u with pwr := { s.pwr with stopStep := .none, stopSub := none } } : State) = v
    generalize ht : writeStatus (enterPower .halt (haltPins v)) = t
    have hstate : t.pwr.state = .halt := by subst ht; simp; rfl
    have hmv : t.pwr.vcoreMv = 650 := by subst ht; simp; rfl
    refine ⟨hstate, hmv, ?_⟩
    have hvpwr : v.pwr = { s.pwr with stopStep := .none, stopSub := none } := by subst hv; rfl
    have hvclk : v.clk = s.clk := by subst hv; exact (congrArg State.clk hu :)
    have hvtim : v.tim = s.tim := by subst hv; exact (congrArg State.tim hu :)
    have hvptp : v.ptp = s.ptp := by subst hv; exact (congrArg State.ptp hu :)
    have hvlink : v.hif.linkUp = s.hif.linkUp := by subst hv; exact hpost.link
    have hcairn : t.cairn = (haltPins v).cairn := by subst ht; simp
    have htim : t.tim = (haltPins v).tim := by subst ht; simp
    have hsar : t.sar = (haltPins v).sar := by subst ht; simp
    have hfrm : t.frm = (haltPins v).frm := by subst ht; simp
    refine ⟨by rw [hcairn]; rfl, by rw [htim]; rfl, by rw [hsar]; rfl, by rw [htim]; simp [haltPins], by rw [hfrm]; rfl,
      by simp [faultN, sysFault, hstate, bit], fun hheld => ?_⟩
    have htpwr : t.pwr = (enterPower .halt (haltPins v)).pwr := by subst ht; simp
    have hheld' : pinsHeld t = false := by
      rw [← hheld, pinsHeld, pinsHeld, htpwr]
      change (v.pwr.porstLow || v.pwr.hardLatch || !v.pwr.started) = _
      rw [hvpwr]
    rw [pins_haltPins hheld' hstate (by subst ht; simp) hfrm htim hsar hcairn (by subst ht; simp)]
    have hvrefth : t.pwr.vrefth = s.pwr.vrefth := by rw [htpwr]; exact (congrArg (·.vrefth) hvpwr :)
    have hclk : t.clk = s.clk := by subst ht; simpa [haltPins] using hvclk
    have hlink : t.hif.linkUp = s.hif.linkUp := by subst ht; simpa [haltPins] using hvlink
    rw [hvrefth, hclk, hlink, hvtim, hvptp]
  · exact shutdown_in_halt hs hw (by simp [hform, hnoBuf, hmagic])
  · exact exec_keeps_halt hs hstarted (cutsPower_eq_false hporst hbrown hhard) ht

end Sys2Proof.Machine

namespace Sys2Proof.Machine

/-! ## Whole-device resets -/

/-- From `s` to `t` nothing moves but what the event log has in store and on its way there. -/
def LogsOnly (s t : State) : Prop :=
  ∃ buf ring seq lost, t = { s with nvm := { s.nvm with logBuf := buf, logRing := ring, logSeq := seq, logLost := lost } }

theorem LogsOnly.refl (s : State) : LogsOnly s s := ⟨_, _, _, _, rfl⟩

theorem LogsOnly.trans {s t u : State} (h : LogsOnly s t) (k : LogsOnly t u) : LogsOnly s u := by
  obtain ⟨_, _, _, _, rfl⟩ := h
  obtain ⟨_, _, _, _, rfl⟩ := k
  exact ⟨_, _, _, _, rfl⟩

theorem LogsOnly.pushLog (c t i n : Nat) (s : State) : LogsOnly s (pushLog c t i n s) := ⟨_, _, _, _, rfl⟩

theorem LogsOnly.logAdd (c t i n : Nat) (s : State) : LogsOnly s (logAdd c t i n s) := by
  unfold Machine.logAdd
  dsimp only
  repeat' split
  all_goals exact ⟨_, _, _, _, rfl⟩

theorem LogsOnly.flushLog (s : State) : LogsOnly s (flushLog s) := by
  unfold Machine.flushLog
  split <;> exact ⟨_, _, _, _, rfl⟩

theorem LogsOnly.flushAll (s : State) : LogsOnly s (flushAll s) :=
  List.foldlRecOn (motive := LogsOnly s) _ _ (.refl s) fun u hu _ _ => by
    split
    · exact hu
    · exact hu.trans (.flushLog u)

/-- What the exit from HOLD logs before a reset. -/
def beforeReset (s : State) : State :=
  if s.pwr.state != .hold then s else if s.pwr.holdFrom == .boot then leaveHold s else flushAll (leaveHold s)

theorem resetFromHold_eq (cause : ResetCause) (s : State) : resetFromHold cause s = wholeReset cause (beforeReset s) := rfl

theorem beforeReset_logsOnly (s : State) : LogsOnly s (beforeReset s) := by
  have hleave : LogsOnly s (leaveHold s) := .logAdd ..
  unfold beforeReset
  split
  · exact .refl s
  split
  · exact hleave
  · exact hleave.trans (.flushAll _)

theorem beforeReset_of_ne_hold {s : State} (h : s.pwr.state ≠ .hold) : beforeReset s = s := if_pos (by simpa using h)

/-- What a reset of each kind says of its cause and of the supply, over the reset itself. -/
def relabel (cause : ResetCause) (hard low latch out : Bool) (s : State) : State :=
  { s with pwr := { s.pwr with nextCause := cause, nextHard := hard, porstLow := low, hardLatch := latch }, diag := { s.diag with supplyOut := out } }

/-- A reset gives every block its reset values. -/
theorem blocksReset_relabel (cause k : ResetCause) (hard low latch out : Bool) (s : State) :
    BlocksReset s (relabel k hard low latch out (wholeReset cause s)) := by
  unfold BlocksReset
  refine ⟨rfl, rfl, rfl, rfl, rfl, rfl, rfl, rfl, rfl, rfl, rfl, rfl, rfl, rfl, rfl, rfl, rfl, rfl, rfl, rfl, rfl, rfl, rfl, rfl, rfl⟩

theorem blocksReset_wholeReset (cause : ResetCause) (s : State) : BlocksReset s (wholeReset cause s) :=
  blocksReset_relabel cause _ _ _ _ _ s

/-- Where no record waits, the log's ring stays. -/
theorem logRing_afterReset {n : Nvm} (h : n.logBuf = []) (logging : Bool) : (n.afterReset logging).logRing = n.logRing := by
  change (if logging then n.logRing ++ tornPage n.logBuf else n.logRing) = _
  rw [h]
  split <;> simp [tornPage]

/-- What a reset takes over from the state that it ends, but for the flash. -/
structure ResetRoots (s t : State) : Prop where
  perst     : t.hif.perst = s.hif.perst
  bootCount : t.sys.bootCount = s.sys.bootCount
  sec       : t.sec = s.sec
  stored    : t.cfg.stored = s.cfg.stored
  bankA     : t.pwr.bankA = s.pwr.bankA
  bankB     : t.pwr.bankB = s.pwr.bankB
  runB      : t.pwr.runB = s.pwr.runB
  trial     : t.pwr.trial = s.pwr.trial

theorem ResetRoots.blocksReset {s t r : State} (h : ResetRoots s t) (k : BlocksReset t r) : BlocksReset s r := by
  obtain ⟨hperst, hboot, hsec, hstored, hbankA, hbankB, hrunB, htrial⟩ := h
  rw [BlocksReset, hperst, hboot, hsec, hstored, hbankA, hbankB, hrunB, htrial] at k
  exact k

/-- A reset of a state that differs in its log alone is one of the state itself. -/
theorem LogsOnly.resetRoots {s u : State} (h : LogsOnly s u) : ResetRoots s u := by
  obtain ⟨_, _, _, _, rfl⟩ := h
  exact ⟨rfl, rfl, rfl, rfl, rfl, rfl, rfl, rfl⟩

/-- What the flash, the outside and the queue keep of `s`. -/
structure FlashStays (s t : State) : Prop where
  urgent  : t.nvm.urgent = s.nvm.urgent
  set     : t.nvm.set = s.nvm.set
  saved   : t.nvm.saved = s.nvm.saved
  secs    : t.nvm.secs = s.nvm.secs
  wear    : t.nvm.wear = s.nvm.wear
  hostMem : t.hostMem = s.hostMem
  pending : t.pending = s.pending

theorem LogsOnly.flashStays {s u : State} (h : LogsOnly s u) : FlashStays s u := by
  obtain ⟨_, _, _, _, rfl⟩ := h
  exact ⟨rfl, rfl, rfl, rfl, rfl, rfl, rfl⟩

theorem pins_of_not_started {t : State} (h : t.pwr.started = false) : pins t = PinView.held (Config.buckOn t.free) :=
  if_pos (by simp [pinsHeld, h])

/-! ### PERST# under a completion -/

theorem sendMsg_perst (v : Nat) (s : State) : (sendMsg v s).hif.perst = s.hif.perst := by
  unfold sendMsg
  split <;> rfl

theorem signal_perst (v : Nat) (s : State) : (signal v s).hif.perst = s.hif.perst := by
  unfold signal moderate
  dsimp only
  split
  · exact sendMsg_perst ..
  · rfl

theorem complete_perst (op : Nat) (sub : Submission) (st : Nat) (r : List Byte) (s : State) :
    (complete op sub st r s).hif.perst = s.hif.perst := by
  unfold complete
  split
  · rfl
  · simp only [finishCmd, postCompletion, postEntry]
    repeat' split
    all_goals simp [State.modRing, State.dma, signal_perst]

/-! ### The restart that follows the record of ACTIVATE_RESTART (R411) -/

theorem urgentDone_of_restart {u : UrgentRec} (hu : u.kind = 2) (sub : Submission) (secs : List Nat) (s : State) :
    (urgentDone u (some sub) secs s).pwr = { s.pwr with restart := true } ∧ (urgentDone u (some sub) secs s).hif.perst = s.hif.perst ∧
    (urgentDone u (some sub) secs s).cfg = s.cfg ∧ (urgentDone u (some sub) secs s).sys = s.sys ∧ (urgentDone u (some sub) secs s).sec = s.sec ∧
    (urgentDone u (some sub) secs s).nvm =
      { s.nvm with urgent := some u, urgSecs := secs, urgOld := (urgentDone u (some sub) secs s).nvm.urgOld, urgTick := s.clk.ticks } := by
  rw [urgentDone, if_neg (by omega), if_pos (c := (some sub).isSome = true) rfl]
  simp [completeOpt, complete_perst]

/-- Page placed: a job of the journal has the sector in use among its own. -/
def placedJob (s : State) (j : NvmJob) : NvmJob :=
  if 1 < j.what.rank then j
  else { j with secs := if j.secs.contains (s.nvm.jCur.getD 0) then j.secs else j.secs ++ [s.nvm.jCur.getD 0] }

@[simp] theorem placedJob_what (s : State) (j : NvmJob) : (placedJob s j).what = j.what := by unfold placedJob; split <;> rfl
@[simp] theorem placedJob_left (s : State) (j : NvmJob) : (placedJob s j).left = j.left := by unfold placedJob; split <;> rfl
@[simp] theorem placedJob_sub (s : State) (j : NvmJob) : (placedJob s j).sub = j.sub := by unfold placedJob; split <;> rfl
@[simp] theorem placedJob_begun (s : State) (j : NvmJob) : (placedJob s j).begun = j.begun := by unfold placedJob; split <;> rfl
@[simp] theorem placedJob_tries (s : State) (j : NvmJob) : (placedJob s j).tries = j.tries := by unfold placedJob; split <;> rfl

/-- Page placed: the write position of the journal goes on. -/
def pagePlaced (j : NvmJob) (s : State) : State :=
  if 1 < j.what.rank then s else { s with nvm := { s.nvm with jPos := s.nvm.jPos + 1 } }

/-- The page of a job that needs no sector opened has its place. -/
theorem placePage_here {j : NvmJob} {s : State} (h : 1 < j.what.rank ∨ (s.nvm.jCur.isSome = true ∧ s.nvm.jPos < 16)) :
    placePage j s = some (placedJob s j, pagePlaced j s) := by
  by_cases hrank : 1 < j.what.rank
  · rw [placePage, placedJob, pagePlaced, if_pos hrank, if_pos hrank, if_pos hrank]
  · obtain ⟨hcur, hpos⟩ := h.resolve_left hrank
    rw [placePage, placedJob, pagePlaced, if_neg hrank, if_neg hrank, if_neg hrank, if_pos (by simp [hcur, hpos])]
    rfl

theorem pageEnd_of_place {s : State} {j : NvmJob} {r : List NvmJob} {p : NvmJob × State} (ok : Bool) (htail : s.nvm.tail = false)
    (hjobs : s.nvm.jobs = j :: r) (hplace : placePage j s = some p) : pageEnd ok s = jobPage ok p.1 r p.2 := by
  rw [pageEnd, if_neg (by simp [htail]), hjobs]
  dsimp only
  rw [hplace]

theorem nvmPageProgrammed_of_live {s : State} (hlive : s.live = true) (ok : Bool) :
    exec (.nvmPageProgrammed ok) s = .next (restartIf (stopFlash (pageEnd ok s))) :=
  if_neg (by simp [State.flashOn, hlive])

/-- In a start and in work the flash's end of the stop is not due. -/
theorem stopFlash_of_ne_stopping {s : State} (h : s.pwr.state ≠ .stopping) : stopFlash s = s := if_pos (by simpa using h)

theorem State.ne_stopping_of_live {s : State} (h : s.live = true) : s.pwr.state ≠ .stopping := fun hs => by simp [State.live, hs] at h

/-- A restart that is due resets a device that is up. -/
theorem restartIf_of_live {s : State} (hlive : s.live = true) (hr : s.pwr.restart = true) : restartIf s = wholeReset .fwRestart s := by
  rw [restartIf, if_pos (by simp [hr, hlive]), resetFromHold_eq, beforeReset_of_ne_hold (by simpa using State.not_hold_of_live hlive)]

/-- The last page of ACTIVATE_RESTART's record: the record counts and the device resets. -/
theorem restart_after_record {s : State} {j : NvmJob} {u : UrgentRec} {sub : Submission} (hlive : s.live = true) (htail : s.nvm.tail = false)
    (hjobs : s.nvm.jobs = [j]) (hleft : j.left ≤ 1) (hwhat : j.what = .urgent 2 (some u)) (hkind : u.kind = 2) (hsub : j.sub = some sub)
    (hcur : s.nvm.jCur.isSome = true) (hpos : s.nvm.jPos < 16) :
    ∃ v, exec (.nvmPageProgrammed true) s = .next (wholeReset .fwRestart v) ∧ ResetRoots s v ∧ v.nvm.urgent = some u ∧ v.nvm.set = s.nvm.set ∧
      v.nvm.saved = s.nvm.saved ∧ v.nvm.secs = s.nvm.secs ∧ v.nvm.wear = s.nvm.wear := by
  have hrank : ¬ 1 < j.what.rank := by simp [hwhat, NvmWrite.rank]
  have hend : pageEnd true s =
      settle (urgentDone u (some sub) (placedJob s j).secs { s with nvm := { s.nvm with jPos := s.nvm.jPos + 1, jobs := [] } }) := by
    rw [pageEnd_of_place true htail hjobs (placePage_here (.inr ⟨hcur, hpos⟩)), jobPage, if_pos rfl, if_pos (by simpa using hleft), finishJob,
      placedJob_what, hwhat, placedJob_sub, hsub, pagePlaced, if_neg hrank]
  generalize hw : ({ s with nvm := { s.nvm with jPos := s.nvm.jPos + 1, jobs := [] } } : State) = w at hend
  obtain ⟨hpwr, hperst, hcfg, hsys, hsec, hnvm⟩ := urgentDone_of_restart hkind sub (placedJob s j).secs w
  generalize urgentDone u (some sub) (placedJob s j).secs w = v at hend hpwr hperst hcfg hsys hsec hnvm
  have hruns : v.headRuns := .inr (by rw [hnvm]; subst hw; rfl)
  have hvlive : v.live = true := by
    rw [← hlive, State.live, State.live, hpwr]
    subst hw; rfl
  refine ⟨v, ?_, ?_, ?_⟩
  · rw [nvmPageProgrammed_of_live hlive, hend, settle_of_headRuns hruns, stopFlash_of_ne_stopping (State.ne_stopping_of_live hvlive),
      restartIf_of_live hvlive (by rw [hpwr])]
  · subst hw
    exact ⟨hperst, congrArg _ hsys, hsec, congrArg _ hcfg, by rw [hpwr], by rw [hpwr], by rw [hpwr], by rw [hpwr]⟩
  · rw [hnvm]
    subst hw
    exact ⟨rfl, rfl, rfl, rfl, rfl⟩

/-- Settles O15: every reset of R479 is `wholeReset` of the state, of one that differs in its log alone, or of the one whose record counts. -/
theorem wholeDeviceResets : Obligations.WholeDeviceResets := by
  refine ⟨fun s mv c hc => ?_, fun s j u sub hlive htail hjobs hbegun hleft hwhat hkind hsub hcur hpos => ?_, fun s hs => if_neg (by simp [hs]),
    fun s r hlatch => ⟨if_pos (by simp [hlatch]), _, rfl, rfl, ?_⟩⟩
  · have hring : s.nvm.logBuf = [] → s.pwr.state ≠ .hold → (s.nvm.afterReset (s.logPaging || s.nvm.tailLog)).logRing = s.nvm.logRing :=
      fun hbuf _ => logRing_afterReset hbuf _
    rcases hc with rfl | rfl | rfl | ⟨rfl, hstarted, hne⟩ | ⟨rfl, hs, hdone, hresume, hmv⟩
    · exact ⟨_, rfl, blocksReset_relabel .., rfl, rfl, rfl, hring, rfl, rfl, rfl, rfl, nofun, nofun, nofun, nofun,
        fun _ => ⟨rfl, rfl⟩, pins_of_not_started rfl⟩
    · exact ⟨_, rfl, blocksReset_relabel .., rfl, rfl, rfl, hring, rfl, rfl, rfl, rfl, nofun, nofun, fun _ => rfl, nofun,
        nofun, pins_of_not_started rfl⟩
    · exact ⟨_, rfl, blocksReset_relabel .., rfl, rfl, rfl, hring, rfl, rfl, rfl, rfl, nofun, fun _ => rfl, nofun, nofun,
        nofun, pins_of_not_started rfl⟩
    · have hlogs := beforeReset_logsOnly s
      have hkeep := hlogs.flashStays
      refine ⟨_, if_pos (by simpa [hstarted] using hne), hlogs.resetRoots.blocksReset (blocksReset_wholeReset ..), hkeep.urgent, hkeep.set, hkeep.saved,
        fun hbuf hhold => ?_, hkeep.secs, hkeep.wear, hkeep.hostMem, hkeep.pending, fun _ => rfl, nofun, nofun, nofun, nofun,
        pins_of_not_started rfl⟩
      rw [resetFromHold_eq, beforeReset_of_ne_hold hhold]
      exact hring hbuf hhold
    · have hlogs := beforeReset_logsOnly { s with pwr := { s.pwr with vauxMv := mv } }
      have hkeep := hlogs.flashStays
      have hexec : exec (.holdReturn mv) s = .next (resetFromHold .holdReset { s with pwr := { s.pwr with vauxMv := mv } }) :=
        (if_pos (by simpa [hs, hdone] using hmv)).trans (if_neg (by simp [hresume]))
      exact ⟨_, hexec, hlogs.resetRoots.blocksReset (blocksReset_wholeReset ..), hkeep.urgent, hkeep.set, hkeep.saved,
        fun _ h => absurd hs h, hkeep.secs, hkeep.wear, hkeep.hostMem, hkeep.pending, nofun, nofun, nofun, fun _ => rfl, nofun,
        pins_of_not_started rfl⟩
  · obtain ⟨v, hexec, hroots, hurgent, hset, hsaved, hsecs, hwear⟩ := restart_after_record hlive htail hjobs hleft hwhat hkind hsub hcur hpos
    exact ⟨_, hexec, hroots.blocksReset (blocksReset_wholeReset ..), hurgent, hset, hsaved, hsecs, hwear, rfl, pins_of_not_started rfl⟩
  · simp [hlatch]

end Sys2Proof.Machine

namespace Sys2Proof.Machine

/-! ## The orderly stop begins -/

/-- Which units are out of service, and the saved registers, which keep them. -/
def State.service (s : State) : BitVec 16 × BitVec 2 × BitVec 16 × BitVec 64 × BitVec 16 × SavedRegs :=
  (s.diag.retQ, s.diag.retF, s.diag.retRope, s.diag.lanes, s.diag.retBanks, s.nvm.saved)

theorem service_of_keeps {s t : State} (hdiag : t.diag = s.diag) (hsaved : t.nvm.saved = s.nvm.saved) : t.service = s.service := by
  rw [State.service, State.service, hdiag, hsaved]

theorem complete_service (op : Nat) (sub : Submission) (st : Nat) (r : List Byte) (s : State) : (complete op sub st r s).service = s.service :=
  service_of_keeps (by simp) (by simp)

theorem raise_service (e i : Nat) (s : State) : (raise e i s).service = s.service := service_of_keeps (by simp) (SparesPtp.raise e i s).saved

/-- From `s` to `t` neither the power state's block nor the thermal one moves, and no unit comes into service or leaves it. -/
def SparesPower (s t : State) : Prop := t.pwr = s.pwr ∧ t.thm = s.thm ∧ t.service = s.service

theorem SparesPower.refl (s : State) : SparesPower s s := ⟨rfl, rfl, rfl⟩

theorem SparesPower.trans {s t u : State} (h : SparesPower s t) (k : SparesPower t u) : SparesPower s u := by
  obtain ⟨hpwr, hthm, hservice⟩ := h
  obtain ⟨kpwr, kthm, kservice⟩ := k
  exact ⟨kpwr.trans hpwr, kthm.trans hthm, kservice.trans hservice⟩

theorem SparesPower.foldl {α : Type} {f : State → α → State} (h : ∀ t a, SparesPower t (f t a)) (l : List α) (s : State) :
    SparesPower s (l.foldl f s) :=
  List.foldlRecOn (motive := SparesPower s) _ _ (.refl s) fun t ht a _ => ht.trans (h t a)

theorem SparesPower.endJob (r t : Nat) (j : Job) (s : State) : SparesPower s (endJob r t j s) := by
  simp only [SparesPower, State.service, Machine.endJob, writeFinal, writePoint, leaveTurn]
  repeat' split
  all_goals simp

theorem SparesPower.abortJobs (s : State) : SparesPower s (abortJobs s) :=
  .foldl (fun t j => by
    split
    · exact .refl t
    split
    · exact .endJob ..
    · exact .refl t) _ s

theorem SparesPower.complete (op : Nat) (sub : Submission) (st : Nat) (r : List Byte) (s : State) : SparesPower s (complete op sub st r s) :=
  ⟨by simp, by simp, complete_service ..⟩

theorem SparesPower.completeOpt (op : Nat) (sub : Option Submission) (st : Nat) (r : List Byte) (s : State) :
    SparesPower s (completeOpt op sub st r s) := by
  cases sub with
  | none => exact .refl s
  | some x => exact .complete op x st r s

theorem SparesPower.spoil (j : NvmJob) (s : State) : SparesPower s (j.spoil s) := by
  unfold NvmJob.spoil
  split
  · exact .refl s
  · split <;> exact ⟨rfl, rfl, rfl⟩

theorem SparesPower.tear (j : NvmJob) (s : State) : SparesPower s (j.tear s) := ⟨rfl, rfl, rfl⟩

theorem SparesPower.cutJob (j : NvmJob) (s : State) : SparesPower s (cutJob j s) :=
  ((SparesPower.spoil j s).trans (.tear j _)).trans (.completeOpt ..)

theorem SparesPower.openSector {s t : State} (h : openSector s = some t) : SparesPower s t := by
  unfold Machine.openSector at h
  split at h
  · exact absurd h nofun
  · obtain ⟨i, -, rfl⟩ := Option.map_eq_some_iff.1 h
    exact ⟨rfl, rfl, rfl⟩

theorem SparesPower.placePage {s : State} {j : NvmJob} {p : NvmJob × State} (h : placePage j s = some p) : SparesPower s p.2 := by
  unfold Machine.placePage at h
  split at h
  · obtain rfl := Option.some.inj h
    exact .refl s
  · obtain ⟨u, hu, rfl⟩ := Option.map_eq_some_iff.1 h
    split at hu
    · obtain rfl := Option.some.inj hu
      exact ⟨rfl, rfl, rfl⟩
    · exact (SparesPower.openSector hu).trans ⟨rfl, rfl, rfl⟩

theorem SparesPower.cutJobs (logging : Bool) (s : State) : SparesPower s (cutJobs logging s) := by
  unfold Machine.cutJobs
  refine .trans (?_ : SparesPower s _) (.foldl (fun t j => .cutJob j t) _ _)
  refine .trans (?_ : SparesPower s _) ⟨rfl, rfl, rfl⟩
  split
  · split
    · split
      next hp => exact .placePage hp
      next => exact .refl s
    · exact .refl s
  · exact .refl s

theorem SparesPower.stopTests (s : State) : SparesPower s (stopTests s) :=
  .trans ⟨rfl, rfl, rfl⟩ (.foldl (fun t (c : Submission × Bool) => .complete _ c.1 _ _ t) _ _)

theorem stopTests_keeps (s : State) :
    (stopTests s).sys = s.sys ∧ (stopTests s).ptp = s.ptp ∧ (stopTests s).leg = s.leg ∧ (stopTests s).nvm = s.nvm :=
  ⟨foldl_keeps State.sys _ (fun _ _ => by simp) _ _, foldl_keeps State.ptp _ (fun _ _ => by simp) _ _,
    foldl_keeps State.leg _ (fun _ _ => by simp) _ _, foldl_keeps State.nvm _ (fun _ _ => by simp) _ _⟩

theorem stopTests_units (s : State) : ∀ d ∈ (stopTests s).diag.units, d.testing = false := by
  have hdiag : (stopTests s).diag.units = s.diag.units.map (fun d => { d with testing := false, running := false, report := false, cmds := [] }) :=
    foldl_keeps (fun t : State => t.diag.units) _ (fun _ _ => by simp) _ _
  rw [hdiag]
  intro d hd
  obtain ⟨e, -, rfl⟩ := List.mem_map.1 hd
  rfl

/-- The stop has begun: its command waits, and no store of registers and no self-test goes on. -/
structure StopBegun (sub : Option Submission) (s t : State) : Prop where
  state    : t.pwr.state = .stopping
  stopSub  : t.pwr.stopSub = sub
  xtalLost : t.pwr.xtalLost = s.pwr.xtalLost
  orderly  : t.thm.orderly = true
  sysSave  : t.sys.save = false
  ptpSave  : t.ptp.save = false
  legSave  : t.leg.save = false
  saves    : t.nvm.saves = []
  units    : ∀ d ∈ t.diag.units, d.testing = false
  service  : t.service = s.service

/-- What the stop cuts off as it begins. -/
def stopCut (cause : Nat) (sub : Option Submission) (s : State) : State :=
  let u := enterPower .stopping { s with pwr := { s.pwr with stopSub := sub }, thm := { s.thm with orderly := true } }
  stopTests (dropSaves (cutJobs s.logPaging (abortJobs (raise 49 cause (writeStatus u)))))

theorem stopCut_begun (cause : Nat) (sub : Option Submission) (s : State) : StopBegun sub s (stopCut cause sub s) := by
  rw [stopCut]
  dsimp only
  generalize hu : enterPower .stopping { s with pwr := { s.pwr with stopSub := sub }, thm := { s.thm with orderly := true } } = u
  have hraised : SparesPower u (raise 49 cause (writeStatus u)) :=
    ⟨by simp, by simp, (raise_service ..).trans (service_of_keeps (by simp) (by simp))⟩
  have hspares := (hraised.trans (.abortJobs _)).trans (.cutJobs s.logPaging _)
  generalize cutJobs s.logPaging (abortJobs (raise 49 cause (writeStatus u))) = v at hspares
  have hdrop : SparesPower v (dropSaves v) := ⟨rfl, rfl, rfl⟩
  obtain ⟨hpwr, hthm, hservice⟩ := (hspares.trans hdrop).trans (.stopTests _)
  obtain ⟨hsys, hptp, hleg, hnvm⟩ := stopTests_keeps (dropSaves v)
  have hunits := stopTests_units (dropSaves v)
  generalize stopTests (dropSaves v) = t at *
  subst hu
  exact ⟨by rw [hpwr]; rfl, by rw [hpwr]; rfl, by rw [hpwr]; rfl, by rw [hthm]; simp, by rw [hsys]; rfl, by rw [hptp]; rfl, by rw [hleg]; rfl,
    by rw [hnvm]; rfl, hunits, hservice⟩

/-- The rest of the stop's begin: the flash is free for its record, or it waits for the page in progress. -/
theorem orderlyStop_eq (cause : Nat) (sub : Option Submission) (s : State) :
    orderlyStop cause sub false s =
      let u := stopCut cause sub s
      if u.nvm.tail || !u.nvm.jobs.isEmpty then { u with pwr := { u.pwr with stopStep := .pageProgram } }
      else beginUrgent 2 none { u with pwr := { u.pwr with stopStep := .urgent } } := rfl

theorem orderlyStop_begun (cause : Nat) (sub : Option Submission) (s : State) : StopBegun sub s (orderlyStop cause sub false s) := by
  obtain ⟨hstate, hsub, hxtal, horderly, hsys, hptp, hleg, hsaves, hunits, hservice⟩ := stopCut_begun cause sub s
  rw [orderlyStop_eq]
  generalize stopCut cause sub s = u at *
  dsimp only
  split
  · exact ⟨hstate, hsub, hxtal, horderly, hsys, hptp, hleg, hsaves, hunits, hservice⟩
  next h =>
    obtain ⟨htail, hjobs⟩ : u.nvm.tail = false ∧ u.nvm.jobs = [] := by simpa using h
    generalize hv : ({ u with pwr := { u.pwr with stopStep := .urgent } } : State) = v
    rw [beginUrgent_idle (s := v) (by rw [← hv]; exact hjobs) (by rw [← hv]; exact htail)]
    subst hv
    exact ⟨hstate, hsub, hxtal, horderly, hsys, hptp, hleg, hsaves, hunits, hservice⟩

/-- Without its crystal the device does not measure. -/
theorem metering_of_xtalLost {s : State} (h : s.pwr.xtalLost = true) : s.metering = false := by simp [State.metering, h]

/-- The loss of the crystal as it is logged. -/
def xtalGone (s : State) : State := logAdd 0x49 0xFF 0 (openInfo 0x49) { s with pwr := { s.pwr with xtalLost := true } }

theorem xtalGone_pwr (s : State) : (xtalGone s).pwr = { s.pwr with xtalLost := true } := by simp [xtalGone]

theorem xtalGone_frame (s : State) : xtalGone s = { s with pwr := (xtalGone s).pwr, nvm := (xtalGone s).nvm } := by
  rw [xtalGone_pwr]
  exact logAdd_frame ..

theorem leaveHold_pwr (s : State) : (leaveHold s).pwr = s.pwr := by simp [leaveHold]

theorem xtalLost_eq {s : State} (hlost : s.pwr.xtalLost = false) (hclk : s.clk.running = true) :
    exec .xtalLost s = match (xtalGone s).pwr.state with
    | .run | .lean => .next (orderlyStop 2 none false (xtalGone s))
    | .hold =>
      .next (if (xtalGone s).pwr.holdFrom == .boot then
          (if (xtalGone s).pwr.loaded && !(xtalGone s).pwr.bootFail then orderlyStop 2 none false (leaveHold (xtalGone s)) else xtalGone s)
        else if (xtalGone s).pwr.holdDone then orderlyStop 2 none false (leaveHold (xtalGone s)) else xtalGone s)
    | .boot => .next (if (xtalGone s).pwr.loaded && !(xtalGone s).pwr.bootFail then orderlyStop 2 none false (xtalGone s) else xtalGone s)
    | .stopping | .halt | .off => .next (xtalGone s) :=
  if_neg (by simp [hlost, hclk])

/-- Where metrology runs or a start waits behind step 5, the loss of the crystal begins the stop. -/
theorem xtalLost_stops {s : State} (hlost : s.pwr.xtalLost = false) (hclk : s.clk.running = true)
    (hwhen : s.live = true ∨ ((s.pwr.state = .boot ∨ (s.pwr.state = .hold ∧ s.pwr.holdFrom = .boot)) ∧ s.pwr.loaded = true ∧ s.pwr.bootFail = false)) :
    ∃ u, u.pwr.xtalLost = true ∧ exec .xtalLost s = .next (orderlyStop 2 none false u) := by
  have hgone := xtalGone_pwr s
  rw [xtalLost_eq hlost hclk]
  rcases hwhen with hlive | ⟨hboot | ⟨hhold, hfrom⟩, hloaded, hfail⟩
  · refine ⟨xtalGone s, by rw [hgone], ?_⟩
    cases hs : s.pwr.state <;> simp [State.live, hs] at hlive <;> simp [hgone, hs]
  · exact ⟨xtalGone s, by rw [hgone], by simp [hgone, hboot, hloaded, hfail]⟩
  · exact ⟨leaveHold (xtalGone s), by rw [leaveHold_pwr, hgone], by simp [hgone, hhold, hfrom, hloaded, hfail]⟩

/-- Settles O16: both begins are `orderlyStop`; a start that is not past step 5 only logs the loss. -/
theorem orderlyStopBegins : Obligations.OrderlyStopBegins := by
  refine fun s sub => ⟨fun hlive hw hform hnoBuf hmagic => ?_, fun hwhen hlost hclk => ?_, fun hboot hwhen hlost hclk => ?_⟩
  · have h := orderlyStop_begun 1 (some sub) s
    exact ⟨_, runCmd_of_checked hw (by simp [hform, hnoBuf, hmagic, State.accepts_of_live hlive]), h.state, h.orderly, h.stopSub, h.sysSave, h.ptpSave,
      h.legSave, h.saves, h.units⟩
  · obtain ⟨u, hgone, hexec⟩ := xtalLost_stops hlost hclk hwhen
    have h := orderlyStop_begun 2 none u
    have hlostNow := h.xtalLost.trans hgone
    exact ⟨_, hexec, h.state, hlostNow, h.orderly, metering_of_xtalLost hlostNow, h.saves⟩
  · refine ⟨xtalGone s, ?_, xtalGone_pwr s, xtalGone_frame s⟩
    have hstays : ((xtalGone s).pwr.loaded && !(xtalGone s).pwr.bootFail) = false := by
      rw [xtalGone_pwr]
      rcases hwhen with h | h <;> simp [h]
    have hstate : (xtalGone s).pwr.state = .boot := by rw [xtalGone_pwr]; exact hboot
    rw [xtalLost_eq hlost hclk, hstate]
    exact congrArg _ (if_neg (by simp [hstays]))

end Sys2Proof.Machine

namespace Sys2Proof.Machine

/-! ## The two firmware banks -/

/-- From `s` to `t` nothing but the power block moves. -/
def PowerOnly (s t : State) : Prop := ∃ p, t = { s with pwr := p }

theorem PowerOnly.refl (s : State) : PowerOnly s s := ⟨s.pwr, rfl⟩

theorem PowerOnly.trans {s t u : State} (h : PowerOnly s t) (k : PowerOnly t u) : PowerOnly s u := by
  obtain ⟨_, rfl⟩ := h
  obtain ⟨p, rfl⟩ := k
  exact ⟨p, rfl⟩

theorem PowerOnly.frame {s t : State} (h : PowerOnly s t) : t = { s with pwr := t.pwr } := by
  obtain ⟨_, rfl⟩ := h
  rfl

theorem PowerOnly.setBank (b : Bool) (st : BankState) (s : State) : PowerOnly s (s.setBank b st) := by
  cases b <;> exact ⟨_, rfl⟩

theorem PowerOnly.dropPending (s : State) : PowerOnly s (dropPending s) := by
  unfold Machine.dropPending
  split
  · exact (PowerOnly.setBank ..).trans ⟨_, rfl⟩
  · exact .refl s

@[simp] theorem bankOf_setBank_same (b : Bool) (st : BankState) (s : State) : ((s.setBank b st).bankOf b).state = st := by
  cases b <;> rfl

@[simp] theorem bankOf_setBank_other (b : Bool) (st : BankState) (s : State) : (s.setBank (!b) st).bankOf b = s.bankOf b := by
  cases b <;> rfl

@[simp] theorem bankOf_not_setBank (b : Bool) (st : BankState) (s : State) : (s.setBank b st).bankOf (!b) = s.bankOf (!b) := by
  cases b <;> rfl

@[simp] theorem setBank_runB (b : Bool) (st : BankState) (s : State) : (s.setBank b st).pwr.runB = s.pwr.runB := by
  cases b <;> rfl

theorem inactive_eq (s : State) : s.inactive = s.bankOf (!s.pwr.runB) := by
  cases h : s.pwr.runB <;> simp [State.inactive, State.bankOf, h]

theorem dropPending_runB (s : State) : (dropPending s).pwr.runB = s.pwr.runB := by
  unfold dropPending
  split
  · exact setBank_runB ..
  · rfl

theorem dropPending_inactive (s : State) : (dropPending s).inactive = s.inactive := by
  unfold dropPending
  split
  · dsimp only
    rw [inactive_eq, inactive_eq]
    exact (congrArg _ (congrArg _ (setBank_runB ..))).trans (bankOf_not_setBank ..)
  · rfl

theorem dropPending_of_ne {s : State} (h : (s.bankOf s.pwr.runB).state ≠ .pending) : dropPending s = s := if_neg (by simpa using h)

theorem inactive_setInactive (f : Bank → Bank) (s : State) : (s.setInactive f).inactive = f s.inactive := by
  cases h : s.pwr.runB <;> simp [State.setInactive, State.inactive, h]

/-- A VALID inactive bank becomes PENDING. -/
theorem activate_of_valid {s : State} (h : s.inactive.state = .valid) : activate s = (dropPending s).setBank (!s.pwr.runB) .pending := by
  rw [activate, dropPending_inactive, h, dropPending_runB]
  rfl

theorem activate_inactive {s : State} (h : s.inactive.state = .valid) : (activate s).inactive.state = .pending := by
  rw [activate_of_valid h, inactive_eq, setBank_runB, dropPending_runB]
  exact bankOf_setBank_same ..

theorem PowerOnly.activate {s : State} (h : s.inactive.state = .valid) : PowerOnly s (activate s) := by
  rw [activate_of_valid h]
  exact (PowerOnly.dropPending s).trans (.setBank ..)

theorem inactive_of_pwr {s t : State} (h : t.pwr = s.pwr) : t.inactive = s.inactive := by rw [State.inactive, State.inactive, h]

/-- FW_TRIAL_CONFIRM's two banks. -/
def banksConfirmed (s : State) : State :=
  let u := s.setBank s.pwr.runB .confirmed
  let v := if (u.bankOf (!u.pwr.runB)).state == .empty then u else u.setBank (!u.pwr.runB) .valid
  { v with pwr := { v.pwr with trial := false } }

theorem fwTrialConfirm_eq {s : State} (hlive : s.live = true) (htrial : s.pwr.trial = true) :
    exec .fwTrialConfirm s = .next (banksConfirmed s) := if_pos (by simp [hlive, htrial])

/-- The trial is over in the power block alone: the running bank is CONFIRMED, the other VALID if it holds an image. -/
theorem banksConfirmed_banks (s : State) :
    PowerOnly s (banksConfirmed s) ∧ (banksConfirmed s).pwr.trial = false ∧ ((banksConfirmed s).bankOf s.pwr.runB).state = .confirmed ∧
    ((s.bankOf (!s.pwr.runB)).state = .empty → (banksConfirmed s).bankOf (!s.pwr.runB) = s.bankOf (!s.pwr.runB)) ∧
    ((s.bankOf (!s.pwr.runB)).state ≠ .empty → ((banksConfirmed s).bankOf (!s.pwr.runB)).state = .valid) := by
  unfold banksConfirmed
  dsimp only
  rw [setBank_runB, bankOf_not_setBank]
  have hrun := PowerOnly.setBank s.pwr.runB .confirmed s
  split
  next h =>
    exact ⟨hrun.trans ⟨_, rfl⟩, rfl, bankOf_setBank_same .., fun _ => bankOf_not_setBank .., fun hne => absurd (by simpa using h) hne⟩
  next h =>
    refine ⟨(hrun.trans (.setBank ..)).trans ⟨_, rfl⟩, rfl, ?_, fun he => absurd he (by simpa using h), fun _ => bankOf_setBank_same ..⟩
    exact (congrArg Bank.state (bankOf_setBank_other ..)).trans (bankOf_setBank_same ..)

/-! ### A write of firmware in the queue -/

theorem NvmWrite.firmware_of_bare {w : NvmWrite} {i : List Byte} (h : w.bare = .firmware i) : w = .firmware i := by
  cases w with
  | firmware c => exact h
  | _ => exact absurd h nofun

/-- A write of firmware is under way where one is ordered. -/
theorem fwBusy_iff {s : State} : s.fwBusy = true ↔ ∃ i sub, (NvmWrite.firmware i, sub) ∈ s.nvm.jobs.map NvmJob.order := by
  rw [State.fwBusy, List.any_eq_true]
  constructor
  · rintro ⟨j, hj, hwhat⟩
    split at hwhat
    next i hi => exact ⟨i, j.sub, List.mem_map.2 ⟨j, hj, by rw [NvmJob.order, hi]; rfl⟩⟩
    next => exact absurd hwhat nofun
  · rintro ⟨i, sub, h⟩
    obtain ⟨j, hj, horder⟩ := List.mem_map.1 h
    exact ⟨j, hj, by rw [NvmWrite.firmware_of_bare (congrArg (·.1) horder)]⟩

theorem fwBusy_of_mem {s : State} {j : NvmJob} {i : List Byte} (hj : j ∈ s.nvm.jobs) (h : j.what.bare = .firmware i) : s.fwBusy = true :=
  fwBusy_iff.2 ⟨i, j.sub, List.mem_map.2 ⟨j, hj, Prod.ext h rfl⟩⟩

/-- A job that is ordered stands in the queue once what can begin has begun. -/
theorem settle_addJob_orders (w : NvmWrite) (p : Nat) (sub : Option Submission) (s : State) :
    ∃ j ∈ (settle (addJob w p sub s)).nvm.jobs, j.sub = sub ∧ j.what.bare = w.bare := by
  have hin : (w.bare, sub) ∈ (settle (addJob w p sub s)).nvm.jobs.map NvmJob.order := by
    rw [settle_orders]
    exact addJob_orders w p sub s
  obtain ⟨j, hj, horder⟩ := List.mem_map.1 hin
  exact ⟨j, hj, congrArg (·.2) horder, congrArg (·.1) horder⟩

theorem mem_of_mem_insertJob {j k : NvmJob} {l : List NvmJob} (h : k ∈ insertJob j l) : k = j ∨ k ∈ l := by
  unfold insertJob at h
  dsimp only at h
  rcases List.mem_append.1 h with h | h
  · rcases List.mem_append.1 h with h | h
    · exact .inr (List.mem_of_mem_take (List.mem_of_mem_filter h))
    · exact .inr (List.mem_of_mem_drop (List.mem_of_mem_filter h))
  · rcases List.mem_cons.1 h with rfl | h
    · exact .inl rfl
    · exact .inr (List.mem_of_mem_drop (List.mem_of_mem_filter h))

/-- A record or a set that joins the queue is no write of firmware. -/
theorem fwBusy_addJob {s : State} (h : s.fwBusy = false) {w : NvmWrite} (hw : ∀ i, w.bare ≠ .firmware i) (p : Nat) (sub : Option Submission) :
    (addJob w p sub s).fwBusy = false := by
  refine Bool.eq_false_iff.2 fun hbusy => ?_
  obtain ⟨i, c, hin⟩ := fwBusy_iff.1 hbusy
  rw [addJob_eq, (beginPlain_spec _).2] at hin
  obtain ⟨k, hk, horder⟩ := List.mem_map.1 hin
  rcases mem_of_mem_insertJob hk with rfl | hk
  · exact hw i (congrArg (·.1) horder)
  · exact Bool.eq_false_iff.1 h (fwBusy_iff.2 ⟨i, c, List.mem_map.2 ⟨k, hk, horder⟩⟩)

/-- A write that begins changes the banks only where it is one of firmware. -/
theorem settle_pwr {s : State} (h : s.fwBusy = false) : (settle s).pwr = s.pwr := by
  unfold settle
  split
  next => rfl
  next j r hj =>
    split
    · rfl
    · dsimp only
      split
      next => rfl
      next => rfl
      next i hi =>
        exact absurd (fwBusy_of_mem (j := j) (i := i) (by simp [hj]) (by rw [hi]; rfl)) (Bool.eq_false_iff.1 h)
      next => rfl

theorem beginUrgent_pwr {s : State} (h : s.fwBusy = false) (kind : Nat) (sub : Option Submission) : (beginUrgent kind sub s).pwr = s.pwr :=
  (settle_pwr (fwBusy_addJob h (fun _ h => NvmWrite.noConfusion h) ..)).trans (by simp)

/-- On a flash that is free, a write of firmware empties the inactive bank as it begins. -/
theorem inactive_of_firmware_idle {s : State} (hj : s.nvm.jobs = []) (ht : s.nvm.tail = false) (i : List Byte) (p : Nat) (sub : Option Submission) :
    (settle (addJob (.firmware i) p sub s)).inactive.state = .empty := by
  rw [addJob_of_empty hj rfl]
  exact (congrArg (fun t : State => t.inactive.state) (if_neg (by simp [ht]))).trans (congrArg Bank.state (inactive_setInactive ..))

/-- FW_UPDATE by ACTION: a WRITE queues the image, ACTIVATE names the inactive bank, ACTIVATE_RESTART also orders the record. -/
def fwAct (sub : Submission) (buf : FwRead) (s : State) : State :=
  if sub.pU 0 1 = 0 then settle (addJob (.firmware (bufBytes sub buf.data)) (pagesFor sub.bufLen) (some sub) s)
  else if sub.pU 0 1 = 1 then let u := activate s; complete 0x7A sub stOK (fwResult u.inactive.version u) u
  else beginUrgent 2 (some sub) (activate s)

/-- What FW_UPDATE checks. -/
def fwChecks (sub : Submission) (buf : FwRead) (s : State) : List Check :=
  [((sub.formOk [(0, 1)] && sub.pU 0 1 < 3 && if sub.pU 0 1 = 0 then sub.hasBuf (decide (sub.bufLen ≤ 393216)) else sub.noBuf : Bool), stBadField),
    (s.accepts 0x7A, stBusy)] ++
  if sub.pU 0 1 = 0 then
    [(!s.fwBusy, stBusy), bufRead buf.data, (buf.framed && decide (72 ≤ sub.bufLen), stBadField)] ++ sigChecks s .firmware (bufBytes sub buf.data)
  else [(s.inactive.state != .empty && !s.fwBusy, stBadState)]

theorem fwUpdate_eq (sub : Submission) (buf : FwRead) (s : State) :
    exec (.fwUpdate sub buf) s = runCmd 0x7A sub (fwChecks sub buf s) (fwAct sub buf) s := rfl

/-- A WRITE that is in order is queued. -/
theorem fwUpdate_write {s : State} {sub : Submission} {buf : FwRead} (hlive : s.live = true) (hw : s.cmdWaits 0x7A sub = false)
    (hform : sub.formOk [(0, 1)] = true) (ha : sub.pU 0 1 = 0) (hbusy : s.fwBusy = false) (hbuf : sub.hasBuf true = true)
    (hmin : 72 ≤ sub.bufLen) (hmax : sub.bufLen ≤ 393216) (hread : buf.data.isSome = true) (hframed : buf.framed = true)
    (hsig : (sigChecks s .firmware (bufBytes sub buf.data)).all (fun c => c.1) = true) :
    exec (.fwUpdate sub buf) s = .next (settle (addJob (.firmware (bufBytes sub buf.data)) (pagesFor sub.bufLen) (some sub) s)) := by
  rw [fwUpdate_eq, runCmd_of_checked hw, fwAct, if_pos ha]
  simp only [fwChecks, ha, if_true, List.forall_mem_append]
  refine ⟨by simp [hform, hmax, hbuf, State.accepts_of_live hlive], by simp [hbusy, hread, hframed, hmin, bufRead], ?_⟩
  simpa using hsig

/-- ACTIVATE and ACTIVATE_RESTART act where the inactive bank holds an image and no WRITE runs. -/
theorem fwUpdate_activates {s : State} {sub : Submission} {buf : FwRead} (hlive : s.live = true) (hw : s.cmdWaits 0x7A sub = false)
    (hform : sub.formOk [(0, 1)] = true) (hlo : sub.pU 0 1 ≠ 0) (hhi : sub.pU 0 1 < 3) (hbuf : sub.noBuf = true) (hbusy : s.fwBusy = false)
    (hvalid : s.inactive.state = .valid) : exec (.fwUpdate sub buf) s = .next (fwAct sub buf s) := by
  rw [fwUpdate_eq, runCmd_of_checked hw]
  simp only [fwChecks, if_neg hlo, List.forall_mem_append]
  exact ⟨by simp [hform, hhi, hbuf, State.accepts_of_live hlive], by simp [hvalid, hbusy]⟩

/-- Without an image in the inactive bank, or during a WRITE, they are refused. -/
theorem fwUpdate_refused {s : State} {sub : Submission} {buf : FwRead} (hlive : s.live = true) (hw : s.cmdWaits 0x7A sub = false)
    (hform : sub.formOk [(0, 1)] = true) (hlo : sub.pU 0 1 ≠ 0) (hhi : sub.pU 0 1 < 3) (hbuf : sub.noBuf = true)
    (hno : s.inactive.state = .empty ∨ s.fwBusy = true) : exec (.fwUpdate sub buf) s = .next (complete 0x7A sub stBadState [] s) := by
  rw [fwUpdate_eq, fwChecks, if_neg hlo, if_neg hlo]
  refine runCmd_of_failed hw (by simp [hform, hhi, hbuf, State.accepts_of_live hlive]) ?_
  rcases hno with h | h <;> simp [h]

/-- Settles O20. -/
theorem firmwareBanks : Obligations.FirmwareBanks := by
  refine ⟨fun s hlive htrial => ?_, fun s h => if_neg (by rcases h with h | h <;> simp [h]), fun s sub buf hlive hw hform =>
    ⟨fun ha hbusy hbuf hmin hmax hread hframed hsig => ?_, fun ha hbusy hbuf hvalid hrun => ?_, fun ha hbusy hbuf hvalid => ?_,
      fun hlo hhi hbuf hno => fwUpdate_refused hlive hw hform (by omega) hhi hbuf hno⟩⟩
  · obtain ⟨hframe, htrial', hrun, hempty, hvalid⟩ := banksConfirmed_banks s
    exact ⟨_, fwTrialConfirm_eq hlive htrial, htrial', hrun, hempty, hvalid, hframe.frame⟩
  · obtain ⟨j, hj, hsub, hwhat⟩ := settle_addJob_orders (.firmware (bufBytes sub buf.data)) (pagesFor sub.bufLen) (some sub) s
    refine ⟨_, fwUpdate_write hlive hw hform ha hbusy hbuf hmin hmax hread hframed hsig, fwBusy_of_mem hj hwhat, ⟨j, hj, hsub⟩,
      fun hidle ht => inactive_of_firmware_idle hidle ht .., fun ht => ?_⟩
    rw [settle_addJob_of_headRuns (.inl ht)]
    rfl
  · have hact : fwAct sub buf s = complete 0x7A sub stOK (fwResult (activate s).inactive.version (activate s)) (activate s) := by simp [fwAct, ha]
    refine ⟨_, fwUpdate_activates hlive hw hform (by omega) (by omega) hbuf hbusy hvalid, ?_⟩
    rw [hact]
    refine ⟨(congrArg Bank.state (inactive_of_pwr (by simp))).trans (activate_inactive hvalid), ?_⟩
    have hbank : (activate s).bankOf s.pwr.runB = s.bankOf s.pwr.runB := by
      rw [activate_of_valid hvalid, dropPending_of_ne hrun]
      exact bankOf_setBank_other ..
    rw [← hbank]
    simp [State.bankOf]
  · have hact : fwAct sub buf s = beginUrgent 2 (some sub) (activate s) := by simp [fwAct, ha]
    refine ⟨_, fwUpdate_activates hlive hw hform (by omega) (by omega) hbuf hbusy hvalid, ?_⟩
    rw [hact]
    have hbusy' : (activate s).fwBusy = false := by
      rw [(PowerOnly.activate hvalid).frame]
      exact hbusy
    obtain ⟨j, hj, hsub, -⟩ := beginUrgent_orders 2 (some sub) (activate s)
    exact ⟨(congrArg Bank.state (inactive_of_pwr (beginUrgent_pwr hbusy' ..))).trans (activate_inactive hvalid), j, hj, hsub⟩

end Sys2Proof.Machine

namespace Sys2Proof.Machine

/-! ## TIME64 is steered -/

/-- From `s` to `t` the clock and the frames stay, and of the time block only what entering LOCKED moves. -/
structure LocksOnly (s t : State) : Prop where
  clk : t.clk = s.clk
  frm : t.frm = s.frm
  tim : t.tim = { s.tim with state := t.tim.state, suspect := t.tim.suspect, lockedOnce := t.tim.lockedOnce, hostSet := t.tim.hostSet }

namespace LocksOnly
variable {s t u : State}

theorem refl (s : State) : LocksOnly s s := ⟨rfl, rfl, rfl⟩

theorem trans (h : LocksOnly s t) (k : LocksOnly t u) : LocksOnly s u where
  clk := k.clk.trans h.clk
  frm := k.frm.trans h.frm
  tim := by
    rw [k.tim]
    conv_lhs => rw [h.tim]

theorem of_keeps (hclk : t.clk = s.clk) (hfrm : t.frm = s.frm) (htim : t.tim = s.tim) : LocksOnly s t := ⟨hclk, hfrm, by rw [htim]⟩

theorem foldl {α : Type} {f : State → α → State} (h : ∀ s a, LocksOnly s (f s a)) (l : List α) (s : State) : LocksOnly s (l.foldl f s) :=
  List.foldlRecOn (motive := LocksOnly s) l f (.refl s) (fun t ht a _ => ht.trans (h t a))

theorem complete (op : Nat) (sub : Submission) (st : Nat) (r : List Byte) (s : State) : LocksOnly s (complete op sub st r s) :=
  .of_keeps (by simp) (by simp) (by simp)

theorem authStart (n m : Nat) (s : State) : LocksOnly s (authStart n m s) := by
  unfold Machine.authStart
  split <;> exact .of_keeps (by simp) (by simp) (by simp)

theorem authAgain (n m : Nat) (s : State) : LocksOnly s (authAgain n m s) := by
  unfold Machine.authAgain
  split
  · exact .of_keeps (by simp) (by simp) (by simp)
  · exact .authStart ..

theorem authWhere (p : Mon → Bool) (s : State) : LocksOnly s (authWhere p s) := by
  refine .foldl (fun s n => ?_) _ _
  have hmons : LocksOnly s ((s.ropeStr n).mons.foldl (fun s e => if p e.2 then Machine.authAgain n e.1 s else s) s) := by
    refine .foldl (fun s e => ?_) _ _
    split
    · exact .authAgain ..
    · exact .refl s
  exact hmons.trans (.of_keeps (by simp) (by simp) (by simp))

theorem enterLocked (s : State) : LocksOnly s (enterLocked s) := by
  unfold Machine.enterLocked
  dsimp only
  split
  · refine .trans ?_ (.authWhere ..)
    exact ⟨rfl, rfl, rfl⟩
  · exact ⟨rfl, rfl, rfl⟩

theorem hostLock (mode : Nat) (s : State) : LocksOnly s (hostLock mode s) := by
  have hset : LocksOnly s { s with tim := { s.tim with hostSet := true } } := ⟨rfl, rfl, rfl⟩
  unfold Machine.hostLock
  split
  · exact .refl s
  split
  · dsimp only
    split
    · exact hset
    · exact hset.trans (.enterLocked _)
  · exact .refl s

theorem ppsEnter (s : State) : LocksOnly s (ppsEnter s) := by
  unfold Machine.ppsEnter
  split
  · exact .enterLocked s
  · exact .refl s

end LocksOnly

/-! ### A step, an edge and TIME_SET -/

theorem stepTime_clk (ns : Int) (keep : Bool) (s : State) : (stepTime ns keep s).clk = (s.setTime ns keep).clk := rfl

theorem stepTime_reanchors (ns : Int) (keep : Bool) (s : State) : (stepTime ns keep s).frm.reanchors.length = s.frm.reanchors.length + 1 := by
  simp [stepTime, State.stepTime, State.stepReanchor, State.reanchor]

/-- An edge with SET_AT_PPS waiting: the last one started gives the time, and all of them complete. -/
theorem ppsSets_some {s : State} {e : Submission × Nat} (h : s.tim.setAtPps.getLast? = some e) :
    LocksOnly (stepTime ((e.2 : Int) + s.tim.inDelay) false { s with tim := { s.tim with setAtPps := [], ppsSet := true } }) (ppsSets s) := by
  unfold ppsSets
  rw [h]
  exact (LocksOnly.foldl (fun t (x : Submission × Nat) => .complete 0x48 x.1 stOK [] t) _ _).trans (.hostLock ..)

/-- What PPS_IN_EDGE makes of a SET_AT_PPS that waits. -/
theorem ppsInEdge_sets {s : State} {e : Submission × Nat} (hs : s.pwr.state ≠ .halt) (he : s.tim.setAtPps.getLast? = some e) :
    ∃ t, exec .ppsInEdge s = .next t ∧ LocksOnly (stepTime ((e.2 : Int) + s.tim.inDelay) false
      { s with tim := { s.tim with ppsStamp := BitVec.ofNat 64 (edgeTime s), setAtPps := [], ppsSet := true } }) t := by
  have hset : (!s.tim.setAtPps.isEmpty) = true := by
    cases hl : s.tim.setAtPps with
    | nil => simp [hl] at he
    | cons a l => rfl
  generalize hu : ({ s with tim := { s.tim with ppsStamp := BitVec.ofNat 64 (edgeTime s) } } : State) = u
  have hlock := ppsSets_some (s := u) (e := e) (by rw [← hu]; exact he)
  have hexec : exec .ppsInEdge s =
      .next (if ((ppsSets u).timeSrc = 2 && (ppsSets u).pwr.state != .hold) = true then ppsEnter (ppsSets u) else ppsSets u) := by
    have hunfold : exec .ppsInEdge s = execPpsInEdge s := rfl
    rw [hunfold, execPpsInEdge, if_neg (by simp [hs])]
    dsimp only
    rw [hset, hu, if_pos rfl]
    split <;> rfl
  refine ⟨_, hexec, ?_⟩
  subst hu
  split
  · exact hlock.trans (.ppsEnter _)
  · exact hlock

/-- The correction that XO_CORRECTION_UPDATE takes off. -/
theorem xoCorrectionUpdate_eq (s : State) : exec .xoCorrectionUpdate s = match s.tim.state with
    | .free => .next (setFreq (-(xoError s.cfg.live.glob.xo s.tun.dieT)) s)
    | .hold => .next (setFreq (s.tim.holdFreq - (xoError s.cfg.live.glob.xo s.tun.dieT - xoError s.cfg.live.glob.xo s.tim.holdT)) s)
    | .locked => .next s := rfl

theorem timeLost_tim (reason : Nat) (s : State) :
    (timeLost reason s).tim.state = .hold ∧ (timeLost reason s).tim.holdTick = s.clk.ticks ∧ (timeLost reason s).tim.slewRate = 0 ∧
    (timeLost reason s).tim.ppsLock = s.tim.ppsLock := by
  simp only [timeLost, raise_keeps]
  exact ⟨rfl, rfl, rfl, rfl⟩

/-- What TIME_SET of a mode does. -/
def timeSetEnd (sub : Submission) (s : State) : State :=
  if sub.pU 0 1 = 0 then { s with tim := { s.tim with setAtPps := s.tim.setAtPps ++ [(sub, sub.pU 8 8)] } }
  else complete 0x48 sub stOK [] (hostLock (sub.pU 0 1) (timeSetAct sub (sub.pU 0 1) s))

/-- What TIME_SET checks. -/
def timeSetOrder (sub : Submission) (s : State) : List Check :=
  [(sub.formOk [(0, 1), (8, 8), (16, 4)] && sub.noBuf && sub.pU 0 1 ≤ 4 && (sub.pU 0 1 != 3 || (sub.pS 8 8).natAbs ≤ 10000000) &&
      (sub.pU 0 1 != 4 || (sub.pS 16 4).natAbs ≤ 100000000), stBadField), (s.accepts 0x48, stBusy)] ++
    timeSetChecks s (sub.pU 0 1) (sub.pS 8 8)

theorem timeSet_eq (sub : Submission) (s : State) : exec (.timeSet sub) s = runCmd 0x48 sub (timeSetOrder sub s) (timeSetEnd sub) s := rfl

/-- TIME_SET's fields are in order. -/
structure TimeSetForm (sub : Submission) (s : State) : Prop where
  live  : s.live = true
  turn  : s.cmdWaits 0x48 sub = false
  form  : sub.formOk [(0, 1), (8, 8), (16, 4)] = true
  noBuf : sub.noBuf = true

/-- TIME_SET past its checks. -/
theorem TimeSetForm.accepted {sub : Submission} {s : State} (h : TimeSetForm sub s) (hmode : sub.pU 0 1 ≤ 4)
    (hslew : sub.pU 0 1 = 3 → (sub.pS 8 8).natAbs ≤ 10000000) (hfreq : sub.pU 0 1 = 4 → (sub.pS 16 4).natAbs ≤ 100000000)
    (hsrc : ∀ c ∈ timeSetChecks s (sub.pU 0 1) (sub.pS 8 8), c.1 = true) : exec (.timeSet sub) s = .next (timeSetEnd sub s) := by
  obtain ⟨hlive, hw, hform, hbuf⟩ := h
  rw [timeSet_eq, runCmd_of_checked hw]
  refine List.forall_mem_append.2 ⟨?_, hsrc⟩
  have hslew' : sub.pU 0 1 ≠ 3 ∨ (sub.pS 8 8).natAbs ≤ 10000000 := (em _).symm.imp id hslew
  have hfreq' : sub.pU 0 1 ≠ 4 ∨ (sub.pS 16 4).natAbs ≤ 100000000 := (em _).symm.imp id hfreq
  simpa [hform, hbuf, hmode, State.accepts_of_live hlive] using ⟨hslew', hfreq'⟩

/-- TIME_SET of a mode that acts at once leaves all but the lock as the mode's effect has it. -/
theorem timeSetEnd_locks {sub : Submission} {s : State} (h0 : sub.pU 0 1 ≠ 0) : LocksOnly (timeSetAct sub (sub.pU 0 1) s) (timeSetEnd sub s) := by
  rw [timeSetEnd, if_neg h0]
  exact (LocksOnly.hostLock ..).trans (.complete ..)

theorem slewRate_of_sign (v : Int) (s : State) : (setSlew (v.sign * 50000000) v s).tim.slewRate = v.sign * 50000000 := by
  have hclamp : (setSlew (v.sign * 50000000) v s).tim.slewRate = clampI (-50000000) 50000000 (v.sign * 50000000) := rfl
  have hsign := Int.sign_trichotomy v
  rw [hclamp, clampI]
  omega

/-- Settles O46. -/
theorem timeIsSteered : Obligations.TimeIsSteered := by
  refine fun s => ⟨fun h => by rw [xoCorrectionUpdate_eq, h], fun h => ⟨_, by rw [xoCorrectionUpdate_eq, h], rfl, rfl, rfl⟩,
    fun h => ⟨_, by rw [xoCorrectionUpdate_eq, h], rfl, rfl⟩, ⟨_, rfl, rfl, rfl, ?_, rfl⟩, fun h => ?_, fun h => if_pos (by simpa using h),
    fun hsrc hlocked => ?_, fun h => if_neg (by simp [h]), fun hs hnone hsrc => ?_, fun e hs he => ?_, fun e r h => ?_,
    fun sub hlive hw hform hbuf => ?_⟩
  · have hrate : (setSlew 0 0 s).clk.inc = timInc (s.tim.freq + ((0 : Int) : Rat)) := rfl
    rw [hrate]
    simp
  · have hexec : exec .ppsLoss s = .next (if s.tim.state == .locked then
        timeLost 1 { s with tim := { s.tim with ppsLock := false, ppsGood := 0, ppsBad := 0 } }
        else { s with tim := { s.tim with ppsLock := false, ppsGood := 0, ppsBad := 0 } }) := if_neg (by simp [h])
    obtain ⟨hstate, -, -, hpps⟩ := timeLost_tim 1 { s with tim := { s.tim with ppsLock := false, ppsGood := 0, ppsBad := 0 } }
    refine ⟨_, hexec, ?_⟩
    split
    next hl => exact ⟨hpps, fun _ => hstate, fun hne => absurd (by simpa using hl) hne⟩
    next hl => exact ⟨rfl, fun he => absurd he (by simpa using hl), fun _ => rfl⟩
  · obtain ⟨hstate, htick, hrate, -⟩ := timeLost_tim 2 s
    exact ⟨_, if_pos (by simp [hsrc, hlocked]), hstate, htick, hrate⟩
  · have hsets : ppsSets { s with tim := { s.tim with ppsStamp := BitVec.ofNat 64 (edgeTime s) } } =
        { s with tim := { s.tim with ppsStamp := BitVec.ofNat 64 (edgeTime s) } } := by
      unfold ppsSets
      dsimp only
      rw [hnone]
      rfl
    have hunfold : exec .ppsInEdge s = execPpsInEdge s := rfl
    rw [hunfold, execPpsInEdge, if_neg (by simpa using hs), hsets]
    exact if_neg fun h => hsrc (of_decide_eq_true (Bool.and_eq_true_iff.1 h).1)
  · obtain ⟨t, ht, hlock⟩ := ppsInEdge_sets hs he
    refine ⟨t, ht, ?_, ?_, ?_, ?_⟩
    · rw [hlock.tim]; rfl
    · rw [hlock.tim]; rfl
    · rw [hlock.tim]; rfl
    · rw [hlock.clk]; rfl
  · have hunfold : exec .setAtPpsTimeout s = execSetAtPpsTimeout s := rfl
    rw [hunfold, execSetAtPpsTimeout, h]
  · have hset : TimeSetForm sub s := ⟨hlive, hw, hform, hbuf⟩
    refine ⟨fun h0 hsrc => ?_, fun h1 hsrc => ?_, fun h2 hsrc hv => ?_, fun h3 hsrc hv => ?_, fun h4 hsrc hv => ?_, fun hsrc hmode => ?_⟩
    · refine (hset.accepted (by omega) (by omega) (by omega) ?_).trans (congrArg _ (if_pos h0))
      rcases hsrc with hsrc | hsrc <;> simp [timeSetChecks, hsrc, h0]
    · have hlock := timeSetEnd_locks (sub := sub) (s := s) (by omega)
      refine ⟨_, hset.accepted (by omega) (by omega) (by omega) ?_, ?_, ?_⟩
      · rcases hsrc with hsrc | hsrc <;> simp [timeSetChecks, hsrc, h1]
      · rw [hlock.clk, h1]; rfl
      · rw [hlock.frm, h1]; exact stepTime_reanchors ..
    · have hlock := timeSetEnd_locks (sub := sub) (s := s) (by omega)
      have hact : timeSetAct sub 2 s = stepTime ((s.now : Int) + sub.pS 8 8) true s := if_neg hv
      refine ⟨_, hset.accepted (by omega) (by omega) (by omega) ?_, ?_, ?_⟩
      · simp [timeSetChecks, hsrc]
      · rw [hlock.clk, h2, hact]; rfl
      · rw [hlock.frm, h2, hact]; exact stepTime_reanchors ..
    · have hlock := timeSetEnd_locks (sub := sub) (s := s) (by omega)
      refine ⟨_, hset.accepted (by omega) (fun _ => hv) (by omega) (by simp [timeSetChecks, hsrc]), ?_, ?_, ?_, ?_⟩
      · rw [hlock.tim, h3]; rfl
      · rw [hlock.tim, h3]; exact slewRate_of_sign (sub.pS 8 8) s
      · rw [hlock.clk, h3]; rfl
      · rw [hlock.frm, h3]; rfl
    · have hlock := timeSetEnd_locks (sub := sub) (s := s) (by omega)
      have hfreq : (timeSetEnd sub s).tim.freq = ((sub.pS 16 4 : Int) : Rat) := by rw [hlock.tim, h4]; rfl
      refine ⟨_, hset.accepted (by omega) (by omega) (fun _ => hv) (by simp [timeSetChecks, hsrc]), hfreq, ?_, ?_⟩
      · rw [hfreq, hlock.clk, h4]; rfl
      · rw [hlock.clk, h4]; rfl
    · have hfails : (s.timeSrc != 0 && (s.timeSrc != 3 || sub.pU 0 1 == 1)) = false := by simp [hsrc]
      rw [timeSet_eq]
      refine runCmd_of_failed (l := (timeSetOrder sub s).take 2) hw ?_ hfails
      have h3 : sub.pU 0 1 ≠ 3 := by omega
      have h4 : sub.pU 0 1 ≠ 4 := by omega
      have hle : sub.pU 0 1 ≤ 4 := by omega
      simp [timeSetOrder, hform, hbuf, h3, h4, hle, State.accepts_of_live hlive]

end Sys2Proof.Machine

namespace Sys2Proof.Machine

/-! ## Module authentication -/

/-- How far a monitor's authentication has come, what it is to be, and whether it is owed. -/
def Mon.authState (x : Mon) : AuthStep × Option AuthResult × Bool := (x.authStep, x.authNext, x.authDue)

def RopeStr.auths (r : RopeStr) (m : Nat) : Option (AuthStep × Option AuthResult × Bool) := (mapGet r.mons m).map Mon.authState

/-- From `s` to `t` every authentication stands where it stood, and so do the commands that wait for one. -/
structure AuthStands (s t : State) : Prop where
  auths : ∀ k, (t.ropeStr k).auths = (s.ropeStr k).auths
  waits : t.rope.authWaits = s.rope.authWaits

theorem RopeStr.auths_mapSet {r : RopeStr} {m : Nat} {x y : Mon} (hx : mapGet r.mons m = some x) (h : y.authState = x.authState) :
    RopeStr.auths { r with mons := mapSet r.mons m y } = r.auths := by
  funext k
  by_cases hk : k = m
  · subst hk
    simp [RopeStr.auths, hx, h]
  · simp [RopeStr.auths, mapGet_mapSet_other _ hk]

namespace AuthStands
variable {s t u : State}

theorem refl (s : State) : AuthStands s s := ⟨fun _ => rfl, rfl⟩

theorem trans (h : AuthStands s t) (k : AuthStands t u) : AuthStands s u := ⟨fun i => (k.auths i).trans (h.auths i), k.waits.trans h.waits⟩

/-- A part of the state beside the ropes moves. -/
theorem of_rope (h : t.rope = s.rope) : AuthStands s t := ⟨fun k => by rw [State.ropeStr, State.ropeStr, h], by rw [h]⟩

theorem modRope (h : AuthStands s t) (n : Nat) {f : RopeStr → RopeStr} (hf : (f (t.ropeStr n)).auths = (t.ropeStr n).auths := by exact rfl) :
    AuthStands s (t.modRope n f) := by
  refine h.trans ⟨fun k => ?_, rfl⟩
  rcases t.modRope_ropeStr_cases n k f with hk | ⟨rfl, hk⟩ <;> rw [hk]
  exact hf

theorem modMon (h : AuthStands s t) (n m : Nat) {f : Mon → Mon} (hf : ∀ x, (f x).authState = x.authState := by exact fun _ => rfl) :
    AuthStands s (t.modMon n m f) := by
  refine modRope h n ?_
  cases hx : mapGet (t.ropeStr n).mons m with
  | none => rfl
  | some x => exact RopeStr.auths_mapSet hx (hf x)

theorem ropeSend (h : AuthStands s t) (n : Nat) (e : RopeEnd) (f : TxFrame) : AuthStands s (ropeSend n e f t) := by
  unfold Machine.ropeSend
  split
  · exact modRope h n (by cases e <;> rfl)
  · exact h

theorem bumpSeq (h : AuthStands s t) (n : Nat) (e : RopeEnd) (a : Nat) : AuthStands s (bumpSeq n e a t) := modRope h n

theorem castSafe (h : AuthStands s t) (n : Nat) (e : RopeEnd) : AuthStands s (castSafe n e t) := by
  unfold Machine.castSafe castTie ropeCast
  split
  · exact (bumpSeq h ..).ropeSend ..
  · exact h

theorem startTxn (h : AuthStands s t) (n : Nat) (e : RopeEnd) (a : Nat) (u : TxnUse) (y : Nat) (l : List Byte) :
    AuthStands s (startTxn n e a u y l t) := by
  unfold Machine.startTxn
  split
  · exact h
  split
  · exact ropeSend (modRope (bumpSeq h ..) n) ..
  · exact modRope h n

theorem authFrame (h : AuthStands s t) (n : Nat) (e : RopeEnd) (m : Nat) (a : AuthSend) : AuthStands s (authFrame n e m a t) := by
  cases a with
  | identity => exact startTxn h ..
  | certificate => exact startTxn h ..
  | challenge =>
    have hdraw : AuthStands s t.draw.2 := h.trans (.of_rope rfl)
    simp only [Machine.authFrame]
    exact startTxn (modMon hdraw ..) ..
  | fetch => exact startTxn h ..

theorem safeStep (h : AuthStands s t) (n : Nat) : AuthStands s (safeStep n t) := by
  simp only [Machine.safeStep]
  split
  · exact h
  split
  · exact castSafe (castSafe (modRope h n) ..) ..
  · exact castSafe (modRope h n) ..

theorem sendLocate (h : AuthStands s t) (n : Nat) (l : Locate) : AuthStands s (sendLocate n l t) :=
  List.foldlRecOn (motive := AuthStands s) _ _ (modRope h n) fun _ hu _ _ => startTxn hu ..

/-- What runs in the gaps of a rope moves no authentication on: its frames leave. -/
theorem ropeGap (h : AuthStands s t) (n : Nat) : AuthStands s (ropeGap n t) := by
  simp only [Machine.ropeGap]
  have hsafe : AuthStands s (Machine.safeStep n t) := safeStep h n
  generalize Machine.safeStep n t = v at hsafe
  split
  · exact hsafe
  split
  · exact startTxn (modRope (modMon hsafe ..) n) ..
  split
  · exact startTxn (modRope hsafe n) ..
  split
  · exact sendLocate hsafe ..
  split
  · exact hsafe
  split
  · exact startTxn (modRope hsafe n) ..
  split
  · exact authFrame (modRope hsafe n) ..
  split
  · exact startTxn (modRope hsafe n) ..
  · exact hsafe

theorem mon (h : AuthStands s t) (n m : Nat) : (t.mon n m).map Mon.authState = (s.mon n m).map Mon.authState :=
  congrFun (h.auths n) m

theorem step (h : AuthStands s t) (n m : Nat) : (t.mon n m).map (·.authStep) = (s.mon n m).map (·.authStep) := by
  simpa [Function.comp_def, Mon.authState] using congrArg (Option.map (·.1)) (h.mon n m)

theorem due (h : AuthStands s t) (n m : Nat) : (t.mon n m).map (·.authDue) = (s.mon n m).map (·.authDue) := by
  simpa [Function.comp_def, Mon.authState] using congrArg (Option.map (·.2.2)) (h.mon n m)

end AuthStands

theorem ropeGap_authStands (n : Nat) (s : State) : AuthStands s (ropeGap n s) := .ropeGap (.refl s) n

/-- A change of a rope's frames that wait leaves its monitors alone. -/
theorem mon_modRope (s : State) (n k m : Nat) (f : RopeStr → RopeStr) (hf : ∀ r, (f r).mons = r.mons := by exact fun _ => rfl) :
    (s.modRope n f).mon k m = s.mon k m :=
  congrArg (fun l => mapGet l m) (State.modRope_ropeStr_keeps (p := RopeStr.mons) hf ..)

theorem mon_dropAuth (s : State) (n k m j : Nat) : (dropAuth n m s).mon k j = s.mon k j := mon_modRope ..

theorem mon_of_rope {s t : State} (h : t.rope.strs = s.rope.strs) (n m : Nat) : t.mon n m = s.mon n m := by
  rw [State.mon, State.mon, State.ropeStr, State.ropeStr, h]

/-- Commands that wait for nothing more complete; the others go on waiting. -/
theorem authWaitsDone_rope (s : State) :
    (authWaitsDone s).rope = { s.rope with authWaits := s.rope.authWaits.filter (fun w => w.open_ != 0) } ∧ (authWaitsDone s).sec = s.sec :=
  ⟨foldl_keeps State.rope _ (fun _ _ => by simp) _ _, foldl_keeps State.sec _ (fun _ _ => by simp) _ _⟩

theorem mon_authWaitsDone (s : State) (n m : Nat) : (authWaitsDone s).mon n m = s.mon n m := by
  rw [State.mon, State.mon, State.ropeStr, State.ropeStr, (authWaitsDone_rope s).1]

/-- The end of an attempt: its result is to take force, and it is counted. -/
theorem authEnd_spec {s : State} {n m : Nat} {x : Mon} (hx : s.mon n m = some x) (r : AuthResult) :
    (authEnd n m r s).mon n m = some { x with authStep := .idle, authNext := some r, authHad := true } ∧
    (authEnd n m r s).sec = { s.sec with
      authCnt := wrap32 (s.sec.authCnt + 1), failCnt := if r == .fail then wrap32 (s.sec.failCnt + 1) else s.sec.failCnt } := by
  have hmon : (dropAuth n m (s.modMon n m (fun x => { x with authStep := .idle, authNext := some r, authHad := true }))).mon n m =
      some { x with authStep := .idle, authNext := some r, authHad := true } := by
    rw [mon_dropAuth, State.modMon_mon_same, hx]
    rfl
  have hsec : (dropAuth n m (s.modMon n m (fun x => { x with authStep := .idle, authNext := some r, authHad := true }))).sec = s.sec := by
    simp [dropAuth]
  unfold authEnd
  rw [hx]
  dsimp only
  generalize dropAuth n m (s.modMon n m (fun x => { x with authStep := .idle, authNext := some r, authHad := true })) = u at hmon hsec ⊢
  rw [← hmon, ← hsec, mon_authWaitsDone, (authWaitsDone_rope _).2]
  split
  · exact ⟨mon_of_rope (by simp) .., by simp⟩
  split
  · exact ⟨mon_of_rope (by simp) .., by simp⟩
  · exact ⟨mon_of_rope rfl .., rfl⟩

/-- An attempt that may begin reads the identity page first. -/
theorem authStart_begins {s : State} {n m : Nat} {x : Mon} (hx : s.mon n m = some x) (hen : s.enabled n = true) (hreach : s.reachable n m = true)
    (hidle : x.authStep = .idle) (hlive : s.live = true) :
    (authStart n m s).mon n m = some { x with authStep := .reading, authDue := false, cert := [], nonce := [], sigR := none, sigS := none } := by
  rw [authStart, if_pos (by simp [hen, hreach, hlive, hx, Mon.authBusy, hidle])]
  refine (mon_modRope ..).trans ?_
  rw [State.modMon_mon_same, hx]
  rfl

theorem authStart_waits (n m : Nat) (s : State) : (authStart n m s).rope.authWaits = s.rope.authWaits := by
  unfold authStart
  split <;> rfl

/-- AUTH_CHALLENGE waits for every monitor that it names. -/
theorem authChallenge_waits {s : State} {sub : Submission} (hlive : s.live = true) (hw : s.cmdWaits 0x38 sub = false)
    (hform : sub.formOk [(0, 1), (1, 1)] = true) (hbuf : sub.noBuf = true) (hlt : sub.pU 0 1 < 8) (haddr : sub.pU 1 1 ≤ 32)
    (hen : s.enabled (sub.pU 0 1) = true) (hreach : ∀ k ∈ authNamed s (sub.pU 0 1) (sub.pU 1 1), s.reachable (sub.pU 0 1) k = true)
    (hmask : maskOf (authNamed s (sub.pU 0 1) (sub.pU 1 1)) ≠ 0) :
    ∃ t, exec (.authChallenge sub) s = .next t ∧ t.sec = s.sec ∧
      ∃ w ∈ t.rope.authWaits, w.sub = sub ∧ w.str = sub.pU 0 1 ∧ w.open_ = maskOf (authNamed s (sub.pU 0 1) (sub.pU 1 1)) := by
  generalize hn : authNamed s (sub.pU 0 1) (sub.pU 1 1) = named at *
  have hexec : exec (.authChallenge sub) s = .next (authWaitsDone (ropeGap (sub.pU 0 1) (named.foldl (fun s m => authStart (sub.pU 0 1) m s)
      { s with rope := { s.rope with authWaits := s.rope.authWaits ++
        [{ sub, str := sub.pU 0 1, open_ := maskOf named, ok := 0, fail := 0, none_ := 0 }] } }))) := by
    have hunfold : exec (.authChallenge sub) s = execAuthChallenge sub s := rfl
    subst hn
    rw [hunfold, execAuthChallenge, runCmd_of_checked hw]
    simpa [hform, hbuf, hlt, haddr, hen, State.accepts_of_live hlive] using hreach
  refine ⟨_, hexec, ?_, ⟨{ sub, str := sub.pU 0 1, open_ := maskOf named, ok := 0, fail := 0, none_ := 0 }, ?_, rfl, rfl, rfl⟩⟩
  · rw [(authWaitsDone_rope _).2]
    simpa using foldl_keeps State.sec _ (fun _ _ => authStart_sec ..) _ _
  · rw [(authWaitsDone_rope _).1]
    refine List.mem_filter.2 ⟨?_, by simpa using hmask⟩
    rw [(ropeGap_authStands ..).waits, foldl_keeps (fun t : State => t.rope.authWaits) _ (fun _ _ => authStart_waits ..)]
    simp

/-- Settles O53. -/
theorem modulesAreAuthenticated : Obligations.ModulesAreAuthenticated := by
  refine fun s str m x hx => ⟨fun hstep hr hs => ?fetch, fun hstep => ?other, fun hstep => ?cert, fun hstep => ?sig, fun hstep => ?timeout,
    fun hen hreach hidle hlive => ⟨fun hhad => ?renew, fun hdue => ?retry, fun hdue => ?notDue⟩,
    fun sub hlive hw hform hbuf hstr hlt haddr hen hreach hmask => ?challenge⟩
  case fetch =>
    have hunfold : exec (.authFetchTimer str m) s = execAuthFetchTimer str m s := rfl
    rw [hunfold, execAuthFetchTimer, hx]
    dsimp only
    rw [hr, hs, hstep]
    rfl
  case other =>
    have hfetch : exec (.authFetchTimer str m) s = execAuthFetchTimer str m s := rfl
    have htimeout : exec (.authSignatureTimeout str m) s = execAuthSignatureTimeout str m s := rfl
    rw [hfetch, htimeout, execAuthFetchTimer, execAuthSignatureTimeout, hx]
    exact ⟨if_neg (by simpa using hstep), if_neg (by simpa using hstep)⟩
  case cert =>
    have hunfold : exec (.authVerifyDone str m) s = execAuthVerifyDone str m s := rfl
    rw [hunfold, execAuthVerifyDone, hx]
    dsimp only
    rw [hstep, if_pos (beq_self_eq_true _)]
    split
    next hvalid =>
      refine ⟨_, rfl, fun _ => ⟨?_, by simp⟩, fun hno => absurd (hvalid.symm.trans hno) nofun⟩
      refine ((ropeGap_authStands ..).step ..).trans ((congrArg (Option.map _) (mon_modRope ..)).trans ?_)
      rw [State.modMon_mon_same, hx]
      rfl
    next hvalid =>
      obtain ⟨hmon, hsec⟩ := authEnd_spec hx .fail
      exact ⟨_, rfl, fun hyes => absurd hyes hvalid, fun _ => ⟨by rw [hmon]; rfl, by rw [hsec]; rfl⟩⟩
  case sig =>
    have hunfold : exec (.authVerifyDone str m) s = execAuthVerifyDone str m s := rfl
    rw [hunfold, execAuthVerifyDone, hx]
    dsimp only
    rw [hstep, if_neg (by decide), if_pos (beq_self_eq_true _)]
    obtain ⟨hmon, hsec⟩ := authEnd_spec hx
      (if sigValid ((x.cert.drop 16).take 64) (Config.sha256 (challengeMessage x)) (x.sigR.getD [] ++ x.sigS.getD []) then .ok else .fail)
    exact ⟨_, rfl, by rw [hmon]; rfl, by rw [hsec], by rw [hmon]; rfl⟩
  case timeout =>
    obtain ⟨hmon, hsec⟩ := authEnd_spec hx .fail
    have hunfold : exec (.authSignatureTimeout str m) s = execAuthSignatureTimeout str m s := rfl
    rw [hunfold, execAuthSignatureTimeout, hx]
    dsimp only
    rw [hstep, if_pos (beq_self_eq_true _)]
    exact ⟨_, rfl, by rw [hmon]; rfl, by rw [hmon]; rfl, by rw [hsec]; rfl, by rw [hsec]⟩
  case renew =>
    refine ⟨_, if_pos (by simp [hx, hhad]), ?_, by simp⟩
    rw [(ropeGap_authStands ..).step, authStart_begins hx hen hreach hidle hlive]
    rfl
  case retry =>
    refine ⟨_, if_pos (by simp [hx, hdue]), ?_, ?_, by simp⟩
    · rw [(ropeGap_authStands ..).step, authStart_begins hx hen hreach hidle hlive]
      rfl
    · rw [(ropeGap_authStands ..).due, authStart_begins hx hen hreach hidle hlive]
      rfl
  case notDue => exact if_neg (by simp [hx, hdue])
  case challenge =>
    subst hstr
    exact authChallenge_waits hlive hw hform hbuf hlt haddr hen hreach hmask

end Sys2Proof.Machine

namespace Sys2Proof.Machine

/-! ## Units under test and out of service -/

/-! ### What leaves the units in service as they are -/

theorem ConvertsOnly.service {s t : State} (h : ConvertsOnly s t) : t.service = s.service :=
  service_of_keeps (congrArg State.diag h.frame :) (congrArg (fun u : State => u.nvm.saved) h.frame :)

theorem service_ite {c : Prop} [Decidable c] {s t u : State} (h : t.service = s.service) (k : u.service = s.service) :
    (if c then t else u).service = s.service := by
  split
  · exact h
  · exact k

theorem setUnitDiag_service (d : UnitDiag) (s : State) : (s.setUnitDiag d).service = s.service := rfl

theorem refreshLane_diag (u : UnitId) (s : State) : (refreshLane u s).diag = s.diag := by simp

theorem refreshLane_service (u : UnitId) (s : State) : (refreshLane u s).service = s.service := service_of_keeps (by simp) (by simp)

theorem fileReport_service (u : UnitId) (s : State) : (fileReport u s).service = s.service :=
  service_ite rfl ((refreshLane_service ..).trans (setUnitDiag_service ..))

theorem dealLanes_service (s : State) : (dealLanes s).service = s.service := service_of_keeps (by simp) (by simp)

theorem judgePeriod_service (s : State) : s.judgePeriod.service = s.service := by rw [judgePeriod_frame]; rfl

theorem logAdd_service (c t i n : Nat) (s : State) : (logAdd c t i n s).service = s.service := service_of_keeps (by simp) (by simp)

theorem modeEvent_service (n : Nat) (r : RopeStr) (s : State) : (modeEvent n r s).service = s.service :=
  service_ite (raise_service ..) rfl

theorem setMode_service (n a b : Nat) (m : RopeMode) (x y : Option Nat) (s : State) : (setMode n a b m x y s).service = s.service := by
  rw [setMode_eq]
  exact modeEvent_service ..

theorem ropeGap_service (n : Nat) (s : State) : (ropeGap n s).service = s.service := service_of_keeps (by simp) (by simp)

theorem applyLocation_service (n a b : Nat) (nEnd fEnd byEcho : Bool) (s : State) : (applyLocation n a b nEnd fEnd byEcho s).service = s.service := by
  unfold applyLocation
  extract_lets old k a' b' s1 s2 s3
  split
  · rfl
  · have h2 : s2.service = s.service := (setMode_service ..).trans rfl
    have h3 : s3.service = s.service := service_ite ((fileReport_service ..).trans h2) h2
    exact service_ite ((fileReport_service ..).trans h3) h3

theorem markMode_service (k n : Nat) (s : State) : (markMode k n s).service = s.service := rfl

theorem sweepEnd_service (n : Nat) (w : Sweep) (s : State) : (sweepEnd n w s).service = s.service := by
  unfold sweepEnd
  extract_lets s1 s2
  have h2 : s2.service = s.service := service_ite (applyLocation_service ..) rfl
  exact (ropeGap_service ..).trans ((markMode_service ..).trans h2)

theorem sweepNext_service (n : Nat) (s : State) : (sweepNext n s).service = s.service := by
  unfold sweepNext
  dsimp only
  split
  · rfl
  split
  · rfl
  split
  · exact sweepEnd_service ..
  all_goals exact service_of_keeps (by simp [setSweep]) (by simp [setSweep])

theorem portOut_service (n : Nat) (e : RopeEnd) (s : State) : (portOut n e s).service = s.service := by
  unfold portOut
  extract_lets old a b s1 s2
  have h1 : s1.service = s.service := service_ite rfl (setMode_service ..)
  have h2 : s2.service = s.service := h1
  have hsweep : (sweepPortOut n e s2).service = s2.service := by
    unfold sweepPortOut
    dsimp only
    split
    · rfl
    split
    · rfl
    · exact (sweepNext_service ..).trans rfl
  exact (ropeGap_service ..).trans (hsweep.trans h2)

theorem fastOut_service (c : Nat) (s : State) : (fastOut c s).service = s.service := by
  unfold fastOut
  extract_lets run s1 tasks s2 s3 s4
  have h1 : s1.service = s.service := by
    cases hb : (s.conv c).busy with
    | none => simp only [s1, hb]
    | some b => simpa only [s1, hb] using (abortConv_convertsOnly ..).service
  have h3 : s3.service = s.service := h1
  have h4 : s4.service = s.service := by
    cases hr : run with
    | none => simpa only [s4, hr] using h3
    | some r => simpa only [s4, hr] using (runEnded_convertsOnly ..).service.trans h3
  have hcapture : (captureEnd s4).service = s4.service := (injectComplete_convertsOnly _).service.trans rfl
  exact (sarKick_convertsOnly _).service.trans (hcapture.trans h4)

theorem limitJobs_service (s : State) : (limitJobs s).service = s.service := by
  refine foldl_keeps State.service _ (fun t j => ?_) _ _
  split
  · exact (SparesPower.endJob 4 j.simTime j t).2.2
  · rfl

theorem orderlyStop_service (cause : Nat) (sub : Option Submission) (s : State) : (orderlyStop cause sub false s).service = s.service :=
  (orderlyStop_begun cause sub s).service

theorem bankOut_service (b : Nat) (s : State) : (bankOut b s).service = s.service := by
  unfold bankOut
  extract_lets d e
  have hkeep (w : List Nat) (o k : Option Nat) : State.service { s with diag := { e with work := w, spare := o, copying := k } } = s.service := by
    simp only [e]
    split <;> rfl
  split
  · rfl
  split
  · rfl
  split
  next o p hp => exact hkeep (e.work.map (fun w => if w = b then p else w)) none none
  split
  · exact (limitJobs_service _).trans (hkeep (e.work.filter (· != b)) e.spare e.copying)
  split
  · exact (orderlyStop_service ..).trans (hkeep e.work e.spare e.copying)
  · exact (limitJobs_service _).trans (hkeep e.work.dropLast e.spare e.copying)

/-! ### A unit leaves service -/

theorem retired_of_service {s t : State} (h : t.service = s.service) (u : UnitId) : t.retired u = s.retired u := by
  simp only [State.service, Prod.mk.injEq] at h
  obtain ⟨hq, hf, hrope, hlanes, hbanks, -⟩ := h
  rw [State.retired, State.retired, hq, hf, hrope, hlanes, hbanks]

theorem saved_of_service {s t : State} (h : t.service = s.service) : t.nvm.saved = s.nvm.saved := by
  simp only [State.service, Prod.mk.injEq] at h
  exact h.2.2.2.2.2

/-- RETIRE's store: the unit is marked, and the two-copy store keeps it. -/
def keptRetired (u : UnitId) (s : State) : State :=
  (markRetired u s).storeSaved (fun r => { r with retired := r.retired.filter (· != u) ++ [u] })

theorem retireUnit_service (u : UnitId) (s : State) : (retireUnit u s).service = (keptRetired u s).service := by
  have hraised : (raise 60 (256 * u.target + u.index) (keptRetired u s)).service = (keptRetired u s).service := raise_service ..
  have htune (v : State) : (tuneOut u v).service = v.service := rfl
  unfold retireUnit
  extract_lets s1 s2 s3
  change s3.service = _ at hraised
  split
  · exact hraised
  · exact (fastOut_service ..).trans ((htune _).trans hraised)
  · exact (portOut_service ..).trans hraised
  · exact (dealLanes_service _).trans ((judgePeriod_service _).trans hraised)
  · exact (bankOut_service ..).trans hraised
  · exact hraised

theorem keptRetired_retired {u : UnitId} (hn : unitNamed u = true) (ht : u.target ≠ 5) (s : State) : (keptRetired u s).retired u = true := by
  obtain ⟨target, index⟩ := u
  match target with
  | 0 => exact getLsbD_setBit_same (by simpa [unitNamed] using hn) ..
  | 1 => exact getLsbD_setBit_same (by simpa [unitNamed] using hn) ..
  | 2 => exact getLsbD_setBit_same (by simpa [unitNamed] using hn) ..
  | 3 =>
    have hi : index < 64 := by simpa [unitNamed] using hn
    have hbit : (setBit s.diag.lanes index false).getLsbD index = false := getLsbD_setBit_same hi ..
    change (decide (index < 64) && !(setBit s.diag.lanes index false).getLsbD index) = true
    rw [hbit, decide_eq_true hi]
    rfl
  | 4 => exact getLsbD_setBit_same (by simpa [unitNamed] using hn) ..
  | 5 => exact absurd rfl ht
  | n + 6 => exact absurd hn (by simp [unitNamed])

/-- A unit that RETIRE may name is out of service, and kept so. -/
theorem retireUnit_retires {u : UnitId} (hn : unitNamed u = true) (ht : u.target ≠ 5) (s : State) :
    (retireUnit u s).retired u = true ∧ u ∈ (retireUnit u s).nvm.saved.retired := by
  have h := retireUnit_service u s
  refine ⟨(retired_of_service h u).trans (keptRetired_retired hn ht s), ?_⟩
  rw [saved_of_service h]
  exact List.mem_append_right _ (List.mem_singleton_self u)

/-! ### Reports and tests -/

theorem unitDiag_set {s : State} {u : UnitId} {d : UnitDiag} (h : d.unit = u) : (s.setUnitDiag d).unitDiag u = d := by
  subst h
  exact s.unitDiag_setUnitDiag_same d

theorem fileReport_report {u : UnitId} {s : State} (h : s.retired u = false) :
    ((fileReport u s).unitDiag u).testing = true ∧ ((fileReport u s).unitDiag u).report = true := by
  rw [State.unitDiag_congr (fileReport_diag h), unitDiag_set (by exact s.unitDiag_unit u)]
  exact ⟨rfl, rfl⟩

theorem fileReport_lane (u : UnitId) (s : State) : fileReport u s = { s with diag := (fileReport u s).diag, trv := (fileReport u s).trv } := by
  apply State.ext_fields <;> simp

/-- From `s` to `t` nothing moves but the jobs, what they write, and what a completion moves. -/
def JobsOnly (s t : State) : Prop := ∃ v h m, t = { s with trv := v, hif := h, hostMem := m }

theorem JobsOnly.refl (s : State) : JobsOnly s s := ⟨_, _, _, rfl⟩

theorem JobsOnly.trans {s t u : State} (h : JobsOnly s t) (k : JobsOnly t u) : JobsOnly s u := by
  obtain ⟨_, _, _, rfl⟩ := h
  obtain ⟨_, _, _, rfl⟩ := k
  exact ⟨_, _, _, rfl⟩

theorem JobsOnly.endJob (r t : Nat) (j : Job) (s : State) : JobsOnly s (endJob r t j s) := by
  simp only [Machine.endJob, writeFinal, writePoint, leaveTurn]
  repeat' split
  all_goals exact ⟨_, _, _, rfl⟩

theorem JobsOnly.finishAborts (j : Job) (st : Nat) (s : State) : JobsOnly s (finishAborts j st s) :=
  List.foldlRecOn (motive := JobsOnly s) _ _ (.refl s) fun _ ht _ _ => ht.trans ⟨_, _, _, (PostsOnly.complete ..).frame⟩

theorem JobsOnly.abortIdle (id : Nat) (s : State) : JobsOnly s (abortIdle id s) := by
  unfold Machine.abortIdle abortAtChunk
  split
  · exact .refl s
  split
  · exact .refl s
  split
  · exact .refl s
  split
  · exact .endJob ..
  · exact .refl s
  · exact .trans ⟨_, _, _, rfl⟩ (.finishAborts ..)

theorem settleWork_lane (s : State) :
    settleWork s = { s with trv := (settleWork s).trv, pwr := (settleWork s).pwr, free := (settleWork s).free } := by
  apply State.ext_fields <;> simp [settleWork]

/-- LANE_CHUNK_TIMEOUT: the lane reports, loses what it held, and the work is dealt anew. -/
theorem laneChunkTimeout_eq {s : State} {lane : Nat} (h : s.trv.lanes.getD lane .idle ≠ .idle) :
    ∃ t, exec (.laneChunkTimeout lane) s = .next (settleWork t) ∧ JobsOnly (fileReport { target := 3, index := lane } (freeLane lane s)) t := by
  have hunfold : exec (.laneChunkTimeout lane) s = execLaneChunkTimeout lane s := rfl
  rw [hunfold, execLaneChunkTimeout]
  cases hl : s.trv.lanes.getD lane .idle with
  | idle => exact absurd hl h
  | frame => exact ⟨_, rfl, .refl _⟩
  | chunk j => exact ⟨_, rfl, .abortIdle ..⟩

/-- A test begins in its slot. -/
theorem selfTestStart_runs {s : State} {u : UnitId} (ht : u.target ≠ 4) (hlive : s.live = true) (htest : (s.unitDiag u).testing = true)
    (hrun : (s.unitDiag u).running = false) (hslot : testSlot u s = true) (hlane : u.target = 3 → s.retired u = true ∨ laneMayTest s = true) :
    exec (.selfTestStart u) s = .next (s.setUnitDiag { s.unitDiag u with running := true }) := by
  have hunfold : exec (.selfTestStart u) s = execSelfTestStart u s := rfl
  rw [hunfold, execSelfTestStart, if_neg (by simp [hlive, htest, hrun, hslot])]
  split
  next h3 => exact if_pos (by simpa using hlane h3)
  next h4 => exact absurd h4 ht
  next => rfl

/-- A bank's contents move to the spare first. -/
theorem selfTestStart_copies {s : State} {u : UnitId} {p : Nat} (ht : u.target = 4) (hlive : s.live = true) (htest : (s.unitDiag u).testing = true)
    (hrun : (s.unitDiag u).running = false) (hbank : bankTesting s = false) (hr : s.retired u = false) (hspare : s.diag.spare = some p)
    (hp : p ≠ u.index) : exec (.selfTestStart u) s = .next { s with diag := { s.diag with copying := some u.index } } := by
  have hunfold : exec (.selfTestStart u) s = execSelfTestStart u s := rfl
  rw [hunfold, execSelfTestStart, if_neg (by simp [hlive, htest, hrun, testSlot, ht])]
  split
  next h3 => exact absurd (ht.symm.trans h3) (by decide)
  next => rw [if_neg (by simp [hbank]), if_neg (by simpa [hr, hspare] using hp)]
  next h4 => exact absurd ht h4

/-! ### The result of a test -/

theorem testCmdDone_keeps (u : UnitId) (pass restored : Bool) (detail : BitVec 32) (c : Submission × Bool) (s : State) :
    (testCmdDone u pass restored detail c s).diag = s.diag ∧ (testCmdDone u pass restored detail c s).service = s.service := by
  unfold testCmdDone
  split
  · exact ⟨by simp, (complete_service ..).trans (logAdd_service ..)⟩
  · exact ⟨by simp, complete_service ..⟩

theorem testOver_service (v : TestVerdict) (s : State) : (testOver v s).service = s.service := refreshLane_service ..

theorem testOver_unitDiag {v : TestVerdict} {u : UnitId} (h : v.unit = u) (s : State) : (testOver v s).unitDiag u =
    { s.unitDiag u with testing := false, running := false, report := false, cmds := [], last := if v.pass then 1 else 2, detail := v.detail } := by
  subst h
  exact (State.unitDiag_congr (refreshLane_diag ..) _).trans (unitDiag_set (s.unitDiag_unit v.unit))

/-- How a unit in service stands after its test: a report has been judged, and the result is kept. -/
def testEnds (r : TestReport) (s : State) : State :=
  let v := verdict r s
  let d := s.unitDiag r.unit
  let s := logAdd 0x41 r.unit.target r.unit.index v.detail.toNat s
  let s := if d.report && (!v.pass || 2 ≤ d.trans1h) then lasting r.unit s else if d.report then transient r.unit s else s
  let s := testOver v (if r.unit.target == 4 then bankBack r.unit.index s else s)
  if r.unit.target == 3 then s.judgePeriod else s

theorem selfTestDone_eq {r : TestReport} {s : State} (hlive : s.live = true) (hrun : (s.unitDiag r.unit).running = true)
    (hr : s.retired r.unit = false) : exec (.selfTestDone r) s = .next ((s.unitDiag r.unit).cmds.foldl
      (fun t c => testCmdDone r.unit (verdict r s).pass false (verdict r s).detail c t) (testEnds r s)) := by
  have hunfold : exec (.selfTestDone r) s = execSelfTestDone r s := rfl
  have hv : (verdict r s).unit = r.unit := rfl
  rw [hunfold, execSelfTestDone, if_neg (by simp [hlive, hrun]), hv, hr]
  simp only [Bool.false_and, Bool.not_false, Bool.and_true, Bool.false_eq_true, if_false]
  rfl

/-- The commands that a test served complete, and the units stand as they stood. -/
theorem testCmds_keep (u : UnitId) (pass restored : Bool) (detail : BitVec 32) (l : List (Submission × Bool)) (s : State) :
    (l.foldl (fun t c => testCmdDone u pass restored detail c t) s).diag = s.diag ∧
    (l.foldl (fun t c => testCmdDone u pass restored detail c t) s).service = s.service :=
  ⟨foldl_keeps State.diag _ (fun _ _ => (testCmdDone_keeps ..).1) _ _, foldl_keeps State.service _ (fun _ _ => (testCmdDone_keeps ..).2) _ _⟩

/-- Once a report has been judged, what a test's end does to the units in service has been done. -/
theorem testJudged_service (r : TestReport) (c : Prop) [Decidable c] (v : TestVerdict) (s : State) :
    (if c then (testOver v (if r.unit.target == 4 then bankBack r.unit.index s else s)).judgePeriod
      else testOver v (if r.unit.target == 4 then bankBack r.unit.index s else s)).service = s.service := by
  have hback : (if r.unit.target == 4 then bankBack r.unit.index s else s).service = s.service := service_ite (service_ite rfl rfl) rfl
  have hover := (testOver_service v _).trans hback
  exact service_ite ((judgePeriod_service _).trans hover) hover

/-- A test without a report leaves the units in service as they were, and its result is kept. -/
theorem testEnds_unreported {r : TestReport} {s : State} (hrep : (s.unitDiag r.unit).report = false) :
    (testEnds r s).service = s.service ∧ ((testEnds r s).unitDiag r.unit).running = false ∧ ((testEnds r s).unitDiag r.unit).testing = false ∧
    ((testEnds r s).unitDiag r.unit).last = (if (verdict r s).pass then 1 else 2) ∧
    ((testEnds r s).unitDiag r.unit).detail = (verdict r s).detail := by
  have hjudge (c : Prop) [Decidable c] (v : State) : (if c then v.judgePeriod else v).diag = v.diag := by
    split
    · rw [judgePeriod_frame]
    · rfl
  unfold testEnds
  simp only [hrep, Bool.false_and, Bool.false_eq_true, if_false]
  refine ⟨(testJudged_service ..).trans (logAdd_service ..), ?_⟩
  rw [State.unitDiag_congr (hjudge ..), testOver_unitDiag (u := r.unit) (v := verdict r s) rfl]
  exact ⟨rfl, rfl, rfl, rfl⟩

theorem lastOfKind_congr {s t : State} (h : t.diag = s.diag) (u : UnitId) : lastOfKind u t = lastOfKind u s := by
  rw [lastOfKind, lastOfKind, State.lanesUp, State.lanesUp, h]

/-- A Q converter that is not the last of its pair leaves service when its fault lasts. -/
theorem lasting_of_converter {u : UnitId} {s : State} (ht : u.target = 0) (hlast : lastOfKind u s = false) :
    lasting u s = retireUnit u (raise 38 (256 * u.target + u.index) s) := by
  have hraised : lastOfKind u (raise 38 (256 * u.target + u.index) s) = false := by
    rw [lastOfKind_congr (s := s) (by simp), hlast]
  obtain ⟨target, index⟩ := u
  obtain rfl : target = 0 := ht
  unfold lasting
  dsimp only at hraised ⊢
  rw [hraised]
  rfl

/-- A reported Q converter that fails, and is not the last of its pair, leaves service. -/
theorem testEnds_lasting {r : TestReport} {s : State} (hrep : (s.unitDiag r.unit).report = true) (hpass : (verdict r s).pass = false)
    (ht : r.unit.target = 0) (hlast : lastOfKind r.unit s = false) :
    ∃ u, (testEnds r s).service = (retireUnit r.unit u).service := by
  unfold testEnds
  simp only [hrep, hpass, Bool.true_and, Bool.not_false, Bool.true_or, if_true]
  rw [lasting_of_converter ht ((lastOfKind_congr (by simp) _).trans hlast)]
  exact ⟨_, testJudged_service ..⟩

/-! ### SELFTEST, RETIRE and RESTORE -/

/-- SELFTEST and RESTORE wait for the unit's test. -/
theorem askTest_spec (sub : Submission) (restore : Bool) (s : State) :
    ((askTest sub restore s).unitDiag sub.unit).testing = true ∧
    ((askTest sub restore s).unitDiag sub.unit).cmds = (s.unitDiag sub.unit).cmds ++ [(sub, restore)] ∧
    askTest sub restore s = { s with diag := (askTest sub restore s).diag, trv := (askTest sub restore s).trv } := by
  have hunit : (askTest sub restore s).unitDiag sub.unit =
      { s.unitDiag sub.unit with testing := true, cmds := (s.unitDiag sub.unit).cmds ++ [(sub, restore)] } :=
    (State.unitDiag_congr (refreshLane_diag ..) _).trans (unitDiag_set (by exact s.unitDiag_unit _))
  rw [hunit]
  refine ⟨rfl, rfl, ?_⟩
  unfold askTest
  apply State.ext_fields <;> simp

theorem endTest_service (u : UnitId) (s : State) : (endTest u s).service = s.service :=
  service_ite ((testCmds_keep ..).2.trans ((testOver_service ..).trans (logAdd_service ..))) rfl

theorem fileReport_eccCnt (u : UnitId) (s : State) : (fileReport u s).diag.eccCnt = s.diag.eccCnt := by
  unfold fileReport
  split
  · rfl
  · simp [State.setUnitDiag]

/-- Settles O51. -/
theorem testsAndRetirement : Obligations.TestsAndRetirement := by
  refine fun s => ⟨fun lane hlt hne hr => ?late, fun lane h => ?idle, fun u ht hlive htest hrun hslot hlane => ?start,
    fun u p ht hlive htest hrun hbank hr hspare hp => ?bank, fun u h => ?waits, fun b p hcopy hrun hspare => ?copied,
    fun r hlive hrun => ⟨fun hrep hr => ?result, fun hrep hpass ht hi hr hlast => ?lasting⟩,
    fun sub hlive hform hbuf hn => ⟨fun hw => ?selftest, fun hw ht hr => ?restore, fun hw ht hr hlast => ?retire, fun hw ht hr hlast => ?last⟩,
    fun bank p hstarted => ⟨?ecc, ?uncorrected⟩, fun u h => ?expiry⟩
  case late =>
    obtain ⟨t, ht, hjobs⟩ := laneChunkTimeout_eq hne
    have hreport := fileReport_report (u := { target := 3, index := lane }) (s := freeLane lane s) hr
    obtain ⟨d, w, hu⟩ : ∃ d w, fileReport { target := 3, index := lane } (freeLane lane s) = { s with diag := d, trv := w } :=
      ⟨_, _, fileReport_lane ..⟩
    rw [hu] at hreport hjobs
    obtain ⟨v, h, m, rfl⟩ := hjobs
    generalize hx : ({ s with diag := d, trv := v, hif := h, hostMem := m } : State) = x at ht
    have hdiag : (settleWork x).diag = d := by subst hx; simp [settleWork]
    have hhif : (settleWork x).hif = h := by subst hx; simp [settleWork]
    have hmem : (settleWork x).hostMem = m := by subst hx; simp [settleWork]
    refine ⟨_, ht, (congrArg UnitDiag.testing (State.unitDiag_congr hdiag _)).trans hreport.1,
      (congrArg UnitDiag.report (State.unitDiag_congr hdiag _)).trans hreport.2, ?_⟩
    rw [hdiag, hhif, hmem]
    subst hx
    exact settleWork_lane _
  case idle =>
    have hunfold : exec (.laneChunkTimeout lane) s = execLaneChunkTimeout lane s := rfl
    rw [hunfold, execLaneChunkTimeout, h]
  case start =>
    refine ⟨_, selfTestStart_runs ht hlive htest hrun hslot hlane, ?_, rfl⟩
    rw [unitDiag_set (by exact s.unitDiag_unit u)]
  case bank => exact selfTestStart_copies ht hlive htest hrun hbank hr hspare hp
  case waits => exact if_pos (by rcases h with h | h <;> simp [h])
  case copied =>
    have hunfold : exec (.sramBankCopyDone b) s = execSramBankCopyDone b s := rfl
    rw [hunfold, execSramBankCopyDone, if_pos (by simp [hcopy, hrun]), hspare]
    refine ⟨_, rfl, rfl, rfl, ?_, rfl⟩
    rw [unitDiag_set (by exact s.unitDiag_unit _)]
  case result =>
    obtain ⟨hservice, hrun', htest, hlast, hdetail⟩ := testEnds_unreported (r := r) hrep
    obtain ⟨hdiag, hservice'⟩ := testCmds_keep r.unit (verdict r s).pass false (verdict r s).detail (s.unitDiag r.unit).cmds (testEnds r s)
    refine ⟨_, selfTestDone_eq hlive hrun hr, ?_⟩
    rw [State.unitDiag_congr hdiag]
    exact ⟨hrun', htest, hlast, hdetail, congrArg Prod.fst (hservice'.trans hservice)⟩
  case lasting =>
    obtain ⟨u, hservice⟩ := testEnds_lasting hrep hpass ht hlast
    obtain ⟨-, hservice'⟩ := testCmds_keep r.unit (verdict r s).pass false (verdict r s).detail (s.unitDiag r.unit).cmds (testEnds r s)
    obtain ⟨hout, hkept⟩ := retireUnit_retires (u := r.unit) (by simpa [unitNamed, ht] using hi) (by omega) u
    refine ⟨_, selfTestDone_eq hlive hrun hr, (retired_of_service (hservice'.trans hservice) _).trans hout, ?_⟩
    rw [saved_of_service (hservice'.trans hservice)]
    exact hkept
  case selftest =>
    exact ⟨_, runCmd_of_checked hw (by simp [hform, hbuf, hn, State.accepts_of_live hlive]), askTest_spec ..⟩
  case restore =>
    exact ⟨_, runCmd_of_checked hw (by simp [hform, hbuf, hn, ht, hr, State.accepts_of_live hlive]), askTest_spec ..⟩
  case retire =>
    have hservice : (complete 0x60 sub stOK [] (endTest sub.unit (retireUnit sub.unit s))).service = (retireUnit sub.unit s).service :=
      (complete_service ..).trans (endTest_service ..)
    obtain ⟨hout, hkept⟩ := retireUnit_retires hn ht s
    have hunfold : exec (.retire sub) s = execRetire sub s := rfl
    rw [hunfold, execRetire, runCmd_of_checked hw (by simp [hform, hbuf, hn, ht, hr, hlast, State.accepts_of_live hlive])]
    refine ⟨_, rfl, (retired_of_service hservice _).trans hout, ?_⟩
    rw [saved_of_service hservice]
    exact hkept
  case last =>
    have hunfold : exec (.retire sub) s = execRetire sub s := rfl
    rw [hunfold, execRetire]
    refine runCmd_of_failed (l := [_, _]) (c := (!s.retired sub.unit && !lastOfKind sub.unit s, stBadState)) hw ?_ (by simp [hlast])
    simp [hform, hbuf, hn, ht, State.accepts_of_live hlive]
  case ecc =>
    have hunfold : exec (.sramEccError bank true p) s = execSramEccError bank true p s := rfl
    rw [hunfold, execSramEccError, if_neg (by simp [hstarted]), if_pos rfl]
    refine ⟨_, rfl, ?_⟩
    split
    · exact ⟨fileReport_eccCnt .., fileReport_frame (by simp) _⟩
    · exact ⟨rfl, rfl⟩
  case uncorrected => exact if_neg (by simp [hstarted])
  case expiry =>
    refine ⟨_, if_neg h, ?_, rfl⟩
    rw [unitDiag_set (by exact s.unitDiag_unit u)]

end Sys2Proof.Machine

namespace Sys2Proof.Machine

/-! ## Flash jobs, erases and saved registers -/

/-! ### The head of the queue begins -/

/-- From `s` to `t` nothing moves but what a write that begins takes: the two banks, the sequence numbers, the refined table's flag
and the queue. -/
def BeginsOnly (s t : State) : Prop :=
  ∃ a b trial tun useq snext jobs, t = { s with
    pwr := { s.pwr with bankA := a, bankB := b, trial := trial }, tun := tun
    nvm := { s.nvm with urgSeq := useq, setNext := snext, jobs := jobs } }

theorem BeginsOnly.refl (s : State) : BeginsOnly s s := ⟨_, _, _, _, _, _, _, rfl⟩

theorem BeginsOnly.trans {s t u : State} (h : BeginsOnly s t) (k : BeginsOnly t u) : BeginsOnly s u := by
  obtain ⟨_, _, _, _, _, _, _, rfl⟩ := h
  obtain ⟨_, _, _, _, _, _, _, rfl⟩ := k
  exact ⟨_, _, _, _, _, _, _, rfl⟩

theorem BeginsOnly.setBank (b : Bool) (st : BankState) (s : State) : BeginsOnly s (s.setBank b st) := by
  cases b <;> exact ⟨_, _, _, _, _, _, _, rfl⟩

theorem BeginsOnly.dropPending (s : State) : BeginsOnly s (dropPending s) := by
  unfold Machine.dropPending
  split
  · exact (BeginsOnly.setBank ..).trans ⟨_, _, _, _, _, _, _, rfl⟩
  · exact .refl s

theorem BeginsOnly.setInactive (f : Bank → Bank) (s : State) : BeginsOnly s (s.setInactive f) := by
  unfold State.setInactive
  split <;> exact ⟨_, _, _, _, _, _, _, rfl⟩

theorem BeginsOnly.settle (s : State) : BeginsOnly s (settle s) := by
  unfold Machine.settle
  split
  next => exact .refl s
  split
  · exact .refl s
  · split
    · exact ⟨_, _, _, _, _, _, _, rfl⟩
    · exact ⟨_, _, _, _, _, _, _, rfl⟩
    · exact ((BeginsOnly.dropPending s).trans (.setInactive _ _)).trans ⟨_, _, _, _, _, _, _, rfl⟩
    · exact ⟨_, _, _, _, _, _, _, rfl⟩

/-- A write that has begun stays as it is. -/
theorem mem_settle_of_begun {s : State} {j : NvmJob} (hj : j ∈ s.nvm.jobs) (hb : j.begun = true) : j ∈ (settle s).nvm.jobs := by
  unfold settle
  split
  next => exact hj
  next h r hjobs =>
    split
    · exact hj
    next hwaits =>
      have hrest : j ∈ r := by
        rw [hjobs] at hj
        refine (List.mem_cons.1 hj).resolve_left fun he => hwaits ?_
        simp [← he, hb]
      split <;> exact List.mem_cons_of_mem _ hrest

theorem settle_length (s : State) : (settle s).nvm.jobs.length = s.nvm.jobs.length := by
  simpa using congrArg List.length (settle_orders s)

/-- The write at the head keeps its rank as it begins. -/
theorem settle_head_rank {s : State} {j : NvmJob} (h : s.nvm.jobs.head? = some j) :
    ∃ k, (settle s).nvm.jobs.head? = some k ∧ k.what.rank = j.what.rank := by
  have horder : ((settle s).nvm.jobs.map NvmJob.order).head? = some j.order := by rw [settle_orders, List.head?_map, h]; rfl
  rw [List.head?_map, Option.map_eq_some_iff] at horder
  obtain ⟨k, hk, hkj⟩ := horder
  refine ⟨k, hk, ?_⟩
  rw [← NvmWrite.rank_bare k.what, ← NvmWrite.rank_bare j.what]
  exact congrArg (fun o : NvmWrite × Option Submission => o.1.rank) hkj

/-! ### The order of the queue -/

/-- Behind a head that has begun every write of the queue stays when another one joins. -/
theorem mem_insertJob_of_mem {j k : NvmJob} {l : List NvmJob} (hb : l.head?.all (·.begun) = true) (hk : k ∈ l) : k ∈ insertJob j l := by
  cases l with
  | nil => exact absurd hk List.not_mem_nil
  | cons h r =>
    have hbegun : h.begun = true := by simpa using hb
    simp only [insertJob, List.take_succ_cons, List.take_zero, List.filter_cons, hbegun, List.filter_nil, if_true, List.length_singleton,
      List.drop_succ_cons, List.drop_zero]
    rcases List.mem_cons.1 hk with rfl | hr
    · simp
    · rcases Nat.lt_or_ge j.what.rank k.what.rank with hlt | hle
      · simp [hr, hlt]
      · simp [hr, hle]

theorem nextJob_of_first {h : NvmJob} {r : List NvmJob} (hfirst : ∀ k ∈ r, h.what.rank ≤ k.what.rank) : nextJob (h :: r) = h :: r := by
  have hnone : r.filter (fun k => k.what.rank < h.what.rank) = [] := List.filter_eq_nil_iff.2 fun k hk => by simpa using hfirst k hk
  have hall : r.filter (fun k => h.what.rank ≤ k.what.rank) = r := List.filter_eq_self.2 fun k hk => by simpa using hfirst k hk
  rw [nextJob, hnone, hall]
  rfl

theorem mem_nextJob (h : NvmJob) (r : List NvmJob) : h ∈ nextJob (h :: r) := by simp [nextJob]

theorem nextJob_length (h : NvmJob) (r : List NvmJob) : (nextJob (h :: r)).length = r.length + 1 := by
  have hsplit := List.length_eq_length_filter_add (l := r) (fun k => decide (k.what.rank < h.what.rank))
  have hrest : r.filter (fun k => !decide (k.what.rank < h.what.rank)) = r.filter (fun k => h.what.rank ≤ k.what.rank) :=
    List.filter_congr fun k _ => decide_not.symm.trans (decide_eq_decide.2 Nat.not_lt)
  rw [hrest] at hsplit
  simp only [nextJob, List.length_append, List.length_cons]
  omega

/-- A write of a better rank goes ahead. -/
theorem nextJob_head_of_better {h k : NvmJob} {r : List NvmJob} (hk : k ∈ r) (hlt : k.what.rank < h.what.rank) :
    ∃ b, (nextJob (h :: r)).head? = some b ∧ b.what.rank < h.what.rank := by
  have hmem : k ∈ r.filter (fun k => k.what.rank < h.what.rank) := List.mem_filter.2 ⟨hk, by simpa using hlt⟩
  cases hf : r.filter (fun k => k.what.rank < h.what.rank) with
  | nil => rw [hf] at hmem; exact absurd hmem List.not_mem_nil
  | cons b l =>
    refine ⟨b, by rw [nextJob, hf]; rfl, ?_⟩
    have hb : b ∈ r.filter (fun k => k.what.rank < h.what.rank) := by rw [hf]; exact List.mem_cons_self ..
    simpa using (List.mem_filter.1 hb).2

/-! ### The timers -/

/-- Behind a head that has begun every write of the queue stays when another one is ordered. -/
theorem settle_addJob_keeps {s : State} (h : s.nvm.jobs.head?.all (·.begun) = true) (w : NvmWrite) (p : Nat) (sub : Option Submission) :
    ∀ j ∈ s.nvm.jobs, j ∈ (settle (addJob w p sub s)).nvm.jobs := by
  intro j hj
  rcases ordered_headRuns_or_idle h w p sub with hruns | ⟨hnil, -⟩
  · rw [settle_addJob_of_headRuns hruns]
    exact mem_insertJob_of_mem h hj
  · rw [hnil] at hj
    exact absurd hj List.not_mem_nil

theorem urgentRecordTimer_orders {s : State} (hlive : s.live = true) :
    ∃ t, exec .urgentRecordTimer s = .next t ∧ (∃ j ∈ t.nvm.jobs, ∃ r, j.what = .urgent 0 r) ∧
      (s.nvm.jobs = [] → s.nvm.tail = false →
        t.nvm.jobs = [{ what := .urgent 0 (some (makeUrgent 0 s)), left := 2, sub := none, begun := true, secs := [], tries := 0 }] ∧
        t.nvm.urgSeq = wrap32 (s.nvm.urgSeq + 1)) ∧
      (s.nvm.jobs.head?.all (·.begun) = true → (∀ j ∈ s.nvm.jobs, j ∈ t.nvm.jobs) ∧ t = { s with nvm := t.nvm }) := by
  obtain ⟨j, hj, -, hwhat⟩ := beginUrgent_orders 0 none s
  refine ⟨_, if_pos hlive, ⟨j, hj, hwhat⟩, fun hnil htail => ?_,
    fun hb => ⟨settle_addJob_keeps hb (.urgent 0 none) 2 none, beginUrgent_frame hb 0 none⟩⟩
  rw [beginUrgent_idle hnil htail]
  exact ⟨rfl, rfl⟩

theorem fullSetTimer_orders {s : State} (hlive : s.live = true) (hrun : s.diag.journalStopped = false) :
    ∃ t, exec .fullSetTimer s = .next t ∧ (∃ j ∈ t.nvm.jobs, ∃ c, j.what = .set c) ∧
      (s.nvm.jobs = [] → s.nvm.tail = false →
        t.nvm.jobs = [{ what := .set (some (sealSet (makeSet s))), left := 514, sub := none, begun := true, secs := [], tries := 0 }] ∧
        t.nvm.setNext = wrap32 (s.nvm.setNext + 1) ∧ t.tun.dirty = false) ∧
      (s.nvm.jobs.head?.all (·.begun) = true → (∀ j ∈ s.nvm.jobs, j ∈ t.nvm.jobs) ∧
        t = { s with nvm := t.nvm, tun := { s.tun with dirty := t.tun.dirty } }) := by
  obtain ⟨j, hj, -, hwhat⟩ := beginSet_orders none s
  refine ⟨_, if_pos (by simp [hlive, hrun]), ⟨j, hj, hwhat⟩, fun hnil htail => ?_,
    fun hb => ⟨settle_addJob_keeps hb (.set none) 514 none, beginSet_frame hb none⟩⟩
  rw [beginSet_idle hnil htail]
  exact ⟨rfl, rfl, rfl⟩

theorem fullSetTimer_of_stopped {s : State} (h : s.diag.journalStopped = true) : exec .fullSetTimer s = .next s := if_neg (by simp [h])

/-! ### Pages -/

/-- With no restart due, the end of a page is all that NVM_PAGE_PROGRAMMED does in work. -/
theorem nvmPageProgrammed_eq {s : State} (hlive : s.live = true) (hrest : s.pwr.restart = false) {ok : Bool} {t : State} (ht : pageEnd ok s = t)
    (hstate : t.pwr.state = s.pwr.state) (hkeep : t.pwr.restart = s.pwr.restart) : exec (.nvmPageProgrammed ok) s = .next t := by
  have hstop : t.pwr.state ≠ .stopping := fun h => State.ne_stopping_of_live hlive (hstate.symm.trans h)
  rw [nvmPageProgrammed_of_live hlive, ht, stopFlash_of_ne_stopping hstop]
  exact congrArg _ (if_neg (by simp [hkeep, hrest]))

/-- The end of a page that leaves the power block alone. -/
theorem nvmPageProgrammed_of_pwr {s : State} (hlive : s.live = true) (hrest : s.pwr.restart = false) {ok : Bool} {t : State}
    (ht : pageEnd ok s = t) (hpwr : t.pwr = s.pwr) : exec (.nvmPageProgrammed ok) s = .next t :=
  nvmPageProgrammed_eq hlive hrest ht (congrArg Pwr.state hpwr) (congrArg Pwr.restart hpwr)

/-- A page whose end lets the next write begin. -/
theorem nvmPageProgrammed_of_settle {s : State} (hlive : s.live = true) (hrest : s.pwr.restart = false) {ok : Bool} {t : State}
    (ht : pageEnd ok s = settle t) (hpwr : t.pwr = s.pwr) : exec (.nvmPageProgrammed ok) s = .next (settle t) := by
  obtain ⟨a, b, trial, tun, useq, snext, jobs, hframe⟩ := BeginsOnly.settle t
  refine nvmPageProgrammed_eq hlive hrest ht ?_ ?_
  · rw [hframe]; exact (congrArg Pwr.state hpwr :)
  · rw [hframe]; exact (congrArg Pwr.restart hpwr :)

/-- Where the page of the head has its place, its end is the job's. -/
theorem pageEnd_here {s : State} {j : NvmJob} {r : List NvmJob} (ok : Bool) (htail : s.nvm.tail = false) (hjobs : s.nvm.jobs = j :: r)
    (h : 1 < j.what.rank ∨ (s.nvm.jCur.isSome = true ∧ s.nvm.jPos < 16)) : pageEnd ok s = jobPage ok (placedJob s j) r (pagePlaced j s) :=
  pageEnd_of_place ok htail hjobs (placePage_here h)

theorem pagePlaced_frame (j : NvmJob) (s : State) : pagePlaced j s = { s with nvm := { s.nvm with jPos := (pagePlaced j s).nvm.jPos } } := by
  unfold pagePlaced
  split <;> rfl

theorem pagePlaced_pos {j : NvmJob} (h : j.what.rank ≤ 1) (s : State) : (pagePlaced j s).nvm.jPos = s.nvm.jPos + 1 := by
  rw [pagePlaced, if_neg (by omega)]

/-- A page adds a sector to its job and takes none from it. -/
theorem mem_placedJob_secs {s : State} {j : NvmJob} {i : Nat} (hi : i ∈ j.secs) : i ∈ (placedJob s j).secs := by
  unfold placedJob
  split
  · exact hi
  · dsimp only
    split
    · exact hi
    · exact List.mem_append_left _ hi

/-- A page of the journal leaves the sector in use among its job's. -/
theorem cur_mem_placedJob_secs {s : State} {j : NvmJob} {i : Nat} (hrank : j.what.rank ≤ 1) (hcur : s.nvm.jCur = some i) :
    i ∈ (placedJob s j).secs := by
  rw [placedJob, if_neg (by omega), hcur]
  dsimp only [Option.getD_some]
  split
  next h => simpa using h
  next => exact List.mem_append_right _ (List.mem_singleton_self i)

theorem placedJob_eq (s : State) (j : NvmJob) : placedJob s j = { j with secs := (placedJob s j).secs } := by
  unfold placedJob
  split <;> rfl

/-- A page ends well and is not the job's last one. -/
theorem page_goes_on {s : State} {j : NvmJob} {r : List NvmJob} (hlive : s.live = true) (hrest : s.pwr.restart = false)
    (htail : s.nvm.tail = false) (hjobs : s.nvm.jobs = j :: r) (h : 1 < j.what.rank ∨ (s.nvm.jCur.isSome = true ∧ s.nvm.jPos < 16))
    (hb : j.begun = true) (hleft : 2 ≤ j.left) (hfirst : ∀ k ∈ r, j.what.rank ≤ k.what.rank) :
    ∃ t l, exec (.nvmPageProgrammed true) s = .next t ∧ t.nvm.jobs = { j with left := j.left - 1, secs := l, tries := 0 } :: r ∧
      t.nvm.errCnt = s.nvm.errCnt ∧ (∀ i ∈ j.secs, i ∈ l) ∧
      (j.what.rank ≤ 1 → t.nvm.jPos = s.nvm.jPos + 1 ∧ ∀ i, s.nvm.jCur = some i → i ∈ l) ∧ t = { s with nvm := t.nvm } := by
  have hend := pageEnd_here true htail hjobs h
  rw [jobPage, if_pos rfl, if_neg (by rw [placedJob_left]; omega), nextJob_of_first (by simpa using hfirst), settle_of_headRuns (.inr (by simp [hb]))]
    at hend
  have hpos := fun hrank => pagePlaced_pos (j := j) hrank s
  have hframe := pagePlaced_frame j s
  generalize pagePlaced j s = u at hend hpos hframe
  refine ⟨_, (placedJob s j).secs, nvmPageProgrammed_of_pwr hlive hrest hend ?_, ?_, ?_, fun i => mem_placedJob_secs,
    fun hrank => ⟨hpos hrank, fun i => cur_mem_placedJob_secs hrank⟩, ?_⟩
  · exact (congrArg State.pwr hframe :)
  · rw [placedJob_eq]
  · exact (congrArg (fun u : State => u.nvm.errCnt) hframe :)
  · rw [hframe]

/-- The last page of an urgent record makes it the newest. -/
theorem last_page_of_urgent {s : State} {j : NvmJob} {u : UrgentRec} (hlive : s.live = true) (hrest : s.pwr.restart = false)
    (htail : s.nvm.tail = false) (hjobs : s.nvm.jobs = [j]) (h : 1 < j.what.rank ∨ (s.nvm.jCur.isSome = true ∧ s.nvm.jPos < 16))
    (hleft : j.left ≤ 1) (hwhat : j.what = .urgent 0 (some u)) (hkind : u.kind = 0) (hsub : j.sub = none) :
    ∃ t, exec (.nvmPageProgrammed true) s = .next t ∧ t.nvm.jobs = [] ∧ t.nvm.urgent = some u ∧ t.nvm.urgTick = s.clk.ticks ∧
      t = { s with nvm := t.nvm } := by
  have hend := pageEnd_here true htail hjobs h
  rw [jobPage, if_pos rfl, if_pos (by rw [placedJob_left]; exact hleft), finishJob, placedJob_what, hwhat, placedJob_sub, hsub] at hend
  dsimp only at hend
  rw [urgentDone, if_neg (by omega), if_neg (by simp), settle_of_headRuns (.inr rfl)] at hend
  have hframe := pagePlaced_frame j s
  generalize pagePlaced j s = v at hend hframe
  refine ⟨_, nvmPageProgrammed_of_pwr hlive hrest hend ?_, rfl, rfl, ?_, ?_⟩
  · exact (congrArg State.pwr hframe :)
  · exact (congrArg (fun u : State => u.clk.ticks) hframe :)
  · rw [hframe]

/-- A page that failed moves the count of failures, the suspect sector and the reports, and nothing else. -/
theorem pageFailed_frame (at_ : Option (Nat × Nat)) (s : State) :
    pageFailed at_ s = { s with diag := (pageFailed at_ s).diag, nvm := { s.nvm with errCnt := wrap32 (s.nvm.errCnt + 1), suspect := at_ } } := by
  rw [pageFailed, fileReport_frame (by simp)]

theorem pageFailed_testing (at_ : Option (Nat × Nat)) (s : State) : ((pageFailed at_ s).unitDiag { target := 5, index := 0 }).testing = true :=
  (fileReport_report rfl).1

/-- Where a page of the journal has failed: the sector in use. -/
def pagePlace (j : NvmJob) (s : State) : Option (Nat × Nat) := if j.what.rank ≤ 1 then s.nvm.jCur.map (fun i => (5, i)) else none

/-- The state with another queue of flash jobs. -/
def State.withJobs (l : List NvmJob) (s : State) : State := { s with nvm := { s.nvm with jobs := l } }

theorem jobPage_retry {j : NvmJob} (r : List NvmJob) (s : State) (h : j.tries < 2) :
    jobPage false j r s = settle ((pageFailed (pagePlace j s) s).withJobs (nextJob ({ j with tries := j.tries + 1 } :: r))) :=
  (if_neg Bool.false_ne_true).trans (if_pos (by omega))

/-- A failed page is tried again, behind a job of a better rank. -/
theorem page_is_tried_again {s : State} {j : NvmJob} {r : List NvmJob} (hlive : s.live = true) (hrest : s.pwr.restart = false)
    (htail : s.nvm.tail = false) (hjobs : s.nvm.jobs = j :: r) (h : 1 < j.what.rank ∨ (s.nvm.jCur.isSome = true ∧ s.nvm.jPos < 16))
    (hb : j.begun = true) (htries : j.tries < 2) :
    ∃ t l, exec (.nvmPageProgrammed false) s = .next t ∧ t.nvm.jobs.length = s.nvm.jobs.length ∧ t.nvm.errCnt = wrap32 (s.nvm.errCnt + 1) ∧
      { j with tries := j.tries + 1, secs := l } ∈ t.nvm.jobs ∧ (t.unitDiag { target := 5, index := 0 }).testing = true ∧
      (j.what.rank ≤ 1 → t.nvm.suspect = s.nvm.jCur.map (fun i => (5, i))) ∧
      (∀ k, k ∈ r → k.what.rank < j.what.rank → ∃ k', t.nvm.jobs.head? = some k' ∧ k'.what.rank < j.what.rank) := by
  have hend := pageEnd_here false htail hjobs h
  rw [jobPage_retry r _ (by simpa using htries)] at hend
  have hplaced := pagePlaced_frame j s
  generalize pagePlaced j s = u at hend hplaced
  have hframe := pageFailed_frame (pagePlace (placedJob s j) u) u
  have htest := pageFailed_testing (pagePlace (placedJob s j) u) u
  generalize pageFailed (pagePlace (placedJob s j) u) u = v at hend hframe htest
  obtain ⟨w, hw⟩ : ∃ w, w = v.withJobs (nextJob ({ placedJob s j with tries := (placedJob s j).tries + 1 } :: r)) := ⟨_, rfl⟩
  rw [← hw] at hend
  have hpwr : w.pwr = s.pwr := by rw [hw, hframe, hplaced]; rfl
  have hjobs' : w.nvm.jobs = nextJob ({ placedJob s j with tries := (placedJob s j).tries + 1 } :: r) := by rw [hw]; rfl
  have herr : w.nvm.errCnt = wrap32 (s.nvm.errCnt + 1) := by rw [hw, hframe, hplaced]; rfl
  have hplace : w.nvm.suspect = pagePlace j s := by rw [hw, hframe, hplaced, pagePlace, placedJob_what]; rfl
  have hdiag : w.diag = v.diag := by rw [hw]; rfl
  obtain ⟨a, b, trial, tun, useq, snext, jobs, hsettle⟩ := BeginsOnly.settle w
  refine ⟨_, (placedJob s j).secs, nvmPageProgrammed_of_settle hlive hrest hend hpwr, ?_, ?_, ?_, ?_, fun hrank => ?_, fun k hk hlt => ?_⟩
  · rw [settle_length, hjobs', nextJob_length, hjobs, List.length_cons]
  · rw [hsettle]
    exact herr
  · refine mem_settle_of_begun ?_ hb
    rw [hjobs', placedJob_eq]
    exact mem_nextJob ..
  · rw [State.unitDiag_congr (t := settle w) (s := v) (by rw [hsettle]; exact hdiag)]
    exact htest
  · rw [hsettle]
    exact hplace.trans (if_pos hrank)
  · obtain ⟨c, hc, hcrank⟩ := nextJob_head_of_better (h := { placedJob s j with tries := (placedJob s j).tries + 1 }) hk (by simpa using hlt)
    obtain ⟨d, hd, hdrank⟩ := settle_head_rank (hjobs' ▸ hc)
    exact ⟨d, hd, by rw [hdrank]; simpa using hcrank⟩

/-- From `s` to `t` nothing moves but what an announcement moves: events, the log records that wait, and the wear announced last. -/
def AnnouncesOnly (s t : State) : Prop :=
  ∃ evt buf seq lost a, t = { s with evt := evt, nvm := { s.nvm with logBuf := buf, logSeq := seq, logLost := lost, announced := a } }

theorem AnnouncesOnly.refl (s : State) : AnnouncesOnly s s := ⟨_, _, _, _, _, rfl⟩

theorem AnnouncesOnly.trans {s t u : State} (h : AnnouncesOnly s t) (k : AnnouncesOnly t u) : AnnouncesOnly s u := by
  obtain ⟨_, _, _, _, _, rfl⟩ := h
  obtain ⟨_, _, _, _, _, rfl⟩ := k
  exact ⟨_, _, _, _, _, rfl⟩

theorem AnnouncesOnly.logAdd (c t i n : Nat) (s : State) : AnnouncesOnly s (logAdd c t i n s) := by
  unfold Machine.logAdd
  dsimp only
  repeat' split
  all_goals exact ⟨_, _, _, _, _, rfl⟩

theorem AnnouncesOnly.raise (e i : Nat) (s : State) : AnnouncesOnly s (raise e i s) := by
  have hevent (u : State) : AnnouncesOnly u (recordEvent e i u) := ⟨_, _, _, _, _, recordEvent_frame e i u⟩
  refine .trans ?_ (hevent _)
  split
  · split <;> exact .logAdd ..
  · exact .refl s

theorem AnnouncesOnly.announceWear (s : State) : AnnouncesOnly s (announceWear s) :=
  List.foldlRecOn (motive := AnnouncesOnly s) _ _ (.refl s) fun u hu p _ => by
    split
    · exact (hu.trans ⟨_, _, _, _, _, rfl⟩).trans (.raise ..)
    · exact hu

/-- From `s` to `t` nothing moves but what a failed job moves: what it leaves torn, and the completion of its command. -/
def SpoilsOnly (s t : State) : Prop :=
  ∃ old set urg dirty hif mem, t = { s with
    cfg := { s.cfg with storedOld := old }, tun := { s.tun with dirty := dirty }, hif := hif, hostMem := mem
    nvm := { s.nvm with tornSet := set, tornUrg := urg } }

theorem SpoilsOnly.failJob (j : NvmJob) (s : State) : SpoilsOnly s (failJob j s) := by
  have hspoil : SpoilsOnly s (j.spoil s) := by
    unfold NvmJob.spoil
    split
    · exact ⟨_, _, _, _, _, _, rfl⟩
    · split <;> exact ⟨_, _, _, _, _, _, rfl⟩
  obtain ⟨old, set, urg, dirty, hif, mem, h⟩ := hspoil
  have hpost := (completeOpt_postsOnly j.what.opcode j.sub stNvmError [] (j.spoil s)).frame
  rw [Machine.failJob]
  generalize completeOpt j.what.opcode j.sub stNvmError [] (j.spoil s) = t at hpost
  rw [h] at hpost
  exact ⟨_, _, _, _, _, _, hpost⟩

theorem jobPage_fails {j : NvmJob} (r : List NvmJob) (s : State) (hrank : 1 < j.what.rank) (h : 2 ≤ j.tries) :
    jobPage false j r s = settle (failJob j (raise 47 0 ((pageFailed none s).withJobs r))) := by
  rw [jobPage, if_neg Bool.false_ne_true]
  dsimp only
  rw [if_neg (c := j.tries + 1 < 3) (by omega), if_neg (by omega), if_neg (by omega)]
  rfl

/-- The third failure of a page ends its job. -/
theorem third_failure_ends_job {s : State} {j : NvmJob} {r : List NvmJob} (hlive : s.live = true) (hrest : s.pwr.restart = false)
    (htail : s.nvm.tail = false) (hjobs : s.nvm.jobs = j :: r) (hrank : 1 < j.what.rank) (htries : 2 ≤ j.tries) :
    ∃ t, exec (.nvmPageProgrammed false) s = .next t ∧ t.nvm.jobs.length = r.length ∧ t.nvm.errCnt = wrap32 (s.nvm.errCnt + 1) ∧
      t.cfg.committed = s.cfg.committed ∧ (s.evt.en.getLsbD 47 = true → t.evt.pend.getLsbD 47 = true) := by
  have hend := pageEnd_of_place false htail hjobs (if_pos hrank)
  rw [jobPage_fails r s hrank htries] at hend
  obtain ⟨u, hu⟩ : ∃ u, u = (pageFailed none s).withJobs r := ⟨_, rfl⟩
  rw [← hu] at hend
  have hfailed := pageFailed_frame none s
  have hpend (hen : s.evt.en.getLsbD 47 = true) : (raise 47 0 u).evt.pend.getLsbD 47 = true :=
    raise_pends 0 (by rw [hu, State.withJobs, hfailed]; exact hen)
  obtain ⟨_, _, _, _, _, hraised⟩ := AnnouncesOnly.raise 47 0 u
  generalize raise 47 0 u = v at hend hpend hraised
  obtain ⟨_, _, _, _, _, _, hspoilt⟩ := SpoilsOnly.failJob j v
  generalize failJob j v = w at hend hspoilt
  have hpwr : w.pwr = s.pwr := by rw [hspoilt, hraised, hu, State.withJobs, hfailed]
  have hwjobs : w.nvm.jobs = r := by rw [hspoilt, hraised, hu]; rfl
  have herr : w.nvm.errCnt = wrap32 (s.nvm.errCnt + 1) := by rw [hspoilt, hraised, hu, State.withJobs, hfailed]
  have hcommitted : w.cfg.committed = s.cfg.committed := by rw [hspoilt, hraised, hu, State.withJobs, hfailed]
  have hevt : w.evt = v.evt := by rw [hspoilt]
  obtain ⟨_, _, _, _, _, _, _, hsettle⟩ := BeginsOnly.settle w
  refine ⟨_, nvmPageProgrammed_of_settle hlive hrest hend hpwr, by rw [settle_length, hwjobs], ?_, ?_, fun hen => ?_⟩
  · rw [hsettle]
    exact herr
  · rw [hsettle]
    exact hcommitted
  · rw [hsettle]
    exact (congrArg (fun e : Evt => e.pend.getLsbD 47) hevt).trans (hpend hen)

/-- A page of the journal has no place while no sector may be opened. -/
theorem placePage_none {j : NvmJob} {s : State} (hrank : j.what.rank ≤ 1) (hfull : s.nvm.jCur = none ∨ 16 ≤ s.nvm.jPos)
    (hshut : s.sectorReady = false ∨ freshSectors s = []) : placePage j s = none := by
  have hopen : openSector s = none := by
    rcases hshut with hready | hfresh
    · exact if_pos (by simp [hready])
    · rw [openSector, hfresh]
      split <;> rfl
  have hcur : ¬ (s.nvm.jCur.isSome && decide (s.nvm.jPos < 16)) = true := by
    rcases hfull with h | h
    · simp [h]
    · simp [Nat.not_lt.2 h]
  rw [placePage, if_neg (by omega), if_neg hcur, hopen]
  rfl

theorem page_waits {s : State} {j : NvmJob} {r : List NvmJob} (hlive : s.live = true) (hrest : s.pwr.restart = false)
    (htail : s.nvm.tail = false) (hjobs : s.nvm.jobs = j :: r) (hplace : placePage j s = none) (ok : Bool) :
    exec (.nvmPageProgrammed ok) s = .next s := by
  refine nvmPageProgrammed_of_pwr hlive hrest ?_ rfl
  rw [pageEnd, if_neg (by simp [htail]), hjobs]
  dsimp only
  rw [hplace]

/-! ### The page that was cut off, and those of the log -/

theorem settle_of_empty {s : State} (h : s.nvm.jobs = []) : settle s = s := settle_of_headRuns (.inr (by rw [h]; rfl))

/-- The state once the page that was cut off has ended. -/
def tailOver (s : State) : State := { s with nvm := { s.nvm with tail := false, tailLog := false } }

theorem flushLog_keeps (s : State) : (flushLog s).pwr = s.pwr ∧ (flushLog s).nvm.jobs = s.nvm.jobs := by
  obtain ⟨_, _, _, _, h⟩ := LogsOnly.flushLog s
  rw [h]
  exact ⟨rfl, rfl⟩

/-- The page that was cut off ends, with no write in the queue. -/
theorem tail_ends {s t : State} (hlive : s.live = true) (hrest : s.pwr.restart = false) (hjobs : s.nvm.jobs = []) (htail : s.nvm.tail = true)
    {ok : Bool} (ht : tailEnd ok s = t) (hpwr : t.pwr = s.pwr) (hkeep : t.nvm.jobs = s.nvm.jobs) :
    exec (.nvmPageProgrammed ok) s = .next t := by
  refine nvmPageProgrammed_of_pwr hlive hrest ?_ hpwr
  rw [pageEnd, if_pos htail, ht, settle_of_empty (hkeep.trans hjobs)]

theorem tail_of_write_ends {s : State} (hlive : s.live = true) (hrest : s.pwr.restart = false) (hjobs : s.nvm.jobs = [])
    (htail : s.nvm.tail = true) (hlog : s.nvm.tailLog = false) :
    exec (.nvmPageProgrammed true) s = .next { s with nvm := { s.nvm with tail := false, tailLog := false } } ∧
    (∃ t, exec (.nvmPageProgrammed false) s = .next t ∧ t.nvm.tail = false ∧ t.nvm.errCnt = wrap32 (s.nvm.errCnt + 1)) := by
  have hend (ok : Bool) : tailEnd ok s = if ok then tailOver s else pageFailed none (tailOver s) := if_neg (by simp [hlog])
  have hfailed := pageFailed_frame none (tailOver s)
  refine ⟨tail_ends hlive hrest hjobs htail (hend true) rfl rfl, _, tail_ends hlive hrest hjobs htail (hend false) ?_ ?_, ?_, ?_⟩
  all_goals
    rw [if_neg Bool.false_ne_true, hfailed]
    rfl

theorem tail_of_log_ends {s : State} (hlive : s.live = true) (hrest : s.pwr.restart = false) (hjobs : s.nvm.jobs = [])
    (htail : s.nvm.tail = true) (hlog : s.nvm.tailLog = true) :
    exec (.nvmPageProgrammed true) s = .next (flushLog { s with nvm := { s.nvm with tail := false, tailLog := false } }) := by
  obtain ⟨hpwr, hkeep⟩ := flushLog_keeps (tailOver s)
  exact tail_ends hlive hrest hjobs htail (if_pos hlog) hpwr hkeep

theorem pageEnd_of_idle {s : State} (ok : Bool) (hjobs : s.nvm.jobs = []) (htail : s.nvm.tail = false) :
    pageEnd ok s = if s.logPaging then logPageEnd ok s else s := by
  rw [pageEnd, if_neg (by simp [htail]), hjobs]

theorem log_page_ends {s : State} (hlive : s.live = true) (hrest : s.pwr.restart = false) (hjobs : s.nvm.jobs = [])
    (htail : s.nvm.tail = false) (hbuf : s.nvm.logBuf ≠ []) (hroom : s.logFull = false) :
    exec (.nvmPageProgrammed true) s = .next (flushLog s) ∧
    (∃ t, exec (.nvmPageProgrammed false) s = .next t ∧ t.nvm.logBuf = s.nvm.logBuf ∧ t.nvm.logRing = s.nvm.logRing ++ tornPage s.nvm.logBuf ∧
      t.nvm.errCnt = wrap32 (s.nvm.errCnt + 1)) := by
  have hpaging : s.logPaging = true := by simp [State.logPaging, hlive, hjobs, htail, hbuf, hroom]
  have hend (ok : Bool) := (pageEnd_of_idle ok hjobs htail).trans (if_pos hpaging)
  have hfailed := pageFailed_frame none (logPage (tornPage s.nvm.logBuf) s)
  have hfalse : pageEnd false s = pageFailed none (logPage (tornPage s.nvm.logBuf) s) :=
    (hend false).trans (if_neg Bool.false_ne_true)
  refine ⟨nvmPageProgrammed_of_pwr hlive hrest (hend true) (flushLog_keeps s).1, _, nvmPageProgrammed_of_pwr hlive hrest hfalse ?_, ?_, ?_, ?_⟩
  all_goals
    rw [hfailed]
    rfl

theorem no_page {s : State} (hlive : s.live = true) (hrest : s.pwr.restart = false) (hjobs : s.nvm.jobs = []) (htail : s.nvm.tail = false)
    (h : s.nvm.logBuf = [] ∨ s.logFull = true) (ok : Bool) : exec (.nvmPageProgrammed ok) s = .next s := by
  have hpaging : s.logPaging = false := by
    rcases h with h | h <;> simp [State.logPaging, h]
  exact nvmPageProgrammed_of_pwr hlive hrest ((pageEnd_of_idle ok hjobs htail).trans (if_neg (by simp [hpaging]))) rfl

/-! ### Erases -/

theorem nvmSectorErased_of_not_mayErase {s : State} {e : SectorId} (h : s.mayErase e = false) (ok : Bool) :
    exec (.nvmSectorErased e ok) s = .next s := if_pos (by simp [h])

/-- An erase that the flash makes is counted for its sector, and what was stored there is gone. -/
def sectorGone (e : SectorId) (s : State) : State :=
  let w := { s with nvm := { s.nvm with wear := s.nvm.wear.modify e.region (fun l => l.modify e.sector (· + 1)) } }
  if e.region = 5 then eraseJournal e.sector w else if e.region = 6 then eraseLog w else w

theorem sectorGone_spec (e : SectorId) (s : State) :
    (sectorGone e s).nvm.wear = s.nvm.wear.modify e.region (fun l => l.modify e.sector (· + 1)) ∧ (sectorGone e s).nvm.jobs = s.nvm.jobs ∧
    (e.region = 5 → (sectorGone e s).nvm.secs = s.nvm.secs.set e.sector { erased := true, bad := false, seq := 0 }) ∧
    (e.region ≠ 5 → (sectorGone e s).nvm.secs = s.nvm.secs) ∧
    (sectorGone e s).nvm.logRing = (if e.region = 6 then s.nvm.logRing.drop 128 else s.nvm.logRing) := by
  unfold sectorGone
  dsimp only
  split
  next h5 => exact ⟨rfl, rfl, fun _ => rfl, fun h => absurd h5 h, by rw [if_neg (by omega)]; rfl⟩
  next h5 =>
    split
    · exact ⟨rfl, rfl, fun h => absurd h h5, fun _ => rfl, rfl⟩
    · exact ⟨rfl, rfl, fun h => absurd h h5, fun _ => rfl, rfl⟩

theorem nvmSectorErased_fails {s : State} {e : SectorId} (hlive : s.live = true) (h : s.mayErase e = true) :
    exec (.nvmSectorErased e false) s = .next (pageFailed (some (e.region, e.sector)) s) :=
  (if_neg (by simp [hlive, h])).trans (if_pos rfl)

theorem nvmSectorErased_made {s : State} {e : SectorId} (hlive : s.live = true) (h : s.mayErase e = true) :
    exec (.nvmSectorErased e true) s = .next (announceWear (sectorGone e s)) :=
  (if_neg (by simp [hlive, h])).trans ((if_neg (by simp)).trans rfl)

theorem nvmSectorErased_counts {s : State} {e : SectorId} (hlive : s.live = true) (h : s.mayErase e = true) :
    (∃ t, exec (.nvmSectorErased e true) s = .next t ∧ t.nvm.wear = s.nvm.wear.modify e.region (fun l => l.modify e.sector (· + 1)) ∧
      t.nvm.jobs = s.nvm.jobs ∧
      (e.region = 5 → t.nvm.secs = s.nvm.secs.set e.sector { erased := true, bad := false, seq := 0 }) ∧
      (e.region ≠ 5 → t.nvm.secs = s.nvm.secs) ∧
      t.nvm.logRing = (if e.region = 6 then s.nvm.logRing.drop 128 else s.nvm.logRing)) ∧
    (∃ t, exec (.nvmSectorErased e false) s = .next t ∧ t.nvm.errCnt = wrap32 (s.nvm.errCnt + 1) ∧ t.nvm.wear = s.nvm.wear ∧
      t.nvm.suspect = some (e.region, e.sector)) := by
  refine ⟨⟨_, nvmSectorErased_made hlive h, ?_⟩, _, nvmSectorErased_fails hlive h, ?_⟩
  · obtain ⟨_, _, _, _, _, hannounced⟩ := AnnouncesOnly.announceWear (sectorGone e s)
    rw [hannounced]
    exact sectorGone_spec e s
  · rw [pageFailed_frame]
    exact ⟨rfl, rfl, rfl⟩

/-- The journal's sector stays that is held, or while a write waits that can go on. -/
theorem mayErase_journal {s : State} {e : SectorId} (h5 : e.region = 5)
    (h : s.sectorHeld e.sector = true ∨ ∃ j r p, s.nvm.jobs = j :: r ∧ placePage j s = some p) : s.mayErase e = false := by
  rw [State.mayErase, h5]
  dsimp only
  rcases h with hheld | ⟨j, r, p, hjobs, hplace⟩
  · simp [hheld]
  · simp [hjobs, hplace]

/-! ### Saved registers -/

/-- From `s` to `t` nothing moves but the two copies of the saved registers. -/
def StoresOnly (s t : State) : Prop := ∃ a b, t = { s with nvm := { s.nvm with saved := a, savedOld := b } }

theorem StoresOnly.stores (l : List SaveReq) (s : State) : StoresOnly s (l.foldl (fun s q => q.store s) s) := by
  refine List.foldlRecOn (motive := StoresOnly s) _ _ ⟨_, _, rfl⟩ fun t ht q _ => ?_
  obtain ⟨_, _, rfl⟩ := ht
  cases q <;> exact ⟨_, _, rfl⟩

/-- The state in which a store waits. -/
def saveWaits (q : SaveReq) (s : State) : State := { markSave q s with nvm := { s.nvm with saves := s.nvm.saves ++ [q] } }

/-- In work a store that is asked for is the last one to run. -/
theorem askSave_of_live {s : State} (hlive : s.live = true) (q : SaveReq) :
    ∃ a b, askSave q s = dropSaves (q.store { saveWaits q s with nvm := { (saveWaits q s).nvm with saved := a, savedOld := b } }) := by
  obtain ⟨a, b, hstored⟩ := StoresOnly.stores s.nvm.saves (saveWaits q s)
  have hdone : askSave q s = doSaves (saveWaits q s) := if_pos hlive
  have hsaves : (saveWaits q s).nvm.saves = s.nvm.saves ++ [q] := rfl
  refine ⟨a, b, ?_⟩
  rw [hdone, doSaves, hsaves, List.foldl_append, hstored]
  rfl

/-- In HOLD and BOOT a store that is asked for waits (log 55). -/
theorem askSave_waits {s : State} (h : s.pwr.state = .hold ∨ s.pwr.state = .boot) (q : SaveReq) : askSave q s = saveWaits q s := by
  have hlive : ¬ s.live = true := by rcases h with h | h <;> simp [State.live, h]
  have hwait : (s.pwr.state == .hold || s.pwr.state == .boot) = true := by rcases h with h | h <;> simp [h]
  exact (if_neg hlive).trans (if_pos hwait)

theorem sysCtrlSave_eq {s : State} (hopen : s.sec.sealed = false) (hw : s.takesWrite 0x24 = true) :
    exec .sysCtrlSave s = .next (askSave .sys s) := if_neg (by simp [hopen, hw])

theorem sysCtrlSave_stores {s : State} (hlive : s.live = true) (hopen : s.sec.sealed = false) (hw : s.takesWrite 0x24 = true) :
    ∃ t, exec .sysCtrlSave s = .next t ∧ t.nvm.saved.sys = some (sysValues s) ∧ t.sys.save = false := by
  obtain ⟨_, _, hstored⟩ := askSave_of_live hlive .sys
  refine ⟨_, sysCtrlSave_eq hopen hw, ?_, ?_⟩
  · rw [hstored]
    rfl
  · rw [hstored]
    rfl

theorem sysCtrlSave_of_sealed {s : State} (h : s.sec.sealed = true) : exec .sysCtrlSave s = .next s := if_pos (by simp [h])

theorem legCtrlSave_eq {s : State} (v : Reg) (hw : s.takesWrite 0x3000 = true) :
    exec (.legCtrlSave v) s =
      .next (if v.getLsbD 31 then askSave (.leg (legCtrl (setLegCtrl v s))) (setLegCtrl v s) else setLegCtrl v s) :=
  (if_neg (by simp [hw])).trans (apply_ite Host.Outcome.next ..).symm

/-- LEG_CTRL's write moves its own block alone, and after SEAL nothing. -/
theorem setLegCtrl_spec (v : Reg) (s : State) :
    setLegCtrl v s = { s with leg := (setLegCtrl v s).leg } ∧ (s.sec.sealed = true → setLegCtrl v s = s) ∧
    (s.sec.sealed = false → (setLegCtrl v s).leg.page0 = v.toNat / 2048 % 4 ∧ (setLegCtrl v s).leg.pecReq = v.getLsbD 10 ∧
      (setLegCtrl v s).leg.en = v.getLsbD 9) := by
  unfold setLegCtrl
  dsimp only
  split
  next h => exact ⟨rfl, fun _ => rfl, fun hopen => absurd h (by simp [hopen])⟩
  next h => exact ⟨rfl, fun hs => absurd hs h, fun _ => ⟨rfl, rfl, rfl⟩⟩

/-- A store of LEG_CTRL in work keeps its value, and leaves the block but for SAVE. -/
theorem askSave_leg {s : State} (hlive : s.live = true) (n : Nat) :
    (askSave (.leg n) s).leg = { s.leg with save := false } ∧ (askSave (.leg n) s).nvm.saved.leg = some n := by
  obtain ⟨_, _, hstored⟩ := askSave_of_live hlive (.leg n)
  rw [hstored]
  exact ⟨rfl, rfl⟩

theorem legCtrlSave_keeps {s : State} (hlive : s.live = true) (v : Reg) (hw : s.takesWrite 0x3000 = true) :
    ∃ t, exec (.legCtrlSave v) s = .next t ∧ (s.sec.sealed = true → legCtrl t = legCtrl s) ∧
      (s.sec.sealed = false → t.leg.page0 = v.toNat / 2048 % 4 ∧ t.leg.pecReq = v.getLsbD 10 ∧ t.leg.en = v.getLsbD 9) ∧
      (v.getLsbD 31 = true → t.nvm.saved.leg = some (legCtrl t)) ∧ (v.getLsbD 31 = false → t.nvm = s.nvm) := by
  obtain ⟨hframe, hsealed, hopen⟩ := setLegCtrl_spec v s
  refine ⟨_, legCtrlSave_eq v hw, ?_⟩
  have hulive : (setLegCtrl v s).live = true := by rw [hframe]; exact hlive
  generalize setLegCtrl v s = u at hframe hsealed hopen hulive
  cases hsave : v.getLsbD 31 with
  | false =>
    exact ⟨fun h => congrArg legCtrl (hsealed h), hopen, fun h => absurd h Bool.false_ne_true, fun _ => (congrArg State.nvm hframe :)⟩
  | true =>
    obtain ⟨hleg, hsaved⟩ := askSave_leg hulive (legCtrl u)
    rw [if_pos rfl]
    generalize askSave (.leg (legCtrl u)) u = t at hleg hsaved
    have hvalue : legCtrl t = legCtrl u := by rw [legCtrl, hleg]; rfl
    refine ⟨fun h => hvalue.trans (congrArg legCtrl (hsealed h)), fun h => ?_, fun _ => hvalue ▸ hsaved, fun h => absurd h (by decide)⟩
    rw [hleg]
    exact hopen h

theorem sysCtrlSave_waits {s : State} (hwait : s.pwr.state = .hold ∨ s.pwr.state = .boot) (hopen : s.sec.sealed = false)
    (hw : s.takesWrite 0x24 = true) :
    ∃ t, exec .sysCtrlSave s = .next t ∧ t.sys.save = true ∧ t.nvm.saves = s.nvm.saves ++ [.sys] ∧ t.nvm.saved = s.nvm.saved := by
  refine ⟨_, sysCtrlSave_eq hopen hw, ?_⟩
  rw [askSave_waits hwait]
  exact ⟨rfl, rfl, rfl⟩

theorem legCtrlSave_waits {s : State} (hwait : s.pwr.state = .hold ∨ s.pwr.state = .boot) (v : Reg) (hw : s.takesWrite 0x3000 = true)
    (hsave : v.getLsbD 31 = true) :
    ∃ t, exec (.legCtrlSave v) s = .next t ∧ t.leg.save = true ∧ t.nvm.saves = s.nvm.saves ++ [.leg (legCtrl t)] ∧
      t.nvm.saved = s.nvm.saved := by
  have hframe := (setLegCtrl_spec v s).1
  refine ⟨_, (legCtrlSave_eq v hw).trans (congrArg _ (if_pos hsave)), ?_⟩
  generalize setLegCtrl v s = u at hframe
  have huwait : u.pwr.state = .hold ∨ u.pwr.state = .boot := by rw [hframe]; exact hwait
  have hnvm : u.nvm = s.nvm := (congrArg State.nvm hframe :)
  rw [askSave_waits huwait, ← hnvm]
  exact ⟨rfl, rfl, rfl⟩

/-- Settles O50: each timer, page, erase and store by the rule of its outcome. -/
theorem flashJobsAndSaves : Obligations.FlashJobsAndSaves := by
  refine ⟨fun s hlive => ⟨urgentRecordTimer_orders hlive, fullSetTimer_orders hlive, fullSetTimer_of_stopped,
    fun j r hjobs htail hrest => ⟨fun hplace => ⟨page_goes_on hlive hrest htail hjobs hplace, ?last,
      page_is_tried_again hlive hrest htail hjobs hplace, third_failure_ends_job hlive hrest htail hjobs⟩, ?waits⟩,
    fun hjobs hrest => ⟨tail_of_write_ends hlive hrest hjobs, tail_of_log_ends hlive hrest hjobs, log_page_ends hlive hrest hjobs,
      no_page hlive hrest hjobs⟩,
    fun e => ⟨nvmSectorErased_counts hlive, nvmSectorErased_of_not_mayErase, ?journal⟩,
    sysCtrlSave_stores hlive, sysCtrlSave_of_sealed, legCtrlSave_keeps hlive⟩,
    fun s v hwait => ⟨sysCtrlSave_waits hwait, legCtrlSave_waits hwait v⟩⟩
  case last =>
    rintro u rfl hleft hwhat hkind hsub
    exact last_page_of_urgent hlive hrest htail hjobs hplace hleft hwhat hkind hsub
  case waits =>
    intro hrank hfull hshut
    exact page_waits hlive hrest htail hjobs (placePage_none hrank hfull hshut)
  case journal =>
    intro h5 hkeep
    exact nvmSectorErased_of_not_mayErase (mayErase_journal h5 hkeep)

end Sys2Proof.Machine
